-- ==== Sys2Proof/Word.lean ====
section
/-! DEFINITION. The byte of the link frames and the plainest arithmetic of the reference's conventions:
limiting, truncating and rounded division (00_scope.md, "Arithmetic"). -/

namespace Sys2Proof

/-- One byte of a link frame (R181). -/
abbrev Byte := BitVec 8

/-- `clamp(x, a, b)` of the conventions, for signed quantities. -/
def clampInt (x a b : Int) : Int := max a (min x b)

/-- `clamp(x, a, b)` of the conventions, for quantities that are never negative. -/
def clampNat (x a b : Nat) : Nat := max a (min x b)

/-- Integer division of the conventions: it truncates toward zero. -/
def truncDiv (a b : Int) : Int := Int.tdiv a b

/-- One second of the timebase, in microseconds. -/
abbrev second : Nat := 1000000

/-- One millisecond of the timebase, in microseconds. -/
abbrev millisecond : Nat := 1000

end Sys2Proof
end

