-- ==== Sys2Proof/Config.lean ====
section
/-! DEFINITION. The free values: what the reference leaves open and the part nevertheless goes on with.
Each is an opaque constant, so that nothing in Lean can evaluate it or prove a value of it. -/

namespace Sys2Proof

/-- FREE VALUE. C before the frequency is decided: R19 and the mains monitor's table say "not defined", and a
READY part with the frequency still NONE (R198) may post a boiler demand of C (R103). notes/assumptions/3.md. -/
opaque Config.undecidedCycles : Nat

/-- FREE VALUE. Whether, at the window start numbered `n`, the climate regulator's posts are taken before the
allocation of that window start: "either may be taken first" (R33, R50). notes/assumptions/4.md. -/
opaque Config.regulatorBeforeAllocation : Nat → Bool

/-- FREE VALUE. Whether, at the window start numbered `n`, the boiler controller's own post is taken before the
allocation of that window start (R50, R103). notes/assumptions/4.md. -/
opaque Config.boilerBeforeAllocation : Nat → Bool

/-- FREE VALUE. Byte `i` of the run id, the generation, degraded any and the steam used, in the order sent, in a reply to
GET_LAST_RUN with the record absent (R158): the reference gives no absent encoding for these fields (R187). `n` counts the
draws. notes/assumptions/5.md. -/
opaque Config.absentRecordByte : Nat → Nat → Byte

end Sys2Proof
end

