-- ==== Sys2Proof/Syntax.lean ====
section
/-! DEFINITION. The commands of the part: one constructor of `Instr` per row of spec/opcode_table.json, with the
operands the rules give the row. Rows are of three kinds: events that reach the part from outside (edges, levels,
frames, a reset), expiries and enabled internal steps, and the commands of the link catalogue. -/

namespace Sys2Proof

/-- The three serial links (R181). -/
inductive Link where
  | panel | network | service
  deriving DecidableEq, Repr

/-- The eleven digital inputs (08_inputs_and_events.md, "Digital inputs"). -/
inductive Input where
  | door | thermalCutout | tankPresent | tankFloat | trayFull | boilerLow | boilerHigh
  | ventOpenEnd | ventClosedEnd | inletPressure | servicePresent
  deriving DecidableEq, Repr

/-- The two relays (R69). -/
inductive RelayId where
  | heaterSupply | fanDirection
  deriving DecidableEq, Repr

/-- The sixteen forceable outputs (R79), in the order of their numbers 0 to 15 (R187). -/
inductive Output where
  | top | bottom | ring | grill | boiler
  | supplyPump | drainPump | inletValve | boilerValve | nozzleValve | drainLineValve | drainValve
  | lamp | coolingFan | ventOpenDrive | ventCloseDrive
  deriving DecidableEq, Repr

/-- The SUPPLY strap. -/
inductive Supply where
  | tank | plumbed
  deriving DecidableEq, Repr

/-- The BUDGET strap. -/
inductive Budget where
  | w2990 | w3450 | w3680
  deriving DecidableEq, Repr

/-- The three strap levels latched at the end of every reset (R193). -/
structure Straps where
  supply : Supply
  budget : Budget
  probeFitted : Bool
  deriving DecidableEq, Repr

/-- The raw values, 0 to 4095, that one sample period converts (R1). Those of the core points are not converted
while PROBE_FITTED reads no. -/
structure RawSamples where
  cavityUpper : BitVec 12
  cavityLower : BitVec 12
  boiler : BitVec 12
  coreA : BitVec 12
  coreB : BitVec 12
  coreC : BitVec 12
  moisture : BitVec 12
  deriving DecidableEq, Repr

/-- What the end of a reset finds (R193, R194): whether the reset followed a fall of the part's supply during a
mains loss (otherwise it came from the external reset input with the supply good), whether the hold-up supply was
exhausted or the part is powered for the first time, whether the check over retained memory agrees with its
contents, how long the reset lasted on the hold-up timebase in microseconds, and the strap levels. -/
structure ResetCause where
  supplyFell : Bool
  holdUpExhausted : Bool
  checkAgrees : Bool
  held : Nat
  straps : Straps
  deriving DecidableEq, Repr

/-- Why a frame is discarded or abandoned in RECEIVING (R182), a gap apart. -/
inductive FrameDefect where
  | badLength | badCheck | brokenByte
  deriving DecidableEq, Repr

/-- A byte of 0xA5 that ends on a link, with the bytes that follow it on the line: `gaps` gives each of these as the
time in microseconds from the end of the byte before it to its own end (R181, R182). -/
structure LineFrame where
  link : Link
  gaps : List Nat
  deriving DecidableEq, Repr

/-- The commands. A command of the link catalogue carries the link and the field bytes that follow its code byte
in the accepted frame's body (R182, R187). -/
inductive Instr where
  /-- RESET (R193) -/
  | reset (cause : ResetCause)
  /-- SAMPLE_PERIOD (R1) -/
  | samplePeriod (raw : RawSamples)
  /-- TACHO_EDGE (R13) -/
  | tachoEdge
  /-- TACHO_TIMEOUT (R14) -/
  | tachoTimeout
  /-- ZERO_CROSS (R15) -/
  | zeroCross
  /-- ALLOCATION_END (R56) -/
  | allocationEnd
  /-- HEAT_UP_COUNT_EXPIRY (R104) -/
  | heatUpCountExpiry
  /-- ZERO_CROSS_GROUP_TIMEOUT (R16) -/
  | zeroCrossGroupTimeout
  /-- FREQUENCY_TIMEOUT (R16) -/
  | frequencyTimeout
  /-- MAINS_LOST (R17) -/
  | mainsLost
  /-- FLOW_PULSE (R87) -/
  | flowPulse
  /-- SETTLE_END (R85) -/
  | settleEnd
  /-- NO_FLOW (R92) -/
  | noFlow
  /-- DRAIN_TERMINAL_COUNT (R98) -/
  | drainTerminalCount
  /-- BOILER_FILL (R100) -/
  | boilerFill
  /-- TOP_UP (R102) -/
  | topUp
  /-- BOILER_DRAIN_START (R106) -/
  | boilerDrainStart
  /-- RELAY_CHANGE_START (R69) -/
  | relayChangeStart (r : RelayId)
  /-- RELAY_CONTACT_END (R69) -/
  | relayContactEnd (r : RelayId)
  /-- RELAY_RECOVERY_END (R69) -/
  | relayRecoveryEnd (r : RelayId)
  /-- FAN_TICK (R72) -/
  | fanTick
  /-- FAN_STALL (R74) -/
  | fanStall
  /-- REVERSAL_TIMER_EXPIRY (R45) -/
  | reversalTimerExpiry
  /-- SLOW_TIMER_EXPIRY (R75) -/
  | slowTimerExpiry
  /-- VENT_STUCK (R77) -/
  | ventStuck
  /-- LAMP_ONE_SHOT_EXPIRY (R78) -/
  | lampOneShotExpiry
  /-- FORCE_EXPIRY (R81) -/
  | forceExpiry (o : Output)
  /-- PULSE_END (R82) -/
  | pulseEnd
  /-- SOAK_END (R120) -/
  | soakEnd
  /-- DESCALE_DOSE_LOAD (R122) -/
  | descaleDoseLoad
  /-- DESCALE_DRAIN_LOAD (R121) -/
  | descaleDrainLoad
  /-- SEQUENCER_TICK (R139) -/
  | sequencerTick
  /-- STAGE_TIME_END (R142) -/
  | stageTimeEnd
  /-- DOOR_TIMEOUT (R145) -/
  | doorTimeout
  /-- WATER_TIMEOUT (R146) -/
  | waterTimeout
  /-- INPUT_CHANGE (R161) -/
  | inputChange (i : Input)
  /-- SERVICE_SILENCE_TIMEOUT (R177) -/
  | serviceSilenceTimeout
  /-- COMMIT_END (R197): `good` says whether the record reads back as written. -/
  | commitEnd (good : Bool)
  /-- STARTING_END (R198) -/
  | startingEnd
  /-- FRAME_GAP_TIMEOUT (R182) -/
  | frameGapTimeout (l : Link)
  /-- BAD_FRAME (R182) -/
  | badFrame (l : Link) (defect : FrameDefect)
  /-- FRAME_START_WHILE_BUSY (R185) -/
  | frameStartWhileBusy (f : LineFrame)
  /-- DISCARD_MARK_CLEAR (R185) -/
  | discardMarkClear (l : Link)
  /-- REPLY_SENT (R184) -/
  | replySent (l : Link)
  /-- UNKNOWN_COMMAND (R183): an accepted frame whose code is outside the catalogue. -/
  | unknownCommand (l : Link) (code : Byte) (fields : List Byte)
  /-- GET_STATUS (R189), code 0x01 -/
  | getStatus (l : Link) (fields : List Byte)
  /-- GET_SNAPSHOT (R190), code 0x02 -/
  | getSnapshot (l : Link) (fields : List Byte)
  /-- FETCH_EVENTS (R168), code 0x03 -/
  | fetchEvents (l : Link) (fields : List Byte)
  /-- GET_LAST_RUN (R158), code 0x04 -/
  | getLastRun (l : Link) (fields : List Byte)
  /-- READ_SLOT (R134), code 0x05 -/
  | readSlot (l : Link) (fields : List Byte)
  /-- READ_SETTING (R191), code 0x06 -/
  | readSetting (l : Link) (fields : List Byte)
  /-- READ_SCALE (R130), code 0x07 -/
  | readScale (l : Link) (fields : List Byte)
  /-- LOAD_PROGRAM (R132), code 0x10 -/
  | loadProgram (l : Link) (fields : List Byte)
  /-- CLEAR_SLOT (R134), code 0x11 -/
  | clearSlot (l : Link) (fields : List Byte)
  /-- START (R136), code 0x12 -/
  | start (l : Link) (fields : List Byte)
  /-- STOP (R156), code 0x13 -/
  | stop (l : Link) (fields : List Byte)
  /-- ADJUST (R153), code 0x14 -/
  | adjust (l : Link) (fields : List Byte)
  /-- SKIP_STAGE (R154), code 0x15 -/
  | skipStage (l : Link) (fields : List Byte)
  /-- CONFIRM (R154), code 0x16 -/
  | confirm (l : Link) (fields : List Byte)
  /-- INJECT (R155), code 0x17 -/
  | inject (l : Link) (fields : List Byte)
  /-- DESCALE_START (R116), code 0x20 -/
  | descaleStart (l : Link) (fields : List Byte)
  /-- DESCALE_CONFIRM (R118), code 0x21 -/
  | descaleConfirm (l : Link) (fields : List Byte)
  /-- DESCALE_ABORT (R126), code 0x22 -/
  | descaleAbort (l : Link) (fields : List Byte)
  /-- WRITE_SETTING (R191), code 0x30 -/
  | writeSetting (l : Link) (fields : List Byte)
  /-- SET_LOCK (R174), code 0x31 -/
  | setLock (l : Link) (fields : List Byte)
  /-- SERVICE_UNLOCK (R176), code 0x32 -/
  | serviceUnlock (l : Link) (fields : List Byte)
  /-- SERVICE_LOCK (R177), code 0x33 -/
  | serviceLock (l : Link) (fields : List Byte)
  /-- SET_STEERING (R165), code 0x34 -/
  | setSteering (l : Link) (fields : List Byte)
  /-- CLEAR_FAULTS (R171), code 0x35 -/
  | clearFaults (l : Link) (fields : List Byte)
  /-- LAMP (R78), code 0x36 -/
  | lamp (l : Link) (fields : List Byte)
  /-- SCALE_RESET (R114), code 0x40 -/
  | scaleReset (l : Link) (fields : List Byte)
  /-- FORCE_OUTPUT (R79), code 0x41 -/
  | forceOutput (l : Link) (fields : List Byte)
  /-- PULSE_OUTPUT (R82), code 0x42 -/
  | pulseOutput (l : Link) (fields : List Byte)
  /-- FRAME_START (R182) -/
  | frameStart (f : LineFrame)
  /-- RAW_LEVEL_CHANGE (R161): the raw level of an input, in the sense of its first-named reading. -/
  | rawLevelChange (i : Input) (level : Bool)
  deriving DecidableEq, Repr

end Sys2Proof
end

