-- ==== Sys2Proof/Decode.lean ====
section
/-! DEFINITION. Decoding. No row of spec/opcode_table.json gives bits, so `decodeTableWord` answers none for every
word. What the part itself decodes is the frame of a link (R182, R184) and the command code of its body (the
catalogue of 10_link_ports.md): both directions are here. -/

namespace Sys2Proof

/-- The command a word spells by the bits of spec/opcode_table.json. No row of the table gives bits. -/
def decodeTableWord (_nbits _w : Nat) : Option Instr := none

/-- The 8-bit sum of a list of bytes (R182). -/
def byteSum : List Byte → Byte
  | [] => 0
  | b :: rest => b + byteSum rest

/-- The check byte: the two's complement of the 8-bit sum of the length byte and all body bytes (R182, R184). -/
def checkByte (body : List Byte) : Byte := 0 - (BitVec.ofNat 8 body.length + byteSum body)

/-- A whole frame around a body: start byte, length, body, check (R182, R184). -/
def frameOf (body : List Byte) : List Byte :=
  0xA5 :: BitVec.ofNat 8 body.length :: (body ++ [checkByte body])

/-- The command an accepted body's code byte names (R183, step 1, and the catalogue). -/
def commandOf (l : Link) (code : Byte) (fields : List Byte) : Instr :=
  if code = 0x01 then .getStatus l fields
  else if code = 0x02 then .getSnapshot l fields
  else if code = 0x03 then .fetchEvents l fields
  else if code = 0x04 then .getLastRun l fields
  else if code = 0x05 then .readSlot l fields
  else if code = 0x06 then .readSetting l fields
  else if code = 0x07 then .readScale l fields
  else if code = 0x10 then .loadProgram l fields
  else if code = 0x11 then .clearSlot l fields
  else if code = 0x12 then .start l fields
  else if code = 0x13 then .stop l fields
  else if code = 0x14 then .adjust l fields
  else if code = 0x15 then .skipStage l fields
  else if code = 0x16 then .confirm l fields
  else if code = 0x17 then .inject l fields
  else if code = 0x20 then .descaleStart l fields
  else if code = 0x21 then .descaleConfirm l fields
  else if code = 0x22 then .descaleAbort l fields
  else if code = 0x30 then .writeSetting l fields
  else if code = 0x31 then .setLock l fields
  else if code = 0x32 then .serviceUnlock l fields
  else if code = 0x33 then .serviceLock l fields
  else if code = 0x34 then .setSteering l fields
  else if code = 0x35 then .clearFaults l fields
  else if code = 0x36 then .lamp l fields
  else if code = 0x40 then .scaleReset l fields
  else if code = 0x41 then .forceOutput l fields
  else if code = 0x42 then .pulseOutput l fields
  else .unknownCommand l code fields

/-- What the bytes after a frame's start byte make of the frame (R182): `none` while the frame is not complete, or
where more bytes follow it; otherwise the discarded frame or the command of the accepted one. -/
def decodeFrame (l : Link) : List Byte → Option Instr
  | [] => none
  | len :: rest =>
    if len = 0 ∨ 250 < len.toNat then some (.badFrame l .badLength)
    else if rest.length ≠ len.toNat + 1 then none
    else if len + byteSum rest ≠ 0 then some (.badFrame l .badCheck)
    else match rest.take len.toNat with
      | [] => none
      | code :: fields => some (commandOf l code fields)

/-- The link, the code byte and the field bytes of a link command; none for every other row. -/
def linkCommand : Instr → Option (Link × Byte × List Byte)
  | .reset _ => none
  | .samplePeriod _ => none
  | .tachoEdge => none
  | .tachoTimeout => none
  | .zeroCross => none
  | .allocationEnd => none
  | .heatUpCountExpiry => none
  | .zeroCrossGroupTimeout => none
  | .frequencyTimeout => none
  | .mainsLost => none
  | .flowPulse => none
  | .settleEnd => none
  | .noFlow => none
  | .drainTerminalCount => none
  | .boilerFill => none
  | .topUp => none
  | .boilerDrainStart => none
  | .relayChangeStart _ => none
  | .relayContactEnd _ => none
  | .relayRecoveryEnd _ => none
  | .fanTick => none
  | .fanStall => none
  | .reversalTimerExpiry => none
  | .slowTimerExpiry => none
  | .ventStuck => none
  | .lampOneShotExpiry => none
  | .forceExpiry _ => none
  | .pulseEnd => none
  | .soakEnd => none
  | .descaleDoseLoad => none
  | .descaleDrainLoad => none
  | .sequencerTick => none
  | .stageTimeEnd => none
  | .doorTimeout => none
  | .waterTimeout => none
  | .inputChange _ => none
  | .serviceSilenceTimeout => none
  | .commitEnd _ => none
  | .startingEnd => none
  | .frameGapTimeout _ => none
  | .badFrame _ _ => none
  | .frameStartWhileBusy _ => none
  | .discardMarkClear _ => none
  | .replySent _ => none
  | .unknownCommand l code fields => some (l, code, fields)
  | .getStatus l fields => some (l, 0x01, fields)
  | .getSnapshot l fields => some (l, 0x02, fields)
  | .fetchEvents l fields => some (l, 0x03, fields)
  | .getLastRun l fields => some (l, 0x04, fields)
  | .readSlot l fields => some (l, 0x05, fields)
  | .readSetting l fields => some (l, 0x06, fields)
  | .readScale l fields => some (l, 0x07, fields)
  | .loadProgram l fields => some (l, 0x10, fields)
  | .clearSlot l fields => some (l, 0x11, fields)
  | .start l fields => some (l, 0x12, fields)
  | .stop l fields => some (l, 0x13, fields)
  | .adjust l fields => some (l, 0x14, fields)
  | .skipStage l fields => some (l, 0x15, fields)
  | .confirm l fields => some (l, 0x16, fields)
  | .inject l fields => some (l, 0x17, fields)
  | .descaleStart l fields => some (l, 0x20, fields)
  | .descaleConfirm l fields => some (l, 0x21, fields)
  | .descaleAbort l fields => some (l, 0x22, fields)
  | .writeSetting l fields => some (l, 0x30, fields)
  | .setLock l fields => some (l, 0x31, fields)
  | .serviceUnlock l fields => some (l, 0x32, fields)
  | .serviceLock l fields => some (l, 0x33, fields)
  | .setSteering l fields => some (l, 0x34, fields)
  | .clearFaults l fields => some (l, 0x35, fields)
  | .lamp l fields => some (l, 0x36, fields)
  | .scaleReset l fields => some (l, 0x40, fields)
  | .forceOutput l fields => some (l, 0x41, fields)
  | .pulseOutput l fields => some (l, 0x42, fields)
  | .frameStart _ => none
  | .rawLevelChange _ _ => none

/-- The bytes that carry a link command on its line; empty for every other row. -/
def encodeFrame (i : Instr) : List Byte :=
  match linkCommand i with
  | none => []
  | some (_, code, fields) => frameOf (code :: fields)

end Sys2Proof
end

