-- ==== Sys2Proof/WellFormed.lean ====
section
/-! DEFINITION. Well-formed commands: the operands that can stand for what the row names. A term that is not
well-formed stands for nothing the part can meet. -/

namespace Sys2Proof

/-- The codes of the catalogue (10_link_ports.md). -/
def catalogue : List Byte :=
  [0x01, 0x02, 0x03, 0x04, 0x05, 0x06, 0x07, 0x10, 0x11, 0x12, 0x13, 0x14, 0x15, 0x16, 0x17, 0x20, 0x21, 0x22, 0x30, 0x31, 0x32, 0x33, 0x34, 0x35, 0x36, 0x40, 0x41, 0x42]

/-- An accepted frame's body is at most 250 bytes, its code byte included (R182). -/
def fieldsFit (fields : List Byte) : Bool := decide (fields.length ≤ 249)

/-- After a start byte at most a length byte, 250 body bytes and a check byte follow, and ten bit times at 57,600 bit/s
lie between the ends of two bytes (R181, R182). -/
def lineFits (gaps : List Nat) : Bool := decide (gaps.length ≤ 252) && gaps.all (fun g => decide (173 ≤ g))

/-- A reset that exhausted the hold-up supply followed a fall of the part's supply (R193). -/
def causeFits (c : ResetCause) : Bool := !c.holdUpExhausted || c.supplyFell

/-- The check on each row's operands; rows without a bounded operand admit every term. -/
def WellFormed : Instr → Bool
  | .reset cause => causeFits cause
  | .samplePeriod _ => true
  | .tachoEdge => true
  | .tachoTimeout => true
  | .zeroCross => true
  | .allocationEnd => true
  | .heatUpCountExpiry => true
  | .zeroCrossGroupTimeout => true
  | .frequencyTimeout => true
  | .mainsLost => true
  | .flowPulse => true
  | .settleEnd => true
  | .noFlow => true
  | .drainTerminalCount => true
  | .boilerFill => true
  | .topUp => true
  | .boilerDrainStart => true
  | .relayChangeStart _ => true
  | .relayContactEnd _ => true
  | .relayRecoveryEnd _ => true
  | .fanTick => true
  | .fanStall => true
  | .reversalTimerExpiry => true
  | .slowTimerExpiry => true
  | .ventStuck => true
  | .lampOneShotExpiry => true
  | .forceExpiry _ => true
  | .pulseEnd => true
  | .soakEnd => true
  | .descaleDoseLoad => true
  | .descaleDrainLoad => true
  | .sequencerTick => true
  | .stageTimeEnd => true
  | .doorTimeout => true
  | .waterTimeout => true
  | .inputChange _ => true
  | .serviceSilenceTimeout => true
  | .commitEnd _ => true
  | .startingEnd => true
  | .frameGapTimeout _ => true
  | .badFrame _ _ => true
  | .frameStartWhileBusy f => lineFits f.gaps
  | .discardMarkClear _ => true
  | .replySent _ => true
  | .unknownCommand _ code fields => fieldsFit fields && !catalogue.contains code
  | .getStatus _ fields => fieldsFit fields
  | .getSnapshot _ fields => fieldsFit fields
  | .fetchEvents _ fields => fieldsFit fields
  | .getLastRun _ fields => fieldsFit fields
  | .readSlot _ fields => fieldsFit fields
  | .readSetting _ fields => fieldsFit fields
  | .readScale _ fields => fieldsFit fields
  | .loadProgram _ fields => fieldsFit fields
  | .clearSlot _ fields => fieldsFit fields
  | .start _ fields => fieldsFit fields
  | .stop _ fields => fieldsFit fields
  | .adjust _ fields => fieldsFit fields
  | .skipStage _ fields => fieldsFit fields
  | .confirm _ fields => fieldsFit fields
  | .inject _ fields => fieldsFit fields
  | .descaleStart _ fields => fieldsFit fields
  | .descaleConfirm _ fields => fieldsFit fields
  | .descaleAbort _ fields => fieldsFit fields
  | .writeSetting _ fields => fieldsFit fields
  | .setLock _ fields => fieldsFit fields
  | .serviceUnlock _ fields => fieldsFit fields
  | .serviceLock _ fields => fieldsFit fields
  | .setSteering _ fields => fieldsFit fields
  | .clearFaults _ fields => fieldsFit fields
  | .lamp _ fields => fieldsFit fields
  | .scaleReset _ fields => fieldsFit fields
  | .forceOutput _ fields => fieldsFit fields
  | .pulseOutput _ fields => fieldsFit fields
  | .frameStart f => lineFits f.gaps
  | .rawLevelChange _ _ => true

end Sys2Proof
end

