-- ==== Sys2Proof/Machine/State.lean ====
section
/-! DEFINITION. The state of the part as plain data, one structure per functional unit, the reasons a step can
stop, and the state after reset. Timers are counts of microseconds of the timebase unless a field says otherwise.
INVENTORY.md, under "State", names the rule behind every field. -/

namespace Sys2Proof.Machine

/-! ## Names -/

/-- The eight modes (R20), in the order of their numbers 0 to 7 (R187). -/
inductive Mode where
  | convection | topBottom | bottomCrisp | grill | grillFan | steam | combi | proof
  deriving DecidableEq, Repr

/-- The grant order of the arbiter (R53). -/
inductive Policy where
  | heatFirst | steamFirst
  deriving DecidableEq, Repr

/-- The five heat loads (R64). -/
inductive Load where
  | top | bottom | ring | grill | boiler
  deriving DecidableEq, Repr

/-- The mains frequency (R16). -/
inductive Frequency where
  | undecided | hz50 | hz60
  deriving DecidableEq, Repr

/-- A channel's sensor state (R4, R5). -/
inductive SensorState where
  | ok | faulted
  deriving DecidableEq, Repr

/-- The climate regulator's six states (R22). -/
inductive ClimateState where
  | off | preheat | hold | paused | cooldown | fault
  deriving DecidableEq, Repr

/-- The working state PAUSED returns to (R26). -/
inductive WorkingState where
  | preheat | hold
  deriving DecidableEq, Repr

/-- The entry direction of the reached test (R23, R39). -/
inductive Direction where
  | up | down
  deriving DecidableEq, Repr

/-- A relay's state (R69). -/
inductive RelayState where
  | opened | closing | closed | opening
  deriving DecidableEq, Repr

/-- The fan drive's phase (R72, R75). -/
inductive FanPhase where
  | stopped | running | braking | switching
  deriving DecidableEq, Repr

/-- The vent flap's state (R76). -/
inductive VentState where
  | closed | opening | opened | closing | stuck
  deriving DecidableEq, Repr

/-- The flap's target end (R76). -/
inductive VentEnd where
  | opened | closed
  deriving DecidableEq, Repr

/-- A forced heat load's phase: PLACING, PLACING marked to fire from the next window start, or FIRING (R80). -/
inductive ForcePhase where
  | placing | marked | firing
  deriving DecidableEq, Repr

/-- The four dosing channels (R85). -/
inductive Chan where
  | ch0 | ch1 | ch2 | ch3
  deriving DecidableEq, Repr

/-- The supply path arbiter's state (R85). -/
inductive PathState where
  | free | granted (c : Chan) | settling
  deriving DecidableEq, Repr

/-- A dosing channel's state (R85, R86). -/
inductive ChanState where
  | idle | requesting | running | suspended | done | fault
  deriving DecidableEq, Repr

/-- A dose's mode (R86). -/
inductive DoseMode where
  | single | block | demand | flush
  deriving DecidableEq, Repr

/-- A dose's destination (R86). -/
inductive Destination where
  | boiler | nozzle | drainLine | out
  deriving DecidableEq, Repr

/-- A dose's source (R83). -/
inductive Source where
  | tank | inlet
  deriving DecidableEq, Repr

/-- A dose's requester (R85). -/
inductive Requester where
  | boilerControl | program | descale | prime
  deriving DecidableEq, Repr

/-- The boiler controller's six states (R99). -/
inductive BoilerState where
  | empty | filling | heating | ready | draining | dryFault
  deriving DecidableEq, Repr

/-- The scale level (R111). -/
inductive ScaleLevel where
  | normal | due | blocked
  deriving DecidableEq, Repr

/-- The descale phase, in the order of its numbers 0 to 9 (R190). -/
inductive DescalePhase where
  | idle | prepare | awaitAgent | draw | soak | drainAgent | awaitRinse | rinse1 | rinse2 | done
  deriving DecidableEq, Repr

/-- The step of a rinse phase (R122). -/
inductive RinseStep where
  | flush | fill | drain
  deriving DecidableEq, Repr

/-- The cause of a stall (R125). -/
inductive Stall where
  | none | flow | level | dry
  deriving DecidableEq, Repr

/-- The descale controller's last result (R116, R123, R126). -/
inductive DescaleResult where
  | none | completed | aborted
  deriving DecidableEq, Repr

/-- A program slot's state (R131). -/
inductive SlotState where
  | empty | loaded | inUse
  deriving DecidableEq, Repr

/-- How a stage ends (R142). -/
inductive StageEnd where
  | time | core | reached | confirm
  deriving DecidableEq, Repr

/-- When a stage's clock starts (R139). -/
inductive TimerStart where
  | immediate | afterReached
  deriving DecidableEq, Repr

/-- The run state (R144). -/
inductive RunState where
  | idle | running | paused
  deriving DecidableEq, Repr

/-- A pause cause (R144). -/
inductive PauseCause where
  | door | water | probe | mains
  deriving DecidableEq, Repr

/-- The result of a run (R157, R159), in the order of its numbers (R187). -/
inductive RunResult where
  | completed | userStop | doorTimeout | fault | powerLoss
  deriving DecidableEq, Repr

/-- The thirteen members of the fault set (R170), in the order of their numbers 1 to 13 (R187). -/
inductive FaultKind where
  | thermalCutout | heatRunaway | sensorCavity | sensorBoiler | moistureSensor | fanStall | ventStuck
  | noFlow | boilerDry | levelSense | loadOverBudget | mainsLost | storeWrite
  deriving DecidableEq, Repr

/-- The 24 event kinds (R164), in the order of their numbers 1 to 24. -/
inductive EventKind where
  | doorOpened | doorClosed | stageStarted | tempReached | coreReached | confirmAwaited
  | programPaused | programResumed | programEnded | waterEmpty | tankMissing | trayFull
  | probeInserted | probeRemoved | scaleDue | scaleBlocked | descalePrompt | descaleEnded
  | faultActive | steamDegraded | settingsChanged | lockChanged | resumedAfterDip | cooldownEnded
  deriving DecidableEq, Repr

/-- What a queue entry stands for: an edge kind, or a level kind whose condition lasts or has ended (R166, R167). -/
inductive Standing where
  | edge | holding | ended
  deriving DecidableEq, Repr

/-- The kind of the latest reset (R193). -/
inductive ResetKind where
  | cold | dip | line
  deriving DecidableEq, Repr

/-- A link port's state (R182). -/
inductive PortState where
  | idle | receiving | executing | replying
  deriving DecidableEq, Repr

/-! ## Fixed collections -/

/-- One value per heat load. -/
structure PerLoad (α : Type) where
  top : α
  bottom : α
  ring : α
  grill : α
  boiler : α
  deriving DecidableEq, Repr

/-- One value per cavity load. -/
structure PerCavity (α : Type) where
  top : α
  bottom : α
  ring : α
  grill : α
  deriving DecidableEq, Repr

/-- One value per link. -/
structure PerLink (α : Type) where
  panel : α
  network : α
  service : α
  deriving DecidableEq, Repr

/-- One value per program slot 0 to 3. -/
structure PerSlot (α : Type) where
  s0 : α
  s1 : α
  s2 : α
  s3 : α
  deriving DecidableEq, Repr

/-- One value per analogue sample channel (01_measurement.md, "Sample channels"). -/
structure PerSensor (α : Type) where
  cavityUpper : α
  cavityLower : α
  boiler : α
  coreA : α
  coreB : α
  coreC : α
  moisture : α
  deriving DecidableEq, Repr

/-! ## Measurement unit -/

/-- A sample channel: sample count, sensor state, filter, consecutive bad count, and the good count with the
shadow filter kept while FAULTED (R1, R4 to R6). -/
structure SampleChannel where
  count : Nat
  state : SensorState
  value : Int
  loaded : Bool
  bad : Nat
  good : Nat
  shadow : Int
  shadowLoaded : Bool
  deriving DecidableEq, Repr

/-- A core point's run counts (R10). -/
structure CoreRuns where
  inRange : Nat
  openRun : Nat
  deriving DecidableEq, Repr

/-- The measurement unit (R1 to R19). -/
structure Measurement where
  /-- time since the latest sample period was due, one period before it; 100 ms when a period is due (R1) -/
  sampleClock : Nat
  chans : PerSensor SampleChannel
  runsA : CoreRuns
  runsB : CoreRuns
  runsC : CoreRuns
  cavity : Int
  boiler : Int
  moisture : Int
  core : Int
  probePresent : Bool
  /-- measured fan speed, rpm (R13) -/
  speed : Nat
  /-- an accepted tacho edge has been seen since the reset (R13) -/
  tachoSeen : Bool
  /-- time since the last accepted tacho edge, or since the reset (R13, R14) -/
  tachoAge : Nat
  frequency : Frequency
  mainsPresent : Bool
  groupSum : Nat
  groupCount : Nat
  /-- an accepted zero-cross edge has been seen since the reset (R15) -/
  edgeSeen : Bool
  /-- the next accepted edge captures a half-period (R15, R16) -/
  edgeMeasures : Bool
  /-- time since the last accepted zero-cross edge (R15) -/
  edgeAge : Nat
  /-- the 2 s wait of R16 for the frequency has passed -/
  frequencyWaitOver : Bool
  /-- an accepted flow pulse has been seen since the reset (R18) -/
  pulseSeen : Bool
  /-- time since the last accepted flow pulse (R18) -/
  pulseAge : Nat
  /-- accepted flow pulses counted since the reset (R18) -/
  pulseCount : Nat
  deriving DecidableEq, Repr

/-! ## Climate regulator -/

/-- The active setpoint record (R21). -/
structure SetpointRecord where
  mode : Mode
  setpoint : Int
  moisture : Option Int
  fanCode : Nat
  policy : Policy
  deriving DecidableEq, Repr

/-- The climate regulator (R20 to R47). -/
structure Climate where
  state : ClimateState
  record : Option SetpointRecord
  iacc : Int
  tempReached : Bool
  moistReached : Bool
  direction : Direction
  returnState : Option WorkingState
  steamWithheld : Bool
  shortfall : PerCavity Nat
  /-- the runaway timer, in milliseconds (R41) -/
  runaway : Nat
  runawayArmed : Bool
  /-- the reversal timer (R45) -/
  reversal : Nat
  coolingFan : Bool
  /-- the regulator asks for the heater supply relay CLOSED (R47) -/
  relayAsk : Bool
  deriving DecidableEq, Repr

/-! ## Power share arbiter -/

/-- A contiguous span of cycles (R55, R64). -/
structure Run where
  start : Nat
  length : Nat
  deriving DecidableEq, Repr

/-- One copy of the arbiter's limits (R49). -/
structure Limits where
  budget : Nat
  reserve : Nat
  headroom : Nat
  ratings : PerLoad Nat
  deriving DecidableEq, Repr

/-- What an allocation has worked out and hands on when it ends (R51, R56). -/
structure Allocation where
  /-- the pending runs to write -/
  runs : PerLoad Run
  /-- the granted lengths, C for a forced load whose claim was placed -/
  granted : PerLoad Nat
  shortfalls : PerLoad Nat
  marks : PerLoad Bool
  /-- the forced load whose claim was placed -/
  placed : Option Load
  deriving DecidableEq, Repr

/-- The power share arbiter (R48 to R62). -/
structure PowerShare where
  demands : PerLoad Nat
  prepared : Limits
  window : Limits
  claim : Option Load
  preparedGrants : PerLoad Nat
  currentGrants : PerLoad Nat
  marks : PerLoad Bool
  /-- the allocation that has begun and not yet ended (R51) -/
  allocation : Option Allocation
  deriving DecidableEq, Repr

/-! ## Output timing unit -/

/-- A heat channel (R64) and whether its load was triggered for the half-cycle in progress (R65). -/
structure HeatChannel where
  active : Run
  pending : Run
  fired : Bool
  deriving DecidableEq, Repr

/-- A relay (R69). `timer` counts since the change began while CLOSING or OPENING, and since OPEN or CLOSED was
entered otherwise; `recovering` says that the 2 s recovery has not ended. -/
structure Relay where
  state : RelayState
  askClosed : Bool
  timer : Nat
  recovering : Bool
  deriving DecidableEq, Repr

/-- The fan drive (R72 to R75). -/
structure FanDrive where
  code : Nat
  duty : Nat
  phase : FanPhase
  stallTimer : Nat
  slowTimer : Nat
  /-- time since the latest 200 ms tick -/
  tickClock : Nat
  deriving DecidableEq, Repr

/-- The vent flap (R76, R77). -/
structure VentFlap where
  state : VentState
  target : VentEnd
  travel : Nat
  deriving DecidableEq, Repr

/-- An entry of the force table (R79, R80). `ended` says of a vent drive that its end switch has read reached since the
entry was made or last replaced: the drive stays stopped while the entry stands. -/
structure ForceEntry where
  output : Output
  level : Bool
  age : Nat
  phase : ForcePhase
  ended : Bool
  deriving DecidableEq, Repr

/-- The pulse record, when it is not none (R82). `ended` says that the end switch of the vent drive in the set has read
reached since the pulse began. -/
structure PulseRecord where
  outputs : List Output
  remaining : Nat
  ended : Bool
  deriving DecidableEq, Repr

/-- The output timing unit (R63 to R82). -/
structure OutputTiming where
  /-- the half-cycle in progress, none while the generator has no count (R63) -/
  halfCycle : Option Nat
  heat : PerLoad HeatChannel
  heaterRelay : Relay
  fanRelay : Relay
  fan : FanDrive
  vent : VentFlap
  /-- the lamp's one-shot: time since it was started, none while it is stopped (R78) -/
  lampShot : Option Nat
  forces : List ForceEntry
  pulse : Option PulseRecord
  deriving DecidableEq, Repr

/-! ## Water unit -/

/-- A dose record (R86). Portion and portion left are fields of a SINGLE dose; in the other modes they are 0
(notes/assumptions/68.md). -/
structure Dose where
  mode : DoseMode
  destination : Destination
  source : Option Source
  base : Nat
  remaining : Nat
  delivered : Nat
  charged : Nat
  reload : Bool
  requester : Requester
  portion : Nat
  portionLeft : Nat
  deriving DecidableEq, Repr

/-- A dosing channel (R85, R86). -/
structure Channel where
  state : ChanState
  dose : Option Dose
  deriving DecidableEq, Repr

/-- One channel record per dosing channel. -/
structure Channels where
  ch0 : Channel
  ch1 : Channel
  ch2 : Channel
  ch3 : Channel
  deriving DecidableEq, Repr

/-- The water unit's path and channels (R83 to R98). -/
structure Water where
  path : PathState
  settleTimer : Nat
  noFlowTimer : Nat
  /-- the part of a second that the running drain has counted (R98) -/
  drainClock : Nat
  chans : Channels
  deriving DecidableEq, Repr

/-- The boiler controller (R99 to R106). -/
structure Boiler where
  state : BoilerState
  /-- the STARTING state has derived the boiler state (R108, R198) -/
  derived : Bool
  drainPending : Bool
  fillHeld : Bool
  topUpHeld : Bool
  /-- whether the boiler was needed when need was last considered (R99, R100) -/
  wasNeeded : Bool
  heatUp : Nat
  shortfall : Nat
  steamRequest : Nat
  /-- the soak target of 600 is given (R103, R120) -/
  soakTarget : Bool
  deriving DecidableEq, Repr

/-! ## Scale account and descale controller -/

/-- The scale account (R109 to R111). -/
structure ScaleAccount where
  deposit : Nat
  carry : Nat
  level : ScaleLevel
  deriving DecidableEq, Repr

/-- The base of a dose of the descale controller that waits for its channel: millilitres, or pulses for the rest of
a faulted dose (R125). -/
inductive DoseAmount where
  | millilitres (n : Nat) | pulses (n : Nat)
  deriving DecidableEq, Repr

/-- The descale controller's work that waits for its channel (R119, R121, R122), and the pulses that its dose which
last faulted on no flow had left (R125); volatile. -/
structure DescaleWork where
  dose : Option (Chan × DoseAmount)
  drain : Bool
  faulted : Nat
  deriving DecidableEq, Repr

/-- The descale controller's retained state (06_scale_account_and_descaling.md, "The descale controller"). -/
structure Descale where
  phase : DescalePhase
  step : Option RinseStep
  stall : Stall
  elapsed : Nat
  total : Nat
  aborted : Bool
  result : DescaleResult
  deriving DecidableEq, Repr

/-! ## Program sequencer -/

/-- A stored stage record (R131). -/
structure Stage where
  mode : Mode
  setpoint : Int
  moisture : Option Int
  fanCode : Option Nat
  ending : StageEnd
  duration : Option Nat
  core : Option Int
  burst : Option Nat
  policy : Option Policy
  timerStart : Option TimerStart
  deriving DecidableEq, Repr

/-- A program slot (R131); a label of no characters is an absent one. -/
structure Slot where
  state : SlotState
  generation : Nat
  link : Option Link
  label : List Byte
  stages : List Stage
  deriving DecidableEq, Repr

/-- The set of pause causes (R144). -/
structure Causes where
  door : Bool
  water : Bool
  probe : Bool
  mains : Bool
  deriving DecidableEq, Repr

/-- The run context (07_guided_programs.md, "The run context"). While `known` is false no run has been since
retention was last found not valid, and slot, generation and stage index are absent (R135, R190). -/
structure RunContext where
  state : RunState
  runId : Nat
  known : Bool
  slot : Nat
  generation : Nat
  stageIndex : Nat
  elapsed : Nat
  duration : Option Nat
  adjSetpoint : Option Int
  adjMoisture : Option Int
  tempReached : Bool
  moistReached : Bool
  coreReached : Bool
  degraded : Bool
  causes : Causes
  doorTimer : Nat
  waterTimer : Nat
  deferredBurst : Option Nat
  steamLost : Bool
  degradedAny : Bool
  steamUsed : Nat
  steamRemainder : Nat
  runTime : Nat
  deriving DecidableEq, Repr

/-- The last-run record (R158). -/
structure LastRun where
  runId : Nat
  slot : Nat
  generation : Nat
  result : RunResult
  fault : Option FaultKind
  finalStage : Nat
  runTime : Nat
  degradedAny : Bool
  steamUsed : Nat
  deriving DecidableEq, Repr

/-- The sequencer's volatile state: its one-second tick (R139) and whether the condition of the WATER cause held
when it was last considered (R146). -/
structure Sequencer where
  tickClock : Nat
  waterCondition : Bool
  deriving DecidableEq, Repr

/-- Retained memory (R194). -/
structure Retained where
  slots : PerSlot Slot
  run : RunContext
  lastRun : Option LastRun
  descale : Descale
  deriving DecidableEq, Repr

/-! ## Input and event block -/

/-- A digital input: its raw level, its reading and its settling timer (R161). `true` is the first-named reading of
the input's table row: open, present, low, full, covered, reached. -/
structure InputLine where
  raw : Bool
  reading : Bool
  timer : Nat
  deriving DecidableEq, Repr

/-- The eleven inputs. -/
structure Inputs where
  door : InputLine
  thermalCutout : InputLine
  tankPresent : InputLine
  tankFloat : InputLine
  trayFull : InputLine
  boilerLow : InputLine
  boilerHigh : InputLine
  ventOpenEnd : InputLine
  ventClosedEnd : InputLine
  inletPressure : InputLine
  servicePresent : InputLine
  deriving DecidableEq, Repr

/-- A set of links (R165). -/
abbrev LinkSet := PerLink Bool

/-- An entry of an event queue (R166). -/
structure Entry where
  kind : EventKind
  count : Nat
  time : Nat
  reported : Bool
  argument : Option Byte
  standing : Standing
  deriving DecidableEq, Repr

/-- A level kind's condition that holds, with the argument of its latest raise (R165). -/
structure Condition where
  kind : EventKind
  argument : Option Byte
  deriving DecidableEq, Repr

/-- Steering table, queues, conditions that hold, and the fault set (R165 to R170). The steering table lists the
link set of each kind in the order of the kinds' numbers. -/
structure EventBlock where
  steering : List LinkSet
  queues : PerLink (List Entry)
  conditions : List Condition
  faults : List FaultKind
  deriving DecidableEq, Repr

/-! ## Protection block, link ports, start-up, store -/

/-- Remote permission, service unlock and the silence timer (R173); the child lock is a stored setting. -/
structure Protection where
  remotePermission : Bool
  serviceUnlock : Bool
  silence : Nat
  deriving DecidableEq, Repr

/-- A link port (R182 to R185): its state, overrun flag, discard mark, the time since the last received byte (or
the reset), the bytes still to come on its line, each as the time from the end of the byte before it to its own end
(R181), the reply frame being sent and the time it has been sent for. The bytes on the line are the sender's, not state
of the part: no reset clears them. -/
structure Port where
  state : PortState
  overrun : Bool
  discard : Bool
  quiet : Nat
  line : List Nat
  reply : List Byte
  sending : Nat
  deriving DecidableEq, Repr

/-- The seven sensor offsets (R3). -/
abbrev Offsets := PerSensor Int

/-- The stored settings (R191, R195). -/
structure Settings where
  hardness : Nat
  flowConstant : Nat
  scaleLimit : Nat
  resumeLimit : Nat
  budgetOverride : Nat
  reserve : Nat
  ratings : PerLoad Nat
  offsets : Offsets
  fillVolume : Nat
  childLock : Bool
  deriving DecidableEq, Repr

/-- What the run summary holds while its open mark is set (R159). -/
structure OpenRun where
  slot : Nat
  generation : Nat
  stageIndex : Nat
  runTime : Nat
  steamUsed : Nat
  degradedAny : Bool
  deriving DecidableEq, Repr

/-- The run summary (R159); `opened` is none while the open mark is clear. -/
structure RunSummary where
  runId : Nat
  opened : Option OpenRun
  deriving DecidableEq, Repr

/-- The record of the settings store (R195). -/
structure StoreRecord where
  settings : Settings
  deposit : Nat
  carry : Nat
  marker : Bool
  summary : RunSummary
  deriving DecidableEq, Repr

/-- The settings store (R195 to R197): the verified record, the record of the write in progress, the follow-up
mark, and, inside one step only, that the step has asked for a commit. -/
structure Store where
  verified : Option StoreRecord
  writing : Option StoreRecord
  followUp : Bool
  asked : Bool
  deriving DecidableEq, Repr

/-- The start-up and retention unit (R193 to R198). -/
structure StartUp where
  ready : Bool
  kind : ResetKind
  outage : Nat
  resumed : Bool
  straps : Straps
  /-- the retention validity latch (R193, R194) -/
  latch : Bool
  /-- retention was found valid at the latest reset (R194) -/
  retentionValid : Bool
  /-- the outage timer, in microseconds (R193) -/
  outageTimer : Nat
  /-- the run summary loaded at the latest reset (R195) -/
  summary : RunSummary
  deriving DecidableEq, Repr

/-- The whole part. `now` is the timebase since the end of the latest reset; `pending` is the queue of commands
that wait, first in, first out; `windows` and `draws` count window starts and draws of a free value. -/
structure State where
  now : Nat
  pending : List Instr
  windows : Nat
  draws : Nat
  meas : Measurement
  climate : Climate
  share : PowerShare
  out : OutputTiming
  water : Water
  boiler : Boiler
  scale : ScaleAccount
  work : DescaleWork
  /-- the agent marker (R124) -/
  marker : Bool
  seq : Sequencer
  ret : Retained
  inputs : Inputs
  events : EventBlock
  prot : Protection
  ports : PerLink Port
  settings : Settings
  store : Store
  start : StartUp
  deriving DecidableEq, Repr

/-! ## Stops -/

/-- Reasons a step stops with a fault. -/
inductive Fault where
  /-- Raised by no meaning: the reference describes nothing that stops the part. Kept so that the type has a name
  to grow from; safe, since nothing answers with it. -/
  | noneDescribed
  deriving DecidableEq, Repr

/-- Reasons a step is refused. -/
inductive Refusal where
  /-- Raised by an arm of `exec` whose row has no meaning yet; no arm does so now. Safe. -/
  | notModelled (mnemonic : String)
  deriving DecidableEq, Repr

/-! ## Values after reset -/

/-- The same value for every load. -/
def PerLoad.all {α : Type} (a : α) : PerLoad α := ⟨a, a, a, a, a⟩

/-- The same value for every cavity load. -/
def PerCavity.all {α : Type} (a : α) : PerCavity α := ⟨a, a, a, a⟩

/-- The same value for every link. -/
def PerLink.all {α : Type} (a : α) : PerLink α := ⟨a, a, a⟩

/-- The same value for every slot. -/
def PerSlot.all {α : Type} (a : α) : PerSlot α := ⟨a, a, a, a⟩

/-- A sample channel after reset (R5, R19): the filter holds the bottom of the channel's range. DESIGN CHOICE: so does the
shadow filter, which R19 says is not loaded and gives no value (notes/assumptions/49.md). -/
def SampleChannel.initial (bottom : Int) : SampleChannel :=
  { count := 0, state := .ok, value := bottom, loaded := false, bad := 0, good := 0, shadow := bottom,
    shadowLoaded := false }

/-- The measurement unit after every reset (R19). DESIGN CHOICE: the count of accepted flow pulses has no width in R18 and
no value after reset; here it is unbounded and begins at 0 (notes/assumptions/50.md). -/
def Measurement.initial : Measurement :=
  { sampleClock := 100 * millisecond
    chans := ⟨.initial (-400), .initial (-400), .initial (-400), .initial (-400), .initial (-400), .initial (-400),
      .initial 0⟩
    runsA := ⟨0, 0⟩, runsB := ⟨0, 0⟩, runsC := ⟨0, 0⟩
    cavity := -400, boiler := -400, moisture := 0, core := -400, probePresent := false
    speed := 0, tachoSeen := false, tachoAge := 0
    frequency := .undecided, mainsPresent := false, groupSum := 0, groupCount := 0, edgeSeen := false
    edgeMeasures := false, edgeAge := 0, frequencyWaitOver := false
    pulseSeen := false, pulseAge := 0, pulseCount := 0 }

/-- The climate regulator after every reset (R22). -/
def Climate.initial : Climate :=
  { state := .off, record := none, iacc := 0, tempReached := false, moistReached := false, direction := .up
    returnState := none, steamWithheld := false, shortfall := .all 0, runaway := 0, runawayArmed := false
    reversal := 0, coolingFan := false, relayAsk := false }

/-- The default settings of a store that holds no verified record (R195). -/
def Settings.defaults : Settings :=
  { hardness := 180, flowConstant := 2000, scaleLimit := 30000, resumeLimit := 120, budgetOverride := 0
    reserve := 150, ratings := ⟨1100, 1000, 2000, 2000, 1800⟩, offsets := ⟨0, 0, 0, 0, 0, 0, 0⟩
    fillVolume := 650, childLock := false }

/-- The empty run, start 0 and length 0 (R64). -/
def Run.empty : Run := ⟨0, 0⟩

/-- The arbiter after every reset, under the limits taken from the loaded settings (R61). -/
def PowerShare.initial (limits : Limits) : PowerShare :=
  { demands := .all 0, prepared := limits, window := limits, claim := none, preparedGrants := .all 0
    currentGrants := .all 0, marks := .all false, allocation := none }

/-- A relay after every reset: OPEN, requested OPEN, recovery counting from the end of the reset (R69). -/
def Relay.initial : Relay := { state := .opened, askClosed := false, timer := 0, recovering := true }

/-- The output timing unit after every reset (R82's closing table). -/
def OutputTiming.initial : OutputTiming :=
  { halfCycle := none, heat := .all ⟨.empty, .empty, false⟩, heaterRelay := .initial, fanRelay := .initial
    fan := { code := 0, duty := 0, phase := .stopped, stallTimer := 0, slowTimer := 0, tickClock := 0 }
    vent := { state := .closing, target := .closed, travel := 0 }, lampShot := none, forces := [], pulse := none }

/-- An idle channel with no dose record (R108). -/
def Channel.initial : Channel := ⟨.idle, none⟩

/-- The water unit after every reset (R108). -/
def Water.initial : Water :=
  { path := .free, settleTimer := 0, noFlowTimer := 0, drainClock := 0
    chans := ⟨.initial, .initial, .initial, .initial⟩ }

/-- The boiler controller after every reset, before the STARTING state derives its state (R108). -/
def Boiler.initial : Boiler :=
  { state := .empty, derived := false, drainPending := false, fillHeld := false, topUpHeld := false
    wasNeeded := false, heatUp := 0, shortfall := 0, steamRequest := 0, soakTarget := false }

/-- The descale controller's retained state where retention is not valid (R129). -/
def Descale.initial : Descale :=
  { phase := .idle, step := none, stall := .none, elapsed := 0, total := 0, aborted := false, result := .none }

/-- A slot after a COLD reset (R131). -/
def Slot.initial : Slot := { state := .empty, generation := 0, link := none, label := [], stages := [] }

/-- No pause cause. -/
def Causes.none : Causes := ⟨false, false, false, false⟩

/-- The run context where retention is not valid, with the run id of the run summary (R135). -/
def RunContext.initial (runId : Nat) : RunContext :=
  { state := .idle, runId := runId, known := false, slot := 0, generation := 0, stageIndex := 0, elapsed := 0
    duration := none, adjSetpoint := none, adjMoisture := none, tempReached := false, moistReached := false
    coreReached := false, degraded := false, causes := .none, doorTimer := 0, waterTimer := 0
    deferredBurst := none, steamLost := false, degradedAny := false, steamUsed := 0, steamRemainder := 0
    runTime := 0 }

/-- Retained memory where retention is not valid (R194). -/
def Retained.initial (runId : Nat) : Retained :=
  { slots := .all .initial, run := .initial runId, lastRun := none, descale := .initial }

/-- The default steering: panel and network for every kind, with service added for FAULT_ACTIVE (19) and
SETTINGS_CHANGED (21) (R165). -/
def defaultSteering : List LinkSet :=
  List.replicate 18 ⟨true, true, false⟩ ++ [⟨true, true, true⟩, ⟨true, true, false⟩, ⟨true, true, true⟩] ++
    List.replicate 3 ⟨true, true, false⟩

/-- The event block after every reset, before any condition is raised anew (R172). -/
def EventBlock.initial : EventBlock :=
  { steering := defaultSteering, queues := .all [], conditions := [], faults := [] }

/-- The protection block after every reset (R173). -/
def Protection.initial : Protection := { remotePermission := false, serviceUnlock := false, silence := 0 }

/-- A port after every reset (R192). -/
def Port.initial : Port :=
  { state := .idle, overrun := false, discard := true, quiet := 0, line := [], reply := [], sending := 0 }

/-- The run summary of a store that holds no verified record (R195). -/
def RunSummary.initial : RunSummary := { runId := 0, opened := none }

/-- An input at rest at one level. -/
def InputLine.at (level : Bool) : InputLine := ⟨level, level, 0⟩

/-- The straps of `State.reset`. DESIGN CHOICE: they are levels of the board (notes/assumptions/6.md). -/
def initialStraps : Straps := { supply := .tank, budget := .w3680, probeFitted := true }

/-- The input levels of `State.reset`: every input in its second-named reading but the tank, which is in its bay.
DESIGN CHOICE: they are levels of the wiring (notes/assumptions/6.md). -/
def Inputs.initial : Inputs :=
  { door := .at false, thermalCutout := .at false, tankPresent := .at true, tankFloat := .at false
    trayFull := .at false, boilerLow := .at false, boilerHigh := .at false, ventOpenEnd := .at false
    ventClosedEnd := .at false, inletPressure := .at false, servicePresent := .at false }

/-- The limits of `State.reset`: BUDGET 3680 without override, default reserve and ratings (R48, R61). -/
def resetLimits : Limits :=
  { budget := 3680, reserve := 150, headroom := 3530, ratings := ⟨1100, 1000, 2000, 2000, 1800⟩ }

/-- The machine right after reset: a COLD reset of a part whose store holds no verified record. -/
def State.reset : State :=
  { now := 0, pending := [], windows := 0, draws := 0
    meas := .initial, climate := .initial, share := .initial resetLimits, out := .initial
    water := .initial, boiler := .initial, scale := { deposit := 0, carry := 0, level := .normal }
    work := { dose := none, drain := false, faulted := 0 }, marker := false, seq := { tickClock := 0, waterCondition := false }
    ret := .initial 0, inputs := .initial, events := .initial, prot := .initial, ports := .all .initial
    settings := .defaults, store := { verified := none, writing := none, followUp := false, asked := false }
    start := { ready := false, kind := .cold, outage := 0, resumed := false, straps := initialStraps, latch := true
               retentionValid := false, outageTimer := 0, summary := .initial } }

end Sys2Proof.Machine
end

