-- ==== Sys2Proof/Machine/Operands.lean ====
section
/-! DEFINITION. The operand and result fields of the link commands: numbers on the line, absent encodings, the
numbers of the named states, and the stage record (R187, R188). -/

namespace Sys2Proof.Machine

/-! ## Numbers, most significant byte first (R187) -/

/-- A number of two bytes. -/
def number2 (a b : Byte) : Nat := a.toNat * 256 + b.toNat

/-- A number of four bytes. -/
def number4 (a b c d : Byte) : Nat := number2 a b * 65536 + number2 c d

/-- The two's complement reading of a number of two bytes. -/
def signed2 (n : Nat) : Int := if n < 32768 then (n : Int) else (n : Int) - 65536

/-- The two's complement reading of a number of four bytes. -/
def signed4 (n : Nat) : Int := if n < 2147483648 then (n : Int) else (n : Int) - 4294967296

/-- One byte of a number. -/
def bytes1 (n : Nat) : List Byte := [BitVec.ofNat 8 n]

/-- Two bytes of a number. -/
def bytes2 (n : Nat) : List Byte := [BitVec.ofNat 8 (n / 256), BitVec.ofNat 8 n]

/-- Four bytes of a number. -/
def bytes4 (n : Nat) : List Byte := bytes2 (n / 65536) ++ bytes2 (n % 65536)

/-- Two bytes of a signed quantity. -/
def signedBytes2 (i : Int) : List Byte := bytes2 (i % 65536).toNat

/-- Four bytes of a signed quantity. -/
def signedBytes4 (i : Int) : List Byte := bytes4 (i % 4294967296).toNat

/-- The absent encoding of a two-byte temperature or setpoint. -/
def absent2 : Nat := 0x8000

/-- The absent encoding of a one-byte code, index or per-cent. -/
def absent1 : Nat := 0xFF

/-- The absent encoding of a four-byte duration. -/
def absent4 : Nat := 0xFFFFFFFF

/-- The absent encoding of a burst (R188). -/
def absentBurst : Nat := 0xFFFF

/-- 1 for yes or set, 0 for no or clear (R187). -/
def flagByte (b : Bool) : List Byte := bytes1 (if b then 1 else 0)

/-- An optional one-byte number, 0xFF when absent. -/
def optByte (o : Option Nat) : List Byte := bytes1 (o.getD absent1)

/-- Bit `k` of a mask. -/
def maskBit (k : Nat) (b : Bool) : Nat := if b then 2 ^ k else 0

/-! ## Numbers of the named states (R187, R190) -/

def Mode.number : Mode → Nat
  | .convection => 0 | .topBottom => 1 | .bottomCrisp => 2 | .grill => 3
  | .grillFan => 4 | .steam => 5 | .combi => 6 | .proof => 7

def Mode.ofNumber : Nat → Option Mode
  | 0 => some .convection | 1 => some .topBottom | 2 => some .bottomCrisp | 3 => some .grill
  | 4 => some .grillFan | 5 => some .steam | 6 => some .combi | 7 => some .proof | _ => none

def StageEnd.number : StageEnd → Nat
  | .time => 0 | .core => 1 | .reached => 2 | .confirm => 3

def StageEnd.ofNumber : Nat → Option StageEnd
  | 0 => some .time | 1 => some .core | 2 => some .reached | 3 => some .confirm | _ => none

def Policy.number : Policy → Nat
  | .heatFirst => 0 | .steamFirst => 1

def Policy.ofNumber : Nat → Option Policy
  | 0 => some .heatFirst | 1 => some .steamFirst | _ => none

def TimerStart.number : TimerStart → Nat
  | .immediate => 0 | .afterReached => 1

def TimerStart.ofNumber : Nat → Option TimerStart
  | 0 => some .immediate | 1 => some .afterReached | _ => none

def linkNumber : Link → Nat
  | .panel => 0 | .network => 1 | .service => 2

def FaultKind.number : FaultKind → Nat
  | .thermalCutout => 1 | .heatRunaway => 2 | .sensorCavity => 3 | .sensorBoiler => 4 | .moistureSensor => 5
  | .fanStall => 6 | .ventStuck => 7 | .noFlow => 8 | .boilerDry => 9 | .levelSense => 10
  | .loadOverBudget => 11 | .mainsLost => 12 | .storeWrite => 13

def EventKind.number : EventKind → Nat
  | .doorOpened => 1 | .doorClosed => 2 | .stageStarted => 3 | .tempReached => 4 | .coreReached => 5
  | .confirmAwaited => 6 | .programPaused => 7 | .programResumed => 8 | .programEnded => 9 | .waterEmpty => 10
  | .tankMissing => 11 | .trayFull => 12 | .probeInserted => 13 | .probeRemoved => 14 | .scaleDue => 15
  | .scaleBlocked => 16 | .descalePrompt => 17 | .descaleEnded => 18 | .faultActive => 19
  | .steamDegraded => 20 | .settingsChanged => 21 | .lockChanged => 22 | .resumedAfterDip => 23
  | .cooldownEnded => 24

/-- The level kinds of R164's table; every other kind is an edge kind. -/
def EventKind.isLevel : EventKind → Bool
  | .confirmAwaited | .waterEmpty | .tankMissing | .trayFull | .scaleDue | .scaleBlocked | .descalePrompt
  | .faultActive => true
  | _ => false

def EventKind.ofNumber : Nat → Option EventKind
  | 1 => some .doorOpened | 2 => some .doorClosed | 3 => some .stageStarted | 4 => some .tempReached
  | 5 => some .coreReached | 6 => some .confirmAwaited | 7 => some .programPaused | 8 => some .programResumed
  | 9 => some .programEnded | 10 => some .waterEmpty | 11 => some .tankMissing | 12 => some .trayFull
  | 13 => some .probeInserted | 14 => some .probeRemoved | 15 => some .scaleDue | 16 => some .scaleBlocked
  | 17 => some .descalePrompt | 18 => some .descaleEnded | 19 => some .faultActive | 20 => some .steamDegraded
  | 21 => some .settingsChanged | 22 => some .lockChanged | 23 => some .resumedAfterDip
  | 24 => some .cooldownEnded | _ => none

def outputNumber : Output → Nat
  | .top => 0 | .bottom => 1 | .ring => 2 | .grill => 3 | .boiler => 4 | .supplyPump => 5 | .drainPump => 6
  | .inletValve => 7 | .boilerValve => 8 | .nozzleValve => 9 | .drainLineValve => 10 | .drainValve => 11
  | .lamp => 12 | .coolingFan => 13 | .ventOpenDrive => 14 | .ventCloseDrive => 15

/-- Every output, in the order of the numbers. -/
def allOutputs : List Output :=
  [.top, .bottom, .ring, .grill, .boiler, .supplyPump, .drainPump, .inletValve, .boilerValve, .nozzleValve,
   .drainLineValve, .drainValve, .lamp, .coolingFan, .ventOpenDrive, .ventCloseDrive]

/-- The output of a number; a number above 15 is an unknown output (R187). -/
def outputOfNumber (n : Nat) : Option Output := allOutputs[n]?

/-- The outputs a PULSE_OUTPUT mask names (R82, R187). -/
def outputsOfMask (mask : Nat) : List Output := allOutputs.filter (fun o => mask.testBit (outputNumber o))

def DescalePhase.number : DescalePhase → Nat
  | .idle => 0 | .prepare => 1 | .awaitAgent => 2 | .draw => 3 | .soak => 4 | .drainAgent => 5
  | .awaitRinse => 6 | .rinse1 => 7 | .rinse2 => 8 | .done => 9

def RinseStep.number : RinseStep → Nat
  | .flush => 0 | .fill => 1 | .drain => 2

def Stall.number : Stall → Nat
  | .none => 0 | .flow => 1 | .level => 2 | .dry => 3

def DescaleResult.number : DescaleResult → Nat
  | .none => 0 | .completed => 1 | .aborted => 2

def ScaleLevel.number : ScaleLevel → Nat
  | .normal => 0 | .due => 1 | .blocked => 2

def SlotState.number : SlotState → Nat
  | .empty => 0 | .loaded => 1 | .inUse => 2

def RunState.number : RunState → Nat
  | .idle => 0 | .running => 1 | .paused => 2

def RunResult.number : RunResult → Nat
  | .completed => 0 | .userStop => 1 | .doorTimeout => 2 | .fault => 3 | .powerLoss => 4

def ClimateState.number : ClimateState → Nat
  | .off => 0 | .preheat => 1 | .hold => 2 | .paused => 3 | .cooldown => 4 | .fault => 5

def BoilerState.number : BoilerState → Nat
  | .empty => 0 | .filling => 1 | .heating => 2 | .ready => 3 | .draining => 4 | .dryFault => 5

/-- 0 FREE, 1 to 3 GRANTED to CH0 to CH2, 4 SETTLING (R190). -/
def PathState.number : PathState → Nat
  | .free => 0 | .granted .ch0 => 1 | .granted .ch1 => 2 | .granted _ => 3 | .settling => 4

/-- 0 NONE, 50 or 60 (R189). -/
def Frequency.number : Frequency → Nat
  | .undecided => 0 | .hz50 => 50 | .hz60 => 60

def ResetKind.number : ResetKind → Nat
  | .cold => 0 | .dip => 1 | .line => 2

/-- The straps byte of GET_STATUS (R189). -/
def strapsNumber (p : Straps) : Nat :=
  maskBit 0 (decide (p.supply = .plumbed)) + maskBit 1 p.probeFitted +
    (match p.budget with | .w2990 => 0 | .w3450 => 1 | .w3680 => 2) * 4

/-- A link mask: panel bit 0, network bit 1, service bit 2. -/
def linkMask (set : LinkSet) : Nat := maskBit 0 set.panel + maskBit 1 set.network + maskBit 2 set.service

/-- The link set of a mask of three bits. -/
def linkSetOfMask (mask : Nat) : LinkSet := ⟨mask.testBit 0, mask.testBit 1, mask.testBit 2⟩

/-- The pause causes byte (R190). -/
def causesNumber (c : Causes) : Nat :=
  maskBit 0 c.door + maskBit 1 c.water + maskBit 2 c.probe + maskBit 3 c.mains

/-! ## The stage record (R188) -/

/-- A stage as sent: a required field is absent where it holds its absent encoding, and `badName` says that a field
holds a value outside its named set (R132). -/
structure SentStage where
  mode : Option Mode
  setpoint : Option Int
  moisture : Option Int
  fanCode : Option Nat
  ending : Option StageEnd
  duration : Option Nat
  core : Option Int
  burst : Option Nat
  policy : Option Policy
  timerStart : Option TimerStart
  badName : Bool
  deriving DecidableEq, Repr

/-- An optional field: absent where it holds `absent`. -/
def sentField (absent n : Nat) : Option Nat := if n = absent then none else some n

/-- A named field holds neither its absent encoding nor a number of its set. -/
def outsideSet {α : Type} (ofNumber : Nat → Option α) (n : Nat) : Bool :=
  decide (n ≠ absent1) && (ofNumber n).isNone

/-- The 18 bytes of a stage record as sent; any other number of bytes gives none. The last two bytes are reserved
and not read. -/
def parseStage : List Byte → Option SentStage
  | [m, s1, s0, h, f, e, d3, d2, d1, d0, c1, c0, b1, b0, p, t, _, _] =>
    some
      { mode := Mode.ofNumber m.toNat
        setpoint := (sentField absent2 (number2 s1 s0)).map signed2
        moisture := (sentField absent1 h.toNat).map Int.ofNat
        fanCode := sentField absent1 f.toNat
        ending := StageEnd.ofNumber e.toNat
        duration := sentField absent4 (number4 d3 d2 d1 d0)
        core := (sentField absent2 (number2 c1 c0)).map signed2
        burst := sentField absentBurst (number2 b1 b0)
        policy := Policy.ofNumber p.toNat
        timerStart := TimerStart.ofNumber t.toNat
        badName := outsideSet Mode.ofNumber m.toNat || outsideSet StageEnd.ofNumber e.toNat
          || outsideSet Policy.ofNumber p.toNat || outsideSet TimerStart.ofNumber t.toNat }
  | _ => none

/-- The 18 bytes of a stored stage (R188). -/
def stageBytes (st : Stage) : List Byte :=
  bytes1 st.mode.number ++ signedBytes2 st.setpoint ++ bytes1 ((st.moisture.map Int.toNat).getD absent1)
    ++ optByte st.fanCode ++ bytes1 st.ending.number ++ bytes4 (st.duration.getD absent4)
    ++ (match st.core with | none => bytes2 absent2 | some c => signedBytes2 c)
    ++ bytes2 (st.burst.getD absentBurst) ++ optByte (st.policy.map Policy.number)
    ++ optByte (st.timerStart.map TimerStart.number) ++ [0, 0]

/-- `n` stage records of 18 bytes, and nothing after them; none where the bytes do not make exactly that many. -/
def parseStages : Nat → List Byte → Option (List SentStage)
  | 0, [] => some []
  | 0, _ => none
  | n + 1, bytes =>
    match parseStage (bytes.take 18), parseStages n (bytes.drop 18) with
    | some st, some rest => some (st :: rest)
    | _, _ => none

/-- The pairs of SET_STEERING: `n` pairs of kind and link mask and nothing after them. -/
def parsePairs : Nat → List Byte → Option (List (Nat × Nat))
  | 0, [] => some []
  | n + 1, k :: m :: rest => (parsePairs n rest).map (fun ps => (k.toNat, m.toNat) :: ps)
  | _, _ => none

/-! ## Replies (R186) -/

/-- The nine statuses with their detail (R186). -/
inductive Status where
  | ok | clamped | unknownCommand | badArgument | badProgram | locked | busy | stale | notRunning
  | refused (reason : Nat)
  deriving DecidableEq, Repr

/-- The reason codes of REFUSED (R186). -/
abbrev Status.runActive : Status := .refused 1
abbrev Status.noProgram : Status := .refused 2
abbrev Status.descaleActive : Status := .refused 3
abbrev Status.agentPresent : Status := .refused 4
abbrev Status.steamBlocked : Status := .refused 5
abbrev Status.faultActive : Status := .refused 6
abbrev Status.tankMissing : Status := .refused 7
abbrev Status.starting : Status := .refused 8

/-- The status byte and the detail byte (R186). -/
def Status.codes : Status → Nat × Nat
  | .ok => (0, 0) | .clamped => (1, 0) | .unknownCommand => (2, 0) | .badArgument => (3, 0)
  | .badProgram => (3, 1) | .locked => (4, 0) | .busy => (5, 0) | .stale => (6, 0) | .notRunning => (7, 0)
  | .refused reason => (8, reason)

/-- What a command's owner answers: the status and the bytes that follow the header (R186). -/
structure Reply where
  status : Status
  results : List Byte
  deriving DecidableEq, Repr

/-- A reply that ends with its header. -/
def Reply.bare (st : Status) : Reply := ⟨st, []⟩

/-- CLAMPED if anything was clamped, otherwise OK. -/
def clampedStatus (clamped : Bool) : Status := if clamped then .clamped else .ok

end Sys2Proof.Machine
end

