-- ==== Sys2Proof/Machine/Flags.lean ====
section
/-! DEFINITION. The event queues, the conditions of the level kinds, the attention lines and the fault set
(08_inputs_and_events.md, R164 to R170). -/

namespace Sys2Proof.Machine

/-- One link's share of a per-link collection. -/
def PerLink.get {α : Type} (p : PerLink α) : Link → α
  | .panel => p.panel
  | .network => p.network
  | .service => p.service

/-- Replaces one link's share. -/
def PerLink.set {α : Type} (p : PerLink α) (l : Link) (a : α) : PerLink α :=
  match l with
  | .panel => { p with panel := a }
  | .network => { p with network := a }
  | .service => { p with service := a }

/-- Applies a function to each link's share. -/
def PerLink.map {α β : Type} (f : α → β) (p : PerLink α) : PerLink β := ⟨f p.panel, f p.network, f p.service⟩

/-- Seconds since start-up, staying at 4,294,967,295 (R165). -/
def seconds (s : State) : Nat := min (s.now / second) 4294967295

/-! ## Queues (R166, R167, R169) -/

/-- The standing a raise gives an entry. -/
def raisedStanding (k : EventKind) : Standing := if k.isLevel then .holding else .edge

/-- A raise of a kind reaches a queue (R166). -/
def placeEntry (k : EventKind) (arg : Option Byte) (t : Nat) : List Entry → List Entry
  | [] => [{ kind := k, count := 1, time := t, reported := false, argument := arg, standing := raisedStanding k }]
  | e :: rest =>
    if e.kind = k then
      { e with
        count := min (e.count + 1) 255, time := t, reported := false, argument := arg
        standing := raisedStanding k } :: rest
    else e :: placeEntry k arg t rest

/-- The end of a level kind's condition reaches a queue (R167). -/
def endEntry (k : EventKind) : List Entry → List Entry
  | [] => []
  | e :: rest =>
    if e.kind = k then (if e.reported then rest else { e with standing := .ended } :: rest)
    else e :: endEntry k rest

/-- The link set the steering table gives a kind (R165). -/
def steeringOf (table : List LinkSet) (k : EventKind) : LinkSet :=
  table.getD (k.number - 1) ⟨false, false, false⟩

/-- A raise goes to the queue of each link of a set. -/
def placeInSet (set : LinkSet) (k : EventKind) (arg : Option Byte) (t : Nat) (q : PerLink (List Entry)) :
    PerLink (List Entry) :=
  { panel := if set.panel then placeEntry k arg t q.panel else q.panel
    network := if set.network then placeEntry k arg t q.network else q.network
    service := if set.service then placeEntry k arg t q.service else q.service }

/-- The conditions that hold after a raise: a level kind's condition holds with the raise's argument. -/
def holdCondition (k : EventKind) (arg : Option Byte) (cs : List Condition) : List Condition :=
  if k.isLevel then ⟨k, arg⟩ :: cs.filter (fun c => decide (c.kind ≠ k)) else cs

/-- A unit raises an event kind (R164 to R166). -/
def raiseEvent (k : EventKind) (arg : Option Byte) (s : State) : State :=
  { s with
    events :=
      { s.events with
        queues := placeInSet (steeringOf s.events.steering k) k arg (seconds s) s.events.queues
        conditions := holdCondition k arg s.events.conditions } }

/-- The argument that is a small number. -/
def numberArg (n : Nat) : Option Byte := some (BitVec.ofNat 8 n)

/-- A level kind's condition ends: the end goes to every queue that holds an entry of the kind (R165, R167). -/
def endCondition (k : EventKind) (s : State) : State :=
  { s with
    events :=
      { s.events with
        queues := s.events.queues.map (endEntry k)
        conditions := s.events.conditions.filter (fun c => decide (c.kind ≠ k)) } }

/-- The condition of a level kind holds. -/
def conditionHolds (k : EventKind) (s : State) : Bool := s.events.conditions.any (fun c => decide (c.kind = k))

/-- The owner of a level kind's condition finds it holding or not: a beginning is raised, an end told, and an
unchanged condition is neither (R164). -/
def followCondition (k : EventKind) (arg : Option Byte) (holds : Bool) (s : State) : State :=
  if holds = conditionHolds k s then s else if holds then raiseEvent k arg s else endCondition k s

/-- A queue holds an entry that FETCH_EVENTS has not returned. -/
def hasUnreported (q : List Entry) : Bool := q.any (fun e => !e.reported)

/-- A link's attention line is asserted (R169). -/
def attention (s : State) (l : Link) : Bool := hasUnreported (s.events.queues.get l)

/-! ## The fault set (R170) -/

/-- A member is in the fault set. -/
def hasFault (f : FaultKind) (s : State) : Bool := decide (f ∈ s.events.faults)

/-- A raiser raises a member: a member already in the set changes nothing; a new one raises FAULT_ACTIVE with the
member as its argument (R170). -/
def enterFault (f : FaultKind) (s : State) : State :=
  if hasFault f s then s
  else
    raiseEvent .faultActive (numberArg f.number)
      { s with events := { s.events with faults := s.events.faults ++ [f] } }

/-- A member leaves the set: when the last one leaves, the condition of FAULT_ACTIVE ends (R170). -/
def leaveFault (f : FaultKind) (s : State) : State :=
  if hasFault f s then
    let rest := s.events.faults.filter (fun g => decide (g ≠ f))
    let s' := { s with events := { s.events with faults := rest } }
    if rest = [] then endCondition .faultActive s' else s'
  else s

/-- A member that is not latched follows its raiser's condition (R170). -/
def followFault (f : FaultKind) (holds : Bool) (s : State) : State :=
  if holds then enterFault f s else leaveFault f s

/-- The latched members (R170). -/
def FaultKind.latched : FaultKind → Bool
  | .thermalCutout | .heatRunaway | .fanStall | .boilerDry | .levelSense => true
  | _ => false

/-- The fault mask: fault kind k is bit k − 1 (R187). -/
def faultMask (s : State) : Nat := (s.events.faults.map (fun f => 2 ^ (f.number - 1))).sum

end Sys2Proof.Machine
end

