-- ==== Sys2Proof/Machine/Ops.lean ====
section
/-! DEFINITION. Operations that several units share: reading the inputs, the collections per load and per channel,
asking the settings store to commit, the scale account's charge and level, and the current stage of a run. -/

namespace Sys2Proof.Machine

/-! ## Collections -/

def PerLoad.get {α : Type} (p : PerLoad α) : Load → α
  | .top => p.top
  | .bottom => p.bottom
  | .ring => p.ring
  | .grill => p.grill
  | .boiler => p.boiler

def PerLoad.set {α : Type} (p : PerLoad α) (l : Load) (a : α) : PerLoad α :=
  match l with
  | .top => { p with top := a }
  | .bottom => { p with bottom := a }
  | .ring => { p with ring := a }
  | .grill => { p with grill := a }
  | .boiler => { p with boiler := a }

def PerLoad.map {α β : Type} (f : α → β) (p : PerLoad α) : PerLoad β :=
  ⟨f p.top, f p.bottom, f p.ring, f p.grill, f p.boiler⟩

/-- The cavity loads of a collection over all loads. -/
def PerLoad.cavity {α : Type} (p : PerLoad α) : PerCavity α := ⟨p.top, p.bottom, p.ring, p.grill⟩

/-- The top, bottom, ring and grill loads (R65). -/
def Load.isCavity : Load → Bool
  | .boiler => false
  | _ => true

def PerSlot.get {α : Type} (p : PerSlot α) : Nat → α
  | 0 => p.s0
  | 1 => p.s1
  | 2 => p.s2
  | _ => p.s3

def PerSlot.set {α : Type} (p : PerSlot α) (n : Nat) (a : α) : PerSlot α :=
  match n with
  | 0 => { p with s0 := a }
  | 1 => { p with s1 := a }
  | 2 => { p with s2 := a }
  | _ => { p with s3 := a }

def PerSlot.map {α β : Type} (f : α → β) (p : PerSlot α) : PerSlot β := ⟨f p.s0, f p.s1, f p.s2, f p.s3⟩

def Inputs.get (p : Inputs) : Input → InputLine
  | .door => p.door
  | .thermalCutout => p.thermalCutout
  | .tankPresent => p.tankPresent
  | .tankFloat => p.tankFloat
  | .trayFull => p.trayFull
  | .boilerLow => p.boilerLow
  | .boilerHigh => p.boilerHigh
  | .ventOpenEnd => p.ventOpenEnd
  | .ventClosedEnd => p.ventClosedEnd
  | .inletPressure => p.inletPressure
  | .servicePresent => p.servicePresent

def Inputs.set (p : Inputs) (i : Input) (x : InputLine) : Inputs :=
  match i with
  | .door => { p with door := x }
  | .thermalCutout => { p with thermalCutout := x }
  | .tankPresent => { p with tankPresent := x }
  | .tankFloat => { p with tankFloat := x }
  | .trayFull => { p with trayFull := x }
  | .boilerLow => { p with boilerLow := x }
  | .boilerHigh => { p with boilerHigh := x }
  | .ventOpenEnd => { p with ventOpenEnd := x }
  | .ventClosedEnd => { p with ventClosedEnd := x }
  | .inletPressure => { p with inletPressure := x }
  | .servicePresent => { p with servicePresent := x }

def Inputs.map (f : InputLine → InputLine) (p : Inputs) : Inputs :=
  { door := f p.door, thermalCutout := f p.thermalCutout, tankPresent := f p.tankPresent
    tankFloat := f p.tankFloat, trayFull := f p.trayFull, boilerLow := f p.boilerLow
    boilerHigh := f p.boilerHigh, ventOpenEnd := f p.ventOpenEnd, ventClosedEnd := f p.ventClosedEnd
    inletPressure := f p.inletPressure, servicePresent := f p.servicePresent }

/-- Every input. -/
def allInputs : List Input :=
  [.door, .thermalCutout, .tankPresent, .tankFloat, .trayFull, .boilerLow, .boilerHigh, .ventOpenEnd,
   .ventClosedEnd, .inletPressure, .servicePresent]

/-! ## Readings -/

def doorOpen (s : State) : Bool := s.inputs.door.reading
def cutoutOpen (s : State) : Bool := s.inputs.thermalCutout.reading
def tankPresent (s : State) : Bool := s.inputs.tankPresent.reading
def tankFloatLow (s : State) : Bool := s.inputs.tankFloat.reading
def lowCovered (s : State) : Bool := s.inputs.boilerLow.reading
def highCovered (s : State) : Bool := s.inputs.boilerHigh.reading
def inletPresent (s : State) : Bool := s.inputs.inletPressure.reading

/-- The end switch of an end reads reached (R76). -/
def endReached (e : VentEnd) (s : State) : Bool :=
  match e with
  | .opened => s.inputs.ventOpenEnd.reading
  | .closed => s.inputs.ventClosedEnd.reading

/-- The SUPPLY strap reads TANK. -/
def tankOven (s : State) : Bool := decide (s.start.straps.supply = .tank)

/-- The input block watches the input: with SUPPLY at TANK it does not watch INLET_PRESSURE (R162). -/
def watched (s : State) (i : Input) : Bool := !(decide (i = .inletPressure) && tankOven s)

/-- The debounce time of an input (08_inputs_and_events.md, "Digital inputs"). -/
def debounceTime : Input → Nat
  | .door => 50 * millisecond
  | .thermalCutout => 20 * millisecond
  | .tankPresent => 500 * millisecond
  | .tankFloat => 2 * second
  | .trayFull => 5 * second
  | .boilerLow => second
  | .boilerHigh => second
  | .ventOpenEnd => 20 * millisecond
  | .ventClosedEnd => 20 * millisecond
  | .inletPressure => 2 * second
  | .servicePresent => 100 * millisecond

/-- C, the number of cycles of a window: 50 or 60 once the frequency is decided (R16), a free value before. -/
def cycles (s : State) : Nat :=
  match s.meas.frequency with
  | .undecided => Config.undecidedCycles
  | .hz50 => 50
  | .hz60 => 60

/-- The power of the BUDGET strap, in watts (R48). -/
def budgetWatts : Budget → Nat
  | .w2990 => 2990
  | .w3450 => 3450
  | .w3680 => 3680

/-- The limits the BUDGET strap and the settings give (R48). -/
def limitsOf (straps : Straps) (settings : Settings) : Limits :=
  let budget := if settings.budgetOverride = 0 then budgetWatts straps.budget else settings.budgetOverride
  { budget := budget, reserve := settings.reserve, headroom := budget - settings.reserve
    ratings := settings.ratings }

/-! ## Modes (R20) -/

/-- One row of the mode table. Weights are per-cent of the loop output for each cavity load; `moisture` is the
moisture range where the mode has a moisture loop; `vent` is the fixed vent position, none for the moisture loop. -/
structure ModeRow where
  weights : PerCavity Nat
  low : Int
  high : Int
  moisture : Option (Int × Int)
  fanCode : Nat
  reversal : Nat
  vent : Option VentEnd
  pb : Int
  ti : Int
  policy : Policy
  deriving DecidableEq, Repr

def modeRow : Mode → ModeRow
  | .convection => ⟨⟨0, 0, 100, 0⟩, 300, 2300, none, 10, 120, some .opened, 150, 240, .heatFirst⟩
  | .topBottom => ⟨⟨100, 80, 0, 0⟩, 500, 2300, none, 0, 0, some .opened, 200, 300, .heatFirst⟩
  | .bottomCrisp => ⟨⟨0, 100, 40, 0⟩, 1000, 2300, none, 8, 120, some .opened, 200, 300, .heatFirst⟩
  | .grill => ⟨⟨0, 0, 0, 100⟩, 1500, 2300, none, 0, 0, some .opened, 300, 0, .heatFirst⟩
  | .grillFan => ⟨⟨0, 0, 0, 100⟩, 1500, 2300, none, 9, 120, some .opened, 250, 0, .heatFirst⟩
  | .steam => ⟨⟨0, 0, 0, 0⟩, 400, 1000, none, 6, 0, some .closed, 60, 120, .steamFirst⟩
  | .combi => ⟨⟨0, 0, 100, 0⟩, 1000, 2300, some (20, 90), 10, 120, none, 150, 240, .steamFirst⟩
  | .proof => ⟨⟨0, 100, 0, 0⟩, 300, 500, some (60, 95), 3, 0, none, 40, 180, .steamFirst⟩

/-- STEAM, COMBI and PROOF (R20). -/
def Mode.isSteam : Mode → Bool
  | .steam | .combi | .proof => true
  | _ => false

/-- COMBI and PROOF, the modes with a moisture loop (R36). -/
def Mode.hasMoistureLoop : Mode → Bool
  | .combi | .proof => true
  | _ => false

/-- A mode whose default fan code is not 0 (R20). -/
def Mode.isFan (m : Mode) : Bool := decide ((modeRow m).fanCode ≠ 0)

/-! ## Stages and the run -/

/-- A stage that uses steam (07_guided_programs.md, "The stage record"). -/
def Stage.usesSteam (st : Stage) : Bool := st.mode.isSteam || st.burst.isSome

/-- The stage a stage list without that index answers; no run meets it. -/
def Stage.blank : Stage :=
  { mode := .convection, setpoint := 300, moisture := none, fanCode := none, ending := .confirm, duration := none
    core := none, burst := none, policy := none, timerStart := none }

/-- The stages of the program the run context names. -/
def runStages (s : State) : List Stage := (s.ret.slots.get s.ret.run.slot).stages

/-- The stage of an index of the run's program. -/
def stageAt (s : State) (i : Nat) : Stage := (runStages s).getD i Stage.blank

/-- The current stage. -/
def currentStage (s : State) : Stage := stageAt s s.ret.run.stageIndex

/-- A program uses steam when any of its stages does. -/
def programUsesSteam (stages : List Stage) : Bool := stages.any Stage.usesSteam

/-- A run is active: the run state is RUNNING or PAUSED and the STARTING state, which settles a retained run, has
ended (R160, R198). -/
def runActive (s : State) : Bool := s.start.ready && decide (s.ret.run.state ≠ .idle)

/-- Replaces the run context. -/
def setRun (r : RunContext) (s : State) : State := { s with ret := { s.ret with run := r } }

/-- The argument that names the current stage. -/
def stageArg (s : State) : Option Byte := numberArg s.ret.run.stageIndex

/-! ## The settings store (R195, R196) -/

/-- The run summary taken from the run context (R159). -/
def summaryOf (s : State) : RunSummary :=
  { runId := s.ret.run.runId
    opened :=
      if s.ret.run.state = .idle then none
      else
        some
          { slot := s.ret.run.slot, generation := s.ret.run.generation, stageIndex := s.ret.run.stageIndex
            runTime := s.ret.run.runTime, steamUsed := s.ret.run.steamUsed
            degradedAny := s.ret.run.degradedAny } }

/-- The record a commit that begins now writes (R196). -/
def recordOf (s : State) : StoreRecord :=
  { settings := s.settings, deposit := s.scale.deposit, carry := s.scale.carry, marker := s.marker
    summary := summaryOf s }

/-- A unit asks for a commit; the requests of one step are one request, served when the step ends. -/
def askCommit (s : State) : State := { s with store := { s.store with asked := true } }

/-- The step's request reaches the store (R196): in IDLE a commit begins, with the contents of this moment; in
WRITING the follow-up mark is set. -/
def flushCommit (s : State) : State :=
  if s.store.asked then
    match s.store.writing with
    | none => { s with store := { s.store with writing := some (recordOf s), asked := false } }
    | some _ => { s with store := { s.store with followUp := true, asked := false } }
  else s

/-! ## The scale account (R109 to R113) -/

/-- The level of a deposit under a limit (R111). -/
def levelOf (deposit limit : Nat) : ScaleLevel :=
  if limit ≤ deposit then .blocked else if limit * 85 / 100 ≤ deposit then .due else .normal

/-- SCALE_DUE and SCALE_BLOCKED follow the level, each with the level as its argument (R111, R164). -/
def followLevel (s : State) : State :=
  let arg := numberArg s.scale.level.number
  followCondition .scaleBlocked arg (decide (s.scale.level = .blocked))
    (followCondition .scaleDue arg (decide (s.scale.level = .due)) s)

/-- The account evaluates its level; a level change asks for a commit (R111). -/
def evaluateLevel (s : State) : State :=
  let level := levelOf s.scale.deposit s.settings.scaleLimit
  if level = s.scale.level then s
  else askCommit (followLevel { s with scale := { s.scale with level := level } })

/-- The factor of a charge: 1000 for BOILER, 600 for NOZZLE (R109). -/
def chargeFactor : Destination → Nat
  | .boiler => 1000
  | .nozzle => 600
  | _ => 0

/-- The account takes a charge of `p` pulses (R109). -/
def chargeAccount (p : Nat) (d : Destination) (s : State) : State :=
  let numerator := s.scale.carry + p * s.settings.hardness * chargeFactor d
  let unit := s.settings.flowConstant * 1000
  evaluateLevel
    { s with
      scale :=
        { s.scale with deposit := min (s.scale.deposit + numerator / unit) 9999999, carry := numerator % unit } }

/-- The sequencer counts the steam used by a charge while a run is active (R140). -/
def countSteam (p : Nat) (s : State) : State :=
  if runActive s then
    let numerator := s.ret.run.steamRemainder + p * 1000
    setRun
      { s.ret.run with
        steamUsed := s.ret.run.steamUsed + numerator / s.settings.flowConstant
        steamRemainder := numerator % s.settings.flowConstant } s
  else s

/-- The DONE credit (R113, R123), the same figures as SCALE_RESET gives (R114). -/
def clearAccount (s : State) : State :=
  askCommit (evaluateLevel { s with scale := { s.scale with deposit := 0, carry := 0 } })

/-- The abort credit on the soak's elapsed and total seconds (R113). -/
def creditAbort (s : State) : State :=
  let fall := s.scale.deposit * s.ret.descale.elapsed / s.ret.descale.total
  askCommit (evaluateLevel { s with scale := { s.scale with deposit := s.scale.deposit - fall } })

/-! ## The outputs' overrides (R79, R82) -/

/-- The kind of output R79's table puts a water output in. -/
def outputIsWater : Output → Bool
  | .supplyPump | .drainPump | .inletValve | .boilerValve | .nozzleValve | .drainLineValve | .drainValve => true
  | _ => false

/-- The heat load an output stands for. -/
def outputLoad : Output → Option Load
  | .top => some .top
  | .bottom => some .bottom
  | .ring => some .ring
  | .grill => some .grill
  | .boiler => some .boiler
  | _ => none

/-- The entry of an output in the force table. -/
def forceEntry (o : Output) (s : State) : Option ForceEntry :=
  s.out.forces.find? (fun e => decide (e.output = o))

/-- An output is in the pulse record. -/
def inPulse (o : Output) (s : State) : Bool :=
  match s.out.pulse with
  | none => false
  | some p => decide (o ∈ p.outputs)

/-- The level a force or a pulse gives an output in place of its owner's; none where neither holds it. -/
def override (o : Output) (s : State) : Option Bool :=
  match forceEntry o s with
  | some e => some e.level
  | none => if inPulse o s then some true else none

/-- The output timing unit tells the water unit that its outputs are held for service (R79, R84). -/
def serviceHold (s : State) : Bool := allOutputs.any (fun o => outputIsWater o && (override o s).isSome)

end Sys2Proof.Machine
end

