-- ==== Sys2Proof/Machine/Dosing.lean ====
section
/-! DEFINITION. The supply path arbiter, the dosing channels and their charging points (R83 to R98), as shared
operations: what a requester is told is in Machine/Water.lean. -/

namespace Sys2Proof.Machine

def Channels.get (p : Channels) : Chan → Channel
  | .ch0 => p.ch0
  | .ch1 => p.ch1
  | .ch2 => p.ch2
  | .ch3 => p.ch3

def Channels.set (p : Channels) (c : Chan) (x : Channel) : Channels :=
  match c with
  | .ch0 => { p with ch0 := x }
  | .ch1 => { p with ch1 := x }
  | .ch2 => { p with ch2 := x }
  | .ch3 => { p with ch3 := x }

/-- The record of a channel. -/
def chan (s : State) (c : Chan) : Channel := s.water.chans.get c

/-- Replaces the record of a channel. -/
def setChan (c : Chan) (x : Channel) (s : State) : State :=
  { s with water := { s.water with chans := s.water.chans.set c x } }

/-- Replaces the state of a channel. -/
def setChanState (c : Chan) (st : ChanState) (s : State) : State := setChan c { chan s c with state := st } s

/-- Replaces the dose of a channel. -/
def setDose (c : Chan) (d : Dose) (s : State) : State := setChan c { chan s c with dose := some d } s

/-- A channel holds a dose in REQUESTING, RUNNING and SUSPENDED (R86). -/
def ChanState.holds : ChanState → Bool
  | .requesting | .running | .suspended => true
  | _ => false

/-- A channel holds a dose. -/
def holdsDose (s : State) (c : Chan) : Bool := (chan s c).state.holds

/-- A channel's record names a requester. -/
def requesterIs (r : Requester) (x : Channel) : Bool :=
  match x.dose with
  | none => false
  | some d => decide (d.requester = r)

/-- A channel's record names a source. -/
def sourceIs (src : Source) (x : Channel) : Bool :=
  match x.dose with
  | none => false
  | some d => decide (d.source = some src)

/-- A channel's record names a mode. -/
def modeIs (m : DoseMode) (x : Channel) : Bool :=
  match x.dose with
  | none => false
  | some d => decide (d.mode = m)

/-- A channel holds a dose of a requester. -/
def holdsFor (s : State) (c : Chan) (r : Requester) : Bool := holdsDose s c && requesterIs r (chan s c)

/-! ## Sources (R83) -/

/-- The tank is in use: always with SUPPLY at TANK, otherwise while the descale phase is not IDLE (R83). -/
def tankInUse (s : State) : Bool := tankOven s || decide (s.ret.descale.phase ≠ .idle)

/-- A source is low (R83). -/
def sourceLow (src : Source) (s : State) : Bool :=
  match src with
  | .tank => !tankPresent s || tankFloatLow s
  | .inlet => !inletPresent s

/-- The source of a dose that is not a priming dose (R83). -/
def sourceFor (r : Requester) (s : State) : Source :=
  if tankOven s || decide (r = .descale) then .tank else .inlet

/-- A volume in millilitres as a base in pulses, with K as it stands (R86). -/
def volumePulses (ml : Nat) (s : State) : Nat := (ml * s.settings.flowConstant + 500) / 1000

/-- The effective destination: the drain line in FLUSH mode, otherwise the destination field (R84). -/
def Dose.effective (d : Dose) : Destination := if d.mode = .flush then .drainLine else d.destination

/-! ## Charging points (R96) -/

/-- A charge reaches the scale account and, while a run is active, the count of steam used (R96, R109, R140). -/
def chargeDelivered (p : Nat) (d : Destination) (s : State) : State := countSteam p (chargeAccount p d s)

/-- A channel passes its uncharged pulses (R96). -/
def passPulses (c : Chan) (s : State) : State :=
  match (chan s c).dose with
  | none => s
  | some d =>
    let s' := setDose c { d with charged := d.delivered } s
    if d.effective = .boiler ∨ d.effective = .nozzle then chargeDelivered (d.delivered - d.charged) d.effective s'
    else s'

/-! ## The path (R85) -/

/-- The path is granted to a channel. -/
def holdsPath (c : Chan) (s : State) : Bool := decide (s.water.path = .granted c)

/-- A channel that holds the path releases it: the arbiter enters SETTLING (R85). -/
def releasePath (c : Chan) (s : State) : State :=
  if holdsPath c s then { s with water := { s.water with path := .settling, settleTimer := 0 } } else s

/-- The arbiter grants the path to a channel, which becomes RUNNING: a SINGLE dose's portion left becomes the
smaller of the portion and remaining, and the no-flow timer starts at 0 (R85, R88, R92). -/
def grantPath (c : Chan) (s : State) : State :=
  let s' := { s with water := { s.water with path := .granted c, noFlowTimer := 0 } }
  match (chan s c).dose with
  | none => setChanState c .running s'
  | some d => setChan c ⟨.running, some { d with portionLeft := min d.portion d.remaining }⟩ s'

/-- The arbiter's decision (R85): when the path is FREE and no service hold applies, the REQUESTING channel of
highest priority, CH2 then CH0 then CH1, is granted. A drain that waited for a service hold starts (R98). DESIGN CHOICE:
R85 lets either of two channels be taken first that enter REQUESTING at the same moment while the path is FREE; here the
one of higher priority is granted then too (notes/assumptions/67.md). -/
def arbitrate (s : State) : State :=
  if serviceHold s then s
  else
    let s := if (chan s .ch3).state = .requesting then setChanState .ch3 .running s else s
    if s.water.path = .free then
      if (chan s .ch2).state = .requesting then grantPath .ch2 s
      else if (chan s .ch0).state = .requesting then grantPath .ch0 s
      else if (chan s .ch1).state = .requesting then grantPath .ch1 s
      else s
    else s

/-! ## Loading, suspending, ending and cancelling -/

/-- A requester loads a dose of `base` pulses onto one of CH0 to CH2 (R86). A load onto a channel that holds a dose
leaves the record unchanged. The condition of the one DEMAND dose is that BOILER_HIGH reads uncovered (R90). DESIGN
CHOICE: portion left, to which R86 gives no value before the first grant, is 0 until then (notes/assumptions/68.md). -/
def loadDose (c : Chan) (m : DoseMode) (dest : Destination) (src : Source) (base : Nat) (reload : Bool)
    (r : Requester) (s : State) : State :=
  if holdsDose s c then s
  else
    let st : ChanState :=
      if m = .demand ∧ highCovered s = true then .done
      else if sourceLow src s then .suspended else .requesting
    setChan c
      ⟨st,
        some
          { mode := m, destination := dest, source := some src, base := base, remaining := base, delivered := 0
            charged := 0, reload := reload, requester := r, portion := if m = .single then volumePulses 25 s else 0
            portionLeft := 0 }⟩ s

/-- A channel's dose ends in DONE or FAULT: its pulses are passed and the path released if held (R90 to R92). -/
def endDose (c : Chan) (st : ChanState) (s : State) : State :=
  setChanState c st (releasePath c (passPulses c s))

/-- A requester cancels its dose (R95): a RUNNING channel passes its pulses and releases the path; the channel
becomes IDLE. A drain running on CH3 is not cancelled (R98). -/
def cancelDose (c : Chan) (s : State) : State :=
  if c = .ch3 ∧ holdsDose s c = true then s
  else
    let s' := if (chan s c).state = .running then releasePath c (passPulses c s) else s
    setChan c ⟨.idle, none⟩ s'

/-- A channel's source becomes low (R93). DESIGN CHOICE: a SINGLE dose keeps its portion left until the next grant sets it
(notes/assumptions/68.md). -/
def suspendDose (c : Chan) (s : State) : State :=
  match (chan s c).state with
  | .running => setChanState c .suspended (releasePath c (passPulses c s))
  | .requesting => setChanState c .suspended s
  | _ => s

/-- A source becomes low: every channel that draws from it is suspended (R93). -/
def suspendSource (src : Source) (s : State) : State :=
  [Chan.ch0, .ch1, .ch2].foldl (fun s c => if sourceIs src (chan s c) then suspendDose c s else s) s

/-- Every channel SUSPENDED on a source returns to REQUESTING (R94). DESIGN CHOICE: where CH0 and CH1 do so in one step
with the path FREE, neither is taken before the other here: both enter REQUESTING first, and the end of the step grants
by priority (`arbitrate`, notes/assumptions/67.md). -/
def resumeSource (src : Source) (s : State) : State :=
  [Chan.ch0, .ch1, .ch2].foldl
    (fun s c =>
      if sourceIs src (chan s c) && decide ((chan s c).state = .suspended) then setChanState c .requesting s
      else s) s

/-- A source stops being low: priming (R94). -/
def primeSource (src : Source) (s : State) : State :=
  if holdsDose s .ch2 then
    if requesterIs .prime (chan s .ch2) && sourceIs src (chan s .ch2) then
      (if (chan s .ch2).state = .suspended then setChanState .ch2 .requesting s else s)
    else resumeSource src s
  else loadDose .ch2 .flush .drainLine src (volumePulses 20 s) false .prime s

/-- The source's inputs admit priming: the tank only while it is in use (R94). -/
def primes (src : Source) (s : State) : Bool :=
  match src with
  | .tank => tankInUse s
  | .inlet => true

/-- A source's reading has changed from `was` low (R93, R94). -/
def followSource (src : Source) (was : Bool) (s : State) : State :=
  if was = sourceLow src s then s
  else if sourceLow src s then suspendSource src s
  else if primes src s then primeSource src s
  else s

/-- A channel is SUSPENDED (R93). -/
def anySuspended (s : State) : Bool :=
  [Chan.ch0, .ch1, .ch2].any (fun c => decide ((chan s c).state = .suspended))

/-- WATER_EMPTY and TANK_MISSING follow their conditions (R83, R93). -/
def followWaterConditions (s : State) : State :=
  followCondition .tankMissing none (tankInUse s && !tankPresent s)
    (followCondition .waterEmpty none (anySuspended s) s)

/-! ## The seven water outputs (R84) -/

/-- The source and effective destination of the dose the path is granted to, while mains is PRESENT. -/
def flowing (s : State) : Option (Source × Destination) :=
  match s.water.path with
  | .granted c =>
    match (chan s c).dose with
    | some d => if s.meas.mainsPresent then d.source.map (fun src => (src, d.effective)) else none
    | none => none
  | _ => none

/-- The drain pump and drain valve are on (R84). -/
def draining (s : State) : Bool := decide ((chan s .ch3).state = .running) && s.meas.mainsPresent

/-- The level the water unit gives a water output (R84). -/
def ownWaterLevel (o : Output) (s : State) : Bool :=
  match o with
  | .supplyPump => decide ((flowing s).map Prod.fst = some .tank)
  | .inletValve => decide ((flowing s).map Prod.fst = some .inlet)
  | .boilerValve => decide ((flowing s).map Prod.snd = some .boiler)
  | .nozzleValve => decide ((flowing s).map Prod.snd = some .nozzle)
  | .drainLineValve => decide ((flowing s).map Prod.snd = some .drainLine)
  | .drainPump => draining s
  | .drainValve => draining s
  | _ => false

/-- The level of a water output: its force or pulse, otherwise its owner's (R84). -/
def waterLevel (o : Output) (s : State) : Bool := (override o s).getD (ownWaterLevel o s)

end Sys2Proof.Machine
end

