-- ==== Sys2Proof/Machine/Outputs.lean ====
section
/-! DEFINITION. The output timing unit's shared operations: cuts of heat runs, the relays, the fan drive, the vent
flap, the lamp and the force table (R63 to R82). The rows of this unit are in Machine/OutputTiming.lean. -/

namespace Sys2Proof.Machine

/-! ## Runs and cuts (R64 to R68) -/

/-- A run covers a cycle (R65). -/
def Run.covers (r : Run) (c : Nat) : Bool := decide (r.start ≤ c) && decide (c < r.start + r.length)

/-- A channel's active and pending runs are discarded. -/
def HeatChannel.cut (h : HeatChannel) : HeatChannel := { h with active := .empty, pending := .empty }

/-- The DOOR input becomes open: the cavity channels' runs are discarded (R66). -/
def cutCavity (s : State) : State :=
  { s with
    out :=
      { s.out with
        heat :=
          { s.out.heat with
            top := s.out.heat.top.cut, bottom := s.out.heat.bottom.cut, ring := s.out.heat.ring.cut
            grill := s.out.heat.grill.cut } } }

/-- BOILER_LOW becomes uncovered: the boiler channel's runs are discarded (R67). -/
def cutBoiler (s : State) : State :=
  { s with out := { s.out with heat := { s.out.heat with boiler := s.out.heat.boiler.cut } } }

/-- THERMAL_CUTOUT becomes open, or mains is LOST: every channel's runs are discarded (R63, R68). -/
def cutAll (s : State) : State := { s with out := { s.out with heat := s.out.heat.map HeatChannel.cut } }

/-! ## Relays (R69 to R71) -/

/-- An entry of the force table is a cavity load's. -/
def ForceEntry.isCavity (e : ForceEntry) : Bool :=
  match outputLoad e.output with
  | some l => l.isCavity
  | none => false

/-- A forced cavity load exists. -/
def forcedCavity (s : State) : Bool := s.out.forces.any ForceEntry.isCavity

/-- The heater supply relay's request is renewed: CLOSED while the regulator asks for it or a forced cavity load
exists (R70). -/
def renewHeaterRequest (s : State) : State :=
  { s with
    out :=
      { s.out with
        heaterRelay := { s.out.heaterRelay with askClosed := s.climate.relayAsk || forcedCavity s } } }

/-- The regulator asks for the heater supply relay (R47, R70). -/
def askRelay (closed : Bool) (s : State) : State :=
  renewHeaterRequest { s with climate := { s.climate with relayAsk := closed } }

def relay (s : State) : RelayId → Relay
  | .heaterSupply => s.out.heaterRelay
  | .fanDirection => s.out.fanRelay

def setRelay (r : RelayId) (x : Relay) (s : State) : State :=
  match r with
  | .heaterSupply => { s with out := { s.out with heaterRelay := x } }
  | .fanDirection => { s with out := { s.out with fanRelay := x } }

/-- The state, the requested position and the recovery admit a change (R69). -/
def Relay.mayChange (x : Relay) : Bool :=
  !x.recovering &&
    (match x.state with
      | .opened => x.askClosed
      | .closed => !x.askClosed
      | _ => false)

/-- The change starts: the coil is switched and the contact time runs (R69). -/
def Relay.startChange (x : Relay) : Relay :=
  { x with state := if x.state = .opened then .closing else .opening, timer := 0 }

/-- The coil of a relay is energised. -/
def Relay.coil (x : Relay) : Bool := decide (x.state = .closing) || decide (x.state = .closed)

/-- The heater supply relay is CLOSED (R65). -/
def heaterClosed (s : State) : Bool := decide (s.out.heaterRelay.state = .closed)

/-! ## The fan drive (R72 to R75) -/

/-- A condition holds the fan drive's duty at 0 (R73). -/
def fanHeld (s : State) : Bool := doorOpen s || hasFault .fanStall s

/-- A reversal is in progress (R75). -/
def reversing (s : State) : Bool := decide (s.out.fan.phase = .braking) || decide (s.out.fan.phase = .switching)

/-- Replaces the fan drive. -/
def setFan (f : FanDrive) (s : State) : State := { s with out := { s.out with fan := f } }

/-- The drive starts the fan if it is STOPPED, its code is above 0 and no hold applies (R72, R73). -/
def startFan (s : State) : State :=
  if s.out.fan.phase = .stopped ∧ 0 < s.out.fan.code ∧ fanHeld s = false then
    setFan { s.out.fan with duty := 400, phase := .running, stallTimer := 0 } s
  else s

/-- The drive in RUNNING stops. -/
def FanDrive.stop (f : FanDrive) : FanDrive := { f with duty := 0, phase := .stopped, stallTimer := 0 }

/-- The climate regulator issues a fan code (R44, R72). -/
def issueFan (code : Nat) (s : State) : State :=
  let s := setFan { s.out.fan with code := code } s
  if code = 0 then (if s.out.fan.phase = .running then setFan s.out.fan.stop s else s) else startFan s

/-- A hold begins: the duty becomes 0, and a RUNNING drive STOPPED (R73). -/
def holdFan (s : State) : State :=
  if s.out.fan.phase = .running then setFan s.out.fan.stop s else setFan { s.out.fan with duty := 0 } s

/-- The climate regulator asks for a reversal (R75). -/
def beginReversal (s : State) : State :=
  match s.out.fan.phase with
  | .stopped | .running =>
    setFan { s.out.fan with phase := .braking, duty := 0, slowTimer := 0, stallTimer := 0 } s
  | _ => s

/-- The direction relay enters its new state: the reversal ends (R75). -/
def endReversal (s : State) : State :=
  if s.out.fan.phase = .switching then startFan (setFan { s.out.fan with phase := .stopped, duty := 0 } s) else s

/-- The target speed of a code above 0 (R72). -/
def targetSpeed (code : Nat) : Nat := 450 + 150 * code

/-! ## The vent flap (R76, R77) -/

/-- Replaces the flap. -/
def setVent (v : VentFlap) (s : State) : State := { s with out := { s.out with vent := v } }

/-- The flap becomes OPEN or CLOSED, which ends VENT_STUCK (R77). -/
def arriveVent (e : VentEnd) (s : State) : State :=
  leaveFault .ventStuck
    (setVent { s.out.vent with state := (match e with | .opened => .opened | .closed => .closed) } s)

/-- The motor runs toward an end with the travel timer at 0; a travel whose end switch already reads reached ends at
once (R76). -/
def travelVent (e : VentEnd) (s : State) : State :=
  let s' :=
    setVent { state := (match e with | .opened => .opening | .closed => .closing), target := e, travel := 0 } s
  if endReached e s then arriveVent e s' else s'

/-- The state or travel is already the requested end's (R76). -/
def VentState.isFor : VentState → VentEnd → Bool
  | .opened, .opened | .opening, .opened | .closed, .closed | .closing, .closed => true
  | _, _ => false

/-- A vent request (R76). -/
def requestVent (e : VentEnd) (s : State) : State :=
  if s.out.vent.state.isFor e then s else travelVent e s

/-- A vent drive's force or pulse ends: the flap returns to R76 (R81, R82). -/
def returnVent (s : State) : State :=
  if endReached s.out.vent.target s then arriveVent s.out.vent.target s else travelVent s.out.vent.target s

/-- The vent drive of an end. -/
def ventDrive : VentEnd → Output
  | .opened => .ventOpenDrive
  | .closed => .ventCloseDrive

/-- The other end. -/
def VentEnd.other : VentEnd → VentEnd
  | .opened => .closed
  | .closed => .opened

/-- The force or pulse of a vent drive has met its end switch reading reached, after which the drive stays stopped while
the entry or the pulse stands (R79, R82). -/
def driveEnded (e : VentEnd) (s : State) : Bool :=
  match forceEntry (ventDrive e) s with
  | some x => x.ended
  | none =>
    match s.out.pulse with
    | none => false
    | some p => p.ended && decide (ventDrive e ∈ p.outputs)

/-- The end switch of an end reads reached: a force or pulse of that end's drive has run to its end (R79, R82). -/
def endDrive (e : VentEnd) (s : State) : State :=
  { s with
    out :=
      { s.out with
        forces := s.out.forces.map (fun x => if x.output = ventDrive e then { x with ended := true } else x)
        pulse := s.out.pulse.map (fun p => if ventDrive e ∈ p.outputs then { p with ended := true } else p) } }

/-- The end switch of a vent drive already reads reached when a force or pulse of it begins (R79, R82). -/
def startsAtEnd (s : State) : Output → Bool
  | .ventOpenDrive => endReached .opened s
  | .ventCloseDrive => endReached .closed s
  | _ => false

/-- The motor runs toward an end: by a force or pulse of that end's drive until its end switch reads reached, and not
again while the entry or pulse stands, or by the flap's own travel while neither that drive is forced nor the other
drive is forced on (R76, R79). DESIGN CHOICE: with one drive forced on and the other pulsed on, which no case of R79 or
R82 excludes, the motor counts as running toward both ends (notes/assumptions/32.md). -/
def motorToward (e : VentEnd) (s : State) : Bool :=
  match override (ventDrive e) s with
  | some level => level && !endReached e s && !driveEnded e s
  | none =>
    decide (s.out.vent.state = (match e with | .opened => VentState.opening | .closed => .closing)) &&
      !decide (override (ventDrive e.other) s = some true)

/-- An end switch becomes reached: the flap takes that end's state when the motor is stopped or was running toward
that end (R77), and a force or pulse of that end's drive has run to its end; `before` is the state before the reading
changed. With both drives driven the flap takes neither end's state (notes/assumptions/32.md). -/
def reachEnd (e : VentEnd) (before s : State) : State :=
  endDrive e (if motorToward e.other before then s else arriveVent e s)

/-! ## The lamp (R78) -/

/-- The lamp's level by R78, without force or pulse. -/
def ownLamp (s : State) : Bool := doorOpen s || runActive s || s.out.lampShot.isSome

/-- The lamp's level. -/
def lampLit (s : State) : Bool := (override .lamp s).getD (ownLamp s)

/-- The one-shot is started, or started again from 0. -/
def startLamp (s : State) : State := { s with out := { s.out with lampShot := some 0 } }

/-- The one-shot is stopped. -/
def stopLamp (s : State) : State := { s with out := { s.out with lampShot := none } }

/-! ## Forces and pulses (R79 to R82) -/

/-- The kind of output whose return is the flap's. -/
def isVentDrive (o : Output) : Bool := decide (o = .ventOpenDrive) || decide (o = .ventCloseDrive)

/-- The end of a force reaches the arbiter (R81): its next allocation places no claim, and the allocation in progress
marks no entry for the claim it has placed, so that an entry made anew waits for its own (R52, R80; DEDUCED,
notes/assumptions/57.md). -/
def dropClaim (s : State) : State :=
  { s with
    share :=
      { s.share with claim := none, allocation := s.share.allocation.map (fun a => { a with placed := none }) } }

/-- An entry of the force table is removed (R81): the claim of a heat load ends, the heater supply relay's request
is renewed, and a vent drive returns to the flap. The output's level follows its owner from then on. -/
def removeForce (o : Output) (s : State) : State :=
  if (forceEntry o s).isSome then
    let s := { s with out := { s.out with forces := s.out.forces.filter (fun e => decide (e.output ≠ o)) } }
    let s := if (outputLoad o).isSome then dropClaim s else s
    let s := renewHeaterRequest s
    if isVentDrive o then returnVent s else s
  else s

/-- Every entry that a condition names is removed. -/
def removeForces (which : Output → Bool) (s : State) : State :=
  allOutputs.foldl (fun s o => if which o then removeForce o s else s) s

/-- The pulse ends and every output of it returns to its owner's level (R82). -/
def endPulse (s : State) : State :=
  match s.out.pulse with
  | none => s
  | some p =>
    let s := { s with out := { s.out with pulse := none } }
    if p.outputs.any isVentDrive then returnVent s else s

/-- The part is at rest for service forcing: run state and descale phase IDLE, climate OFF (R79, R81). -/
def forcesAdmitted (s : State) : Bool :=
  decide (s.ret.run.state = .idle) && decide (s.ret.descale.phase = .idle) && decide (s.climate.state = .off)

/-- Every entry and any pulse ends (R81, R82). -/
def endForces (s : State) : State := endPulse (removeForces (fun _ => true) s)

/-- Every entry and any pulse gives way when the part is not at rest or service unlock is inactive (R81, R82). -/
def yieldForces (s : State) : State := if forcesAdmitted s && s.prot.serviceUnlock then s else endForces s

/-- The forced heat load in its firing phase (R80). -/
def forcedFiring (l : Load) (s : State) : Bool :=
  s.out.forces.any (fun e => decide (outputLoad e.output = some l) && decide (e.phase = .firing))

/-- The electronics cooling fan's level (R46, R79). -/
def coolingFanOn (s : State) : Bool := (override .coolingFan s).getD s.climate.coolingFan

end Sys2Proof.Machine
end

