-- ==== Sys2Proof/Machine/BoilerControl.lean ====
section
/-! DEFINITION. The boiler controller's shared operations: need, the posted demand, changes of state, drain-pending
and the top-up (R99 to R106). Its rows are in Machine/Water.lean. -/

namespace Sys2Proof.Machine

/-- Replaces the boiler controller. -/
def setBoiler (b : Boiler) (s : State) : State := { s with boiler := b }

/-- The climate regulator is in a steam mode in PREHEAT or HOLD (R99). -/
def climateSteams (s : State) : Bool :=
  match s.climate.record with
  | none => false
  | some r =>
    r.mode.isSteam && (decide (s.climate.state = .preheat) || decide (s.climate.state = .hold))

/-- The descale phase needs the boiler: DRAW, SOAK or the fill of a rinse (R99). -/
def descaleNeeds (s : State) : Bool :=
  match s.ret.descale.phase with
  | .draw | .soak => true
  | .rinse1 | .rinse2 => decide (s.ret.descale.step = some .fill)
  | _ => false

/-- The controller considers the boiler needed (R99). -/
def boilerNeeded (s : State) : Bool :=
  (climateSteams s && !s.ret.run.causes.door && !s.ret.run.causes.water) || descaleNeeds s

/-- Need is considered anew: where the boiler stops being needed and becomes needed again, an earlier no-flow fault
no longer holds its fill or top-up (R100, R102). -/
def followNeed (s : State) : State :=
  let needed := boilerNeeded s
  let again := needed && !s.boiler.wasNeeded
  setBoiler
    { s.boiler with
      wasNeeded := needed, fillHeld := s.boiler.fillHeld && !again, topUpHeld := s.boiler.topUpHeld && !again } s

/-- The demand under soak holding (R103): C below 570, 0 above 630, and the value last posted between. -/
def soakDemand (s : State) (last : Nat) : Nat :=
  if s.meas.boiler < 570 then cycles s else if 630 < s.meas.boiler then 0 else last

/-- The boiler's demand (R103); `last` is the value last posted, 0 at the first post of a soak. -/
def boilerDemand (s : State) (last : Nat) : Nat :=
  if lowCovered s = false then 0
  else if hasFault .sensorBoiler s then 0
  else if s.boiler.drainPending then 0
  else
    match s.boiler.state with
    | .heating =>
      if s.ret.descale.phase ≠ .idle then (if s.boiler.soakTarget then soakDemand s last else 0) else cycles s
    | .ready =>
      if s.ret.descale.phase ≠ .idle then (if s.boiler.soakTarget then soakDemand s last else 0)
      else (s.boiler.steamRequest * cycles s + 500) / 1000
    | _ => 0

/-- The controller posts a demand of `d`; until the STARTING state ends it posts none (R108, R198). -/
def postBoilerAs (d : Nat) (s : State) : State :=
  if s.start.ready then { s with share := { s.share with demands := { s.share.demands with boiler := d } } } else s

/-- The controller posts the boiler's demand (R103). -/
def postBoiler (s : State) : State := postBoilerAs (boilerDemand s s.share.demands.boiler) s

/-- The climate regulator hands on a steam request (R35, R103). -/
def handSteamRequest (n : Nat) (s : State) : State := postBoiler (setBoiler { s.boiler with steamRequest := n } s)

/-- The controller cancels its top-up on CH0 (R102). DESIGN CHOICE: a channel that the top-up has left in FAULT stays so
(notes/assumptions/64.md). -/
def cancelTopUp (s : State) : State :=
  if holdsFor s .ch0 .boilerControl && modeIs .single (chan s .ch0) then cancelDose .ch0 s else s

/-- The drain-pending mark is set, which cancels a top-up, or cleared (R102, R106). -/
def markDrain (b : Bool) (s : State) : State :=
  let s := setBoiler { s.boiler with drainPending := b } s
  postBoiler (if b then cancelTopUp s else s)

/-- The controller changes state (R99): HEATING starts the heat-up count at 0 (R104), EMPTY clears drain-pending
(R106), and leaving HEATING and READY cancels the top-up (R102). DESIGN CHOICE: outside HEATING the heat-up count keeps its
last value (notes/assumptions/71.md). -/
def enterBoiler (st : BoilerState) (s : State) : State :=
  if s.boiler.state = st then s
  else
    let s :=
      setBoiler
        { s.boiler with
          state := st, heatUp := if st = .heating then 0 else s.boiler.heatUp
          drainPending := s.boiler.drainPending && decide (st ≠ .empty) } s
    postBoiler (if st = .heating ∨ st = .ready then s else cancelTopUp s)

/-- The state BOILER_LOW gives a boiler: HEATING covered, EMPTY uncovered (R100, R101, R105, R108). -/
def boilerByLevel (s : State) : BoilerState := if lowCovered s then .heating else .empty

/-- NO_FLOW leaves the fault set, which releases a held fill and top-up (R91, R100, R102). -/
def endNoFlow (s : State) : State :=
  if hasFault .noFlow s then
    leaveFault .noFlow (setBoiler { s.boiler with fillHeld := false, topUpHeld := false } s)
  else s

/-- BOILER_HIGH covered, or the descale phase not IDLE, ends a top-up (R102). -/
def followTopUp (s : State) : State :=
  if highCovered s || decide (s.ret.descale.phase ≠ .idle) then cancelTopUp s else s

/-- A drain of 45 s is loaded onto CH3 (R98, R106, R121): it starts at once unless a service hold applies, clears
drain-pending and moves the controller to DRAINING, except from DRY_FAULT. -/
def loadDrain (r : Requester) (s : State) : State :=
  if holdsDose s .ch3 then s
  else
    let dose : Dose :=
      { mode := .block, destination := .out, source := none, base := 45, remaining := 45, delivered := 0
        charged := 0, reload := false, requester := r, portion := 0, portionLeft := 0 }
    let s := setChan .ch3 ⟨if serviceHold s then .requesting else .running, some dose⟩ s
    let s := { s with water := { s.water with drainClock := 0 } }
    let s := markDrain false s
    if s.boiler.state = .dryFault then s else enterBoiler .draining s

end Sys2Proof.Machine
end

