-- ==== Sys2Proof/Machine/ClimateControl.lean ====
section
/-! DEFINITION. The climate regulator (R20 to R47): the active setpoint record, the writes of the sequencer, the
states with their outputs, the temperature and moisture loops, reached detection and runaway. -/

namespace Sys2Proof.Machine

/-- Replaces the regulator. -/
def setClimate (c : Climate) (s : State) : State := { s with climate := c }

/-! ## The active setpoint record (R21) -/

/-- A record as the sequencer writes it, with absent fields left absent. -/
structure SentRecord where
  mode : Mode
  setpoint : Int
  moisture : Option Int
  fanCode : Option Nat
  policy : Option Policy
  deriving DecidableEq, Repr

/-- The setpoint the regulator adopts in a mode. -/
def adoptSetpoint (m : Mode) (x : Int) : Int := clampInt x (modeRow m).low (modeRow m).high

/-- The moisture target the regulator adopts in a mode: limited to the range, the midpoint where absent, and removed
in a mode without a moisture loop. -/
def adoptMoisture (m : Mode) (x : Option Int) : Option Int :=
  match (modeRow m).moisture with
  | none => none
  | some (lo, hi) => some (match x with | none => truncDiv (lo + hi) 2 | some h => clampInt h lo hi)

/-- A moisture target counts as clamped where it is present and not adopted as it stands. -/
def moistureClamped (m : Mode) (x : Option Int) : Bool := x.isSome && decide (adoptMoisture m x ≠ x)

/-- The completed and clamped record, and whether any field counts as clamped (R21). -/
def completeRecord (r : SentRecord) : SetpointRecord × Bool :=
  let fan := match r.fanCode with | none => (modeRow r.mode).fanCode | some f => min f 15
  ({ mode := r.mode, setpoint := adoptSetpoint r.mode r.setpoint, moisture := adoptMoisture r.mode r.moisture
     fanCode := fan, policy := r.policy.getD (modeRow r.mode).policy },
   decide (adoptSetpoint r.mode r.setpoint ≠ r.setpoint) || moistureClamped r.mode r.moisture ||
     decide (15 < r.fanCode.getD 0))

/-- The policy the arbiter follows: the record's, STEAM_FIRST while it is absent (R47, R51). -/
def policyInForce (s : State) : Policy :=
  match s.climate.record with
  | none => .steamFirst
  | some r => r.policy

/-! ## Posts (R34) -/

/-- The regulator posts demands for the four cavity loads. -/
def postCavity (d : PerCavity Nat) (s : State) : State :=
  { s with
    share :=
      { s.share with
        demands := { s.share.demands with top := d.top, bottom := d.bottom, ring := d.ring, grill := d.grill } } }

/-- Zero demands for all four cavity loads and a steam request of 0, posted at once (R26, R28, R29, R42). -/
def postZeros (s : State) : State := handSteamRequest 0 (postCavity (PerCavity.all 0) s)

/-! ## States and their outputs (R38, R44, R47) -/

/-- PREHEAT or HOLD (R22). -/
def working (s : State) : Bool := decide (s.climate.state = .preheat) || decide (s.climate.state = .hold)

/-- The vent request of a mode in PREHEAT or HOLD: none in a moisture-loop mode (R38). -/
def requestModeVent (s : State) : State :=
  match s.climate.record with
  | none => s
  | some r =>
    match (modeRow r.mode).vent with
    | none => s
    | some e => requestVent e s

/-- The outputs a state calls for: relay request, fan target code and vent request (R38, R44, R47). -/
def issueOutputs (s : State) : State :=
  match s.climate.state with
  | .preheat | .hold =>
    requestModeVent (issueFan ((s.climate.record.map SetpointRecord.fanCode).getD 0) (askRelay true s))
  | .off => requestVent .closed (issueFan 0 (askRelay false s))
  | _ => requestVent .opened (issueFan 0 (askRelay false s))

/-- The entry direction against a setpoint (R23). -/
def directionOf (reading setpoint : Int) : Direction := if reading ≤ setpoint then .up else .down

def WorkingState.state : WorkingState → ClimateState
  | .preheat => .preheat
  | .hold => .hold

/-- The record, both reached marks, the return state and the timers are given up, and Iacc becomes 0 (R28, R42). -/
def Climate.discard (c : Climate) (st : ClimateState) : Climate :=
  { c with
    state := st, record := none, iacc := 0, tempReached := false, moistReached := false, returnState := none
    runaway := 0, runawayArmed := false, reversal := 0 }

/-- A stage entry (R23), taken in every state but FAULT; the second answer is none where it is not taken, and says
otherwise whether any field counted as clamped. -/
def stageEntry (sent : SentRecord) (s : State) : State × Option Bool :=
  if s.climate.state = .fault then (s, none)
  else
    let (r, clamped) := completeRecord sent
    let kept := match s.climate.record with | none => false | some old => decide (old.mode = r.mode)
    let c : Climate :=
      { s.climate with
        record := some r, iacc := if kept then s.climate.iacc else 0, tempReached := false, moistReached := false
        direction := directionOf s.meas.cavity r.setpoint, runaway := 0, runawayArmed := false, reversal := 0 }
    if s.climate.state = .paused then (setClimate { c with returnState := some .preheat } s, some clamped)
    else (issueOutputs (setClimate { c with state := .preheat } s), some clamped)

/-- A resume write (R24); in any state other than OFF it is taken as a stage entry. -/
def resumeWrite (sent : SentRecord) (temp moist door : Bool) (s : State) : State :=
  if s.climate.state ≠ .off then (stageEntry sent s).1
  else
    let r := (completeRecord sent).1
    let c : Climate :=
      { s.climate with
        record := some r, iacc := 0, tempReached := temp, moistReached := moist, runaway := 0
        runawayArmed := temp
        direction := if temp then s.climate.direction else directionOf s.meas.cavity r.setpoint }
    let w : WorkingState := if temp then .hold else .preheat
    issueOutputs
      (setClimate (if door then { c with state := .paused, returnState := some w } else { c with state := w.state }) s)

/-- The adjust write's action on the states (R25, third step): a reached stage whose cavity lies outside the band of
the new setpoint works on from PREHEAT. -/
def Climate.reenter (c : Climate) (reading setpoint : Int) : Climate :=
  if c.tempReached then
    if reading < setpoint - 50 ∨ setpoint + 50 < reading then
      let c := { c with direction := directionOf reading setpoint, runawayArmed := false }
      if c.state = .hold then { c with state := .preheat }
      else if c.state = .paused then { c with returnState := some .preheat }
      else c
    else c
  else { c with direction := directionOf reading setpoint }

/-- An adjust write (R25), taken in PREHEAT, HOLD and PAUSED; the second answer is none where it is not taken, and
says otherwise whether anything counted as clamped. -/
def adjustWrite (setpoint moisture : Option Int) (s : State) : State × Option Bool :=
  match s.climate.state, s.climate.record with
  | .preheat, some r | .hold, some r | .paused, some r =>
    let r' : SetpointRecord :=
      { r with
        setpoint := (setpoint.map (adoptSetpoint r.mode)).getD r.setpoint
        moisture := if moisture.isSome then adoptMoisture r.mode moisture else r.moisture }
    let c : Climate := { s.climate with record := some r' }
    let c :=
      if setpoint.isSome then Climate.reenter { c with runaway := 0 } s.meas.cavity r'.setpoint else c
    (setClimate c s,
      some
        ((match setpoint with | none => false | some x => decide (adoptSetpoint r.mode x ≠ x)) ||
          moistureClamped r.mode moisture))
  | _, _ => (s, none)

/-- The sequencer tells that DOOR is added (R26). -/
def pauseClimate (s : State) : State :=
  match s.climate.state with
  | .preheat => issueOutputs (postZeros (setClimate { s.climate with state := .paused, returnState := some .preheat } s))
  | .hold => issueOutputs (postZeros (setClimate { s.climate with state := .paused, returnState := some .hold } s))
  | _ => s

/-- The sequencer tells that DOOR is removed (R26). -/
def unpauseClimate (s : State) : State :=
  if s.climate.state = .paused then
    issueOutputs
      (setClimate
        { s.climate with state := (s.climate.returnState.getD .preheat).state, returnState := none } s)
  else s

/-- The sequencer tells whether steam is withheld (R27). -/
def withholdSteam (b : Bool) (s : State) : State :=
  let s' := setClimate { s.climate with steamWithheld := b } s
  if b && !s.climate.steamWithheld then handSteamRequest 0 s' else s'

/-- The sequencer asks to end the climate (R28). In FAULT the request is not taken. DESIGN CHOICE: in OFF, where a run that
a fatal fault ends at its resume finds the regulator, and in COOLDOWN it has no effect either, whatever the cavity reading
(notes/assumptions/62.md). -/
def endClimate (s : State) : State :=
  match s.climate.state with
  | .preheat | .hold | .paused =>
    let st : ClimateState := if 600 ≤ s.meas.cavity then .cooldown else .off
    issueOutputs (postZeros (setClimate (s.climate.discard st) s))
  | _ => s

/-- The regulator enters FAULT and raises HEAT_RUNAWAY (R42). -/
def enterClimateFault (s : State) : State :=
  issueOutputs (postZeros (setClimate (s.climate.discard .fault) (enterFault .heatRunaway s)))

/-- HEAT_RUNAWAY has left the fault set: the regulator leaves FAULT for OFF (R43). -/
def leaveClimateFault (s : State) : State :=
  if s.climate.state = .fault ∧ hasFault .heatRunaway s = false then
    issueOutputs (setClimate { s.climate with state := .off } s)
  else s

/-! ## The loops (R30 to R37) -/

/-- SENSOR_CAVITY is active. -/
def cavityFaulted (s : State) : Bool := hasFault .sensorCavity s

/-- The temperature loop runs at this window start (R30). -/
def loopRuns (r : SetpointRecord) (s : State) : Bool :=
  working s && !cavityFaulted s &&
    (if r.mode = .steam then !s.climate.steamWithheld else heaterClosed s)

/-- A cavity load that the mode's loop drives has a shortfall (R32). -/
def starved (weights shortfall : PerCavity Nat) : Bool :=
  (decide (0 < weights.top) && decide (0 < shortfall.top)) ||
    (decide (0 < weights.bottom) && decide (0 < shortfall.bottom)) ||
    (decide (0 < weights.ring) && decide (0 < shortfall.ring)) ||
    (decide (0 < weights.grill) && decide (0 < shortfall.grill))

/-- One run of the temperature loop on the error `e`: the output `u` and the new Iacc (R31, R32). -/
def temperatureLoop (row : ModeRow) (e iacc : Int) (shortfall : PerCavity Nat) : Nat × Int :=
  let p := truncDiv (e * 1000) row.pb
  let raw := p + truncDiv iacc 1000
  let u := (clampInt raw 0 1000).toNat
  if row.ti ≤ 0 then (u, iacc)
  else if (1000 < raw ∧ 0 < e) ∨ (raw < 0 ∧ e < 0) ∨ (0 < e ∧ starved row.weights shortfall = true) then (u, iacc)
  else (u, clampInt (iacc + truncDiv (e * 1000000) (row.pb * row.ti)) (-1000000) 1000000)

/-- The demand of a cavity load of weight `w` at loop output `u` (R34). -/
def loadDemand (u w c : Nat) : Nat := (u * w * c + 50000) / 100000

/-- The demands the regulator posts when the loop has run: ring and grill receive 0 while a reversal is in
progress (R34). -/
def cavityDemands (u : Nat) (weights : PerCavity Nat) (s : State) : PerCavity Nat :=
  { top := loadDemand u weights.top (cycles s), bottom := loadDemand u weights.bottom (cycles s)
    ring := if reversing s then 0 else loadDemand u weights.ring (cycles s)
    grill := if reversing s then 0 else loadDemand u weights.grill (cycles s) }

/-- The moisture error e_m: the target minus the reading (R36). -/
def moistureError (r : SetpointRecord) (s : State) : Int := r.moisture.getD 0 - s.meas.moisture

/-- The steam request of the moisture loop (R36). -/
def moistureRequest (r : SetpointRecord) (s : State) : Nat :=
  if s.climate.steamWithheld then 0
  else if hasFault .moistureSensor s then (r.moisture.getD 0 * 10).toNat
  else (clampInt (truncDiv (moistureError r s * 1000) 10) 0 1000).toNat

/-- The vent position the moisture loop decides (R37). -/
def moistureVent (r : SetpointRecord) (s : State) : Option VentEnd :=
  if hasFault .moistureSensor s then none
  else if moistureError r s < -3 ∨ r.setpoint + 100 < s.meas.cavity then some .opened
  else if 0 < moistureError r s then some .closed
  else none

/-- The moisture loop issues its decision, not while VENT_STUCK is active (R37). -/
def issueMoistureVent (r : SetpointRecord) (s : State) : State :=
  match moistureVent r s with
  | none => s
  | some e => if hasFault .ventStuck s then s else requestVent e s

/-- The reached test of PREHEAT against the entry direction (R39). -/
def reachedTest (c : Climate) (setpoint reading : Int) : Bool :=
  match c.direction with
  | .up => decide (setpoint - 50 ≤ reading)
  | .down => decide (reading ≤ setpoint + 50)

/-- What the regulator reports to the sequencer at a window start. -/
structure ReachedReport where
  temp : Bool
  moist : Bool
  deriving DecidableEq, Repr

/-- The reached test at a window start (R39): HOLD, the runaway timer armed at 0, and a report once per stage. The change
of state issues the mode's vent request (R38), which retries a flap that is STUCK. -/
def testReached (r : SetpointRecord) (s : State) : State × Bool :=
  if s.climate.state = .preheat ∧ cavityFaulted s = false ∧ reachedTest s.climate r.setpoint s.meas.cavity = true then
    (requestModeVent
        (setClimate { s.climate with state := .hold, tempReached := true, runaway := 0, runawayArmed := true } s),
      !s.climate.tempReached)
  else (s, false)

/-- The moisture test at a window start (R40). -/
def testMoisture (r : SetpointRecord) (s : State) : State × Bool :=
  if working s && r.mode.hasMoistureLoop && !s.climate.moistReached && !cavityFaulted s &&
      !hasFault .moistureSensor s && decide (-5 ≤ moistureError r s) && decide (moistureError r s ≤ 5) then
    (setClimate { s.climate with moistReached := true } s, true)
  else (s, false)

/-- The loops of one window start, with their posts (R30 to R37). -/
def runLoops (r : SetpointRecord) (s : State) : State :=
  let row := modeRow r.mode
  let ran := loopRuns r s
  let out := temperatureLoop row (r.setpoint - s.meas.cavity) s.climate.iacc s.climate.shortfall
  let s := if ran then setClimate { s.climate with iacc := out.2 } s else s
  let s := postCavity (if ran then cavityDemands out.1 row.weights s else PerCavity.all 0) s
  if r.mode.hasMoistureLoop then
    if working s && !cavityFaulted s then issueMoistureVent r (handSteamRequest (moistureRequest r s) s)
    else handSteamRequest 0 s
  else handSteamRequest (if r.mode = .steam ∧ ran = true then out.1 else 0) s

/-- The regulator at a window start: the reached tests, then the loops; outside the working states it posts zeros.
The reports it makes are the second answer. -/
def regulatorWindow (s : State) : State × ReachedReport :=
  match s.climate.record with
  | none => (postZeros s, ⟨false, false⟩)
  | some r =>
    let (s, temp) := testReached r s
    let (s, moist) := testMoisture r s
    (runLoops r s, ⟨temp, moist⟩)

/-! ## The end of a sample period (R28, R41, R42, R46) -/

/-- The runaway timer (R41). -/
def countRunaway (s : State) : State :=
  match s.climate.record with
  | none => s
  | some r =>
    if s.climate.runawayArmed && !cavityFaulted s then
      setClimate
        { s.climate with runaway := if r.setpoint + 400 < s.meas.cavity then s.climate.runaway + 100 else 0 } s
    else s

/-- The runaway limits (R42). -/
def checkRunaway (s : State) : State :=
  if s.climate.state ≠ .fault ∧ (60000 ≤ s.climate.runaway ∨ 3000 < s.meas.cavity) then enterClimateFault s else s

/-- COOLDOWN ends below 500 (R28). -/
def checkCooldown (s : State) : State :=
  if s.climate.state = .cooldown ∧ s.meas.cavity < 500 then
    raiseEvent .cooldownEnded none (issueOutputs (setClimate { s.climate with state := .off } s))
  else s

/-- The electronics cooling fan is decided (R46). -/
def decideCoolingFan (s : State) : State :=
  let on :=
    match s.climate.state with
    | .off | .fault =>
      if 600 ≤ s.meas.cavity then true else if s.meas.cavity < 500 then false else s.climate.coolingFan
    | _ => true
  setClimate { s.climate with coolingFan := on } s

/-- The regulator at the end of a sample period. DEDUCED: the cooling fan is decided before COOLDOWN ends, since a
regulator that has entered OFF turns the fan off "at the next sample period" (R46; notes/assumptions/25.md). -/
def climateSample (s : State) : State := checkCooldown (checkRunaway (countRunaway (decideCoolingFan s)))

/-- The reversal timer counts (R45). -/
def reversalCounts (s : State) : Bool :=
  match s.climate.record with
  | none => false
  | some r =>
    working s && decide (0 < (modeRow r.mode).reversal) && decide (0 < r.fanCode) && s.meas.mainsPresent &&
      !reversing s

end Sys2Proof.Machine
end

