-- ==== Sys2Proof/Machine/DescaleControl.lean ====
section
/-! DEFINITION. The descale controller's shared operations (R116 to R129): phases, stalls, the doses and drains it
loads, the credits and the ends of its work, and the boiler controller's entry into DRY_FAULT, which R127 makes an
abort. Its rows are in Machine/Descaling.lean. -/

namespace Sys2Proof.Machine

/-- Replaces the descale controller's retained state. -/
def setDescale (d : Descale) (s : State) : State := { s with ret := { s.ret with descale := d } }

/-- Replaces the waiting work. -/
def setWork (w : DescaleWork) (s : State) : State := { s with work := w }

/-- The condition of DESCALE_PROMPT: an awaiting phase, or a stall in any phase (R118). -/
def promptHolds (d : Descale) : Bool :=
  decide (d.phase = .awaitAgent) || decide (d.phase = .awaitRinse) || decide (d.stall ≠ .none)

/-- DESCALE_PROMPT follows its condition, with the phase as its argument (R118). -/
def followPrompt (s : State) : State :=
  followCondition .descalePrompt (numberArg s.ret.descale.phase.number) (promptHolds s.ret.descale) s

/-- The phase changes, with its rinse step; the boiler's demand is posted anew (R103). -/
def enterPhase (p : DescalePhase) (step : Option RinseStep) (s : State) : State :=
  postBoiler (followTopUp (followPrompt (setDescale { s.ret.descale with phase := p, step := step } s)))

/-- A stall arises or is set to none (R125). -/
def setStall (x : Stall) (s : State) : State := followPrompt (setDescale { s.ret.descale with stall := x } s)

/-- The soak target is given to the boiler controller: the first post of a soak inside the band is 0 (R103, R120). -/
def giveSoakTarget (s : State) : State :=
  let s := setBoiler { s.boiler with soakTarget := true } s
  postBoilerAs (boilerDemand s 0) s

/-- The soak target is withdrawn (R120, R126). -/
def withdrawSoakTarget (s : State) : State := postBoiler (setBoiler { s.boiler with soakTarget := false } s)

/-- The drain of R121 is loaded once CH3 is free and, with SUPPLY at TANK, the tank is in its bay. -/
def tryDescaleDrain (s : State) : State :=
  if s.work.drain && !holdsDose s .ch3 && (!tankOven s || tankPresent s) then
    loadDrain .descale (setWork { s.work with drain := false } s)
  else s

/-- The controller has a drain to load, at once if it can (R121). -/
def wantDrain (s : State) : State := tryDescaleDrain (setWork { s.work with drain := true } s)

/-- A waiting amount as a base in pulses (R86, R125). -/
def amountPulses (a : DoseAmount) (s : State) : Nat :=
  match a with
  | .millilitres n => volumePulses n s
  | .pulses n => n

/-- The dose that waits for its channel is loaded once the channel is free (R119, R122): CH0 takes a BLOCK dose to
BOILER and moves the boiler controller to FILLING (R101), except from DRY_FAULT, which it leaves only when its faults are cleared
(R105, R121; notes/assumptions/38.md); CH2 takes a FLUSH dose. The fill of a rinse stalls with cause DRY while the boiler
controller is in DRY_FAULT (R122). DESIGN CHOICE: so does a fill that the confirm of a FLOW stall re-requests, and the
confirm of that DRY stall requests the whole fill (R125; notes/assumptions/61.md). -/
def tryDescaleDose (s : State) : State :=
  match s.work.dose with
  | none => s
  | some (c, a) =>
    if c = .ch0 ∧ s.ret.descale.step = some .fill ∧ s.boiler.state = .dryFault then
      setStall .dry (setWork { s.work with dose := none } s)
    else if holdsDose s c then s
    else
      let n := amountPulses a s
      let s := setWork { s.work with dose := none } s
      if c = .ch0 then
        let s := loadDose .ch0 .block .boiler .tank n false .descale s
        if s.boiler.state = .dryFault then s else enterBoiler .filling s
      else loadDose c .flush .drainLine .tank n false .descale s

/-- The controller has a dose to load, at once if it can. -/
def wantDose (c : Chan) (a : DoseAmount) (s : State) : State :=
  tryDescaleDose (setWork { s.work with dose := some (c, a) } s)

/-- The soak total: 900 + 2 × H seconds limited to 900 to 2100 (R120). -/
def soakTotal (hardness : Nat) : Nat := clampNat (900 + 2 * hardness) 900 2100

/-- DRAW is entered (R119). -/
def enterDraw (s : State) : State := wantDose .ch0 (.millilitres 500) (enterPhase .draw none s)

/-- SOAK is entered (R120). -/
def enterSoak (s : State) : State :=
  let s := enterPhase .soak none s
  giveSoakTarget (setDescale { s.ret.descale with elapsed := 0, total := soakTotal s.settings.hardness } s)

/-- DRAIN_AGENT is entered with its drain to load (R120, R121). -/
def enterDrainAgent (s : State) : State := wantDrain (enterPhase .drainAgent none s)

/-- A rinse phase is entered at its step FLUSH (R122). -/
def enterRinse (p : DescalePhase) (s : State) : State :=
  wantDose .ch2 (.millilitres 150) (enterPhase p (some .flush) s)

/-- The step FILL of a rinse is reached (R122). -/
def enterFill (s : State) : State :=
  wantDose .ch0 (.millilitres 500) (enterPhase s.ret.descale.phase (some .fill) s)

/-- The step DRAIN of a rinse is reached (R122). -/
def enterDrainStep (s : State) : State := wantDrain (enterPhase s.ret.descale.phase (some .drain) s)

/-- A draw or rinse fill has faulted or been cancelled: the boiler controller goes by its level (R101), except from
DRY_FAULT, which it leaves only when its faults are cleared (R105; notes/assumptions/38.md). -/
def boilerAfterFill (s : State) : State :=
  if s.boiler.state = .dryFault then s else enterBoiler (boilerByLevel s) s

/-- The draw or rinse fill that CH0 holds is cancelled (R101, R126). DESIGN CHOICE: a channel that the fill has left in
FAULT stays so, and the boiler state is left alone (notes/assumptions/64.md). -/
def cancelDescaleFill (s : State) : State :=
  if holdsFor s .ch0 .descale then boilerAfterFill (cancelDose .ch0 s) else s

/-- The abort with the marker set (R126, R127): the draw is cancelled, the soak target withdrawn, the abort credit
taken, the aborted mark set and the stall none, and DRAIN_AGENT entered. -/
def abortWithCredit (s : State) : State :=
  let s := cancelDescaleFill (setWork { s.work with dose := none } s)
  let s := creditAbort (withdrawSoakTarget s)
  let s := setStall .none (setDescale { s.ret.descale with aborted := true } s)
  enterDrainAgent s

/-- The boiler controller enters DRY_FAULT (R105): it cancels its own doses on CH0 and posts 0; a descale in DRAW or
SOAK takes the entry as an abort (R127), once the STARTING state has ended. DESIGN CHOICE: of its own doses it cancels
the one that CH0 still holds; a channel left in FAULT stays so (notes/assumptions/64.md). -/
def enterDryFault (s : State) : State :=
  if s.boiler.state = .dryFault then s
  else
    let s := enterBoiler .dryFault s
    let s := if holdsFor s .ch0 .boilerControl then cancelDose .ch0 s else s
    if s.start.ready && (decide (s.ret.descale.phase = .draw) || decide (s.ret.descale.phase = .soak)) then
      abortWithCredit s
    else s

/-- The controller leaves DRY_FAULT when neither BOILER_DRY nor LEVEL_SENSE is in the fault set (R105). DESIGN CHOICE: it
becomes HEATING or EMPTY also while CH3 runs, where R106 has it DRAINING, and while a dose of the descale controller holds
CH0, where R101 has it FILLING (notes/assumptions/52.md). -/
def leaveDryFault (s : State) : State :=
  if s.boiler.state = .dryFault ∧ hasFault .boilerDry s = false ∧ hasFault .levelSense s = false then
    enterBoiler (boilerByLevel s) s
  else s

/-- PREPARE acts on the boiler controller's state (R117). DESIGN CHOICE: in DRY_FAULT, for which the rule's table has no
row, it waits until the controller has left that state or the descale is aborted (notes/assumptions/53.md). -/
def followPrepare (s : State) : State :=
  if s.start.ready && decide (s.ret.descale.phase = .prepare) && decide (s.ret.descale.stall = .none) then
    match s.boiler.state with
    | .empty => enterPhase .awaitAgent none (setWork { s.work with drain := false } s)
    | .heating | .ready => if holdsDose s .ch3 then s else wantDrain s
    | _ => s
  else s

/-- A dose of the descale controller to BOILER ends on its count or at the high level (R101, R119, R122). With BOILER_LOW
uncovered LEVEL_SENSE is raised; a draw that ends so goes on by R127, also where the controller was in DRY_FAULT already
(DEDUCED from R119's table, notes/assumptions/38.md). -/
def descaleFillEnded (s : State) : State :=
  let s :=
    if lowCovered s then (if s.boiler.state = .dryFault then s else enterBoiler .heating s)
    else enterDryFault (enterFault .levelSense s)
  match s.ret.descale.phase with
  | .draw => if lowCovered s then enterSoak s else abortWithCredit s
  | .rinse1 | .rinse2 => if s.ret.descale.step = some .fill then enterDrainStep s else s
  | _ => s

/-- The pulses a channel's dose has left. -/
def restOf (c : Chan) (s : State) : Nat :=
  match (chan s c).dose with
  | none => 0
  | some d => d.remaining

/-- A dose of the descale controller faults on no flow: its remaining count is kept for the confirm, the boiler goes by
its level where the dose was CH0's (R101), and the phase stalls with cause FLOW (R125). -/
def descaleDoseFaulted (c : Chan) (s : State) : State :=
  let s := setWork { s.work with faulted := restOf c s } s
  setStall .flow (if c = .ch0 then boilerAfterFill s else s)

/-- The end of RINSE_2's drain: DONE (R123). -/
def descaleDone (s : State) : State :=
  let s := { s with marker := false }
  let s :=
    if s.ret.descale.aborted then askCommit (setDescale { s.ret.descale with result := .aborted } s)
    else clearAccount (setDescale { s.ret.descale with result := .completed } s)
  let s := raiseEvent .descaleEnded none s
  enterPhase .idle none (setDescale { s.ret.descale with aborted := false, elapsed := 0, total := 0 } s)

/-- A drain ends with BOILER_LOW uncovered and the phase goes on (R121). -/
def descaleDrainDone (s : State) : State :=
  match s.ret.descale.phase with
  | .prepare => enterPhase .awaitAgent none s
  | .drainAgent => enterPhase .awaitRinse none s
  | .rinse1 => if s.ret.descale.step = some .drain then enterRinse .rinse2 s else s
  | .rinse2 => if s.ret.descale.step = some .drain then descaleDone s else s
  | _ => s

/-- The phases in which the controller itself loads a drain (R121). -/
def drainPhase (d : Descale) : Bool :=
  match d.phase with
  | .prepare | .drainAgent => true
  | .rinse1 | .rinse2 => decide (d.step = some .drain)
  | _ => false

end Sys2Proof.Machine
end

