-- ==== Sys2Proof/Machine/ProgramControl.lean ====
section
/-! DEFINITION. The program sequencer's shared operations: pause causes, bursts, stage entry and end, degraded
stages, the fault checks and the end of a run (R137 to R160). Its rows are in Machine/Program.lean. -/

namespace Sys2Proof.Machine

/-! ## Pause causes (R144) -/

def Causes.has (c : Causes) : PauseCause → Bool
  | .door => c.door
  | .water => c.water
  | .probe => c.probe
  | .mains => c.mains

def Causes.put (c : Causes) (p : PauseCause) (b : Bool) : Causes :=
  match p with
  | .door => { c with door := b }
  | .water => { c with water := b }
  | .probe => { c with probe := b }
  | .mains => { c with mains := b }

/-- The set holds no member. -/
def Causes.isEmpty (c : Causes) : Bool := !c.door && !c.water && !c.probe && !c.mains

/-- A cause is added: to an empty set, the run state becomes PAUSED and PROGRAM_PAUSED is raised (R144). -/
def addCause (p : PauseCause) (s : State) : State :=
  if s.ret.run.causes.has p then s
  else
    let was := s.ret.run.causes.isEmpty
    let s := setRun { s.ret.run with causes := s.ret.run.causes.put p true } s
    if was then raiseEvent .programPaused (stageArg s) (setRun { s.ret.run with state := .paused } s) else s

/-- A cause is removed: where none remains, the run state becomes RUNNING and PROGRAM_RESUMED is raised (R144). -/
def removeCause (p : PauseCause) (s : State) : State :=
  if s.ret.run.causes.has p then
    let s := setRun { s.ret.run with causes := s.ret.run.causes.put p false } s
    if s.ret.run.causes.isEmpty then
      raiseEvent .programResumed (stageArg s) (setRun { s.ret.run with state := .running } s)
    else s
  else s

/-! ## Bursts (R107, R143) -/

/-- Why the water unit refuses a burst (R107). -/
inductive BurstRefusal where
  | cold | inProgress | blocked
  deriving DecidableEq, Repr

/-- The first cause of R107's table that holds. -/
def burstRefusal (s : State) : Option BurstRefusal :=
  if s.meas.cavity < 1500 then some .cold
  else if holdsDose s .ch1 then some .inProgress
  else if s.scale.level = .blocked then some .blocked
  else none

/-- The volume limited to 10 to 200 ml (R107). -/
def burstVolume (ml : Nat) : Nat := clampNat ml 10 200

/-- The water unit takes a burst request or refuses it, raising STEAM_DEGRADED (R107). -/
def requestBurst (ml : Nat) (s : State) : State :=
  match burstRefusal s with
  | some _ => raiseEvent .steamDegraded none s
  | none =>
    loadDose .ch1 .block .nozzle (sourceFor .program s) (volumePulses (burstVolume ml) s) false .program s

/-- The sequencer cancels a burst that CH1 still holds (R142, R149, R157). -/
def cancelBurst (s : State) : State := if holdsDose s .ch1 then cancelDose .ch1 s else s

/-- A deferred burst is removed. -/
def dropDeferred (s : State) : State := setRun { s.ret.run with deferredBurst := none } s

/-! ## The WATER cause (R146) -/

/-- The current stage needs water (R146). -/
def stageNeedsWater (s : State) : Bool :=
  ((currentStage s).mode.isSteam && !s.ret.run.degraded) || holdsDose s .ch1

/-- A dose of requester BOILER_CONTROL or PROGRAM is SUSPENDED (R146). -/
def steamDoseSuspended (s : State) : Bool :=
  [Chan.ch0, .ch1, .ch2].any
    (fun c =>
      decide ((chan s c).state = .suspended) &&
        (requesterIs .boilerControl (chan s c) || requesterIs .program (chan s c)))

/-- The condition of the WATER cause (R146). -/
def waterConditionHolds (s : State) : Bool :=
  runActive s && stageNeedsWater s && (sourceLow (sourceFor .program s) s || steamDoseSuspended s)

/-- The condition is considered anew: its beginning adds WATER with the timer at 0, its end removes it (R146). -/
def followWater (s : State) : State :=
  let holds := waterConditionHolds s
  if holds = s.seq.waterCondition then s
  else
    let s := { s with seq := { s.seq with waterCondition := holds } }
    if holds then
      withholdSteam true (addCause .water (setRun { s.ret.run with waterTimer := 0 } s))
    else if s.ret.run.causes.water then
      let s := removeCause .water s
      withholdSteam s.ret.run.degraded (setRun { s.ret.run with waterTimer := 0 } s)
    else s

/-! ## Degraded stages (R149) -/

/-- The current stage becomes degraded, if it uses steam and is not degraded already (R149). -/
def degradeStage (s : State) : State :=
  if (currentStage s).usesSteam && !s.ret.run.degraded then
    let s := setRun { s.ret.run with degraded := true, degradedAny := true } s
    let s := withholdSteam true (raiseEvent .steamDegraded (stageArg s) s)
    let s := dropDeferred (cancelBurst s)
    let s := removeCause .water s
    setRun { s.ret.run with waterTimer := 0 } s
  else s

/-- The stage's end condition, its durations apart, is met (R142). -/
def stageEndMet (s : State) : Bool :=
  let r := s.ret.run
  let st := currentStage s
  match st.ending with
  | .time => false
  | .confirm => false
  | .core => r.coreReached
  | .reached =>
    if r.degraded then r.tempReached || decide (st.mode = .steam)
    else if st.mode.hasMoistureLoop then r.tempReached && r.moistReached
    else r.tempReached

/-! ## The end of a run (R157, R158) -/

/-- The last-run record of the run context. -/
def lastRunOf (r : RunContext) (result : RunResult) (fault : Option FaultKind) : LastRun :=
  { runId := r.runId, slot := r.slot, generation := r.generation, result := result, fault := fault
    finalStage := r.stageIndex, runTime := r.runTime, degradedAny := r.degradedAny, steamUsed := r.steamUsed }

/-- The run context while the run is IDLE: causes, timers, flags and the deferred burst are empty, and the slot,
generation, stage and time fields keep the ended run's values (R135). DESIGN CHOICE: so do the adjusted values and the
steam used with its remainder, which R135 names on neither side; degraded any is cleared with the flags
(notes/assumptions/66.md). -/
def RunContext.idle (r : RunContext) : RunContext :=
  { r with
    state := .idle, causes := .none, doorTimer := 0, waterTimer := 0, deferredBurst := none, tempReached := false
    moistReached := false, coreReached := false, degraded := false, steamLost := false, degradedAny := false }

/-- A slot that is IN_USE becomes LOADED (R131). -/
def Slot.release (x : Slot) : Slot := if x.state = .inUse then { x with state := .loaded } else x

/-- A run has entered a stage that uses steam: its stages up to the current one were entered in order (R157). -/
def enteredSteam (s : State) : Bool := programUsesSteam ((runStages s).take (s.ret.run.stageIndex + 1))

/-- The run ends (R157). -/
def endRun (result : RunResult) (fault : Option FaultKind) (s : State) : State :=
  let steamed := enteredSteam s
  let s := dropDeferred (cancelBurst s)
  let s := endCondition .confirmAwaited s
  let last := lastRunOf s.ret.run result fault
  let s :=
    { s with
      ret :=
        { s.ret with
          run := s.ret.run.idle, slots := s.ret.slots.set s.ret.run.slot (s.ret.slots.get s.ret.run.slot).release
          lastRun := some last }
      seq := { s.seq with waterCondition := false } }
  let s := raiseEvent .programEnded (numberArg last.finalStage) s
  let s := endClimate (withholdSteam false s)
  askCommit (if steamed then markDrain true s else s)

/-! ## Fault checks (R150, R151) -/

/-- The fault that ends an active run in the current stage (R151), in the order of the fault set's table. -/
def fatalFault (s : State) : Option FaultKind :=
  if hasFault .thermalCutout s then some .thermalCutout
  else if hasFault .heatRunaway s then some .heatRunaway
  else if hasFault .sensorCavity s then some .sensorCavity
  else if hasFault .fanStall s && (currentStage s).mode.isFan then some .fanStall
  else none

/-- A fault that takes steam from the rest of the run is in the set (R150). -/
def steamFault (s : State) : Bool :=
  hasFault .sensorBoiler s || hasFault .noFlow s || hasFault .boilerDry s || hasFault .levelSense s

/-! ## Stage entry and end (R138, R142) -/

/-- The record of a stage as the sequencer writes it, with the adjusted values of the run (R138, R160). -/
def stageRecord (st : Stage) (r : RunContext) : SentRecord :=
  { mode := st.mode, setpoint := r.adjSetpoint.getD st.setpoint
    moisture := if r.adjMoisture.isSome then r.adjMoisture else st.moisture
    fanCode := st.fanCode, policy := st.policy }

/-- Step 1 of a stage entry (R138). -/
def RunContext.atStage (r : RunContext) (i : Nat) (st : Stage) : RunContext :=
  { r with
    stageIndex := i, elapsed := 0, duration := st.duration, adjSetpoint := none, adjMoisture := none
    tempReached := false, moistReached := false, coreReached := false, degraded := false, deferredBurst := none }

/-- PROBE is present while the stage's end is CORE and the probe is not PRESENT (R147). -/
def followProbe (s : State) : State :=
  if runActive s then
    (if decide ((currentStage s).ending = .core) && !s.meas.probePresent then addCause .probe s
    else removeCause .probe s)
  else s

/-- DOOR is added to the run, with its timer at 0, and the regulator told (R145). -/
def addDoor (s : State) : State :=
  pauseClimate (addCause .door (setRun { s.ret.run with doorTimer := 0 } s))

/-- Step 6 of a stage entry: the causes are considered for the new stage; at START also DOOR and MAINS (R138). DESIGN
CHOICE: WATER is compared with the condition of the new stage alone, so where the ended stage's cancelled burst was all
that held it and the new stage holds it too, it stays, its timer running on (notes/assumptions/65.md). -/
def enterCauses (atStart : Bool) (s : State) : State :=
  let s := followWater (followProbe { s with seq := { s.seq with waterCondition := s.ret.run.causes.water } })
  if atStart then
    let s := if doorOpen s then addDoor s else s
    if s.meas.mainsPresent then s else addCause .mains s
  else s

/-- Step 7 of a stage entry: the stage's burst is requested, or waits as the deferred burst while DOOR is present
(R138, R143). -/
def enterBurst (s : State) : State :=
  match (currentStage s).burst with
  | none => s
  | some ml =>
    if s.ret.run.degraded then s
    else if s.ret.run.causes.door then setRun { s.ret.run with deferredBurst := some ml } s
    else followWater (requestBurst ml s)

/-- A stage is entered (R138); the second answer says whether the entry was carried through. -/
def enterStage (i : Nat) (atStart : Bool) (s : State) : State × Bool :=
  let st := stageAt s i
  let s := setRun (s.ret.run.atStage i st) s
  match fatalFault s with
  | some f => (endRun .fault (some f) s, false)
  | none =>
    let s := if s.ret.run.steamLost then degradeStage s else s
    match stageEntry (stageRecord st s.ret.run) s with
    | (s, none) => (endRun .fault (some .heatRunaway) s, false)
    | (s, some _) =>
      let s := withholdSteam (s.ret.run.causes.water || s.ret.run.degraded) s
      let s := raiseEvent .stageStarted (numberArg i) s
      let s := if st.ending = .confirm then raiseEvent .confirmAwaited (numberArg i) s else s
      (enterBurst (enterCauses atStart s), true)

/-- What ends with a stage: its burst, its deferred burst, the condition of CONFIRM_AWAITED and PROBE (R142). -/
def closeStage (s : State) : State :=
  removeCause .probe (endCondition .confirmAwaited (dropDeferred (cancelBurst s)))

/-- The current stage ends, and with it any stage that is at its end as soon as it is entered; `fuel` bounds the
stages this can take in (R142). -/
def endStages : Nat → State → State
  | 0, s => s
  | fuel + 1, s =>
    let s := closeStage s
    let next := s.ret.run.stageIndex + 1
    if (runStages s).length ≤ next then endRun .completed none s
    else
      match enterStage next false s with
      | (s, true) => if stageEndMet s then endStages fuel s else s
      | (s, false) => s

/-- The current stage ends (R142): a program has at most 12 stages. -/
def endStage (s : State) : State := endStages 12 s

/-- The stage ends if its end condition is met (R142). -/
def checkStageEnd (s : State) : State := if runActive s && stageEndMet s then endStage s else s

/-- The fault checks while a run is active: a fatal fault ends the run (R151), and a water or boiler fault sets steam
lost and degrades the current stage (R150). -/
def checkRunFaults (s : State) : State :=
  if runActive s then
    match fatalFault s with
    | some f => endRun .fault (some f) s
    | none =>
      if steamFault s && !s.ret.run.steamLost then
        checkStageEnd (degradeStage (setRun { s.ret.run with steamLost := true } s))
      else s
  else s

/-! ## The end of a step -/

/-- Every unit whose condition a step may have changed considers it anew, when the step's own changes are made: the
fault checks of the run, the top-up, the WATER cause, the need for the boiler, PREPARE, service forcing, the heater
supply relay's request, WATER_EMPTY and TANK_MISSING, the path, and the step's commit. -/
def settle (s : State) : State :=
  flushCommit
    (arbitrate
      (followWaterConditions
        (renewHeaterRequest (yieldForces (followPrepare (followNeed (followWater (followTopUp (checkRunFaults s)))))))))

end Sys2Proof.Machine
end

