-- ==== Sys2Proof/Machine/Water.lean ====
section
/-! DEFINITION. The rows of the water unit (R85 to R106): flow pulses, the ends of doses and what their requesters
are told, and the boiler controller's own fill, top-up and drain. -/

namespace Sys2Proof.Machine

/-! ## What a requester is told -/

/-- A dose on CH0 to CH2 reached its count (R91, R94, R100, R101, R122). -/
def doseCompleted (c : Chan) (d : Dose) (s : State) : State :=
  match d.requester with
  | .boilerControl =>
    if d.mode = .demand then
      (if highCovered s then enterBoiler .heating s else enterDryFault (enterFault .levelSense s))
    else s
  | .program => s
  | .descale =>
    if c = .ch0 then descaleFillEnded s
    else if s.ret.descale.step = some .flush then enterFill s
    else s
  | .prime =>
    match d.source with
    | none => s
    | some src => resumeSource src s

/-- A dose on CH0 to CH2 faulted on no flow (R92, R100 to R102, R125). -/
def doseFaulted (c : Chan) (d : Dose) (s : State) : State :=
  match d.requester with
  | .boilerControl =>
    if d.mode = .demand then
      enterBoiler (boilerByLevel s) (setBoiler { s.boiler with fillHeld := true } s)
    else setBoiler { s.boiler with topUpHeld := true } s
  | .descale => descaleDoseFaulted c s
  | _ => s

/-- A dose reloaded with its full count (R91). DESIGN CHOICE: portion left, which R91 has set again at the next grant, is
0 until then (notes/assumptions/68.md). -/
def Dose.again (d : Dose) : Dose :=
  { d with remaining := d.base, delivered := 0, charged := 0, portionLeft := 0 }

/-- Terminal count of a dose on CH0 to CH2 (R91). -/
def terminalCount (c : Chan) (s : State) : State :=
  match (chan s c).dose with
  | none => s
  | some d =>
    let s := endNoFlow (doseCompleted c d (endDose c .done s))
    if d.reload && decide ((chan s c).state = .done) then setChan c ⟨.requesting, some d.again⟩ s else s

/-- A SINGLE dose's portion ends (R88). -/
def endPortion (c : Chan) (s : State) : State := setChanState c .requesting (releasePath c (passPulses c s))

/-- BOILER_HIGH becomes covered: the fill ends on its condition (R90, R100), a descale dose is stopped at the high
level (R101) and a top-up is cancelled (R102). -/
def highBecomesCovered (s : State) : State :=
  if holdsFor s .ch0 .boilerControl && modeIs .demand (chan s .ch0) then
    enterBoiler .heating (endDose .ch0 .done s)
  else if holdsFor s .ch0 .descale && decide ((chan s .ch0).state ≠ .suspended) then
    descaleFillEnded (endDose .ch0 .done s)
  else cancelTopUp s

/-- A CH3 drain has ended (R106, R117, R121). DESIGN CHOICE: one that ends with BOILER_LOW covered while the controller
stays in DRY_FAULT leaves the drain-pending mark as it stands, set anew during the drain or not
(notes/assumptions/63.md). -/
def drainEnded (d : Dose) (s : State) : State :=
  let mine := decide (d.requester = .descale) && drainPhase s.ret.descale
  if lowCovered s then
    let s := enterFault .levelSense s
    let s := if s.boiler.state = .dryFault then s else enterBoiler .heating (markDrain false s)
    if mine || decide (s.ret.descale.phase = .prepare) then setStall .level s else s
  else
    let s := if s.boiler.state = .dryFault then s else enterBoiler .empty s
    if mine then descaleDrainDone s else s

/-! ## Flow pulses (R18, R87) -/

/-- A flow pulse edge is accepted (R18). -/
def pulseAccepted (s : State) : Bool := !s.meas.pulseSeen || decide (2 * millisecond ≤ s.meas.pulseAge)

/-- A dose counts one pulse down; in SINGLE mode the portion left falls too (R87). -/
def Dose.count (d : Dose) : Dose :=
  if d.remaining = 0 then d
  else
    { d with
      remaining := d.remaining - 1, delivered := d.delivered + 1
      portionLeft := if d.mode = .single then d.portionLeft - 1 else d.portionLeft }

/-- The first pulse counted to the draw sets the agent marker and asks for a commit (R119, R124). -/
def markAgent (c : Chan) (d : Dose) (s : State) : State :=
  if c = .ch0 ∧ d.requester = .descale ∧ s.ret.descale.phase = .draw ∧ s.marker = false then
    askCommit { s with marker := true }
  else s

/-- A pulse is counted to the RUNNING channel (R87). -/
def countPulse (c : Chan) (d : Dose) (s : State) : State :=
  let d' := d.count
  let s := setDose c d' { s with water := { s.water with noFlowTimer := 0 } }
  let s := markAgent c d s
  if d'.remaining = 0 then terminalCount c s
  else if d'.mode = .single ∧ d'.portionLeft = 0 then endPortion c s
  else s

/-- An accepted pulse arrives at the water unit: with the path FREE or SETTLING it is counted to no dose (R87). -/
def pulseArrives (s : State) : State :=
  match s.water.path with
  | .granted c =>
    match (chan s c).dose with
    | some d => settle (countPulse c d s)
    | none => s
  | _ => s

/-- FLOW_PULSE (R18, R87). -/
def execFlowPulse (s : State) : Host.Outcome State Fault Refusal :=
  if pulseAccepted s then
    .next
      (pulseArrives
        { s with meas := { s.meas with pulseSeen := true, pulseAge := 0, pulseCount := s.meas.pulseCount + 1 } })
  else .next s

/-! ## The path -/

/-- SETTLE_END is due: 500 ms after a release (R85). -/
def settleEndDue (s : State) : Bool :=
  decide (s.water.path = .settling) && decide (500 * millisecond ≤ s.water.settleTimer)

/-- SETTLE_END (R85). -/
def execSettleEnd (s : State) : Host.Outcome State Fault Refusal :=
  if settleEndDue s then .next (arbitrate { s with water := { s.water with path := .free } }) else .next s

/-- NO_FLOW is due: the no-flow timer of the RUNNING channel has reached 4 s (R92). -/
def noFlowDue (s : State) : Bool :=
  (match s.water.path with | .granted _ => true | _ => false) && decide (4 * second ≤ s.water.noFlowTimer)

/-- The RUNNING channel faults on no flow (R92). -/
def faultChannel (c : Chan) (s : State) : State :=
  match (chan s c).dose with
  | none => s
  | some d => settle (doseFaulted c d (endDose c .fault (enterFault .noFlow s)))

/-- NO_FLOW (R92). -/
def execNoFlow (s : State) : Host.Outcome State Fault Refusal :=
  match s.water.path with
  | .granted c => if noFlowDue s then .next (faultChannel c s) else .next s
  | _ => .next s

/-! ## The drain channel (R98) -/

/-- DRAIN_TERMINAL_COUNT is due: the drain runs and its remaining seconds have reached 0. -/
def drainCountDue (s : State) : Bool :=
  decide ((chan s .ch3).state = .running) &&
    (match (chan s .ch3).dose with | some d => decide (d.remaining = 0) | none => false)

/-- DRAIN_TERMINAL_COUNT (R91, R98, R106, R121). -/
def execDrainTerminalCount (s : State) : Host.Outcome State Fault Refusal :=
  match (chan s .ch3).dose with
  | some d => if drainCountDue s then .next (settle (endNoFlow (drainEnded d (endDose .ch3 .done s)))) else .next s
  | none => .next s

/-! ## The boiler controller's own work (R100 to R106) -/

/-- The controller begins its own fill (R100). -/
def boilerFillDue (s : State) : Bool :=
  s.start.ready && decide (s.boiler.state = .empty) && boilerNeeded s && decide (s.ret.descale.phase = .idle) &&
    !hasFault .levelSense s && !s.boiler.fillHeld && !holdsDose s .ch0

/-- BOILER_FILL (R100): a fill whose condition does not hold at the load is DONE at once. -/
def execBoilerFill (s : State) : Host.Outcome State Fault Refusal :=
  if boilerFillDue s then
    let s :=
      loadDose .ch0 .demand .boiler (sourceFor .boilerControl s) (volumePulses s.settings.fillVolume s) false
        .boilerControl s
    let s := enterBoiler .filling s
    .next (settle (if (chan s .ch0).state = .done then enterBoiler .heating s else s))
  else .next s

/-- The controller tops the boiler up (R102). -/
def topUpDue (s : State) : Bool :=
  s.start.ready && (decide (s.boiler.state = .heating) || decide (s.boiler.state = .ready)) && !highCovered s &&
    decide (s.ret.descale.phase = .idle) && !s.boiler.drainPending && !s.boiler.topUpHeld && !holdsDose s .ch0

/-- TOP_UP (R102). -/
def execTopUp (s : State) : Host.Outcome State Fault Refusal :=
  if topUpDue s then
    .next
      (settle
        (loadDose .ch0 .single .boiler (sourceFor .boilerControl s) (volumePulses s.settings.fillVolume s) true
          .boilerControl s))
  else .next s

/-- The controller begins a deferred drain (R106). -/
def boilerDrainDue (s : State) : Bool :=
  s.start.ready && s.boiler.drainPending &&
    (decide (s.boiler.state = .heating) || decide (s.boiler.state = .ready)) && !boilerNeeded s &&
    decide (s.meas.boiler < 800) && !hasFault .sensorBoiler s && (!tankOven s || tankPresent s) && !holdsDose s .ch3

/-- BOILER_DRAIN_START (R106). -/
def execBoilerDrainStart (s : State) : Host.Outcome State Fault Refusal :=
  if boilerDrainDue s then .next (settle (loadDrain .boilerControl s)) else .next s

/-- HEAT_UP_COUNT_EXPIRY is due: the heat-up count has reached 480 × C in HEATING, the descale phase IDLE (R104). -/
def heatUpDue (s : State) : Bool :=
  decide (s.boiler.state = .heating) && decide (s.ret.descale.phase = .idle) &&
    decide (s.meas.frequency ≠ .undecided) && decide (480 * cycles s ≤ s.boiler.heatUp)

/-- HEAT_UP_COUNT_EXPIRY (R104, R105). -/
def execHeatUpCountExpiry (s : State) : Host.Outcome State Fault Refusal :=
  if heatUpDue s then .next (settle (enterDryFault (enterFault .boilerDry s))) else .next s

/-! ## The boiler at the end of a sample period (R99, R105, R198) -/

/-- The derivation of the boiler state when every enabled channel first has ten samples (R108, R198). DEDUCED: it goes by
BOILER_LOW also with BOILER_DRY in the fault set (notes/assumptions/51.md). -/
def deriveBoiler (counted : Bool) (s : State) : State :=
  if counted && !s.boiler.derived then
    setBoiler { s.boiler with derived := true, state := boilerByLevel s, drainPending := lowCovered s, heatUp := 0 } s
  else s

/-- READY at 980, HEATING below 950 (R99). -/
def followBoiling (s : State) : State :=
  if s.boiler.state = .heating ∧ 980 ≤ s.meas.boiler then enterBoiler .ready s
  else if s.boiler.state = .ready ∧ s.meas.boiler < 950 then enterBoiler .heating s
  else s

/-- A reading above 1300 raises BOILER_DRY and enters DRY_FAULT (R105). DEDUCED: before the derivation, until which the
boiler state is EMPTY (R108, R190), it raises BOILER_DRY alone (notes/assumptions/51.md). -/
def checkDry (s : State) : State :=
  if 1300 < s.meas.boiler ∧ hasFault .sensorBoiler s = false ∧ s.boiler.state ≠ .dryFault then
    let s := enterFault .boilerDry s
    if s.boiler.derived then enterDryFault s else s
  else s

end Sys2Proof.Machine
end

