-- ==== Sys2Proof/Machine/Measurement.lean ====
section
/-! DEFINITION. The measurement unit (R1 to R14, R16, R19): conversion, filters, sensor states, derived readings,
fan speed and the mains monitor's timeouts, with the rows SAMPLE_PERIOD, TACHO_EDGE, TACHO_TIMEOUT,
ZERO_CROSS_GROUP_TIMEOUT and FREQUENCY_TIMEOUT. ZERO_CROSS is in Machine/Windows.lean. -/

namespace Sys2Proof.Machine

/-- Replaces the measurement unit. -/
def setMeas (m : Measurement) (s : State) : State := { s with meas := m }

/-! ## Conversion (R2, R3) -/

/-- The breakpoints of type R. -/
def tableR : List (Nat × Int) := [(61, -400), (1000, 500), (2000, 1450), (3000, 2350), (3999, 3200)]

/-- The breakpoints of type N. -/
def tableN : List (Nat × Int) := [(61, 3200), (800, 1500), (1800, 800), (3000, 300), (3999, -400)]

/-- The breakpoints of type M. -/
def tableM : List (Nat × Int) := [(200, 0), (3800, 1000)]

/-- Linear interpolation over a breakpoint table; beyond either end the end's value. -/
def interpolate : List (Nat × Int) → Nat → Int
  | [], _ => 0
  | [(_, x)], _ => x
  | (a, x) :: (b, y) :: rest, raw =>
    if raw ≤ a then x
    else if raw ≤ b then x + truncDiv (((raw : Int) - a) * (y - x)) ((b : Int) - a)
    else interpolate ((b, y) :: rest) raw

/-- A classified sample; an IN_RANGE one carries the sample value handed to the filter. -/
inductive Sample where
  | opened | shorted | inRange (value : Int)
  deriving DecidableEq, Repr

/-- Classification, conversion, offset and clamp of one raw value. -/
def convert (table : List (Nat × Int)) (lo hi offset : Int) (raw : BitVec 12) : Sample :=
  if 4000 ≤ raw.toNat then .opened
  else if raw.toNat ≤ 60 then .shorted
  else .inRange (clampInt (interpolate table raw.toNat + offset) lo hi)

/-- A sample of a type R channel. -/
def convertR (offset : Int) (raw : BitVec 12) : Sample := convert tableR (-400) 3200 offset raw

/-- A sample of a type N channel. -/
def convertN (offset : Int) (raw : BitVec 12) : Sample := convert tableN (-400) 3200 offset raw

/-- A sample of the type M channel. -/
def convertM (offset : Int) (raw : BitVec 12) : Sample := convert tableM 0 1000 offset raw

/-! ## Filters and sensor states (R4 to R6) -/

/-- A filter's value and loaded mark after a sample value (R4). -/
def filterStep (x old : Int) (loaded : Bool) : Int := if loaded then old + truncDiv (x - old) 4 else x

/-- A good sample; `reading` is none where it unloads the filter instead of updating it (R4, R6, R10). DESIGN CHOICE: at the
return to OK the good count becomes 0 and the shadow filter is unloaded (notes/assumptions/59.md). -/
def SampleChannel.takeGood (reading : Option Int) (c : SampleChannel) : SampleChannel :=
  match c.state with
  | .ok =>
    match reading with
    | none => { c with bad := 0, loaded := false }
    | some x => { c with bad := 0, value := filterStep x c.value c.loaded, loaded := true }
  | .faulted =>
    let shadow := match reading with | none => c.shadow | some x => filterStep x c.shadow c.shadowLoaded
    if 10 ≤ c.good + 1 then
      { c with
        state := .ok, value := shadow, loaded := reading.isSome, bad := 0, good := 0, shadow := shadow
        shadowLoaded := false }
    else { c with good := c.good + 1, shadow := shadow, shadowLoaded := reading.isSome }

/-- A bad sample (R4, R5). DESIGN CHOICE: the consecutive bad count is 0 from the entry of FAULTED on
(notes/assumptions/59.md). -/
def SampleChannel.takeBad (c : SampleChannel) : SampleChannel :=
  match c.state with
  | .ok =>
    if 3 ≤ c.bad + 1 then { c with state := .faulted, bad := 0, good := 0, shadowLoaded := false }
    else { c with bad := c.bad + 1 }
  | .faulted => { c with good := 0, shadowLoaded := false }

/-- The sample count of a conversion (R1). -/
def SampleChannel.counted (c : SampleChannel) : SampleChannel := { c with count := min (c.count + 1) 10 }

/-- One conversion of a cavity, boiler or moisture channel. -/
def SampleChannel.take (x : Sample) (c : SampleChannel) : SampleChannel :=
  match x with
  | .inRange v => c.counted.takeGood (some v)
  | .opened => c.counted.takeBad
  | .shorted => c.counted.takeBad

/-- One conversion of a core point (R10). -/
def SampleChannel.takeCore (x : Sample) (c : SampleChannel) : SampleChannel :=
  match x with
  | .inRange v => c.counted.takeGood (some v)
  | .opened => c.counted.takeGood none
  | .shorted => c.counted.takeBad

/-- A core point's run counts after a sample (R10). -/
def CoreRuns.take (x : Sample) (r : CoreRuns) : CoreRuns :=
  match x with
  | .inRange _ => ⟨min (r.inRange + 1) 10, 0⟩
  | .opened => ⟨0, min (r.openRun + 1) 10⟩
  | .shorted => ⟨0, 0⟩

/-! ## Derived readings (R7 to R12) -/

/-- A channel is FAULTED. -/
def SampleChannel.isFaulted (c : SampleChannel) : Bool := decide (c.state = .faulted)

/-- The cavity reading; `old` is the reading of the period before (R7). -/
def cavityReading (upper lower : SampleChannel) (old : Int) : Int :=
  match upper.state, lower.state with
  | .ok, .ok => truncDiv (upper.value + lower.value) 2
  | .ok, .faulted => upper.value
  | .faulted, .ok => lower.value
  | .faulted, .faulted => old

/-- The moisture reading of a filtered value (R9). -/
def moistureReading (filtered : Int) : Int := truncDiv (filtered + 5) 10

/-- The filtered value of a core point that is in range; its latest sample was IN_RANGE where its in-range run is
not 0 (R10). -/
def pointInRange (c : SampleChannel) (r : CoreRuns) : Option Int :=
  if c.state = .ok ∧ c.loaded = true ∧ 0 < r.inRange then some c.value else none

/-- The lowest of the values present; `old` where none is (R12). -/
def lowest (old : Int) : List (Option Int) → Int
  | [] => old
  | none :: rest => lowest old rest
  | some x :: rest => if rest.any Option.isSome then min x (lowest old rest) else x

/-- The probe state after a period (R11). -/
def probeAfter (present : Bool) (a b c : CoreRuns) : Bool :=
  if present then !(decide (a.openRun = 10) && decide (b.openRun = 10) && decide (c.openRun = 10))
  else decide (a.inRange = 10) || decide (b.inRange = 10) || decide (c.inRange = 10)

/-- The core points' share of a period: nothing changes while PROBE_FITTED reads no (R1, R10 to R12). -/
def measureCore (fitted : Bool) (offsets : Offsets) (raw : RawSamples) (m : Measurement) : Measurement :=
  if fitted then
    let a := convertN offsets.coreA raw.coreA
    let b := convertN offsets.coreB raw.coreB
    let c := convertN offsets.coreC raw.coreC
    let chans :=
      { m.chans with
        coreA := m.chans.coreA.takeCore a, coreB := m.chans.coreB.takeCore b, coreC := m.chans.coreC.takeCore c }
    let ra := m.runsA.take a
    let rb := m.runsB.take b
    let rc := m.runsC.take c
    { m with
      chans := chans, runsA := ra, runsB := rb, runsC := rc
      core := lowest m.core [pointInRange chans.coreA ra, pointInRange chans.coreB rb, pointInRange chans.coreC rc]
      probePresent := probeAfter m.probePresent ra rb rc }
  else m

/-- The period's conversions, filters and readings (R1 to R12). -/
def measure (fitted : Bool) (offsets : Offsets) (raw : RawSamples) (m : Measurement) : Measurement :=
  let m := measureCore fitted offsets raw m
  let chans :=
    { m.chans with
      cavityUpper := m.chans.cavityUpper.take (convertR offsets.cavityUpper raw.cavityUpper)
      cavityLower := m.chans.cavityLower.take (convertR offsets.cavityLower raw.cavityLower)
      boiler := m.chans.boiler.take (convertR offsets.boiler raw.boiler)
      moisture := m.chans.moisture.take (convertM offsets.moisture raw.moisture) }
  { m with
    sampleClock := m.sampleClock - 100 * millisecond
    chans := chans, cavity := cavityReading chans.cavityUpper chans.cavityLower m.cavity
    boiler := chans.boiler.value, moisture := moistureReading chans.moisture.value }

/-- The sensor faults follow the sensor states (R7 to R9). DESIGN CHOICE: where several change in one period they reach
the fault set in the order cavity, boiler, moisture, since R170 lets either of two be taken first
(notes/assumptions/8.md). -/
def followSensors (s : State) : State :=
  let c := s.meas.chans
  followFault .moistureSensor c.moisture.isFaulted
    (followFault .sensorBoiler c.boiler.isFaulted
      (followFault .sensorCavity (c.cavityUpper.isFaulted && c.cavityLower.isFaulted) s))

/-- The probe state's change is raised (R11); `was` is the state before the period. -/
def raiseProbe (was : Bool) (s : State) : State :=
  if was = s.meas.probePresent then s
  else if s.meas.probePresent then raiseEvent .probeInserted none s
  else raiseEvent .probeRemoved none s

/-- SENSOR_CAVITY began in this period: the regulator in PREHEAT, HOLD or PAUSED posts zeros (R29). -/
def beginCavityFault (before s : State) : State :=
  if hasFault .sensorCavity s && !hasFault .sensorCavity before &&
      (working s || decide (s.climate.state = .paused)) then postZeros s
  else s

/-- SENSOR_BOILER began or ended in this period: the boiler's demand is posted (R103). -/
def changeBoilerFault (before s : State) : State :=
  if hasFault .sensorBoiler before = hasFault .sensorBoiler s then s else postBoiler s

/-- Every enabled channel has ten samples (R198). -/
def allCounted (s : State) : Bool :=
  let c := s.meas.chans
  decide (c.cavityUpper.count = 10) && decide (c.cavityLower.count = 10) && decide (c.boiler.count = 10) &&
    decide (c.moisture.count = 10) &&
    (!s.start.straps.probeFitted ||
      (decide (c.coreA.count = 10) && decide (c.coreB.count = 10) && decide (c.coreC.count = 10)))

/-- The core reading reaches the target of a CORE stage (R141). -/
def testCore (s : State) : State :=
  match (currentStage s).core with
  | none => s
  | some target =>
    if runActive s && decide ((currentStage s).ending = .core) && s.meas.probePresent && !s.ret.run.coreReached &&
        decide (target ≤ s.meas.core) then
      raiseEvent .coreReached (stageArg s) (setRun { s.ret.run with coreReached := true } s)
    else s

/-- What the other units do with the readings of a period: the regulator, the boiler controller, the sequencer. -/
def afterReadings (before s : State) : State :=
  let s := climateSample (changeBoilerFault before (beginCavityFault before s))
  let s := checkDry (followBoiling (deriveBoiler (allCounted s) s))
  checkStageEnd (testCore (followProbe s))

/-- A sample period is due: at the end of the reset and every 100 ms after it (R1). -/
def samplePeriodDue (s : State) : Bool := decide (100 * millisecond ≤ s.meas.sampleClock)

/-- The readings of a period with the faults and probe events they raise. -/
def takePeriod (raw : RawSamples) (s : State) : State :=
  raiseProbe s.meas.probePresent
    (followSensors (setMeas (measure s.start.straps.probeFitted s.settings.offsets raw s.meas) s))

/-- SAMPLE_PERIOD (R1). -/
def execSamplePeriod (raw : RawSamples) (s : State) : Host.Outcome State Fault Refusal :=
  if samplePeriodDue s then .next (settle (afterReadings s (takePeriod raw s))) else .next s

/-! ## Fan speed (R13, R14) -/

/-- A tacho edge is accepted. -/
def tachoAccepted (m : Measurement) : Bool := !m.tachoSeen || decide (millisecond ≤ m.tachoAge)

/-- The speed of a captured period; the capture saturates at 1,048,575 µs. -/
def speedOf (period : Nat) : Nat :=
  if 1000000 < min period 1048575 then 0 else 30000000 / min period 1048575

/-- TACHO_EDGE (R13): the first accepted edge captures nothing. -/
def execTachoEdge (s : State) : Host.Outcome State Fault Refusal :=
  if tachoAccepted s.meas then
    .next
      (setMeas
        { s.meas with
          speed := if s.meas.tachoSeen then speedOf s.meas.tachoAge else s.meas.speed
          tachoSeen := true, tachoAge := 0 } s)
  else .next s

/-- TACHO_TIMEOUT is due: 500 ms since the last accepted edge, or since the reset. -/
def tachoTimeoutDue (s : State) : Bool := decide (500 * millisecond ≤ s.meas.tachoAge)

/-- TACHO_TIMEOUT (R14). -/
def execTachoTimeout (s : State) : Host.Outcome State Fault Refusal :=
  if tachoTimeoutDue s then .next (setMeas { s.meas with speed := 0 } s) else .next s

/-! ## The mains monitor's timeouts (R16) -/

/-- ZERO_CROSS_GROUP_TIMEOUT is due: 30,000 µs without an accepted edge while the frequency is NONE. -/
def groupTimeoutDue (s : State) : Bool :=
  decide (s.meas.frequency = .undecided) && s.meas.edgeMeasures && decide (30 * millisecond ≤ s.meas.edgeAge)

/-- ZERO_CROSS_GROUP_TIMEOUT (R16): the next accepted edge captures nothing. -/
def execZeroCrossGroupTimeout (s : State) : Host.Outcome State Fault Refusal :=
  if groupTimeoutDue s then
    .next (setMeas { s.meas with groupSum := 0, groupCount := 0, edgeMeasures := false } s)
  else .next s

/-- FREQUENCY_TIMEOUT is due: the frequency is still NONE 2 s after the reset ended. -/
def frequencyTimeoutDue (s : State) : Bool :=
  decide (s.meas.frequency = .undecided) && !s.meas.frequencyWaitOver && decide (2 * second ≤ s.now)

/-- FREQUENCY_TIMEOUT (R16): MAINS_LOST is raised and the STARTING state's wait for the frequency ends. -/
def execFrequencyTimeout (s : State) : Host.Outcome State Fault Refusal :=
  if frequencyTimeoutDue s then .next (enterFault .mainsLost (setMeas { s.meas with frequencyWaitOver := true } s))
  else .next s

end Sys2Proof.Machine
end

