-- ==== Sys2Proof/Machine/PowerShare.lean ====
section
/-! DEFINITION. The power share arbiter (R48 to R62): the allocation, worked out when it begins and handed on when it
ends, and the row ALLOCATION_END. -/

namespace Sys2Proof.Machine

/-- Replaces the arbiter. -/
def setShare (p : PowerShare) (s : State) : State := { s with share := p }

/-! ## The profile (R51, R55) -/

/-- The smallest figure's test over a stretch: every cycle from `start` on, `len` of them, holds at most `room`. -/
def stretchFits (profile : List Nat) (room start len : Nat) : Bool :=
  ((profile.drop start).take len).all (fun w => decide (w ≤ room))

/-- The smallest start at which a run of `len` cycles fits. -/
def findStart (profile : List Nat) (room len : Nat) : Option Nat :=
  (List.range (profile.length + 1 - len)).find? (fun start => stretchFits profile room start len)

/-- The longest run of at most `d` cycles that fits, at its earliest start; empty where none does (R55). -/
def searchRun (profile : List Nat) (room : Nat) : Nat → Run
  | 0 => .empty
  | g + 1 =>
    match findStart profile room (g + 1) with
    | some start => ⟨start, g + 1⟩
    | none => searchRun profile room g

/-- Adds `watts` to each cycle of a run, on the cycles from `i` on. -/
def addPower (r : Run) (watts : Nat) : Nat → List Nat → List Nat
  | _, [] => []
  | i, w :: rest => (if r.covers i then w + watts else w) :: addPower r watts (i + 1) rest

/-! ## The grant order (R53 to R55) -/

/-- The order in which the allocation visits the loads (R53). -/
def grantOrder : Policy → List Load
  | .steamFirst => [.boiler, .ring, .top, .bottom, .grill]
  | .heatFirst => [.ring, .top, .bottom, .grill, .boiler]

/-- An allocation in progress: the profile and the results so far. -/
structure Laying where
  profile : List Nat
  result : Allocation
  deriving DecidableEq, Repr

/-- One load's results. -/
def Allocation.record (l : Load) (run : Run) (granted shortfall : Nat) (mark : Bool) (a : Allocation) : Allocation :=
  { a with
    runs := a.runs.set l run, granted := a.granted.set l granted, shortfalls := a.shortfalls.set l shortfall
    marks := a.marks.set l mark }

/-- One load is visited (R53 to R55), in a window of `c` cycles. -/
def visit (c : Nat) (limits : Limits) (demands : PerLoad Nat) (a : Laying) (l : Load) : Laying :=
  let d := demands.get l
  let watts := limits.ratings.get l
  if a.result.placed = some l then { a with result := a.result.record l .empty c 0 false }
  else if d = 0 then { a with result := a.result.record l .empty 0 0 false }
  else if limits.headroom < watts then { a with result := a.result.record l .empty 0 d true }
  else
    let run := searchRun a.profile (limits.headroom - watts) d
    { profile := addPower run watts 0 a.profile
      result := a.result.record l run run.length (d - run.length) false }

/-- The profile and the results before the first visit: the forced claim, where it fits, on every cycle (R52). -/
def layClaim (c : Nat) (limits : Limits) (claim : Option Load) : Laying :=
  let placed := claim.filter (fun l => decide (limits.ratings.get l ≤ limits.headroom))
  { profile := List.replicate c (match placed with | none => 0 | some l => limits.ratings.get l)
    result :=
      { runs := .all .empty, granted := .all 0, shortfalls := .all 0, marks := .all false, placed := placed } }

/-- A whole allocation (R51 to R55). -/
def allocate (c : Nat) (limits : Limits) (demands : PerLoad Nat) (policy : Policy) (claim : Option Load) : Laying :=
  (grantOrder policy).foldl (visit c limits demands) (layClaim c limits claim)

/-! ## Beginning and ending an allocation -/

/-- The output that stands for a heat load. -/
def loadOutput : Load → Output
  | .top => .top
  | .bottom => .bottom
  | .ring => .ring
  | .grill => .grill
  | .boiler => .boiler

/-- A claim that was not placed is refused, which ends the force (R52, R80). -/
def refuseClaim (placed claim : Option Load) (s : State) : State :=
  match claim with
  | none => s
  | some l => if placed = some l then s else removeForce (loadOutput l) s

/-- An allocation begins (R49, R51): it takes the limits from the settings, and reads the demand table, the policy
and the forced claim. -/
def beginAllocation (s : State) : State :=
  let limits := limitsOf s.start.straps s.settings
  let a := (allocate (cycles s) limits s.share.demands (policyInForce s) s.share.claim).result
  refuseClaim a.placed s.share.claim (setShare { s.share with prepared := limits, allocation := some a } s)

/-- A grant for a channel is discarded on arrival (R64). -/
def grantDiscarded (l : Load) (s : State) : Bool :=
  !s.meas.mainsPresent || cutoutOpen s || (if l.isCavity then doorOpen s else !lowCovered s)

/-- A grant reaches its channel (R64): it replaces the pending run, or is discarded and leaves it empty. -/
def writeGrant (a : Allocation) (s : State) (l : Load) : State :=
  let run := if grantDiscarded l s || decide ((a.runs.get l).length = 0) then Run.empty else a.runs.get l
  { s with out := { s.out with heat := s.out.heat.set l { s.out.heat.get l with pending := run } } }

/-- The five loads. -/
def allLoads : List Load := [.top, .bottom, .ring, .grill, .boiler]

/-- The entry whose claim an allocation placed is marked to fire from the next window start (R80). -/
def markPlaced (placed : Option Load) (e : ForceEntry) : ForceEntry :=
  if (outputLoad e.output).isSome ∧ outputLoad e.output = placed ∧ e.phase = .placing then { e with phase := .marked }
  else e

/-- The boiler controller takes its report (R57, R104). DESIGN CHOICE: outside HEATING, and in HEATING with the descale
phase not IDLE, the heat-up count keeps its last value (notes/assumptions/71.md). -/
def reportBoiler (shortfall granted : Nat) (s : State) : State :=
  setBoiler
    { s.boiler with
      shortfall := shortfall
      heatUp :=
        if s.boiler.state = .heating ∧ s.ret.descale.phase = .idle then s.boiler.heatUp + granted
        else s.boiler.heatUp } s

/-- A load is marked over budget. -/
def anyMark (m : PerLoad Bool) : Bool := m.top || m.bottom || m.ring || m.grill || m.boiler

/-- An allocation ends (R56 to R58). -/
def endAllocation (a : Allocation) (s : State) : State :=
  let s := allLoads.foldl (writeGrant a) s
  let s := setShare { s.share with preparedGrants := a.granted, marks := a.marks, allocation := none } s
  let s := { s with out := { s.out with forces := s.out.forces.map (markPlaced a.placed) } }
  let s := setClimate { s.climate with shortfall := a.shortfalls.cavity } s
  let s := reportBoiler a.shortfalls.boiler a.granted.boiler s
  followFault .loadOverBudget (anyMark a.marks) s

/-- An allocation that has begun ends. -/
def finishAllocation (s : State) : State :=
  match s.share.allocation with
  | none => s
  | some a => endAllocation a s

/-- ALLOCATION_END (R56): with no allocation in progress nothing changes. -/
def execAllocationEnd (s : State) : Host.Outcome State Fault Refusal := .next (finishAllocation s)

end Sys2Proof.Machine
end

