-- ==== Sys2Proof/Machine/Windows.lean ====
section
/-! DEFINITION. Zero-crossings and windows (R15 to R17, R63 to R65): the rows ZERO_CROSS and MAINS_LOST. -/

namespace Sys2Proof.Machine

/-! ## Window starts (R63) -/

/-- A channel adopts its pending run (R64). -/
def HeatChannel.adopt (h : HeatChannel) : HeatChannel := { h with active := h.pending, pending := .empty }

/-- A marked entry of the force table fires from this window start on (R80). -/
def ForceEntry.startFiring (e : ForceEntry) : ForceEntry := if e.phase = .marked then { e with phase := .firing } else e

/-- What a window start adopts: pending runs, prepared limits and grants, marked forces (R49, R56, R64, R80). -/
def adoptWindow (s : State) : State :=
  { s with
    windows := s.windows + 1
    out :=
      { s.out with
        heat := s.out.heat.map HeatChannel.adopt, forces := s.out.forces.map ForceEntry.startFiring }
    share := { s.share with window := s.share.prepared, currentGrants := s.share.preparedGrants } }

/-- The window start reaches the regulator, the boiler controller and the arbiter. The two free values say which
posts the arbiter's allocation finds (R33, R50). -/
def windowUnits (s : State) : State × ReachedReport :=
  let n := s.windows
  if Config.regulatorBeforeAllocation n then
    let (s, report) := regulatorWindow s
    if Config.boilerBeforeAllocation n then (beginAllocation (postBoiler s), report)
    else (postBoiler (beginAllocation s), report)
  else
    let s := if Config.boilerBeforeAllocation n then beginAllocation (postBoiler s) else beginAllocation s
    let (s, report) := regulatorWindow s
    (if Config.boilerBeforeAllocation n then s else postBoiler s, report)

/-- A window start: an allocation that has not ended ends before the window it prepares begins (R51). -/
def windowStart (s : State) : State × ReachedReport := windowUnits (adoptWindow (finishAllocation s))

/-! ## Zero-crossings (R65, R69, R70) -/

/-- A cavity channel's active run covers a cycle. -/
def cavityCalled (c : Nat) (s : State) : Bool :=
  s.out.heat.top.active.covers c || s.out.heat.bottom.active.covers c || s.out.heat.ring.active.covers c ||
    s.out.heat.grill.active.covers c

/-- The heater supply relay's load condition at the first zero-crossing of cycle `c` (R70). -/
def heaterRelayFree (c : Nat) (s : State) : Bool :=
  decide (s.out.heaterRelay.state = .opened) || (!cavityCalled c s && !forcedCavity s)

/-- The heater supply relay at a zero-crossing that begins a cycle (R70). -/
def relayAtZeroCross (c : Nat) (s : State) : State :=
  if s.out.heaterRelay.mayChange && heaterRelayFree c s then
    setRelay .heaterSupply s.out.heaterRelay.startChange s
  else s

/-- Every gate of a channel is open (R65). -/
def gatesOpen (l : Load) (s : State) : Bool :=
  !cutoutOpen s && (if l.isCavity then !doorOpen s && heaterClosed s else lowCovered s)

/-- A load is triggered for a half-cycle of cycle `c` (R65). -/
def fires (l : Load) (c : Nat) (s : State) : Bool :=
  ((s.out.heat.get l).active.covers c || forcedFiring l s) && gatesOpen l s

/-- Each heat channel triggers its load or does not (R65). -/
def fireHalfCycle (c : Nat) (s : State) : State :=
  { s with
    out :=
      { s.out with
        heat :=
          { top := { s.out.heat.top with fired := fires .top c s }
            bottom := { s.out.heat.bottom with fired := fires .bottom c s }
            ring := { s.out.heat.ring with fired := fires .ring c s }
            grill := { s.out.heat.grill with fired := fires .grill c s }
            boiler := { s.out.heat.boiler with fired := fires .boiler c s } } } }

/-- The sequencer takes the regulator's reports (R39, R40, R141, R142). -/
def takeReports (r : ReachedReport) (s : State) : State :=
  if runActive s then
    let s := if r.temp then raiseEvent .tempReached (stageArg s) (setRun { s.ret.run with tempReached := true } s) else s
    let s := if r.moist then setRun { s.ret.run with moistReached := true } s else s
    checkStageEnd s
  else s

/-- The half-cycle a zero-crossing begins (R63). -/
def nextHalfCycle (s : State) : Nat :=
  match s.out.halfCycle with
  | none => 0
  | some h => if 2 * cycles s ≤ h + 1 then 0 else h + 1

/-- A zero-crossing is handed to the output timing unit (R17, R63, R65, R70). -/
def handEdge (s : State) : State :=
  let h := nextHalfCycle s
  let s := { s with out := { s.out with halfCycle := some h } }
  let (s, report) := if h = 0 then windowStart s else (s, ⟨false, false⟩)
  let s := if h % 2 = 0 then relayAtZeroCross (h / 2) s else s
  settle (takeReports report (fireHalfCycle (h / 2) s))

/-! ## The mains state (R15 to R17) -/

/-- The mains state becomes PRESENT: MAINS_LOST ends, MAINS leaves the pause causes, and the outage timer stops
(R17, R148, R193). -/
def mainsReturns (s : State) : State :=
  let s := leaveFault .mainsLost (setMeas { s.meas with mainsPresent := true } s)
  let s := { s with start := { s.start with outageTimer := 0 } }
  if runActive s then removeCause .mains s else s

/-- The frequency an average half-period gives (R16). -/
def frequencyOf (average : Nat) : Frequency :=
  if 9000 ≤ average ∧ average ≤ 11000 then .hz50
  else if 7500 ≤ average ∧ average ≤ 8999 then .hz60
  else .undecided

/-- A captured half-period joins the decision group; a group of 16 decides or is emptied (R16). DESIGN CHOICE: the group
that decides is emptied too, where R16 empties the others alone (notes/assumptions/60.md). -/
def joinGroup (period : Nat) (m : Measurement) : Measurement :=
  if m.groupCount + 1 < 16 then { m with groupSum := m.groupSum + period, groupCount := m.groupCount + 1 }
  else { m with groupSum := 0, groupCount := 0, frequency := frequencyOf ((m.groupSum + period) / 16) }

/-- A zero-cross edge is accepted (R15). -/
def edgeAccepted (m : Measurement) : Bool := !m.edgeSeen || decide (5 * millisecond ≤ m.edgeAge)

/-- An accepted edge starts the next half-period. -/
def Measurement.edgeTaken (m : Measurement) : Measurement :=
  { m with edgeSeen := true, edgeMeasures := true, edgeAge := 0 }

/-- An accepted edge while the frequency is NONE (R16). -/
def undecidedEdge (s : State) : State :=
  if s.meas.edgeMeasures then
    let m := joinGroup s.meas.edgeAge s.meas.edgeTaken
    if m.frequency = .undecided then setMeas m s else handEdge (mainsReturns (setMeas m s))
  else setMeas s.meas.edgeTaken s

/-- An accepted edge once the frequency is decided (R17). -/
def decidedEdge (s : State) : State :=
  let s := setMeas s.meas.edgeTaken s
  handEdge (if s.meas.mainsPresent then s else mainsReturns s)

/-- ZERO_CROSS (R15). -/
def execZeroCross (s : State) : Host.Outcome State Fault Refusal :=
  if edgeAccepted s.meas then
    .next (if s.meas.frequency = .undecided then undecidedEdge s else decidedEdge s)
  else .next s

/-- MAINS_LOST is due: 30,000 µs without an accepted edge, the frequency decided (R17). -/
def mainsLostDue (s : State) : Bool :=
  decide (s.meas.frequency ≠ .undecided) && s.meas.mainsPresent && decide (30 * millisecond ≤ s.meas.edgeAge)

/-- A FIRING entry returns to PLACING, and a marked one is marked anew by the next placing allocation (R80). -/
def ForceEntry.toPlacing (e : ForceEntry) : ForceEntry := { e with phase := .placing }

/-- No load is triggered. -/
def HeatChannel.dark (h : HeatChannel) : HeatChannel := { h with fired := false }

/-- The output timing unit's share of a loss: the count, the runs, the firing and the forces (R63, R80). -/
def stopWindows (s : State) : State :=
  let s := cutAll s
  { s with
    out :=
      { s.out with
        halfCycle := none, heat := s.out.heat.map HeatChannel.dark
        forces := s.out.forces.map ForceEntry.toPlacing } }

/-- The charging point of the channel that holds the path (R96). -/
def chargePath (s : State) : State :=
  match s.water.path with
  | .granted c => passPulses c s
  | _ => s

/-- The RUNNING channels' charging point at a loss, a running drain's included (R96). -/
def chargeRunning (s : State) : State :=
  let s := chargePath s
  if (chan s .ch3).state = .running then passPulses .ch3 s else s

/-- What the loss does in every unit (R17, R60, R63, R96, R148, R193, R196). -/
def loseMains (s : State) : State :=
  let s := enterFault .mainsLost (setMeas { s.meas with mainsPresent := false } s)
  let s := stopWindows s
  let s := setShare { s.share with currentGrants := .all 0, preparedGrants := .all 0, allocation := none } s
  let s := chargeRunning s
  let s := if runActive s then addCause .mains s else s
  askCommit { s with start := { s.start with outageTimer := 0 } }

/-- MAINS_LOST (R17). -/
def execMainsLost (s : State) : Host.Outcome State Fault Refusal :=
  if mainsLostDue s then .next (settle (loseMains s)) else .next s

end Sys2Proof.Machine
end

