-- ==== Sys2Proof/Machine/OutputTiming.lean ====
section
/-! DEFINITION. The rows of the output timing unit that its own timers enable: relays, fan drive, vent flap, lamp,
forces and pulses (R69 to R82), and the regulator's reversal timer (R45). -/

namespace Sys2Proof.Machine

/-! ## Relays (R69 to R71) -/

/-- The load condition under which a relay's change starts on its own: the fan direction relay at duty 0, the heater
supply relay while mains is LOST (R70, R71). While mains is PRESENT the heater supply relay changes at a zero-crossing
(Machine/Windows.lean). -/
def relayFree (r : RelayId) (s : State) : Bool :=
  match r with
  | .heaterSupply => !s.meas.mainsPresent
  | .fanDirection => decide (s.out.fan.duty = 0)

/-- RELAY_CHANGE_START is due. -/
def relayChangeDue (r : RelayId) (s : State) : Bool := (relay s r).mayChange && relayFree r s

/-- RELAY_CHANGE_START (R69). -/
def execRelayChangeStart (r : RelayId) (s : State) : Host.Outcome State Fault Refusal :=
  if relayChangeDue r s then .next (setRelay r (relay s r).startChange s) else .next s

/-- The relay is CLOSING or OPENING. -/
def Relay.moving (x : Relay) : Bool := decide (x.state = .closing) || decide (x.state = .opening)

/-- RELAY_CONTACT_END is due: 30 ms after the change started. -/
def relayContactDue (r : RelayId) (s : State) : Bool :=
  (relay s r).moving && decide (30 * millisecond ≤ (relay s r).timer)

/-- The relay enters CLOSED or OPEN and its recovery begins. -/
def Relay.endChange (x : Relay) : Relay :=
  { x with state := if x.state = .closing then .closed else .opened, timer := 0, recovering := true }

/-- RELAY_CONTACT_END (R69): the direction relay's new state ends the reversal (R75). -/
def execRelayContactEnd (r : RelayId) (s : State) : Host.Outcome State Fault Refusal :=
  if relayContactDue r s then
    let s := setRelay r (relay s r).endChange s
    .next (match r with | .heaterSupply => s | .fanDirection => endReversal s)
  else .next s

/-- RELAY_RECOVERY_END is due: 2 s in OPEN or CLOSED. -/
def relayRecoveryDue (r : RelayId) (s : State) : Bool :=
  (relay s r).recovering && !(relay s r).moving && decide (2 * second ≤ (relay s r).timer)

/-- RELAY_RECOVERY_END (R69). -/
def execRelayRecoveryEnd (r : RelayId) (s : State) : Host.Outcome State Fault Refusal :=
  if relayRecoveryDue r s then .next (setRelay r { relay s r with recovering := false } s) else .next s

/-! ## The fan drive (R45, R72 to R75) -/

/-- FAN_TICK is due: every 200 ms from the end of the reset. -/
def fanTickDue (s : State) : Bool := decide (200 * millisecond ≤ s.out.fan.tickClock)

/-- The duty after a tick in RUNNING (R72). -/
def nextDuty (code speed duty : Nat) : Nat :=
  (clampInt ((duty : Int) + truncDiv ((targetSpeed code : Int) - speed) 4) 0 1000).toNat

/-- FAN_TICK (R72). -/
def execFanTick (s : State) : Host.Outcome State Fault Refusal :=
  if fanTickDue s then
    let f := s.out.fan
    .next
      (setFan
        { f with
          tickClock := f.tickClock - 200 * millisecond
          duty := if f.phase = .running then nextDuty f.code s.meas.speed f.duty else f.duty } s)
  else .next s

/-- FAN_STALL is due: the stall timer has reached 2 s in RUNNING. -/
def fanStallDue (s : State) : Bool :=
  decide (s.out.fan.phase = .running) && decide (2 * second ≤ s.out.fan.stallTimer)

/-- FAN_STALL (R74). -/
def execFanStall (s : State) : Host.Outcome State Fault Refusal :=
  if fanStallDue s then .next (settle (setFan s.out.fan.stop (enterFault .fanStall s))) else .next s

/-- The reversal period of the record's mode, in microseconds; 0 with no record. -/
def reversalPeriod (s : State) : Nat :=
  match s.climate.record with
  | none => 0
  | some r => (modeRow r.mode).reversal * second

/-- REVERSAL_TIMER_EXPIRY is due. -/
def reversalDue (s : State) : Bool := reversalCounts s && decide (reversalPeriod s ≤ s.climate.reversal)

/-- REVERSAL_TIMER_EXPIRY (R45, R75). -/
def execReversalTimerExpiry (s : State) : Host.Outcome State Fault Refusal :=
  if reversalDue s then .next (beginReversal (setClimate { s.climate with reversal := 0 } s)) else .next s

/-- SLOW_TIMER_EXPIRY is due: the slow timer has reached 1 s in BRAKING. -/
def slowTimerDue (s : State) : Bool :=
  decide (s.out.fan.phase = .braking) && decide (second ≤ s.out.fan.slowTimer)

/-- SLOW_TIMER_EXPIRY (R75): the drive asks for the direction relay's opposite position (R71). -/
def execSlowTimerExpiry (s : State) : Host.Outcome State Fault Refusal :=
  if slowTimerDue s then
    .next
      (setRelay .fanDirection { s.out.fanRelay with askClosed := !s.out.fanRelay.coil }
        (setFan { s.out.fan with phase := .switching } s))
  else .next s

/-! ## The vent flap, the lamp, forces and pulses -/

/-- VENT_STUCK is due: the travel timer has reached 5 s. -/
def ventStuckDue (s : State) : Bool :=
  (decide (s.out.vent.state = .opening) || decide (s.out.vent.state = .closing)) &&
    decide (5 * second ≤ s.out.vent.travel)

/-- VENT_STUCK (R77). -/
def execVentStuck (s : State) : Host.Outcome State Fault Refusal :=
  if ventStuckDue s then .next (enterFault .ventStuck (setVent { s.out.vent with state := .stuck } s)) else .next s

/-- LAMP_ONE_SHOT_EXPIRY is due: 120 s since the one-shot was started. -/
def lampShotDue (s : State) : Bool :=
  match s.out.lampShot with
  | none => false
  | some t => decide (120 * second ≤ t)

/-- LAMP_ONE_SHOT_EXPIRY (R78). -/
def execLampOneShotExpiry (s : State) : Host.Outcome State Fault Refusal :=
  if lampShotDue s then .next (stopLamp s) else .next s

/-- FORCE_EXPIRY is due for an output: its entry is 30 s old. -/
def forceDue (o : Output) (s : State) : Bool :=
  match forceEntry o s with
  | none => false
  | some e => decide (30 * second ≤ e.age)

/-- FORCE_EXPIRY (R81). -/
def execForceExpiry (o : Output) (s : State) : Host.Outcome State Fault Refusal :=
  if forceDue o s then .next (settle (removeForce o s)) else .next s

/-- PULSE_END is due. -/
def pulseDue (s : State) : Bool :=
  match s.out.pulse with
  | none => false
  | some p => decide (p.remaining = 0)

/-- PULSE_END (R82). -/
def execPulseEnd (s : State) : Host.Outcome State Fault Refusal :=
  if pulseDue s then .next (settle (endPulse s)) else .next s

end Sys2Proof.Machine
end

