-- ==== Sys2Proof/Machine/LinkPorts.lean ====
section
/-! DEFINITION. The protection block's lock inputs and groups (R173 to R179), the link ports' states and the order in
which a port decides a command (R182 to R186), with the rows of the ports' own events. -/

namespace Sys2Proof.Machine

/-! ## The protection block -/

/-- Replaces the protection block's volatile inputs. -/
def setProt (p : Protection) (s : State) : State := { s with prot := p }

/-- The six command groups (R178). -/
inductive Group where
  | run | stop | descale | userSettings | service | read
  deriving DecidableEq, Repr

/-- A group is locked on a link (R178). -/
def locked (g : Group) (l : Link) (s : State) : Bool :=
  match g, l with
  | .run, .panel => s.settings.childLock
  | .run, .network => !s.prot.remotePermission
  | .run, .service => !s.prot.serviceUnlock
  | .descale, .panel => s.settings.childLock
  | .descale, .network => !s.prot.remotePermission
  | .descale, .service => !s.prot.serviceUnlock
  | .userSettings, .panel => s.settings.childLock && runActive s
  | .userSettings, .network => true
  | .userSettings, .service => !s.prot.serviceUnlock
  | .service, .panel => true
  | .service, .network => true
  | .service, .service => !s.prot.serviceUnlock
  | .stop, _ => false
  | .read, _ => false

/-- The lock inputs byte: CL bit 0, RP bit 1, SU bit 2. -/
def lockInputs (s : State) : Nat :=
  maskBit 0 s.settings.childLock + maskBit 1 s.prot.remotePermission + maskBit 2 s.prot.serviceUnlock

/-- LOCK_CHANGED with the input concerned: CL 0, RP 1, SU 2 (R187). -/
def raiseLock (input : Nat) (s : State) : State := raiseEvent .lockChanged (numberArg input) s

/-- DOOR_OPENED withdraws remote permission (R175). -/
def withdrawRemote (s : State) : State :=
  if s.prot.remotePermission then raiseLock 1 (setProt { s.prot with remotePermission := false } s) else s

/-- Service unlock becomes inactive and the silence timer stops at 0 (R177); forces and pulses end when the step
settles (R81, R82). -/
def endServiceUnlock (s : State) : State :=
  if s.prot.serviceUnlock then raiseLock 2 (setProt { s.prot with serviceUnlock := false, silence := 0 } s) else s

/-! ## Ports (R182 to R185) -/

def port (s : State) (l : Link) : Port := s.ports.get l

/-- Replaces a port. -/
def setPort (l : Link) (p : Port) (s : State) : State := { s with ports := s.ports.set l p }

/-- The port is executing or replying. -/
def Port.busy (p : Port) : Bool := decide (p.state = .executing) || decide (p.state = .replying)

/-- More than 20 ms without a byte (R182, R185). -/
def Port.silent (p : Port) : Bool := decide (20 * millisecond < p.quiet)

/-- A frame can be received: the port is in RECEIVING and no more than 20 ms have passed since the latest byte, or in IDLE
with its discard mark clear, where the row stands for the whole frame, start byte included (DESIGN CHOICE,
notes/assumptions/24.md). -/
def Port.open (p : Port) : Bool :=
  (decide (p.state = .receiving) && !p.silent) || (decide (p.state = .idle) && !p.discard)

/-- A byte reaches the port and is discarded, or is data. -/
def Port.byteTaken (p : Port) : Port := { p with quiet := 0 }

/-- A frame is discarded or abandoned in RECEIVING (R182). -/
def Port.abandon (p : Port) : Port :=
  { p with state := if p.state = .receiving then .idle else p.state }

/-- A frame start received while busy: overrun flag and discard mark (R185). -/
def Port.overrunBy (p : Port) : Port := { p with overrun := true, discard := true, quiet := 0 }

/-- A received byte of 0xA5 that is not broken (R182, R185), with the bytes that follow it on the line. -/
def Port.startByte (gaps : List Nat) (p : Port) : Port :=
  let p := { p with line := gaps }
  match p.state with
  | .idle => if p.discard then p.byteTaken else { p with state := .receiving, quiet := 0 }
  | .receiving => p.byteTaken
  | .executing => p.overrunBy
  | .replying => p.overrunBy

/-- The frame of a command that the port does not receive: discarded whole (R182, R185). -/
def Port.discardFrame (p : Port) : Port :=
  let p := { p with line := [] }
  if p.busy then p.overrunBy else p.byteTaken.abandon

/-- The bytes still to come on a line when `t` microseconds have passed since the end of the latest one. -/
def laterBytes : Nat → List Nat → List Nat
  | _, [] => []
  | t, g :: rest => if g ≤ t then laterBytes (t - g) rest else (g - t) :: rest

/-- The status flags of a reply: overrun bit 0, events waiting bit 1 (R186). -/
def statusFlags (overrun waiting : Bool) : Nat := maskBit 0 overrun + maskBit 1 waiting

/-- The body of a reply (R186). -/
def replyBody (code : Byte) (r : Reply) (flags : Nat) : List Byte :=
  code :: (bytes1 r.status.codes.1 ++ bytes1 flags ++ bytes1 r.status.codes.2 ++ r.results)

/-- The port that sends a reply from its first byte on; building the reply clears the overrun flag (R184, R185). -/
def Port.replyWith (p : Port) (body : List Byte) : Port :=
  { p with state := .replying, overrun := false, reply := frameOf body, sending := 0 }

/-- The reply is built once the command has been taken (R183, R186). -/
def answer (l : Link) (code : Byte) (r : Reply) (s : State) : State :=
  setPort l ((port s l).replyWith (replyBody code r (statusFlags (port s l).overrun (attention s l)))) s

/-- A frame is accepted: the port executes it, and on the service link the silence timer returns to 0 (R177, R182). -/
def acceptFrame (l : Link) (s : State) : State :=
  let s := setPort l { port s l with state := .executing, quiet := 0, line := [] } s
  if l = .service then setProt { s.prot with silence := 0 } s else s

/-- A link command: the port receives its frame, decides it by `own` and builds the reply; a port that cannot
receive discards the frame. -/
def onFrame (l : Link) (code : Byte) (own : State → Reply × State) (s : State) :
    Host.Outcome State Fault Refusal :=
  if (port s l).open then
    let out := own (acceptFrame l s)
    .next (answer l code out.1 out.2)
  else .next (setPort l (port s l).discardFrame s)

/-- Steps 2 to 5 of R183: the layout, STARTING (not for the group READ), a check the owning rule makes before the
lock, the lock, and the owning unit. -/
def decideCommand (sized reads : Bool) (early : Option Status) (lock : Bool) (own : State → Reply × State)
    (s : State) : Reply × State :=
  if !sized then (Reply.bare .badArgument, s)
  else if !s.start.ready && !reads then (Reply.bare .starting, s)
  else
    match early with
    | some st => (Reply.bare st, s)
    | none => if lock then (Reply.bare .locked, s) else own s

/-- A command of a group other than READ. -/
def groupCommand (g : Group) (l : Link) (sized : Bool) (own : State → Reply × State) (s : State) : Reply × State :=
  decideCommand sized false none (locked g l s) own s

/-- A command of the group READ, which changes nothing and is never locked. -/
def readCommand (sized : Bool) (result : State → Reply) (s : State) : Reply × State :=
  decideCommand sized true none false (fun s => (result s, s)) s

/-- A refused command changes nothing. -/
def refuse (st : Status) (s : State) : Reply × State := (Reply.bare st, s)

/-- A taken command's changes settle before its reply is built. -/
def taken (r : Reply) (s : State) : Reply × State := (r, settle s)

/-! ## The ports' own rows -/

/-- FRAME_START (R182). -/
def execFrameStart (f : LineFrame) (s : State) : Host.Outcome State Fault Refusal :=
  .next (setPort f.link ((port s f.link).startByte f.gaps) s)

/-- FRAME_START_WHILE_BUSY (R185): the same byte, met by a busy port. -/
def execFrameStartWhileBusy (f : LineFrame) (s : State) : Host.Outcome State Fault Refusal :=
  .next (setPort f.link ((port s f.link).startByte f.gaps) s)

/-- BAD_FRAME (R182): no reply, no overrun flag, no state changed outside the port, whatever the defect. -/
def execBadFrame (l : Link) (_defect : FrameDefect) (s : State) : Host.Outcome State Fault Refusal :=
  .next (setPort l (port s l).byteTaken.abandon s)

/-- FRAME_GAP_TIMEOUT is due: more than 20 ms between two bytes of the frame being received. -/
def frameGapDue (l : Link) (s : State) : Bool := decide ((port s l).state = .receiving) && (port s l).silent

/-- FRAME_GAP_TIMEOUT (R182). -/
def execFrameGapTimeout (l : Link) (s : State) : Host.Outcome State Fault Refusal :=
  if frameGapDue l s then .next (setPort l (port s l).abandon s) else .next s

/-- DISCARD_MARK_CLEAR is due. -/
def discardClearDue (l : Link) (s : State) : Bool := (port s l).discard && (port s l).silent

/-- DISCARD_MARK_CLEAR (R185). -/
def execDiscardMarkClear (l : Link) (s : State) : Host.Outcome State Fault Refusal :=
  if discardClearDue l s then .next (setPort l { port s l with discard := false } s) else .next s

/-- REPLY_SENT is due: ten bit times a byte at 57,600 bit/s (R181, R184). -/
def replySentDue (l : Link) (s : State) : Bool :=
  decide ((port s l).state = .replying) &&
    decide ((port s l).reply.length * 10 * second ≤ (port s l).sending * 57600)

/-- REPLY_SENT (R184). -/
def execReplySent (l : Link) (s : State) : Host.Outcome State Fault Refusal :=
  if replySentDue l s then .next (setPort l { port s l with state := .idle, reply := [], sending := 0 } s)
  else .next s

/-- UNKNOWN_COMMAND (R183, step 1). -/
def execUnknownCommand (l : Link) (code : Byte) (_fields : List Byte) (s : State) :
    Host.Outcome State Fault Refusal :=
  onFrame l code (refuse .unknownCommand) s

end Sys2Proof.Machine
end

