-- ==== Sys2Proof/Machine/InputEvents.lean ====
section
/-! DEFINITION. The input and event block's rows (R161 to R171): raw levels and debounced changes, FETCH_EVENTS,
SET_STEERING and CLEAR_FAULTS; and the protection block's rows SERVICE_SILENCE_TIMEOUT, SET_LOCK, SERVICE_UNLOCK and
SERVICE_LOCK (R174 to R177). -/

namespace Sys2Proof.Machine

/-! ## Digital inputs (R161) -/

/-- Replaces the line of an input. -/
def setInput (i : Input) (x : InputLine) (s : State) : State := { s with inputs := s.inputs.set i x }

/-- The raw level changes: a level equal to the reading stands the settling timer at 0. -/
def InputLine.drive (level : Bool) (x : InputLine) : InputLine :=
  { x with raw := level, timer := if level = x.reading then 0 else x.timer }

/-- RAW_LEVEL_CHANGE (R161). -/
def execRawLevelChange (i : Input) (level : Bool) (s : State) : Host.Outcome State Fault Refusal :=
  .next (setInput i ((s.inputs.get i).drive level) s)

/-- The reading takes the raw level. -/
def InputLine.become (x : InputLine) : InputLine := { x with reading := x.raw, timer := 0 }

/-- INPUT_CHANGE is due: a watched input's settling timer has reached its debounce time. -/
def inputChangeDue (i : Input) (s : State) : Bool :=
  watched s i && decide ((s.inputs.get i).raw ≠ (s.inputs.get i).reading) &&
    decide (debounceTime i ≤ (s.inputs.get i).timer)

/-! ## What each input's change does -/

/-- A forced output is a heat load. -/
def isHeatOutput (o : Output) : Bool := (outputLoad o).isSome

/-- A forced output is a cavity load. -/
def isCavityOutput (o : Output) : Bool :=
  match outputLoad o with
  | none => false
  | some l => l.isCavity

/-- DOOR becomes open (R66, R73, R81, R145, R163, R175). -/
def doorOpens (s : State) : State :=
  let s := withdrawRemote (raiseEvent .doorOpened none s)
  let s := removeForces isCavityOutput (holdFan (cutCavity s))
  if runActive s then addDoor s else s

/-- The deferred burst is requested once DOOR is removed (R143). -/
def requestDeferred (s : State) : State :=
  match s.ret.run.deferredBurst with
  | none => s
  | some ml => followWater (requestBurst ml (dropDeferred s))

/-- DOOR is removed from the run, its timer returns to 0 and the regulator is told (R145). -/
def dropDoor (s : State) : State :=
  if s.ret.run.causes.door then
    requestDeferred (unpauseClimate (removeCause .door (setRun { s.ret.run with doorTimer := 0 } s)))
  else s

/-- DOOR becomes closed (R73, R78, R145, R163). -/
def doorCloses (s : State) : State :=
  let s := startFan (startLamp (raiseEvent .doorClosed none s))
  if runActive s then dropDoor s else s

/-- THERMAL_CUTOUT becomes open (R68, R81, R163). -/
def cutoutOpens (s : State) : State := removeForces isHeatOutput (cutAll (enterFault .thermalCutout s))

/-- TRAY_FULL follows its input (R163). -/
def followTray (s : State) : State := followCondition .trayFull none s.inputs.trayFull.reading s

/-- A tank input changes (R83, R93, R94, R121). -/
def tankChanges (before s : State) : State := tryDescaleDrain (followSource .tank (sourceLow .tank before) s)

/-- An end switch changes: only reaching the end acts (R77). -/
def endChanges (e : VentEnd) (before s : State) : State := if endReached e s then reachEnd e before s else s

/-- Every unit that acts on an input takes its change (R161's table); `before` is the state before it. -/
def inputBecomes (i : Input) (before s : State) : State :=
  match i with
  | .door => if doorOpen s then doorOpens s else doorCloses s
  | .thermalCutout => if cutoutOpen s then cutoutOpens s else s
  | .tankPresent => tankChanges before s
  | .tankFloat => tankChanges before s
  | .trayFull => followTray s
  | .boilerLow => postBoiler (if lowCovered s then s else cutBoiler s)
  | .boilerHigh => if highCovered s then highBecomesCovered s else s
  | .ventOpenEnd => endChanges .opened before s
  | .ventClosedEnd => endChanges .closed before s
  | .inletPressure => followSource .inlet (sourceLow .inlet before) s
  | .servicePresent => if s.inputs.servicePresent.reading then s else endServiceUnlock s

/-- INPUT_CHANGE (R161). -/
def execInputChange (i : Input) (s : State) : Host.Outcome State Fault Refusal :=
  if inputChangeDue i s then .next (settle (inputBecomes i s (setInput i (s.inputs.get i).become s))) else .next s

/-! ## FETCH_EVENTS (R168) -/

/-- What a returned entry leaves in the queue: a level kind whose condition holds stays, reported. -/
def Entry.afterReturn (e : Entry) : List Entry :=
  match e.standing with
  | .holding => [{ e with reported := true }]
  | _ => []

/-- Takes up to `n` unreported entries from the head toward the tail: the entries returned, and the queue left. -/
def fetch : Nat → List Entry → List Entry × List Entry
  | _, [] => ([], [])
  | n, e :: rest =>
    if e.reported then ((fetch n rest).1, e :: (fetch n rest).2)
    else
      match n with
      | 0 => ([], e :: rest)
      | n + 1 => (e :: (fetch n rest).1, e.afterReturn ++ (fetch n rest).2)

def Standing.number : Standing → Nat
  | .edge => 0
  | .holding => 1
  | .ended => 2

/-- An entry's 8 bytes. -/
def entryBytes (e : Entry) : List Byte :=
  bytes1 e.kind.number ++ bytes1 e.count ++ bytes4 e.time ++ [e.argument.getD 0xFF] ++ bytes1 e.standing.number

/-- The unreported entries of a queue. -/
def unreported (q : List Entry) : List Entry := q.filter (fun e => !e.reported)

/-- Replaces a link's queue. -/
def setQueue (l : Link) (q : List Entry) (s : State) : State :=
  { s with events := { s.events with queues := s.events.queues.set l q } }

/-- FETCH_EVENTS taken with a maximum. DESIGN CHOICE: a maximum above 8 is answered CLAMPED also where nothing is
unreported, for which R168 has the status OK in another sentence (notes/assumptions/54.md). -/
def ownFetch (l : Link) (maximum : Nat) (s : State) : Reply × State :=
  if maximum = 0 then refuse .badArgument s
  else
    let out := fetch (min maximum 8) (s.events.queues.get l)
    (⟨clampedStatus (decide (8 < maximum)),
        bytes1 out.1.length ++ out.1.flatMap entryBytes ++ bytes1 (unreported out.2).length⟩,
      setQueue l out.2 s)

/-- FETCH_EVENTS (R168). -/
def execFetchEvents (l : Link) (fields : List Byte) (s : State) : Host.Outcome State Fault Refusal :=
  onFrame l 0x03
    (fun s =>
      match fields with
      | [m] => decideCommand true true none false (ownFetch l m.toNat) s
      | _ => refuse .badArgument s) s

/-! ## SET_STEERING (R165) -/

/-- A pair names no kind, or carries a mask with a bit above bit 2. -/
def badPair (p : Nat × Nat) : Bool := (EventKind.ofNumber p.1).isNone || decide (7 < p.2)

/-- A kind is named twice. -/
def namedTwice : List (Nat × Nat) → Bool
  | [] => false
  | p :: rest => rest.any (fun q => decide (q.1 = p.1)) || namedTwice rest

/-- The links of the new set that the old one lacked. -/
def addedLinks (old new : LinkSet) : LinkSet :=
  ⟨new.panel && !old.panel, new.network && !old.network, new.service && !old.service⟩

/-- One kind's set is replaced; a level kind whose condition holds reaches the links added. -/
def steer (k : EventKind) (set : LinkSet) (s : State) : State :=
  let added := addedLinks (steeringOf s.events.steering k) set
  let queues :=
    match s.events.conditions.find? (fun c => decide (c.kind = k)) with
    | none => s.events.queues
    | some c => placeInSet added k c.argument (seconds s) s.events.queues
  { s with events := { s.events with steering := s.events.steering.set (k.number - 1) set, queues := queues } }

/-- The pairs are taken one after another. DESIGN CHOICE: holding conditions reach an added link's queue in the order in
which the pairs are sent, since R165 gives none (notes/assumptions/55.md). -/
def steerPairs : List (Nat × Nat) → State → State
  | [], s => s
  | (k, m) :: rest, s =>
    match EventKind.ofNumber k with
    | none => steerPairs rest s
    | some kind => steerPairs rest (steer kind (linkSetOfMask m) s)

/-- The pairs of a reply. -/
def pairBytes (s : State) (p : Nat × Nat) : List Byte :=
  match EventKind.ofNumber p.1 with
  | none => []
  | some k => bytes1 p.1 ++ bytes1 (linkMask (steeringOf s.events.steering k))

/-- SET_STEERING taken with its pairs. -/
def ownSteering (pairs : List (Nat × Nat)) (s : State) : Reply × State :=
  if pairs = [] ∨ 24 < pairs.length ∨ pairs.any badPair = true ∨ namedTwice pairs = true then refuse .badArgument s
  else
    let s := steerPairs pairs s
    (⟨.ok, pairs.flatMap (pairBytes s)⟩, s)

/-- SET_STEERING (R165). -/
def execSetSteering (l : Link) (fields : List Byte) (s : State) : Host.Outcome State Fault Refusal :=
  onFrame l 0x34
    (fun s =>
      match fields with
      | [] => refuse .badArgument s
      | n :: rest =>
        match parsePairs n.toNat rest with
        | none => refuse .badArgument s
        | some pairs => groupCommand .userSettings l true (ownSteering pairs) s) s

/-! ## CLEAR_FAULTS (R171) -/

/-- A member's condition for leaving the set by CLEAR_FAULTS (R170). -/
def clearable (f : FaultKind) (s : State) : Bool :=
  match f with
  | .thermalCutout => !cutoutOpen s
  | .heatRunaway => decide (s.meas.cavity < 2500)
  | .boilerDry => decide (s.meas.boiler < 1000)
  | .fanStall => true
  | .levelSense => true
  | _ => false

/-- The members that CLEAR_FAULTS tests. -/
def latchedFaults : List FaultKind := [.thermalCutout, .heatRunaway, .fanStall, .boilerDry, .levelSense]

/-- The removals. -/
def removeFaults (s : State) : State :=
  latchedFaults.foldl (fun s f => if clearable f s then leaveFault f s else s) s

/-- What the units do after the removals. -/
def afterRemovals (s : State) : State := leaveDryFault (startFan (leaveClimateFault s))

/-- CLEAR_FAULTS taken. -/
def ownClearFaults (s : State) : Reply × State :=
  let s := removeFaults s
  taken ⟨.ok, bytes2 (faultMask s)⟩ (afterRemovals s)

/-- CLEAR_FAULTS (R171). -/
def execClearFaults (l : Link) (fields : List Byte) (s : State) : Host.Outcome State Fault Refusal :=
  onFrame l 0x35 (groupCommand .userSettings l fields.isEmpty ownClearFaults) s

/-! ## The protection block's rows (R174 to R177) -/

/-- SERVICE_SILENCE_TIMEOUT is due: 60 s of silence on the service link with service unlock active. -/
def silenceDue (s : State) : Bool := s.prot.serviceUnlock && decide (60 * second ≤ s.prot.silence)

/-- SERVICE_SILENCE_TIMEOUT (R177). -/
def execServiceSilenceTimeout (s : State) : Host.Outcome State Fault Refusal :=
  if silenceDue s then .next (settle (endServiceUnlock s)) else .next s

/-- The child lock or remote permission takes a value; a change raises LOCK_CHANGED, and the child lock asks for a
commit (R174). -/
def writeLock (input : Nat) (value : Bool) (s : State) : State :=
  if input = 0 then
    let changed := decide (s.settings.childLock ≠ value)
    let s := { s with settings := { s.settings with childLock := value } }
    askCommit (if changed then raiseLock 0 s else s)
  else
    let changed := decide (s.prot.remotePermission ≠ value)
    let s := setProt { s.prot with remotePermission := value } s
    if changed then raiseLock 1 s else s

/-- SET_LOCK taken from the panel. -/
def ownSetLock (input value : Nat) (s : State) : Reply × State :=
  if 1 < input ∨ 1 < value then refuse .badArgument s
  else
    let s := writeLock input (decide (value = 1)) s
    taken ⟨.ok, bytes1 (lockInputs s)⟩ s

/-- SET_LOCK (R174): LOCKED from the network and service links. -/
def execSetLock (l : Link) (fields : List Byte) (s : State) : Host.Outcome State Fault Refusal :=
  onFrame l 0x31
    (fun s =>
      match fields with
      | [i, v] => decideCommand true false none (decide (l ≠ .panel)) (ownSetLock i.toNat v.toNat) s
      | _ => refuse .badArgument s) s

/-- SERVICE_UNLOCK taken from the service link (R176). -/
def ownUnlock (s : State) : Reply × State :=
  if s.prot.serviceUnlock then (Reply.bare .ok, setProt { s.prot with silence := 0 } s)
  else if s.inputs.servicePresent.reading = false then refuse .busy s
  else if s.ret.run.state ≠ .idle then refuse .runActive s
  else if s.ret.descale.phase ≠ .idle then refuse .descaleActive s
  else taken (Reply.bare .ok) (raiseLock 2 (setProt { s.prot with serviceUnlock := true, silence := 0 } s))

/-- SERVICE_UNLOCK (R176): LOCKED from the panel and network links. -/
def execServiceUnlock (l : Link) (fields : List Byte) (s : State) : Host.Outcome State Fault Refusal :=
  onFrame l 0x32 (decideCommand fields.isEmpty false none (decide (l ≠ .service)) ownUnlock) s

/-- SERVICE_LOCK (R177): LOCKED from the panel and network links. -/
def execServiceLock (l : Link) (fields : List Byte) (s : State) : Host.Outcome State Fault Refusal :=
  onFrame l 0x33
    (decideCommand fields.isEmpty false none (decide (l ≠ .service))
      (fun s => taken (Reply.bare .ok) (endServiceUnlock s))) s

end Sys2Proof.Machine
end

