-- ==== Sys2Proof/Machine/Descaling.lean ====
section
/-! DEFINITION. The rows of the scale account and the descale controller (R114 to R130). -/

namespace Sys2Proof.Machine

/-! ## Timer rows -/

/-- SOAK_END is due: the soak elapsed has reached the soak total (R120). -/
def soakEndDue (s : State) : Bool :=
  s.start.ready && decide (s.ret.descale.phase = .soak) && decide (s.ret.descale.total ≤ s.ret.descale.elapsed)

/-- SOAK_END (R120). -/
def execSoakEnd (s : State) : Host.Outcome State Fault Refusal :=
  if soakEndDue s then .next (settle (enterDrainAgent (withdrawSoakTarget s))) else .next s

/-- DESCALE_DOSE_LOAD is due: a dose waits and its channel is free, or the fill of a rinse meets DRY_FAULT. -/
def descaleDoseDue (s : State) : Bool :=
  s.start.ready &&
    (match s.work.dose with
      | none => false
      | some (c, _) =>
        !holdsDose s c ||
          (decide (c = .ch0) && decide (s.ret.descale.step = some .fill) && decide (s.boiler.state = .dryFault)))

/-- DESCALE_DOSE_LOAD (R119, R122). -/
def execDescaleDoseLoad (s : State) : Host.Outcome State Fault Refusal :=
  if descaleDoseDue s then .next (settle (tryDescaleDose s)) else .next s

/-- DESCALE_DRAIN_LOAD is due: a drain waits, CH3 is free and, with SUPPLY at TANK, the tank is in its bay. -/
def descaleDrainDue (s : State) : Bool :=
  s.start.ready && s.work.drain && !holdsDose s .ch3 && (!tankOven s || tankPresent s)

/-- DESCALE_DRAIN_LOAD (R121). -/
def execDescaleDrainLoad (s : State) : Host.Outcome State Fault Refusal :=
  if descaleDrainDue s then .next (settle (tryDescaleDrain s)) else .next s

/-! ## DESCALE_START (R116) -/

/-- A fault that refuses DESCALE_START. -/
def descaleBarred (s : State) : Bool := s.events.faults.any FaultKind.latched || hasFault .sensorBoiler s

/-- A taken DESCALE_START. -/
def beginDescale (s : State) : State :=
  enterPhase .prepare none
    (setStall .none
      (setDescale { s.ret.descale with elapsed := 0, total := 0, aborted := false, result := .none } s))

/-- DESCALE_START decided by its owner. -/
def ownDescaleStart (s : State) : Reply × State :=
  if s.ret.descale.phase ≠ .idle then refuse .descaleActive s
  else if s.ret.run.state ≠ .idle then refuse .runActive s
  else if descaleBarred s then refuse .faultActive s
  else if 600 ≤ s.meas.cavity ∨ 600 ≤ s.meas.boiler then refuse .busy s
  else taken (Reply.bare .ok) (beginDescale s)

/-- DESCALE_START (R116). -/
def execDescaleStart (l : Link) (fields : List Byte) (s : State) : Host.Outcome State Fault Refusal :=
  onFrame l 0x20 (groupCommand .descale l fields.isEmpty ownDescaleStart) s

/-! ## DESCALE_CONFIRM (R118, R125) -/

/-- The channel of the dose that stalled with cause FLOW: CH2 at the step FLUSH, otherwise CH0. -/
def stalledChan (s : State) : Chan := if s.ret.descale.step = some .flush then .ch2 else .ch0

/-- The work of the current step is re-requested (R125). -/
def confirmStall (s : State) : State :=
  match s.ret.descale.stall with
  | .none => s
  | .flow => wantDose (stalledChan s) (.pulses s.work.faulted) (setStall .none s)
  | .level => wantDrain (setStall .none s)
  | .dry => wantDose .ch0 (.millilitres 500) (setStall .none s)

/-- DESCALE_CONFIRM decided by its owner. -/
def ownDescaleConfirm (phase : Nat) (s : State) : Reply × State :=
  let d := s.ret.descale
  if d.phase = .idle ∨ d.phase.number ≠ phase then refuse .stale s
  else if tankPresent s = false then refuse .tankMissing s
  else if d.stall = .dry ∧ s.boiler.state = .dryFault then refuse .faultActive s
  else if d.stall ≠ .none then taken (Reply.bare .ok) (confirmStall s)
  else
    match d.phase with
    | .awaitAgent => taken (Reply.bare .ok) (enterDraw s)
    | .awaitRinse => taken (Reply.bare .ok) (enterRinse .rinse1 s)
    | _ => refuse .busy s

/-- DESCALE_CONFIRM (R118). -/
def execDescaleConfirm (l : Link) (fields : List Byte) (s : State) : Host.Outcome State Fault Refusal :=
  onFrame l 0x21
    (fun s =>
      match fields with
      | [p] => groupCommand .descale l true (ownDescaleConfirm p.toNat) s
      | _ => refuse .badArgument s) s

/-! ## DESCALE_ABORT (R126) -/

/-- The controller cancels a dose it holds. DESIGN CHOICE: a channel that the dose has left in FAULT stays so, though R95
allows it to be cancelled (notes/assumptions/64.md). -/
def cancelOwn (c : Chan) (s : State) : State := if holdsFor s c .descale then cancelDose c s else s

/-- The abort with the marker clear. -/
def abortClean (s : State) : State :=
  let s := cancelOwn .ch2 (cancelDescaleFill (setWork { s.work with dose := none, drain := false } s))
  let s := if lowCovered s then markDrain true s else s
  let s := setStall .none (withdrawSoakTarget s)
  let s := raiseEvent .descaleEnded none (setDescale { s.ret.descale with result := .aborted } s)
  enterPhase .idle none s

/-- DESCALE_ABORT decided by its owner. -/
def ownDescaleAbort (s : State) : Reply × State :=
  if s.ret.descale.phase = .idle then refuse .notRunning s
  else if s.marker = false then taken (Reply.bare .ok) (abortClean s)
  else if s.ret.descale.phase = .draw ∨ s.ret.descale.phase = .soak then
    taken (Reply.bare .ok) (abortWithCredit s)
  else refuse .agentPresent s

/-- DESCALE_ABORT (R126). -/
def execDescaleAbort (l : Link) (fields : List Byte) (s : State) : Host.Outcome State Fault Refusal :=
  onFrame l 0x22 (groupCommand .descale l fields.isEmpty ownDescaleAbort) s

/-! ## SCALE_RESET and READ_SCALE (R114, R130) -/

/-- SCALE_RESET taken. -/
def ownScaleReset (s : State) : Reply × State := taken (Reply.bare .ok) (clearAccount s)

/-- SCALE_RESET (R114). -/
def execScaleReset (l : Link) (fields : List Byte) (s : State) : Host.Outcome State Fault Refusal :=
  onFrame l 0x40 (groupCommand .service l fields.isEmpty ownScaleReset) s

/-- The DUE threshold (R111). -/
def dueThreshold (limit : Nat) : Nat := limit * 85 / 100

/-- The result of READ_SCALE. -/
def scaleRecord (s : State) : List Byte :=
  let d := s.ret.descale
  bytes4 s.scale.deposit ++ bytes4 s.settings.scaleLimit ++ bytes4 (dueThreshold s.settings.scaleLimit)
    ++ bytes1 s.scale.level.number ++ bytes2 s.settings.hardness ++ bytes1 d.phase.number
    ++ optByte (d.step.map RinseStep.number) ++ bytes1 d.stall.number ++ bytes2 d.elapsed ++ bytes2 d.total
    ++ flagByte s.marker ++ bytes1 d.result.number

/-- READ_SCALE (R130). -/
def execReadScale (l : Link) (fields : List Byte) (s : State) : Host.Outcome State Fault Refusal :=
  onFrame l 0x07 (readCommand fields.isEmpty (fun s => ⟨.ok, scaleRecord s⟩)) s

end Sys2Proof.Machine
end

