-- ==== Sys2Proof/Machine/Program.lean ====
section
/-! DEFINITION. The rows of the program sequencer: its tick and timeouts (R139 to R146), the slots (R131 to R134), and
the commands that start, edit and end a run (R136, R152 to R158). -/

namespace Sys2Proof.Machine

/-! ## The tick and the timeouts -/

/-- SEQUENCER_TICK is due: every second from the end of the reset. -/
def sequencerTickDue (s : State) : Bool := decide (second ≤ s.seq.tickClock)

/-- The stage elapsed counts at this tick (R139). -/
def stageCounts (s : State) : Bool :=
  s.ret.run.causes.isEmpty &&
    (decide ((currentStage s).timerStart ≠ some .afterReached) || s.ret.run.tempReached)

/-- The run context after a tick during a run (R139, R140, R145, R146). -/
def tickRun (counts mains : Bool) (r : RunContext) : RunContext :=
  { r with
    elapsed := if counts then r.elapsed + 1 else r.elapsed
    runTime := if r.causes.mains then r.runTime else r.runTime + 1
    doorTimer := if r.causes.door then r.doorTimer + 1 else r.doorTimer
    waterTimer := if r.causes.water && mains then r.waterTimer + 1 else r.waterTimer }

/-- SEQUENCER_TICK (R139). -/
def execSequencerTick (s : State) : Host.Outcome State Fault Refusal :=
  if sequencerTickDue s then
    let s := { s with seq := { s.seq with tickClock := s.seq.tickClock - second } }
    .next (if runActive s then setRun (tickRun (stageCounts s) s.meas.mainsPresent s.ret.run) s else s)
  else .next s

/-- STAGE_TIME_END is due: the stage elapsed has reached the duration. -/
def stageTimeDue (s : State) : Bool :=
  runActive s &&
    (match s.ret.run.duration with
      | none => false
      | some d => decide (d ≤ s.ret.run.elapsed))

/-- STAGE_TIME_END (R142). -/
def execStageTimeEnd (s : State) : Host.Outcome State Fault Refusal :=
  if stageTimeDue s then .next (settle (endStage s)) else .next s

/-- DOOR_TIMEOUT is due: the door timer has reached 600. -/
def doorTimeoutDue (s : State) : Bool := runActive s && s.ret.run.causes.door && decide (600 ≤ s.ret.run.doorTimer)

/-- DOOR_TIMEOUT (R145). -/
def execDoorTimeout (s : State) : Host.Outcome State Fault Refusal :=
  if doorTimeoutDue s then .next (settle (endRun .doorTimeout none s)) else .next s

/-- WATER_TIMEOUT is due: the water timer has reached 300. -/
def waterTimeoutDue (s : State) : Bool :=
  runActive s && s.ret.run.causes.water && decide (300 ≤ s.ret.run.waterTimer)

/-- WATER is removed by its timeout and the stage degraded (R146, R149). -/
def waterTimesOut (s : State) : State :=
  let s := removeCause .water s
  let s := withholdSteam s.ret.run.degraded (setRun { s.ret.run with waterTimer := 0 } s)
  checkStageEnd (degradeStage s)

/-- WATER_TIMEOUT (R146). -/
def execWaterTimeout (s : State) : Host.Outcome State Fault Refusal :=
  if waterTimeoutDue s then .next (settle (waterTimesOut s)) else .next s

/-! ## LOAD_PROGRAM (R132, R133) -/

/-- A stage is bad. -/
def SentStage.bad (probeFitted : Bool) (st : SentStage) : Bool :=
  st.badName || st.mode.isNone || st.setpoint.isNone || st.ending.isNone ||
    (decide (st.ending = some .time) && st.duration.isNone) ||
    (decide (st.ending = some .core) && (st.core.isNone || !probeFitted))

/-- The index of the first bad stage. -/
def firstBad (probeFitted : Bool) (stages : List SentStage) : Option Nat :=
  stages.findIdx? (fun st => st.bad probeFitted)

/-- A stored value, and whether it differs from the one received. -/
def limitNat (lo hi : Nat) (x : Option Nat) : Option Nat × Bool :=
  (x.map (fun n => clampNat n lo hi), decide (x.map (fun n => clampNat n lo hi) ≠ x))

/-- A stage brought within its ranges, and whether anything was clamped (R133). -/
def SentStage.store (st : SentStage) : Stage × Bool :=
  let mode := st.mode.getD .convection
  let ending := st.ending.getD .confirm
  let sent := st.setpoint.getD 0
  let setpoint := adoptSetpoint mode sent
  let moisture :=
    match (modeRow mode).moisture with
    | none => none
    | some (lo, hi) => st.moisture.map (fun h => clampInt h lo hi)
  let fan := limitNat 0 15 st.fanCode
  let duration := limitNat 1 86400 st.duration
  let core := if ending = .core then st.core.map (fun c => clampInt c 200 990) else none
  let burst := limitNat 10 200 st.burst
  ({ mode := mode, setpoint := setpoint, moisture := moisture, fanCode := fan.1, ending := ending
     duration := duration.1, core := core, burst := burst.1, policy := st.policy, timerStart := st.timerStart },
   decide (setpoint ≠ sent) || decide (moisture ≠ st.moisture) || fan.2 || duration.2 ||
     (decide (ending = .core) && decide (core ≠ st.core)) || burst.2)

/-- What LOAD_PROGRAM carries. -/
structure SentProgram where
  slot : Nat
  label : List Byte
  stages : List SentStage
  deriving DecidableEq, Repr

/-- The layout of LOAD_PROGRAM: none where the body's length is not the one its counts imply. -/
def parseProgram : List Byte → Option SentProgram
  | slot :: len :: rest =>
    if rest.length < len.toNat then none
    else
      match rest.drop len.toNat with
      | [] => none
      | n :: bytes =>
        (parseStages n.toNat bytes).map (fun stages => ⟨slot.toNat, rest.take len.toNat, stages⟩)
  | _ => none

/-- Replaces a slot. -/
def setSlot (n : Nat) (x : Slot) (s : State) : State :=
  { s with ret := { s.ret with slots := s.ret.slots.set n x } }

/-- A slot loaded anew: contents replaced and the generation raised (R133). -/
def Slot.load (l : Link) (p : SentProgram) (x : Slot) : Slot :=
  { state := .loaded, generation := (x.generation + 1) % 65536, link := some l, label := p.label
    stages := p.stages.map (fun st => st.store.1) }

/-- LOAD_PROGRAM decided by its owner. -/
def ownLoad (l : Link) (p : SentProgram) (s : State) : Reply × State :=
  if 3 < p.slot ∨ 24 < p.label.length then refuse .badArgument s
  else if (s.ret.slots.get p.slot).state = .inUse then refuse .busy s
  else if p.stages = [] ∨ 12 < p.stages.length then (⟨.badProgram, bytes1 absent1⟩, s)
  else
    match firstBad s.start.straps.probeFitted p.stages with
    | some i => (⟨.badProgram, bytes1 i⟩, s)
    | none =>
      let x := (s.ret.slots.get p.slot).load l p
      (⟨clampedStatus (p.stages.any (fun st => st.store.2)), bytes2 x.generation⟩, setSlot p.slot x s)

/-- LOAD_PROGRAM (R132). -/
def execLoadProgram (l : Link) (fields : List Byte) (s : State) : Host.Outcome State Fault Refusal :=
  onFrame l 0x10
    (fun s =>
      match parseProgram fields with
      | none => refuse .badArgument s
      | some p => groupCommand .run l true (ownLoad l p) s) s

/-! ## CLEAR_SLOT and READ_SLOT (R134) -/

/-- CLEAR_SLOT decided by its owner. -/
def ownClear (n : Nat) (s : State) : Reply × State :=
  if 3 < n then refuse .badArgument s
  else
    match (s.ret.slots.get n).state with
    | .inUse => refuse .busy s
    | .empty => (Reply.bare .ok, s)
    | .loaded =>
      (Reply.bare .ok,
        setSlot n { s.ret.slots.get n with state := .empty, link := none, label := [], stages := [] } s)

/-- CLEAR_SLOT (R134). -/
def execClearSlot (l : Link) (fields : List Byte) (s : State) : Host.Outcome State Fault Refusal :=
  onFrame l 0x11
    (fun s =>
      match fields with
      | [n] => groupCommand .run l true (ownClear n.toNat) s
      | _ => refuse .badArgument s) s

/-- A label in its 24 bytes, unused ones 0. -/
def labelBytes (label : List Byte) : List Byte := label ++ List.replicate (24 - label.length) 0

/-- The result of READ_SLOT. -/
def slotRecord (x : Slot) : List Byte :=
  bytes1 x.state.number ++ bytes2 x.generation ++ optByte (x.link.map linkNumber) ++ bytes1 x.label.length
    ++ labelBytes x.label ++ bytes1 x.stages.length ++ x.stages.flatMap stageBytes

/-- READ_SLOT answered. -/
def readSlotReply (n : Nat) (s : State) : Reply :=
  if 3 < n then Reply.bare .badArgument else ⟨.ok, slotRecord (s.ret.slots.get n)⟩

/-- READ_SLOT (R134). -/
def execReadSlot (l : Link) (fields : List Byte) (s : State) : Host.Outcome State Fault Refusal :=
  onFrame l 0x05
    (fun s =>
      match fields with
      | [n] => readCommand true (readSlotReply n.toNat) s
      | _ => refuse .badArgument s) s

/-! ## START (R136, R137) -/

/-- A fault that refuses a START of a program (R136, case 7). -/
def startBarred (stages : List Stage) (s : State) : Bool :=
  hasFault .thermalCutout s || hasFault .heatRunaway s || hasFault .sensorCavity s ||
    (hasFault .fanStall s && stages.any (fun st => st.mode.isFan)) ||
    ((hasFault .boilerDry s || hasFault .levelSense s) && programUsesSteam stages)

/-- The run context of a taken START (R137). -/
def RunContext.started (slot generation : Nat) (steamLost : Bool) (r : RunContext) : RunContext :=
  { r with
    state := .running, runId := (r.runId + 1) % 65536, known := true, slot := slot, generation := generation
    stageIndex := 0, elapsed := 0, duration := none, adjSetpoint := none, adjMoisture := none
    tempReached := false, moistReached := false, coreReached := false, degraded := false, causes := .none
    doorTimer := 0, waterTimer := 0, deferredBurst := none, steamLost := steamLost, degradedAny := false
    steamUsed := 0, steamRemainder := 0, runTime := 0 }

/-- A stage entry at START, with the end of a stage that is at its end at once. -/
def enterFirst (s : State) : State :=
  match enterStage 0 true s with
  | (s, true) => checkStageEnd s
  | (s, false) => s

/-- A taken START (R137). The run state leaves IDLE, which ends every force and any pulse at once (R81, R82), also where
the run is over again when the step ends. -/
def beginRun (slot : Nat) (s : State) : State :=
  let x := s.ret.slots.get slot
  let s := setSlot slot { x with state := .inUse } s
  let s := endForces (setRun (s.ret.run.started slot x.generation (steamFault s)) s)
  let s := { s with seq := { s.seq with waterCondition := false } }
  enterFirst (if programUsesSteam x.stages then markDrain false s else s)

/-- START decided by its owner (R136, cases 2 to 8). -/
def ownStart (slot generation : Nat) (s : State) : Reply × State :=
  let x := s.ret.slots.get slot
  if runActive s then refuse .runActive s
  else if x.state = .empty ∨ x.generation ≠ generation then refuse .noProgram s
  else if s.ret.descale.phase ≠ .idle then refuse .descaleActive s
  else if s.marker then refuse .agentPresent s
  else if s.scale.level = .blocked ∧ programUsesSteam x.stages = true then refuse .steamBlocked s
  else if startBarred x.stages s then refuse .faultActive s
  else
    let s := beginRun slot s
    taken ⟨.ok, bytes2 s.ret.run.runId⟩ s

/-- START (R136): the slot number is checked before the lock. -/
def execStart (l : Link) (fields : List Byte) (s : State) : Host.Outcome State Fault Refusal :=
  onFrame l 0x12
    (fun s =>
      match fields with
      | [n, g1, g0] =>
        decideCommand true false (if 3 < n.toNat then some .badArgument else none) (locked .run l s)
          (ownStart n.toNat (number2 g1 g0)) s
      | _ => refuse .badArgument s) s

/-! ## STOP, SKIP_STAGE and CONFIRM (R152, R154, R156) -/

/-- STOP decided by its owner. -/
def ownStop (s : State) : Reply × State :=
  if runActive s then taken (Reply.bare .ok) (endRun .userStop none s) else refuse .notRunning s

/-- STOP (R156). -/
def execStop (l : Link) (fields : List Byte) (s : State) : Host.Outcome State Fault Refusal :=
  onFrame l 0x13 (groupCommand .stop l fields.isEmpty ownStop) s

/-- The check of run id and stage index (R152). -/
def onStage (runId stage : Nat) (own : State → Reply × State) (s : State) : Reply × State :=
  if runActive s = false then refuse .notRunning s
  else if runId ≠ s.ret.run.runId ∨ stage ≠ s.ret.run.stageIndex then refuse .stale s
  else own s

/-- SKIP_STAGE (R154). -/
def execSkipStage (l : Link) (fields : List Byte) (s : State) : Host.Outcome State Fault Refusal :=
  onFrame l 0x15
    (fun s =>
      match fields with
      | [r1, r0, i] =>
        groupCommand .run l true
          (onStage (number2 r1 r0) i.toNat (fun s => taken (Reply.bare .ok) (endStage s))) s
      | _ => refuse .badArgument s) s

/-- CONFIRM decided by its owner. -/
def ownConfirm (s : State) : Reply × State :=
  if (currentStage s).ending = .confirm then taken (Reply.bare .ok) (endStage s) else refuse .badArgument s

/-- CONFIRM (R154). -/
def execConfirm (l : Link) (fields : List Byte) (s : State) : Host.Outcome State Fault Refusal :=
  onFrame l 0x16
    (fun s =>
      match fields with
      | [r1, r0, i] => groupCommand .run l true (onStage (number2 r1 r0) i.toNat ownConfirm) s
      | _ => refuse .badArgument s) s

/-! ## ADJUST (R153) -/

/-- What ADJUST carries; a field whose present bit is clear is none. -/
structure Adjustment where
  setpoint : Option Int
  delta : Option Int
  moisture : Option Int
  /-- a present field holds the absent encoding -/
  absentValue : Bool
  deriving DecidableEq, Repr

/-- The fields of ADJUST that follow the run id and the stage index; bits of the present mask above bit 2 name
nothing. -/
def parseAdjustment (mask setpoint delta moisture : Nat) : Adjustment :=
  { setpoint := if mask.testBit 0 then some (signed2 setpoint) else none
    delta := if mask.testBit 1 then some (signed4 delta) else none
    moisture := if mask.testBit 2 then some (moisture : Int) else none
    absentValue :=
      (mask.testBit 0 && decide (setpoint = absent2)) || (mask.testBit 2 && decide (moisture = absent1)) }

/-- The new duration under a delta, and whether it was limited. -/
def newDuration (duration elapsed : Nat) (delta : Int) : Nat × Bool :=
  let remaining : Int := (duration : Int) - elapsed
  let delta' := clampInt delta (-(remaining - 1)) 3600
  let d := min ((duration : Int) + delta') 86400
  (d.toNat, decide (d ≠ (duration : Int) + delta))

/-- The time delta is applied to the current stage. -/
def applyDelta (delta : Option Int) (s : State) : State × Bool :=
  match delta, s.ret.run.duration with
  | some x, some d =>
    (setRun { s.ret.run with duration := some (newDuration d s.ret.run.elapsed x).1 } s,
      (newDuration d s.ret.run.elapsed x).2)
  | _, _ => (s, false)

/-- The adopted values are stored as the stage's adjusted values. -/
def storeAdjusted (a : Adjustment) (s : State) : State :=
  match s.climate.record with
  | none => s
  | some r =>
    setRun
      { s.ret.run with
        adjSetpoint := if a.setpoint.isSome then some r.setpoint else s.ret.run.adjSetpoint
        adjMoisture := if a.moisture.isSome then r.moisture else s.ret.run.adjMoisture } s

/-- The remaining time of the current stage; none when it has no duration. -/
def stageRemaining (r : RunContext) : Option Nat := r.duration.map (fun d => d - r.elapsed)

/-- The results of ADJUST: the adopted setpoint and moisture target and the remaining time. -/
def adjustResults (s : State) : List Byte :=
  (match s.climate.record with | none => bytes2 absent2 | some r => signedBytes2 r.setpoint)
    ++ bytes1 (((s.climate.record.bind SetpointRecord.moisture).map Int.toNat).getD absent1)
    ++ bytes4 ((stageRemaining s.ret.run).getD absent4)

/-- The regulator's and the sequencer's part of a taken ADJUST; none where the regulator does not take the write. -/
def applyAdjustment (a : Adjustment) (s : State) : Option (State × Bool) :=
  if a.setpoint.isSome || a.moisture.isSome then
    match adjustWrite a.setpoint a.moisture s with
    | (_, none) => none
    | (s, some clamped) =>
      let out := applyDelta a.delta (storeAdjusted a s)
      some (out.1, clamped || out.2)
  else some (applyDelta a.delta s)

/-- ADJUST decided by its owner. -/
def ownAdjust (a : Adjustment) (s : State) : Reply × State :=
  if a.absentValue then refuse .badArgument s
  else if a.delta.isSome ∧ s.ret.run.duration = none then refuse .badArgument s
  else
    match applyAdjustment a s with
    | none => refuse .faultActive s
    | some (s, clamped) => taken ⟨clampedStatus clamped, adjustResults s⟩ s

/-- ADJUST (R153). -/
def execAdjust (l : Link) (fields : List Byte) (s : State) : Host.Outcome State Fault Refusal :=
  onFrame l 0x14
    (fun s =>
      match fields with
      | [r1, r0, i, mask, s1, s0, d3, d2, d1, d0, m] =>
        groupCommand .run l true
          (onStage (number2 r1 r0) i.toNat
            (ownAdjust (parseAdjustment mask.toNat (number2 s1 s0) (number4 d3 d2 d1 d0) m.toNat))) s
      | _ => refuse .badArgument s) s

/-! ## INJECT (R155) -/

/-- INJECT decided by its owner; the water unit raises STEAM_DEGRADED for its own refusals. -/
def ownInject (ml : Nat) (s : State) : Reply × State :=
  if s.ret.run.causes.door then refuse .busy s
  else if s.ret.run.degraded || s.ret.run.steamLost then refuse .steamBlocked s
  else
    match burstRefusal s with
    | some _ =>
      taken (Reply.bare (if s.scale.level = .blocked then .steamBlocked else .busy)) (requestBurst ml s)
    | none =>
      taken ⟨clampedStatus (decide (burstVolume ml ≠ ml)), bytes2 (burstVolume ml)⟩ (requestBurst ml s)

/-- INJECT (R155). -/
def execInject (l : Link) (fields : List Byte) (s : State) : Host.Outcome State Fault Refusal :=
  onFrame l 0x17
    (fun s =>
      match fields with
      | [r1, r0, i, v1, v0] =>
        groupCommand .run l true (onStage (number2 r1 r0) i.toNat (ownInject (number2 v1 v0))) s
      | _ => refuse .badArgument s) s

/-! ## GET_LAST_RUN (R158) -/

/-- The fields of a record that is present. -/
def lastRunBytes (r : LastRun) : List Byte :=
  bytes2 r.runId ++ bytes1 r.slot ++ bytes2 r.generation ++ bytes1 r.result.number
    ++ optByte (r.fault.map FaultKind.number) ++ bytes1 r.finalStage ++ bytes4 r.runTime ++ flagByte r.degradedAny
    ++ bytes4 r.steamUsed

/-- The fields of a record that is absent: the absent encodings of R187 for the slot, the result, the fault kind, the
final stage and the run time; the run id, the generation, degraded any and the steam used, for which R187 has none, are
free values (notes/assumptions/5.md). -/
def absentRunBytes (free : Nat → Byte) : List Byte :=
  [free 0, free 1] ++ bytes1 absent1 ++ [free 2, free 3] ++ bytes1 absent1 ++ bytes1 absent1 ++ bytes1 absent1
    ++ bytes4 absent4 ++ [free 4] ++ [free 5, free 6, free 7, free 8]

/-- GET_LAST_RUN answered: an absent record is present = 0 and the fields of an absent record. -/
def ownLastRun (s : State) : Reply × State :=
  match s.ret.lastRun with
  | some r => (⟨.ok, flagByte true ++ lastRunBytes r⟩, s)
  | none =>
    (⟨.ok, flagByte false ++ absentRunBytes (Config.absentRecordByte s.draws)⟩,
      { s with draws := s.draws + 1 })

/-- GET_LAST_RUN (R158). -/
def execGetLastRun (l : Link) (fields : List Byte) (s : State) : Host.Outcome State Fault Refusal :=
  onFrame l 0x04 (decideCommand fields.isEmpty true none false ownLastRun) s

end Sys2Proof.Machine
end

