-- ==== Sys2Proof/Machine/OutputCommands.lean ====
section
/-! DEFINITION. LAMP, FORCE_OUTPUT and PULSE_OUTPUT (R78 to R82). -/

namespace Sys2Proof.Machine

/-! ## LAMP (R78) -/

/-- LAMP decided by its owner: 0 OFF, 1 ON. -/
def ownLampCommand (argument : Nat) (s : State) : Reply × State :=
  match argument with
  | 0 => (Reply.bare .ok, stopLamp s)
  | 1 => (Reply.bare .ok, startLamp s)
  | _ => refuse .badArgument s

/-- LAMP (R78). -/
def execLamp (l : Link) (fields : List Byte) (s : State) : Host.Outcome State Fault Refusal :=
  onFrame l 0x36
    (fun s =>
      match fields with
      | [a] => groupCommand .userSettings l true (ownLampCommand a.toNat) s
      | _ => refuse .badArgument s) s

/-! ## FORCE_OUTPUT (R79) -/

/-- The three levels of FORCE_OUTPUT. -/
inductive ForceLevel where
  | off | on | release
  deriving DecidableEq, Repr

def ForceLevel.ofNumber : Nat → Option ForceLevel
  | 0 => some .off
  | 1 => some .on
  | 2 => some .release
  | _ => none

/-- The run, descale and climate cases (R79). -/
def restCase (s : State) : Option Status :=
  if s.ret.run.state ≠ .idle then some .runActive
  else if s.ret.descale.phase ≠ .idle then some .descaleActive
  else if s.climate.state ≠ .off then some .busy
  else none

/-- The supply path is not FREE or CH3 is running. -/
def waterBusy (s : State) : Bool := decide (s.water.path ≠ .free) || decide ((chan s .ch3).state = .running)

/-- A heat load's rating exceeds the headroom of the settings as they stand. -/
def overHeadroom (l : Load) (s : State) : Bool :=
  let limits := limitsOf s.start.straps s.settings
  decide (limits.headroom < limits.ratings.get l)

/-- Another heat load has an entry. -/
def otherHeatForced (o : Output) (s : State) : Bool :=
  s.out.forces.any (fun e => isHeatOutput e.output && decide (e.output ≠ o))

/-- The other vent drive has an entry. -/
def otherVentForced (o : Output) (s : State) : Bool :=
  match o with
  | .ventOpenDrive => (forceEntry .ventCloseDrive s).isSome
  | .ventCloseDrive => (forceEntry .ventOpenDrive s).isSome
  | _ => false

/-- The cases of R79 for a heat load. -/
def heatCase (o : Output) (l : Load) (level : Bool) (s : State) : Option Status :=
  if level = false then some .badArgument
  else if overHeadroom l s then some .badArgument
  else if otherHeatForced o s then some .busy
  else if l.isCavity && doorOpen s then some .busy
  else none

/-- The cases of R79 that concern the output, in the table's order. -/
def outputCase (o : Output) (level : Bool) (s : State) : Option Status :=
  match outputLoad o with
  | some l => heatCase o l level s
  | none =>
    if otherVentForced o s then some .busy
    else if outputIsWater o && waterBusy s then some .busy
    else if inPulse o s then some .busy
    else none

/-- An entry is made, or an existing one takes the level with its time started again (R79). DESIGN CHOICE: the table keeps
the order of making, a replaced entry its place, and a replaced vent drive starts anew (notes/assumptions/22.md and
32.md). -/
def placeForce (o : Output) (level ended : Bool) : List ForceEntry → List ForceEntry
  | [] => [{ output := o, level := level, age := 0, phase := .placing, ended := ended }]
  | e :: rest =>
    if e.output = o then { e with level := level, age := 0, ended := ended } :: rest
    else e :: placeForce o level ended rest

/-- The entry's making; a heat load's is reported to the arbiter as the forced claim (R80). -/
def makeForce (o : Output) (level : Bool) (s : State) : State :=
  let s := { s with out := { s.out with forces := placeForce o level (startsAtEnd s o) s.out.forces } }
  match outputLoad o with
  | none => s
  | some l => { s with share := { s.share with claim := some l } }

/-- An entry in a reply: output, level and remaining seconds. -/
def forceBytes (e : ForceEntry) : List Byte :=
  bytes1 (outputNumber e.output) ++ flagByte e.level ++ bytes1 ((30 * second - e.age) / second)

/-- The list of the entries in the reply to a taken FORCE_OUTPUT, in the table's order (DESIGN CHOICE, R79 gives none;
notes/assumptions/22.md). -/
def forceList (s : State) : List Byte := bytes1 s.out.forces.length ++ s.out.forces.flatMap forceBytes

/-- A taken FORCE_OUTPUT answers with the table it leaves. -/
def forceTaken (s : State) : Reply × State :=
  let s := settle s
  (⟨.ok, forceList s⟩, s)

/-- FORCE_OUTPUT with level RELEASE. -/
def ownRelease (o : Option Output) (s : State) : Reply × State :=
  match o with
  | none => forceTaken s
  | some o => forceTaken (removeForce o s)

/-- FORCE_OUTPUT with level ON or OFF. -/
def ownForceLevel (o : Option Output) (level : Bool) (s : State) : Reply × State :=
  match restCase s with
  | some st => refuse st s
  | none =>
    match o with
    | none => refuse .badArgument s
    | some o =>
      match outputCase o level s with
      | some st => refuse st s
      | none => forceTaken (makeForce o level s)

/-- FORCE_OUTPUT decided by its owner. -/
def ownForce (output level : Nat) (s : State) : Reply × State :=
  match ForceLevel.ofNumber level with
  | none => refuse .badArgument s
  | some .release => ownRelease (outputOfNumber output) s
  | some .off => ownForceLevel (outputOfNumber output) false s
  | some .on => ownForceLevel (outputOfNumber output) true s

/-- FORCE_OUTPUT (R79). -/
def execForceOutput (l : Link) (fields : List Byte) (s : State) : Host.Outcome State Fault Refusal :=
  onFrame l 0x41
    (fun s =>
      match fields with
      | [o, v] => groupCommand .service l true (ownForce o.toNat v.toNat) s
      | _ => refuse .badArgument s) s

/-! ## PULSE_OUTPUT (R82) -/

/-- A set that names no output, a heat load, or both vent drives. -/
def badSet (os : List Output) : Bool :=
  os.isEmpty || os.any isHeatOutput ||
    (decide (Output.ventOpenDrive ∈ os) && decide (Output.ventCloseDrive ∈ os))

/-- The pulse is busy: a pulse record that is not none, an output with an entry, or a water output while the path is
not FREE or CH3 runs. -/
def pulseBusy (os : List Output) (s : State) : Bool :=
  s.out.pulse.isSome || os.any (fun o => (forceEntry o s).isSome) || (os.any outputIsWater && waterBusy s)

/-- PULSE_OUTPUT decided by its owner. -/
def ownPulse (os : List Output) (ms : Nat) (s : State) : Reply × State :=
  match restCase s with
  | some st => refuse st s
  | none =>
    if badSet os then refuse .badArgument s
    else if pulseBusy os s then refuse .busy s
    else
      let time := clampNat ms 10 5000
      taken ⟨clampedStatus (decide (time ≠ ms)), bytes2 time⟩
        { s with
          out :=
            { s.out with
              pulse := some { outputs := os, remaining := time * millisecond, ended := os.any (startsAtEnd s) } } }

/-- PULSE_OUTPUT (R82). -/
def execPulseOutput (l : Link) (fields : List Byte) (s : State) : Host.Outcome State Fault Refusal :=
  onFrame l 0x42
    (fun s =>
      match fields with
      | [m1, m0, t1, t0] =>
        groupCommand .service l true (ownPulse (outputsOfMask (number2 m1 m0)) (number2 t1 t0)) s
      | _ => refuse .badArgument s) s

end Sys2Proof.Machine
end

