-- ==== Sys2Proof/Machine/Reports.lean ====
section
/-! DEFINITION. GET_STATUS and GET_SNAPSHOT (R189, R190), READ_SETTING and WRITE_SETTING (R191). -/

namespace Sys2Proof.Machine

/-! ## GET_STATUS (R189) -/

/-- The status record. -/
def statusRecord (s : State) : List Byte :=
  flagByte s.start.ready ++ bytes1 s.start.kind.number ++ bytes2 s.start.outage ++ flagByte s.start.resumed
    ++ bytes1 s.meas.frequency.number ++ bytes1 (strapsNumber s.start.straps) ++ bytes4 (seconds s)
    ++ bytes1 s.ret.run.state.number ++ bytes2 s.ret.run.runId

/-- GET_STATUS (R189). -/
def execGetStatus (l : Link) (fields : List Byte) (s : State) : Host.Outcome State Fault Refusal :=
  onFrame l 0x01 (readCommand fields.isEmpty (fun s => ⟨.ok, statusRecord s⟩)) s

/-! ## GET_SNAPSHOT (R190) -/

/-- The run's part: run state, run id, stage index, remaining time, pause causes. -/
def snapshotRun (r : RunContext) : List Byte :=
  bytes1 r.state.number ++ bytes2 r.runId ++ bytes1 (if r.known then r.stageIndex else absent1)
    ++ bytes4 (if r.state = .idle then absent4 else (stageRemaining r).getD absent4) ++ bytes1 (causesNumber r.causes)

/-- The climate's part: state, mode and setpoint. -/
def snapshotClimate (c : Climate) : List Byte :=
  bytes1 c.state.number ++ optByte (c.record.map (fun r => r.mode.number))
    ++ (match c.record with | none => bytes2 absent2 | some r => signedBytes2 r.setpoint)

/-- The measured part: cavity, moisture and core readings and the probe state. -/
def snapshotMeasured (m : Measurement) : List Byte :=
  signedBytes2 m.cavity ++ bytes1 m.moisture.toNat ++ signedBytes2 m.core ++ flagByte m.probePresent

/-- The current grants, top, bottom, ring, grill, boiler (R62). -/
def grantBytes (g : PerLoad Nat) : List Byte :=
  bytes1 g.top ++ bytes1 g.bottom ++ bytes1 g.ring ++ bytes1 g.grill ++ bytes1 g.boiler

/-- The snapshot record, 33 bytes. -/
def snapshotRecord (s : State) : List Byte :=
  snapshotRun s.ret.run ++ snapshotClimate s.climate ++ snapshotMeasured s.meas ++ bytes1 s.boiler.state.number
    ++ bytes1 s.water.path.number ++ bytes1 s.scale.level.number ++ bytes1 s.ret.descale.phase.number
    ++ flagByte s.marker ++ bytes2 (faultMask s) ++ bytes1 (lockInputs s) ++ bytes1 s.meas.frequency.number
    ++ grantBytes s.share.currentGrants

/-- GET_SNAPSHOT (R190). -/
def execGetSnapshot (l : Link) (fields : List Byte) (s : State) : Host.Outcome State Fault Refusal :=
  onFrame l 0x02 (readCommand fields.isEmpty (fun s => ⟨.ok, snapshotRecord s⟩)) s

/-! ## Settings (R191) -/

/-- The stored value of a setting's number; none outside 1 to 20. -/
def settingValue (x : Settings) : Nat → Option Int
  | 1 => some x.hardness
  | 2 => some x.flowConstant
  | 3 => some x.scaleLimit
  | 4 => some x.resumeLimit
  | 5 => some x.budgetOverride
  | 6 => some x.reserve
  | 7 => some x.ratings.top
  | 8 => some x.ratings.bottom
  | 9 => some x.ratings.ring
  | 10 => some x.ratings.grill
  | 11 => some x.ratings.boiler
  | 12 => some x.offsets.cavityUpper
  | 13 => some x.offsets.cavityLower
  | 14 => some x.offsets.boiler
  | 15 => some x.offsets.coreA
  | 16 => some x.offsets.coreB
  | 17 => some x.offsets.coreC
  | 18 => some x.offsets.moisture
  | 19 => some x.fillVolume
  | 20 => some (if x.childLock then 1 else 0)
  | _ => none

/-- The result of READ_SETTING and WRITE_SETTING: the number and the stored value. -/
def settingBytes (number : Nat) (value : Int) : List Byte := bytes1 number ++ signedBytes4 value

/-- READ_SETTING answered. -/
def readSettingReply (number : Nat) (s : State) : Reply :=
  match settingValue s.settings number with
  | none => Reply.bare .badArgument
  | some v => ⟨.ok, settingBytes number v⟩

/-- READ_SETTING (R191). -/
def execReadSetting (l : Link) (fields : List Byte) (s : State) : Host.Outcome State Fault Refusal :=
  onFrame l 0x06
    (fun s =>
      match fields with
      | [n] => readCommand true (readSettingReply n.toNat) s
      | _ => refuse .badArgument s) s

/-- The range of a setting's number (R3, R48, R100, R110, R195). -/
def settingRange (straps : Straps) : Nat → Int × Int
  | 1 => (0, 600)
  | 2 => (500, 6000)
  | 3 => (5000, 100000)
  | 4 => (0, 600)
  | 5 => (1500, budgetWatts straps.budget)
  | 6 => (100, 400)
  | 7 => (200, 3000)
  | 8 => (200, 3000)
  | 9 => (200, 3000)
  | 10 => (200, 3000)
  | 11 => (200, 3000)
  | 19 => (300, 900)
  | _ => (-100, 100)

/-- The value stored for a value written: an override of 0 stands for no override (R48). -/
def storedValue (straps : Straps) (number : Nat) (value : Int) : Int :=
  if number = 5 ∧ value = 0 then 0
  else clampInt value (settingRange straps number).1 (settingRange straps number).2

/-- A stored value takes its place among the settings. -/
def Settings.store (x : Settings) (number : Nat) (value : Int) : Settings :=
  match number with
  | 1 => { x with hardness := value.toNat }
  | 2 => { x with flowConstant := value.toNat }
  | 3 => { x with scaleLimit := value.toNat }
  | 4 => { x with resumeLimit := value.toNat }
  | 5 => { x with budgetOverride := value.toNat }
  | 6 => { x with reserve := value.toNat }
  | 7 => { x with ratings := { x.ratings with top := value.toNat } }
  | 8 => { x with ratings := { x.ratings with bottom := value.toNat } }
  | 9 => { x with ratings := { x.ratings with ring := value.toNat } }
  | 10 => { x with ratings := { x.ratings with grill := value.toNat } }
  | 11 => { x with ratings := { x.ratings with boiler := value.toNat } }
  | 12 => { x with offsets := { x.offsets with cavityUpper := value } }
  | 13 => { x with offsets := { x.offsets with cavityLower := value } }
  | 14 => { x with offsets := { x.offsets with boiler := value } }
  | 15 => { x with offsets := { x.offsets with coreA := value } }
  | 16 => { x with offsets := { x.offsets with coreB := value } }
  | 17 => { x with offsets := { x.offsets with coreC := value } }
  | 18 => { x with offsets := { x.offsets with moisture := value } }
  | 19 => { x with fillVolume := value.toNat }
  | _ => x

/-- The group of the setting named (R178). -/
def settingGroup (number : Nat) : Group :=
  if number = 1 ∨ number = 3 ∨ number = 4 then .userSettings else .service

/-- What the account and the sequencer do with a write: H and K drop the carry, K the remainder of the steam used,
and the limit has the level evaluated (R110, R140). -/
def afterWrite (number : Nat) (s : State) : State :=
  match number with
  | 1 => { s with scale := { s.scale with carry := 0 } }
  | 2 => setRun { s.ret.run with steamRemainder := 0 } { s with scale := { s.scale with carry := 0 } }
  | 3 => evaluateLevel s
  | _ => s

/-- A write takes its effect: the stored value, SETTINGS_CHANGED and the commit. -/
def writeSetting (number : Nat) (value : Int) (s : State) : State :=
  askCommit
    (raiseEvent .settingsChanged (numberArg number)
      (afterWrite number { s with settings := s.settings.store number value }))

/-- WRITE_SETTING taken by the unit that uses the setting. -/
def ownWrite (number : Nat) (value : Int) (s : State) : Reply × State :=
  let stored := storedValue s.start.straps number value
  taken ⟨clampedStatus (decide (stored ≠ value)), settingBytes number stored⟩ (writeSetting number stored s)

/-- WRITE_SETTING (R191): the setting number is checked before the lock. -/
def execWriteSetting (l : Link) (fields : List Byte) (s : State) : Host.Outcome State Fault Refusal :=
  onFrame l 0x30
    (fun s =>
      match fields with
      | [n, v3, v2, v1, v0] =>
        decideCommand true false (if n.toNat = 0 ∨ 19 < n.toNat then some .badArgument else none)
          (locked (settingGroup n.toNat) l s) (ownWrite n.toNat (signed4 (number4 v3 v2 v1 v0))) s
      | _ => refuse .badArgument s) s

end Sys2Proof.Machine
end

