-- ==== Sys2Proof/Machine/StartUp.lean ====
section
/-! DEFINITION. The start-up and retention unit and the settings store (R193 to R198), with the settlement of an
interrupted run (R159, R160) and of an interrupted descale (R129): the rows RESET, COMMIT_END and STARTING_END. -/

namespace Sys2Proof.Machine

/-! ## RESET (R193 to R195) -/

/-- The validity latch when the reset ends, before it is set again (R193). -/
def latchKept (cause : ResetCause) (s : State) : Bool := s.start.latch && !cause.holdUpExhausted

/-- The kind of a reset (R193). -/
def resetKind (cause : ResetCause) (s : State) : ResetKind :=
  if latchKept cause s then (if cause.supplyFell then .dip else .line) else .cold

/-- The outage reported: a DIP's outage timer with the time the reset lasted (R193). -/
def resetOutage (cause : ResetCause) (s : State) : Nat :=
  if resetKind cause s = .dip then min 65535 ((s.start.outageTimer + cause.held) / second) else 0

/-- Retention is valid (R194). -/
def retentionHolds (cause : ResetCause) (s : State) : Bool := latchKept cause s && cause.checkAgrees

/-- The loaded override is limited to the latched BUDGET strap (R48). -/
def limitOverride (straps : Straps) (x : Settings) : Settings :=
  { x with budgetOverride := min x.budgetOverride (budgetWatts straps.budget) }

/-- The record of a store that holds none (R195). -/
def StoreRecord.defaults : StoreRecord :=
  { settings := .defaults, deposit := 0, carry := 0, marker := false, summary := .initial }

/-- The record that a reset loads (R195). -/
def loadedRecord (s : State) : StoreRecord := s.store.verified.getD .defaults

/-- A reading taken from the raw level (R162). -/
def InputLine.first (x : InputLine) : InputLine := ⟨x.raw, x.raw, 0⟩

/-- The first readings; INLET_PRESSURE reads absent with SUPPLY at TANK (R162). -/
def firstReadings (straps : Straps) (p : Inputs) : Inputs :=
  let p := p.map InputLine.first
  if straps.supply = .tank then { p with inletPressure := { p.inletPressure with reading := false } } else p

/-- A port after a reset that lasted `held` microseconds (R192). DESIGN CHOICE: the bytes that had not ended by then are
still to come on its line (notes/assumptions/58.md). -/
def Port.afterReset (held : Nat) (p : Port) : Port := { Port.initial with line := laterBytes (p.quiet + held) p.line }

/-- The state a reset sets before any condition is raised: retained memory as it is found, the loaded record, and the
volatile units at their after-reset values (R19, R22, R61, R82, R108, R172, R173, R192 to R195). -/
def resetState (cause : ResetCause) (s : State) : State :=
  let record := loadedRecord s
  let settings := limitOverride cause.straps record.settings
  { now := 0, pending := s.pending, windows := s.windows, draws := s.draws
    meas := .initial, climate := .initial, share := .initial (limitsOf cause.straps settings), out := .initial
    water := .initial, boiler := .initial
    scale :=
      { deposit := record.deposit, carry := record.carry, level := levelOf record.deposit settings.scaleLimit }
    work := { dose := none, drain := false, faulted := 0 }, marker := record.marker
    seq := { tickClock := 0, waterCondition := false }
    ret := if retentionHolds cause s then s.ret else .initial record.summary.runId
    inputs := firstReadings cause.straps s.inputs, events := .initial, prot := .initial
    ports := s.ports.map (Port.afterReset cause.held)
    settings := settings
    store := { verified := s.store.verified, writing := none, followUp := false, asked := false }
    start :=
      { ready := false, kind := resetKind cause s, outage := resetOutage cause s, resumed := false
        straps := cause.straps, latch := true, retentionValid := retentionHolds cause s, outageTimer := 0
        summary := record.summary } }

/-- What the first readings and the loaded record raise (R76, R83, R111, R118, R163). -/
def raiseAtReset (s : State) : State :=
  let s := if cutoutOpen s then enterFault .thermalCutout s else s
  let s := followPrompt (followWaterConditions (followLevel (followTray s)))
  if endReached .closed s then arriveVent .closed s else s

/-- RESET (R193). -/
def execReset (cause : ResetCause) (s : State) : Host.Outcome State Fault Refusal :=
  .next (raiseAtReset (resetState cause s))

/-! ## COMMIT_END (R197) -/

/-- The store after a write: the follow-up begins a new one with the contents of this moment (R196). -/
def nextWrite (s : State) : State :=
  { s with
    store := { s.store with writing := if s.store.followUp then some (recordOf s) else none, followUp := false } }

/-- The end of a write of `record`. -/
def endWrite (good : Bool) (record : StoreRecord) (s : State) : State :=
  nextWrite
    (if good then leaveFault .storeWrite { s with store := { s.store with verified := some record } }
    else enterFault .storeWrite s)

/-- COMMIT_END (R197): with no write in progress nothing changes. -/
def execCommitEnd (good : Bool) (s : State) : Host.Outcome State Fault Refusal :=
  match s.store.writing with
  | none => .next s
  | some record => .next (endWrite good record s)

/-! ## The settlement of the run (R159, R160) -/

/-- The POWER_LOSS record of a run summary (R159). -/
def summaryLastRun (runId : Nat) (o : OpenRun) : LastRun :=
  { runId := runId, slot := o.slot, generation := o.generation, result := .powerLoss, fault := none
    finalStage := o.stageIndex, runTime := o.runTime, degradedAny := o.degradedAny, steamUsed := o.steamUsed }

/-- Retention was not valid: an open run summary gives the POWER_LOSS record (R159). -/
def settleLost (s : State) : State :=
  match s.start.summary.opened with
  | none => s
  | some o =>
    askCommit
      (raiseEvent .programEnded (numberArg o.stageIndex)
        { s with ret := { s.ret with lastRun := some (summaryLastRun s.start.summary.runId o) } })

/-- The conditions of a resume (R160). -/
def mayResume (s : State) : Bool :=
  let x := s.ret.slots.get s.ret.run.slot
  decide (s.start.outage ≤ s.settings.resumeLimit) && decide (x.state = .inUse) &&
    decide (x.generation = s.ret.run.generation) && !s.marker

/-- The pause causes derived afresh (R160). -/
def freshCauses (s : State) : Causes :=
  { door := doorOpen s, water := waterConditionHolds s
    probe := decide ((currentStage s).ending = .core) && !s.meas.probePresent, mains := !s.meas.mainsPresent }

/-- The run context with fresh causes: a cause present before and after keeps its timer. -/
def RunContext.withCauses (was c : Causes) (r : RunContext) : RunContext :=
  { r with
    state := if c.isEmpty then .running else .paused, causes := c
    doorTimer := if was.door && c.door then r.doorTimer else 0
    waterTimer := if was.water && c.water then r.waterTimer else 0 }

/-- What a resume raises: RESUMED_AFTER_DIP, PROGRAM_PAUSED where a cause is present, and the condition of
CONFIRM_AWAITED of a CONFIRM stage (R160, R172). -/
def raiseResumed (s : State) : State :=
  let s := raiseEvent .resumedAfterDip (stageArg s) s
  let s := if s.ret.run.causes.isEmpty then s else raiseEvent .programPaused (stageArg s) s
  if (currentStage s).ending = .confirm then raiseEvent .confirmAwaited (stageArg s) s else s

/-- The regulator is written and the other units told of a run that goes on (R160); `was` are the retained causes. -/
def continueRun (was : Causes) (s : State) : State :=
  let c := freshCauses s
  let s := setRun (s.ret.run.withCauses was c) { s with seq := { s.seq with waterCondition := c.water } }
  let r := s.ret.run
  let s := resumeWrite (stageRecord (currentStage s) r) r.tempReached r.moistReached c.door s
  let s := withholdSteam (c.water || r.degraded) s
  let s := if programUsesSteam (runStages s) then markDrain false s else s
  let s := raiseResumed s
  if c.door then s else requestDeferred s

/-- A run resumes (R160). The fault checks of R150 and R151 are made as at a stage entry (R138), before the regulator is
written: a fatal fault ends the run there, and a water or boiler fault degrades the stage before its causes are derived,
its record written and its deferred burst requested (DEDUCED, notes/assumptions/56.md). -/
def resumeRun (s : State) : State :=
  let was := s.ret.run.causes
  let s := setRun { s.ret.run with state := .running, causes := .none } { s with start := { s.start with resumed := true } }
  match fatalFault s with
  | some f => endRun .fault (some f) s
  | none =>
    if steamFault s && !s.ret.run.steamLost then
      checkStageEnd (continueRun was (degradeStage (setRun { s.ret.run with steamLost := true } s)))
    else continueRun was s

/-- A run does not resume (R160). -/
def losePower (s : State) : State :=
  let last := lastRunOf s.ret.run .powerLoss none
  let slots := s.ret.slots.set s.ret.run.slot (s.ret.slots.get s.ret.run.slot).release
  askCommit
    (raiseEvent .programEnded (numberArg last.finalStage)
      { s with ret := { s.ret with run := s.ret.run.idle, slots := slots, lastRun := some last } })

/-- The sequencer's settlement (R198, evaluation 1). -/
def settleRun (s : State) : State :=
  if s.start.retentionValid = false then settleLost s
  else if s.ret.run.state = .idle then s
  else if mayResume s then resumeRun s
  else losePower s

/-! ## The recovery of the descale (R129) -/

/-- The retained phase makes the reset an abort with credit. -/
def soakCut (s : State) : Bool :=
  s.start.retentionValid && (decide (s.ret.descale.phase = .draw) || decide (s.ret.descale.phase = .soak))

/-- The retained phase is one of the rinses' or the drain's: the soak counts as completed. -/
def rinseCut (s : State) : Bool :=
  s.start.retentionValid &&
    (match s.ret.descale.phase with
      | .drainAgent | .awaitRinse | .rinse1 | .rinse2 => true
      | _ => false)

/-- The recovery with the marker set. -/
def recoverAgent (s : State) : State :=
  let s :=
    if rinseCut s then s
    else
      let s := if soakCut s then creditAbort s else s
      setDescale { s.ret.descale with aborted := true } s
  enterDrainAgent (setStall .none s)

/-- The recovery with the marker clear. -/
def recoverClean (s : State) : State :=
  if s.ret.descale.phase = .idle then s
  else enterPhase .idle none (setStall .none (setDescale { s.ret.descale with result := .aborted } s))

/-- The descale controller's recovery (R198, evaluation 2). -/
def recoverDescale (s : State) : State := if s.marker then recoverAgent s else recoverClean s

/-! ## STARTING_END (R198) -/

/-- The three conditions hold together. -/
def startingEndDue (s : State) : Bool :=
  !s.start.ready && (decide (s.meas.frequency ≠ .undecided) || s.meas.frequencyWaitOver) && allCounted s &&
    s.boiler.derived

/-- The evaluations, and the part state READY. -/
def endStarting (s : State) : State :=
  recoverDescale (settleRun { s with start := { s.start with ready := true } })

/-- STARTING_END (R198). -/
def execStartingEnd (s : State) : Host.Outcome State Fault Refusal :=
  if startingEndDue s then .next (settle (endStarting s)) else .next s

end Sys2Proof.Machine
end

