-- ==== Sys2Proof/Machine/Ticks.lean ====
section
/-! DEFINITION. What the part does while no command waits: one microsecond of the timebase passes, every timer that
counts rises, and the rows whose timers or conditions that enables join the queue (DESIGN CHOICE,
notes/assumptions/1.md and notes/assumptions/2.md). -/

namespace Sys2Proof.Machine

/-! ## One microsecond -/

/-- The measurement unit's clocks. -/
def Measurement.pass (m : Measurement) : Measurement :=
  { m with
    sampleClock := m.sampleClock + 1, tachoAge := m.tachoAge + 1, edgeAge := m.edgeAge + 1
    pulseAge := m.pulseAge + 1 }

/-- The soak elapsed counts at this whole second (R120). -/
def soakCounts (s : State) : Bool :=
  s.start.ready && decide (s.ret.descale.phase = .soak) && decide (570 ≤ s.meas.boiler) &&
    !hasFault .sensorBoiler s && s.meas.mainsPresent

/-- A relay's timer. -/
def Relay.pass (x : Relay) : Relay := { x with timer := x.timer + 1 }

/-- The fan drive's clock and timers (R74, R75). DESIGN CHOICE: outside BRAKING the slow timer, to which R75 gives no value
there, is 0 (notes/assumptions/70.md). -/
def FanDrive.pass (speed : Nat) (f : FanDrive) : FanDrive :=
  { f with
    tickClock := f.tickClock + 1
    stallTimer := if f.phase = .running ∧ 300 ≤ f.duty ∧ speed = 0 then f.stallTimer + 1 else 0
    slowTimer := if f.phase = .braking ∧ speed < 300 then f.slowTimer + 1 else 0 }

/-- The flap's travel timer (R76). DESIGN CHOICE: in OPEN, CLOSED and STUCK, where R76 and R77 give it no value, it keeps its
last count (notes/assumptions/69.md). -/
def VentFlap.pass (v : VentFlap) : VentFlap :=
  { v with travel := if v.state = .opening ∨ v.state = .closing then v.travel + 1 else v.travel }

/-- The output timing unit's timers. -/
def OutputTiming.pass (speed : Nat) (o : OutputTiming) : OutputTiming :=
  { o with
    heaterRelay := o.heaterRelay.pass, fanRelay := o.fanRelay.pass, fan := o.fan.pass speed, vent := o.vent.pass
    lampShot := o.lampShot.map (· + 1), forces := o.forces.map (fun e => { e with age := e.age + 1 })
    pulse := o.pulse.map (fun p => { p with remaining := p.remaining - 1 }) }

/-- One second of a drain passes from remaining to delivered (R98). -/
def Dose.drainSecond (d : Dose) : Dose :=
  if d.remaining = 0 then d else { d with remaining := d.remaining - 1, delivered := d.delivered + 1 }

/-- A drain that runs while mains is PRESENT counts (R98). DESIGN CHOICE: the part of a second that it has counted keeps its
last value until the next load (notes/assumptions/71.md). -/
def passDrain (s : State) : State :=
  if draining s then
    if second ≤ s.water.drainClock + 1 then
      let s := { s with water := { s.water with drainClock := 0 } }
      match (chan s .ch3).dose with
      | none => s
      | some d => setDose .ch3 d.drainSecond s
    else { s with water := { s.water with drainClock := s.water.drainClock + 1 } }
  else s

/-- The path's timers: the settle time always, the no-flow time while mains is PRESENT (R85, R92, R97). DESIGN CHOICE: the
no-flow timer while no channel is RUNNING, and the settle timer outside SETTLING, keep their last counts
(notes/assumptions/71.md). -/
def passPath (mains : Bool) (w : Water) : Water :=
  match w.path with
  | .free => w
  | .granted _ => { w with noFlowTimer := if mains then w.noFlowTimer + 1 else w.noFlowTimer }
  | .settling => { w with settleTimer := w.settleTimer + 1 }

/-- A watched input's settling timer (R161). -/
def InputLine.pass (x : InputLine) : InputLine :=
  { x with timer := if x.raw = x.reading then 0 else x.timer + 1 }

/-- The settling timers; INLET_PRESSURE is not watched with SUPPLY at TANK (R162). -/
def passInputs (tank : Bool) (p : Inputs) : Inputs :=
  let q := p.map InputLine.pass
  if tank then { q with inletPressure := p.inletPressure } else q

/-- The next byte on the line has ended by now: the time since the latest byte starts anew (R181). -/
def Port.listen (p : Port) : Port :=
  match p.line with
  | [] => p
  | g :: rest => if g ≤ p.quiet then { p with quiet := 0, line := rest } else p

/-- A port's timers. -/
def Port.pass (p : Port) : Port :=
  { p.listen with quiet := p.listen.quiet + 1, sending := if p.state = .replying then p.sending + 1 else p.sending }

/-- One microsecond passes for every unit; which timers count is decided on the state it finds. -/
def advance (s : State) : State :=
  let soak := soakCounts s && decide ((s.now + 1) % second = 0)
  let reversal := if reversalCounts s then s.climate.reversal + 1 else s.climate.reversal
  let t :=
    { s with
      now := s.now + 1, meas := s.meas.pass, climate := { s.climate with reversal := reversal }
      out := s.out.pass s.meas.speed, water := passPath s.meas.mainsPresent s.water
      seq := { s.seq with tickClock := s.seq.tickClock + 1 }
      ret :=
        { s.ret with
          descale :=
            { s.ret.descale with elapsed := if soak then s.ret.descale.elapsed + 1 else s.ret.descale.elapsed } }
      inputs := passInputs (tankOven s) s.inputs
      prot := { s.prot with silence := if s.prot.serviceUnlock then s.prot.silence + 1 else s.prot.silence }
      ports := s.ports.map Port.pass
      start :=
        { s.start with
          outageTimer := if s.meas.mainsPresent then s.start.outageTimer else s.start.outageTimer + 1 } }
  passDrain t

/-! ## The rows that become due -/

/-- A command that waits where its condition holds. -/
def whenDue (due : Bool) (c : Instr) : List Instr := if due then [c] else []

/-- Every relay. -/
def allRelays : List RelayId := [.heaterSupply, .fanDirection]

/-- Every link. -/
def allLinks : List Link := [.panel, .network, .service]

/-- The measurement unit's rows. -/
def dueMeasurement (s : State) : List Instr :=
  whenDue (tachoTimeoutDue s && decide (s.meas.speed ≠ 0)) .tachoTimeout
    ++ whenDue (groupTimeoutDue s) .zeroCrossGroupTimeout ++ whenDue (frequencyTimeoutDue s) .frequencyTimeout
    ++ whenDue (mainsLostDue s) .mainsLost

/-- The arbiter's and the output timing unit's rows. -/
def dueOutputs (s : State) : List Instr :=
  whenDue s.share.allocation.isSome .allocationEnd
    ++ allRelays.flatMap (fun r => whenDue (relayChangeDue r s) (.relayChangeStart r))
    ++ allRelays.flatMap (fun r => whenDue (relayContactDue r s) (.relayContactEnd r))
    ++ allRelays.flatMap (fun r => whenDue (relayRecoveryDue r s) (.relayRecoveryEnd r))
    ++ whenDue (fanTickDue s) .fanTick ++ whenDue (fanStallDue s) .fanStall
    ++ whenDue (reversalDue s) .reversalTimerExpiry ++ whenDue (slowTimerDue s) .slowTimerExpiry
    ++ whenDue (ventStuckDue s) .ventStuck ++ whenDue (lampShotDue s) .lampOneShotExpiry
    ++ allOutputs.flatMap (fun o => whenDue (forceDue o s) (.forceExpiry o)) ++ whenDue (pulseDue s) .pulseEnd

/-- The water unit's and the descale controller's rows. -/
def dueWater (s : State) : List Instr :=
  whenDue (heatUpDue s) .heatUpCountExpiry ++ whenDue (settleEndDue s) .settleEnd ++ whenDue (noFlowDue s) .noFlow
    ++ whenDue (drainCountDue s) .drainTerminalCount ++ whenDue (boilerFillDue s) .boilerFill
    ++ whenDue (topUpDue s) .topUp ++ whenDue (boilerDrainDue s) .boilerDrainStart ++ whenDue (soakEndDue s) .soakEnd
    ++ whenDue (descaleDoseDue s) .descaleDoseLoad ++ whenDue (descaleDrainDue s) .descaleDrainLoad

/-- The rows of the sequencer, the inputs, the ports and the start-up unit. -/
def dueRest (s : State) : List Instr :=
  whenDue (sequencerTickDue s) .sequencerTick ++ whenDue (stageTimeDue s) .stageTimeEnd
    ++ whenDue (doorTimeoutDue s) .doorTimeout ++ whenDue (waterTimeoutDue s) .waterTimeout
    ++ allInputs.flatMap (fun i => whenDue (inputChangeDue i s) (.inputChange i))
    ++ whenDue (silenceDue s) .serviceSilenceTimeout ++ whenDue (startingEndDue s) .startingEnd
    ++ allLinks.flatMap (fun l => whenDue (frameGapDue l s) (.frameGapTimeout l))
    ++ allLinks.flatMap (fun l => whenDue (discardClearDue l s) (.discardMarkClear l))
    ++ allLinks.flatMap (fun l => whenDue (replySentDue l s) (.replySent l))

/-- The rows that are due, in one fixed order. -/
def due (s : State) : List Instr := dueMeasurement s ++ dueOutputs s ++ dueWater s ++ dueRest s

/-- The step of a part for which no command waits. -/
def tick (s : State) : State :=
  let s := advance s
  { s with pending := s.pending ++ due s }

end Sys2Proof.Machine
end

