-- ==== Sys2Proof/Machine/Dispatch.lean ====
section
/-! DEFINITION. One arm per command. -/

namespace Sys2Proof.Machine

/-- The effect of a command on everything but the queue. -/
def exec (i : Instr) (s : State) : Host.Outcome State Fault Refusal :=
  match i with
  | .reset cause => Sys2Proof.Machine.execReset cause s
  | .samplePeriod raw => Sys2Proof.Machine.execSamplePeriod raw s
  | .tachoEdge => Sys2Proof.Machine.execTachoEdge s
  | .tachoTimeout => Sys2Proof.Machine.execTachoTimeout s
  | .zeroCross => Sys2Proof.Machine.execZeroCross s
  | .allocationEnd => Sys2Proof.Machine.execAllocationEnd s
  | .heatUpCountExpiry => Sys2Proof.Machine.execHeatUpCountExpiry s
  | .zeroCrossGroupTimeout => Sys2Proof.Machine.execZeroCrossGroupTimeout s
  | .frequencyTimeout => Sys2Proof.Machine.execFrequencyTimeout s
  | .mainsLost => Sys2Proof.Machine.execMainsLost s
  | .flowPulse => Sys2Proof.Machine.execFlowPulse s
  | .settleEnd => Sys2Proof.Machine.execSettleEnd s
  | .noFlow => Sys2Proof.Machine.execNoFlow s
  | .drainTerminalCount => Sys2Proof.Machine.execDrainTerminalCount s
  | .boilerFill => Sys2Proof.Machine.execBoilerFill s
  | .topUp => Sys2Proof.Machine.execTopUp s
  | .boilerDrainStart => Sys2Proof.Machine.execBoilerDrainStart s
  | .relayChangeStart r => Sys2Proof.Machine.execRelayChangeStart r s
  | .relayContactEnd r => Sys2Proof.Machine.execRelayContactEnd r s
  | .relayRecoveryEnd r => Sys2Proof.Machine.execRelayRecoveryEnd r s
  | .fanTick => Sys2Proof.Machine.execFanTick s
  | .fanStall => Sys2Proof.Machine.execFanStall s
  | .reversalTimerExpiry => Sys2Proof.Machine.execReversalTimerExpiry s
  | .slowTimerExpiry => Sys2Proof.Machine.execSlowTimerExpiry s
  | .ventStuck => Sys2Proof.Machine.execVentStuck s
  | .lampOneShotExpiry => Sys2Proof.Machine.execLampOneShotExpiry s
  | .forceExpiry o => Sys2Proof.Machine.execForceExpiry o s
  | .pulseEnd => Sys2Proof.Machine.execPulseEnd s
  | .soakEnd => Sys2Proof.Machine.execSoakEnd s
  | .descaleDoseLoad => Sys2Proof.Machine.execDescaleDoseLoad s
  | .descaleDrainLoad => Sys2Proof.Machine.execDescaleDrainLoad s
  | .sequencerTick => Sys2Proof.Machine.execSequencerTick s
  | .stageTimeEnd => Sys2Proof.Machine.execStageTimeEnd s
  | .doorTimeout => Sys2Proof.Machine.execDoorTimeout s
  | .waterTimeout => Sys2Proof.Machine.execWaterTimeout s
  | .inputChange n => Sys2Proof.Machine.execInputChange n s
  | .serviceSilenceTimeout => Sys2Proof.Machine.execServiceSilenceTimeout s
  | .commitEnd good => Sys2Proof.Machine.execCommitEnd good s
  | .startingEnd => Sys2Proof.Machine.execStartingEnd s
  | .frameGapTimeout l => Sys2Proof.Machine.execFrameGapTimeout l s
  | .badFrame l defect => Sys2Proof.Machine.execBadFrame l defect s
  | .frameStartWhileBusy f => Sys2Proof.Machine.execFrameStartWhileBusy f s
  | .discardMarkClear l => Sys2Proof.Machine.execDiscardMarkClear l s
  | .replySent l => Sys2Proof.Machine.execReplySent l s
  | .unknownCommand l code fields => Sys2Proof.Machine.execUnknownCommand l code fields s
  | .getStatus l fields => Sys2Proof.Machine.execGetStatus l fields s
  | .getSnapshot l fields => Sys2Proof.Machine.execGetSnapshot l fields s
  | .fetchEvents l fields => Sys2Proof.Machine.execFetchEvents l fields s
  | .getLastRun l fields => Sys2Proof.Machine.execGetLastRun l fields s
  | .readSlot l fields => Sys2Proof.Machine.execReadSlot l fields s
  | .readSetting l fields => Sys2Proof.Machine.execReadSetting l fields s
  | .readScale l fields => Sys2Proof.Machine.execReadScale l fields s
  | .loadProgram l fields => Sys2Proof.Machine.execLoadProgram l fields s
  | .clearSlot l fields => Sys2Proof.Machine.execClearSlot l fields s
  | .start l fields => Sys2Proof.Machine.execStart l fields s
  | .stop l fields => Sys2Proof.Machine.execStop l fields s
  | .adjust l fields => Sys2Proof.Machine.execAdjust l fields s
  | .skipStage l fields => Sys2Proof.Machine.execSkipStage l fields s
  | .confirm l fields => Sys2Proof.Machine.execConfirm l fields s
  | .inject l fields => Sys2Proof.Machine.execInject l fields s
  | .descaleStart l fields => Sys2Proof.Machine.execDescaleStart l fields s
  | .descaleConfirm l fields => Sys2Proof.Machine.execDescaleConfirm l fields s
  | .descaleAbort l fields => Sys2Proof.Machine.execDescaleAbort l fields s
  | .writeSetting l fields => Sys2Proof.Machine.execWriteSetting l fields s
  | .setLock l fields => Sys2Proof.Machine.execSetLock l fields s
  | .serviceUnlock l fields => Sys2Proof.Machine.execServiceUnlock l fields s
  | .serviceLock l fields => Sys2Proof.Machine.execServiceLock l fields s
  | .setSteering l fields => Sys2Proof.Machine.execSetSteering l fields s
  | .clearFaults l fields => Sys2Proof.Machine.execClearFaults l fields s
  | .lamp l fields => Sys2Proof.Machine.execLamp l fields s
  | .scaleReset l fields => Sys2Proof.Machine.execScaleReset l fields s
  | .forceOutput l fields => Sys2Proof.Machine.execForceOutput l fields s
  | .pulseOutput l fields => Sys2Proof.Machine.execPulseOutput l fields s
  | .frameStart f => Sys2Proof.Machine.execFrameStart f s
  | .rawLevelChange n level => Sys2Proof.Machine.execRawLevelChange n level s

end Sys2Proof.Machine
end

