-- ==== Sys2Proof/Safety.lean ====
section
/-! DEFINITION. What holds in every state that a step leaves, in the terms the statements use: the event queues, the
supply path, the dose records, the run state, the stored settings and the budget law. -/

namespace Sys2Proof.Machine

/-! ## Event queues (R166) -/

/-- A queue holds at most one entry per kind, each with a count of 1 to 255. -/
def QueueSound (q : List Entry) : Prop :=
  (q.map Entry.kind).Nodup ∧ ∀ e ∈ q, 1 ≤ e.count ∧ e.count ≤ 255

/-- Every link's queue is sound. -/
def QueuesSound (s : State) : Prop := ∀ l : Link, QueueSound (s.events.queues.get l)

/-- The fault set names no member twice (R170). -/
def FaultsSound (s : State) : Prop := s.events.faults.Nodup

/-! ## The supply path (R85) -/

/-- CH0 to CH2 are RUNNING exactly while the path is granted to them, and CH3 never holds the path. -/
def PathSound (s : State) : Prop :=
  (∀ c : Chan, c ≠ .ch3 → ((chan s c).state = .running ↔ s.water.path = .granted c)) ∧
    s.water.path ≠ .granted .ch3

/-! ## Dose records (R86) -/

/-- Delivered plus remaining is the base, and charged does not exceed delivered. -/
def DoseSound (d : Dose) : Prop := d.delivered + d.remaining = d.base ∧ d.charged ≤ d.delivered

/-- Every channel's record is sound, and a channel that holds a dose has one. -/
def DosesSound (s : State) : Prop :=
  ∀ c : Chan, ((chan s c).state.holds = true → (chan s c).dose.isSome = true) ∧
    ∀ d : Dose, (chan s c).dose = some d → DoseSound d

/-! ## Charging points (R96) -/

/-- Neither the scale account nor the steam used has changed. -/
def ChargesNothing (s t : State) : Prop :=
  t.scale = s.scale ∧ t.ret.run.steamUsed = s.ret.run.steamUsed ∧
    t.ret.run.steamRemainder = s.ret.run.steamRemainder

/-- A charging point of a dose has handed on `p` pulses, between `s` and `t`: those of a dose to BOILER or NOZZLE that is
not a FLUSH dose reach the scale account and, while a run is active, the steam used; any other dose's reach neither (R96,
R109, R140). -/
def HandsOn (p : Nat) (d : Dose) (s t : State) : Prop :=
  (d.mode ≠ .flush ∧ (d.destination = .boiler ∨ d.destination = .nozzle) →
    t.scale = (chargeAccount p d.destination s).scale ∧
      t.ret.run.steamUsed = (countSteam p s).ret.run.steamUsed ∧
      t.ret.run.steamRemainder = (countSteam p s).ret.run.steamRemainder) ∧
  (¬(d.mode ≠ .flush ∧ (d.destination = .boiler ∨ d.destination = .nozzle)) → ChargesNothing s t)

/-- A source that became low has charged the RUNNING dose that draws from it, which has released the path; nothing else is
charged (R93, R96). -/
def Suspends (src : Source) (s t : State) : Prop :=
  (∀ (c : Chan) (d : Dose), s.water.path = .granted c → (chan s c).dose = some d → d.source = some src →
    (chan t c).dose = some { d with charged := d.delivered } ∧ t.water.path = .settling ∧ t.water.settleTimer = 0 ∧
      HandsOn (d.delivered - d.charged) d s t) ∧
  ((∀ c : Chan, s.water.path = .granted c → sourceIs src (chan s c) = false) → ChargesNothing s t)

/-! ## Raises (R165) -/

/-- Every link in a kind's set under `s` has an unreported entry of the kind with an argument in `t`'s queue. -/
def RaisedTo (k : EventKind) (arg : Option Byte) (s t : State) : Prop :=
  ∀ l : Link, (steeringOf s.events.steering k).get l = true →
    ∃ e ∈ t.events.queues.get l, e.kind = k ∧ e.reported = false ∧ e.argument = arg

/-! ## Requests between the units -/

/-- The flap has taken the vent request for the end `e` that was made in `s` (R76): at that end or on its way to it, it is
as it was; otherwise it travels there with its timer at 0, or is there at once where the end switch reads reached. -/
def VentAsked (e : VentEnd) (s t : State) : Prop :=
  t.out.vent =
    match e with
    | .opened =>
      if s.out.vent.state = .opened ∨ s.out.vent.state = .opening then s.out.vent
      else
        { state := if s.inputs.ventOpenEnd.reading then .opened else .opening, target := .opened, travel := 0 }
    | .closed =>
      if s.out.vent.state = .closed ∨ s.out.vent.state = .closing then s.out.vent
      else
        { state := if s.inputs.ventClosedEnd.reading then .closed else .closing, target := .closed, travel := 0 }

/-- The flap has taken the vent request of a mode in PREHEAT or HOLD, made in `s` (R38): CLOSED in STEAM, none in the modes
of the moisture loop, OPEN in the others. -/
def ModeVentAsked (m : Mode) (s t : State) : Prop :=
  match m with
  | .steam => VentAsked .closed s t
  | .combi => t.out.vent = s.out.vent
  | .proof => t.out.vent = s.out.vent
  | _ => VentAsked .opened s t

/-- The water unit has taken the request for a burst of `ml` that was made in `s`, or has refused it with STEAM_DEGRADED
(R107, R143). -/
def BurstAsked (ml : Nat) (s t : State) : Prop :=
  let refused := s.meas.cavity < 1500 ∨ holdsDose s .ch1 = true ∨ s.scale.level = .blocked
  let source := if s.start.straps.supply = .tank then Source.tank else .inlet
  let n := (max 10 (min ml 200) * s.settings.flowConstant + 500) / 1000
  (refused → chan t .ch1 = chan s .ch1 ∧ RaisedTo .steamDegraded none s t) ∧
  (¬refused →
    chan t .ch1 =
      ⟨if sourceLow source s then .suspended else .requesting,
        some
          { mode := .block, destination := .nozzle, source := some source, base := n, remaining := n, delivered := 0
            charged := 0, reload := false, requester := .program, portion := 0, portionLeft := 0 }⟩)

/-- The current stage of `t` needs water and cannot get it, its source being low or a dose suspended (R146). -/
def WaterWanting (t : State) : Prop :=
  let source := if t.start.straps.supply = .tank then Source.tank else .inlet
  let mode := (currentStage t).mode
  (((mode = .steam ∨ mode = .combi ∨ mode = .proof) ∧ t.ret.run.degraded = false) ∨ holdsDose t .ch1 = true) ∧
    (sourceLow source t = true ∨ ∃ c : Chan, c ≠ .ch3 ∧ (chan t c).state = .suspended ∧
      (requesterIs .boilerControl (chan t c) = true ∨ requesterIs .program (chan t c) = true))

/-- Steps 6 and 7 of a stage entry during a run, between `s` and `t` (R138, R143, R146, R147): PROBE and WATER stand as the
stage calls for, steam is withheld while the run holds WATER or the stage is degraded, and a stage's burst is requested, or
waits as the deferred burst while DOOR is present; a degraded stage has none. -/
def TakesUp (st : Stage) (s t : State) : Prop :=
  let r := t.ret.run
  (r.causes.probe = true ↔ st.ending = .core ∧ s.meas.probePresent = false) ∧
  (r.causes.water = true ↔ WaterWanting t) ∧
  t.climate.steamWithheld = (r.causes.water || r.degraded) ∧
  (st.burst = none ∨ r.degraded = true → r.deferredBurst = none) ∧
  (st.burst = none → r.degraded = false → chan t .ch1 = chan s .ch1) ∧
  ∀ ml : Nat, st.burst = some ml → r.degraded = false →
    (r.causes.door = true → r.deferredBurst = some ml ∧ chan t .ch1 = chan s .ch1) ∧
    (r.causes.door = false → r.deferredBurst = none ∧ BurstAsked ml s t)

/-! ## The run (R135, R144) -/

/-- The run is PAUSED exactly while a pause cause is present, so an IDLE run has none. -/
def RunSound (s : State) : Prop := s.ret.run.state = .paused ↔ s.ret.run.causes.isEmpty = false

/-! ## Stored settings (R3, R48, R100, R110, R195) -/

/-- A rating lies within its range. -/
def RatingSound (n : Nat) : Prop := 200 ≤ n ∧ n ≤ 3000

/-- An offset lies within its range. -/
def OffsetSound (x : Int) : Prop := -100 ≤ x ∧ x ≤ 100

/-- Every stored setting lies within the range that its rule gives, whatever the strap. -/
structure SettingsSound (x : Settings) : Prop where
  hardness : x.hardness ≤ 600
  flowConstant : 500 ≤ x.flowConstant ∧ x.flowConstant ≤ 6000
  scaleLimit : 5000 ≤ x.scaleLimit ∧ x.scaleLimit ≤ 100000
  resumeLimit : x.resumeLimit ≤ 600
  budgetOverride : x.budgetOverride = 0 ∨ (1500 ≤ x.budgetOverride ∧ x.budgetOverride ≤ 3680)
  reserve : 100 ≤ x.reserve ∧ x.reserve ≤ 400
  ratings : ∀ l : Load, RatingSound (x.ratings.get l)
  cavityUpper : OffsetSound x.offsets.cavityUpper
  cavityLower : OffsetSound x.offsets.cavityLower
  boiler : OffsetSound x.offsets.boiler
  coreA : OffsetSound x.offsets.coreA
  coreB : OffsetSound x.offsets.coreB
  coreC : OffsetSound x.offsets.coreC
  moisture : OffsetSound x.offsets.moisture
  fillVolume : 300 ≤ x.fillVolume ∧ x.fillVolume ≤ 900

/-- The settings in force, the verified record's and those of a write in progress are sound, and the override in
force does not exceed the latched strap (R48). -/
def StoreSound (s : State) : Prop :=
  SettingsSound s.settings ∧ s.settings.budgetOverride ≤ budgetWatts s.start.straps.budget ∧
    (∀ r, s.store.verified = some r → SettingsSound r.settings) ∧
    ∀ r, s.store.writing = some r → SettingsSound r.settings

/-! ## The budget law (R55, R59) -/

/-- The power a load draws in cycle `k` of the window an allocation prepares. -/
def loadPower (limits : Limits) (a : Allocation) (k : Nat) (l : Load) : Nat :=
  if a.placed = some l ∨ (a.runs.get l).covers k = true then limits.ratings.get l else 0

/-- The power of the five loads in cycle `k`. -/
def cyclePower (limits : Limits) (a : Allocation) (k : Nat) : Nat := (allLoads.map (loadPower limits a k)).sum

/-- The sum of the ratings, under one copy of the limits, of the loads that a test names. -/
def powerOf (limits : Limits) (draws : Load → Bool) : Nat :=
  (allLoads.map (fun l => if draws l then limits.ratings.get l else 0)).sum

/-- A load is forced by an entry that fires in the window the latest ended allocation has prepared. -/
def forcedNext (l : Load) (s : State) : Bool :=
  s.out.forces.any (fun e => decide (outputLoad e.output = some l) && decide (e.phase ≠ .placing))

/-- The limits' headroom is what the reserve leaves of the budget (R48). -/
def LimitsSound (x : Limits) : Prop := x.reserve + x.headroom = x.budget

/-- The budget law (R59), with what carries it from one window to the next. -/
structure BudgetSound (s : State) : Prop where
  windowLimits : LimitsSound s.share.window
  preparedLimits : LimitsSound s.share.prepared
  /-- the loads firing in the half-cycle in progress -/
  fired : s.share.window.reserve + powerOf s.share.window (fun l => (s.out.heat.get l).fired) ≤ s.share.window.budget
  /-- the active runs and the firing force, in every cycle of the window -/
  window : ∀ k : Nat,
    powerOf s.share.window (fun l => (s.out.heat.get l).active.covers k || forcedFiring l s) ≤ s.share.window.headroom
  /-- a forced heat load has its claim with the arbiter (R52, R80) -/
  claims : ∀ e ∈ s.out.forces, ∀ l : Load, outputLoad e.output = some l → s.share.claim = some l
  /-- between an allocation's end and the next window start: the pending runs and the force that will fire -/
  ended : s.share.allocation = none → ∀ k : Nat,
    powerOf s.share.prepared (fun l => (s.out.heat.get l).pending.covers k || forcedNext l s) ≤ s.share.prepared.headroom
  /-- while an allocation is in progress: its results, and no run or force of an earlier one left to adopt -/
  begun : ∀ a : Allocation, s.share.allocation = some a →
    (∀ k : Nat, cyclePower s.share.prepared a k ≤ s.share.prepared.headroom) ∧
    (∀ l : Load, (s.out.heat.get l).pending.length = 0) ∧
    ∀ e ∈ s.out.forces, ∀ l : Load, outputLoad e.output = some l →
      e.phase ≠ .marked ∧ (e.phase = .firing → a.placed = some l)

/-! ## Replies -/

/-- A port that can receive a command: in RECEIVING with no more than 20 ms since the latest byte, or in IDLE with its
discard mark clear (notes/assumptions/24.md). -/
abbrev portOpen (s : State) (l : Link) : Prop := (port s l).open = true

/-- The port of `l` sends, from the first byte on, the reply to `code` with a status, its results and the overrun
mark that stood before, the overrun flag is clear, and the frame's bytes have all come (R184 to R186). -/
def Replies (l : Link) (code : Byte) (r : Reply) (s t : State) : Prop :=
  port t l =
    { port s l with
      state := .replying, overrun := false, quiet := 0, line := [], sending := 0
      reply := frameOf (replyBody code r (statusFlags (port s l).overrun (attention t l))) }

/-- Everything but the ports and the service silence timer is as before. -/
def OnlyPorts (s t : State) : Prop :=
  t = { s with ports := t.ports, prot := { s.prot with silence := t.prot.silence } }

/-- A link command changes nothing but its port, whose reply carries the status alone. -/
def Refuses (i : Instr) (l : Link) (code : Byte) (st : Status) (s : State) : Prop :=
  ∃ t, exec i s = .next t ∧ Replies l code (Reply.bare st) s t ∧ OnlyPorts s t

/-! ## Frames -/

/-- What no reaction of one unit to another changes: the clock, the queue, the window count, measurement, inputs, locks,
ports, stored settings, start-up and straps, the heat channels with the half-cycle counter, the lamp's one-shot, the
direction relay's state, the steering table, and the record and the write of the settings store. -/
def Steady (s t : State) : Prop :=
  t.now = s.now ∧ t.pending = s.pending ∧ t.windows = s.windows ∧ t.draws = s.draws ∧ t.meas = s.meas ∧
    t.inputs = s.inputs ∧ t.prot = s.prot ∧ t.ports = s.ports ∧ t.settings = s.settings ∧ t.start = s.start ∧
    t.out.heat = s.out.heat ∧ t.out.halfCycle = s.out.halfCycle ∧ t.out.lampShot = s.out.lampShot ∧
    t.out.fanRelay.state = s.out.fanRelay.state ∧ t.events.steering = s.events.steering ∧
    t.store.verified = s.store.verified ∧ t.store.writing = s.store.writing

/-! ## What R183 tests before a command reaches its owner -/

/-- The number of field bytes of a command whose layout is fixed; none for LOAD_PROGRAM and SET_STEERING, whose
counts say it, and for a code outside the catalogue. -/
def fixedSize (code : Byte) : Option Nat :=
  match code.toNat with
  | 0x01 => some 0 | 0x02 => some 0 | 0x03 => some 1 | 0x04 => some 0 | 0x05 => some 1 | 0x06 => some 1
  | 0x07 => some 0 | 0x11 => some 1 | 0x12 => some 3 | 0x13 => some 0 | 0x14 => some 11 | 0x15 => some 3
  | 0x16 => some 3 | 0x17 => some 5 | 0x20 => some 0 | 0x21 => some 1 | 0x22 => some 0 | 0x30 => some 5
  | 0x31 => some 2 | 0x32 => some 0 | 0x33 => some 0 | 0x35 => some 0 | 0x36 => some 1 | 0x40 => some 0
  | 0x41 => some 2 | 0x42 => some 4 | _ => none

/-- The fields have the length that the layout of a catalogue command gives them (R183, step 2). -/
def layoutFits (code : Byte) (fields : List Byte) : Bool :=
  match fixedSize code with
  | some n => decide (fields.length = n)
  | none =>
    if code = 0x10 then (parseProgram fields).isSome
    else
      match fields with
      | [] => false
      | n :: rest => (parsePairs n.toNat rest).isSome

/-- The group READ (R178): the codes 0x01 to 0x07. -/
def readCode (code : Byte) : Bool := decide (code.toNat < 0x10)

/-- A check that the owning rule makes before the lock fails (R136, R191). -/
def earlyFault (code : Byte) (fields : List Byte) : Bool :=
  let first := (fields.headD 0).toNat
  if code = 0x12 then decide (3 < first) else if code = 0x30 then decide (first = 0 ∨ 19 < first) else false

/-- A command is locked on its link (R174, R176 to R178). -/
def commandLocked (code : Byte) (fields : List Byte) (l : Link) (s : State) : Bool :=
  let n := code.toNat
  if n < 0x10 then false
  else if n = 0x13 then locked .stop l s
  else if n < 0x20 then locked .run l s
  else if n < 0x30 then locked .descale l s
  else if n = 0x30 then locked (settingGroup (fields.headD 0).toNat) l s
  else if n = 0x31 then decide (l ≠ .panel)
  else if n < 0x34 then decide (l ≠ .service)
  else if n < 0x40 then locked .userSettings l s
  else locked .service l s

/-- A command of a sound layout reaches its owner: its port can receive it, the part is READY and the command is not
locked (R183). -/
abbrev Reaches (l : Link) (code : Byte) (fields : List Byte) (s : State) : Prop :=
  portOpen s l ∧ s.start.ready = true ∧ commandLocked code fields l s = false

/-! ## The end of a step with nothing to do -/

/-- No unit finds anything to do when a step ends: no fault check takes effect, no top-up is to be cancelled, the
WATER cause and the need stand as they were considered, PREPARE waits, no force or pulse has to give way, the heater
supply relay's request and the two water conditions are as they should be, and no channel can be granted the path. -/
def quiet (s : State) : Bool :=
  (!runActive s || ((fatalFault s).isNone && (!steamFault s || s.ret.run.steamLost))) &&
    (!(highCovered s || decide (s.ret.descale.phase ≠ .idle)) ||
      !(holdsFor s .ch0 .boilerControl && modeIs .single (chan s .ch0))) &&
    decide (waterConditionHolds s = s.seq.waterCondition) && decide (boilerNeeded s = s.boiler.wasNeeded) &&
    (decide (s.ret.descale.phase ≠ .prepare) || decide (s.ret.descale.stall ≠ .none) ||
      (decide (s.boiler.state ≠ .empty) && holdsDose s .ch3)) &&
    ((forcesAdmitted s && s.prot.serviceUnlock) || (s.out.forces.isEmpty && s.out.pulse.isNone)) &&
    decide (s.out.heaterRelay.askClosed = (s.climate.relayAsk || forcedCavity s)) &&
    decide (conditionHolds .waterEmpty s = anySuspended s) &&
    decide (conditionHolds .tankMissing s = (tankInUse s && !tankPresent s)) &&
    (serviceHold s ||
      (decide ((chan s .ch3).state ≠ .requesting) &&
        (decide (s.water.path ≠ .free) ||
          [Chan.ch0, .ch1, .ch2].all (fun c => decide ((chan s c).state ≠ .requesting)))))

end Sys2Proof.Machine
end

