-- ==== Sys2Proof/Certificates/Slice0/Obligations.lean ====
section
/-! DEFINITION. The statements for the provers. `Sys2Proof.Machine.exec c s = .next t` says that the command completes;
where a row's changes settle at the end of its step, the statement gives the state that `settle` is applied to, and the
statements about `settle` say what that does. -/

open Sys2Proof Sys2Proof.Machine

/-! ## The step -/

/-- The command at the front of the queue is run on the state with the queue's rest. -/
def Obligations.StepTakesTheFront : Prop :=
  ∀ (c : Instr) (rest : List Instr) (s : State),
    step { s with pending := c :: rest } = exec c { s with pending := rest }

/-- The model's choice (notes/assumptions/1.md, 2.md, 9.md and 10.md): with no command waiting, one microsecond of the
timebase passes, the rows that are due in the state it leaves join the queue, and every timer counts that its rule
lets count: the clocks of the measurement unit, the settle and no-flow timers and the seconds of the drain, the soak
elapsed, the relays, the fan drive's tick, stall and slow timers, the flap's travel, the lamp's one-shot, the ages of
forces and the time of a pulse, the reversal timer, the sequencer's tick, the settling timers of the inputs, the
service silence timer, the outage timer and the ports' time since the latest byte. Nothing else changes. Every timed
row is among those that join the queue exactly when it is due then, once, and no other row is; TACHO_TIMEOUT joins
only at a speed other than 0. The model's choice, too, is what a timer holds where its rule gives it no value: the
travel timer of a flap that does not travel (notes/assumptions/69.md), the slow timer outside BRAKING (70.md), the
no-flow and settle timers and the second that a drain counts (71.md). So is that timers count without end and are
compared with their limits where they are read (40.md); the timer of an input that is not watched stands (DEDUCED,
45.md). -/
def Obligations.IdleStepPassesAMicrosecond : Prop :=
  ∀ s : State, s.pending = [] →
    ∃ t : State, step s = .next { t with pending := due t } ∧ t.pending = [] ∧ t.now = s.now + 1 ∧
      t.meas = { s.meas with
        sampleClock := s.meas.sampleClock + 1, tachoAge := s.meas.tachoAge + 1, edgeAge := s.meas.edgeAge + 1
        pulseAge := s.meas.pulseAge + 1 } ∧
      t.out.heaterRelay = { s.out.heaterRelay with timer := s.out.heaterRelay.timer + 1 } ∧
      t.out.fanRelay = { s.out.fanRelay with timer := s.out.fanRelay.timer + 1 } ∧
      t.out.fan =
        { s.out.fan with
          tickClock := s.out.fan.tickClock + 1
          stallTimer :=
            if s.out.fan.phase = .running ∧ 300 ≤ s.out.fan.duty ∧ s.meas.speed = 0 then s.out.fan.stallTimer + 1 else 0
          slowTimer :=
            if s.out.fan.phase = .braking ∧ s.meas.speed < 300 then s.out.fan.slowTimer + 1 else 0 } ∧
      t.out.vent =
        { s.out.vent with
          travel :=
            if s.out.vent.state = .opening ∨ s.out.vent.state = .closing then s.out.vent.travel + 1
            else s.out.vent.travel } ∧
      t.out.lampShot = s.out.lampShot.map (fun n => n + 1) ∧
      t.out.forces = s.out.forces.map (fun e => { e with age := e.age + 1 }) ∧
      t.out.pulse = s.out.pulse.map (fun p => { p with remaining := p.remaining - 1 }) ∧
      t.out.halfCycle = s.out.halfCycle ∧ t.out.heat = s.out.heat ∧
      (let counts := ∃ r, s.climate.record = some r ∧ (s.climate.state = .preheat ∨ s.climate.state = .hold) ∧
         0 < (modeRow r.mode).reversal ∧ 0 < r.fanCode ∧ s.meas.mainsPresent = true ∧ s.out.fan.phase ≠ .braking ∧
         s.out.fan.phase ≠ .switching
       (counts → t.climate = { s.climate with reversal := s.climate.reversal + 1 }) ∧
         (¬counts → t.climate = s.climate)) ∧
      t.water.path = s.water.path ∧
      (∀ c : Chan, s.water.path = .granted c → t.water.settleTimer = s.water.settleTimer ∧
        t.water.noFlowTimer =
          if s.meas.mainsPresent then s.water.noFlowTimer + 1 else s.water.noFlowTimer) ∧
      (s.water.path = .settling →
        t.water.settleTimer = s.water.settleTimer + 1 ∧ t.water.noFlowTimer = s.water.noFlowTimer) ∧
      (s.water.path = .free →
        t.water.settleTimer = s.water.settleTimer ∧ t.water.noFlowTimer = s.water.noFlowTimer) ∧
      (let drains := (chan s .ch3).state = .running ∧ s.meas.mainsPresent = true
       (¬drains → t.water.drainClock = s.water.drainClock ∧ chan t .ch3 = chan s .ch3) ∧
         (drains → s.water.drainClock < 999999 →
           t.water.drainClock = s.water.drainClock + 1 ∧ chan t .ch3 = chan s .ch3) ∧
         (drains → 999999 ≤ s.water.drainClock →
           t.water.drainClock = 0 ∧ (chan t .ch3).state = .running ∧
             ∀ d : Dose, (chan s .ch3).dose = some d →
               (0 < d.remaining → (chan t .ch3).dose =
                 some { d with remaining := d.remaining - 1, delivered := d.delivered + 1 }) ∧
               (d.remaining = 0 → (chan t .ch3).dose = some d))) ∧
      (∀ c : Chan, c ≠ .ch3 → chan t c = chan s c) ∧
      t.ret.descale =
        { s.ret.descale with
          elapsed :=
            if s.start.ready = true ∧ s.ret.descale.phase = .soak ∧ 570 ≤ s.meas.boiler ∧
                hasFault .sensorBoiler s = false ∧ s.meas.mainsPresent = true ∧ (s.now + 1) % 1000000 = 0 then
              s.ret.descale.elapsed + 1
            else s.ret.descale.elapsed } ∧
      t.ret.run = s.ret.run ∧ t.ret.slots = s.ret.slots ∧ t.ret.lastRun = s.ret.lastRun ∧
      t.seq = { s.seq with tickClock := s.seq.tickClock + 1 } ∧
      (∀ i : Input, t.inputs.get i =
        { s.inputs.get i with
          timer :=
            if watched s i = false then (s.inputs.get i).timer
            else if (s.inputs.get i).raw = (s.inputs.get i).reading then 0
            else (s.inputs.get i).timer + 1 }) ∧
      t.prot =
        { s.prot with silence := if s.prot.serviceUnlock then s.prot.silence + 1 else s.prot.silence } ∧
      t.start =
        { s.start with
          outageTimer := if s.meas.mainsPresent then s.start.outageTimer else s.start.outageTimer + 1 } ∧
      t.windows = s.windows ∧ t.draws = s.draws ∧ t.share = s.share ∧ t.boiler = s.boiler ∧ t.scale = s.scale ∧
      t.work = s.work ∧ t.marker = s.marker ∧ t.events = s.events ∧ t.settings = s.settings ∧ t.store = s.store ∧
      (due t).Nodup ∧
      (∀ c : Instr, c ∈ due t ↔
        (match c with
          | .tachoTimeout => 500000 ≤ t.meas.tachoAge ∧ t.meas.speed ≠ 0
          | .zeroCrossGroupTimeout => groupTimeoutDue t = true
          | .frequencyTimeout => frequencyTimeoutDue t = true
          | .mainsLost => mainsLostDue t = true
          | .allocationEnd => t.share.allocation.isSome = true
          | .relayChangeStart r =>
            (relay t r).recovering = false ∧
              (((relay t r).state = .opened ∧ (relay t r).askClosed = true) ∨
                ((relay t r).state = .closed ∧ (relay t r).askClosed = false)) ∧
              (match r with | .heaterSupply => t.meas.mainsPresent = false | .fanDirection => t.out.fan.duty = 0)
          | .relayContactEnd r =>
            ((relay t r).state = .closing ∨ (relay t r).state = .opening) ∧ 30000 ≤ (relay t r).timer
          | .relayRecoveryEnd r =>
            (relay t r).recovering = true ∧ ((relay t r).state = .opened ∨ (relay t r).state = .closed) ∧
              2000000 ≤ (relay t r).timer
          | .fanTick => 200000 ≤ t.out.fan.tickClock
          | .fanStall => t.out.fan.phase = .running ∧ 2000000 ≤ t.out.fan.stallTimer
          | .reversalTimerExpiry => reversalDue t = true
          | .slowTimerExpiry => t.out.fan.phase = .braking ∧ 1000000 ≤ t.out.fan.slowTimer
          | .ventStuck =>
            (t.out.vent.state = .opening ∨ t.out.vent.state = .closing) ∧ 5000000 ≤ t.out.vent.travel
          | .lampOneShotExpiry => ∃ n, t.out.lampShot = some n ∧ 120000000 ≤ n
          | .forceExpiry o => forceDue o t = true
          | .pulseEnd => ∃ p, t.out.pulse = some p ∧ p.remaining = 0
          | .heatUpCountExpiry => heatUpDue t = true
          | .settleEnd => t.water.path = .settling ∧ 500000 ≤ t.water.settleTimer
          | .noFlow => noFlowDue t = true
          | .drainTerminalCount => drainCountDue t = true
          | .boilerFill => boilerFillDue t = true
          | .topUp => topUpDue t = true
          | .boilerDrainStart => boilerDrainDue t = true
          | .soakEnd => soakEndDue t = true
          | .descaleDoseLoad => descaleDoseDue t = true
          | .descaleDrainLoad => descaleDrainDue t = true
          | .sequencerTick => 1000000 ≤ t.seq.tickClock
          | .stageTimeEnd => stageTimeDue t = true
          | .doorTimeout => doorTimeoutDue t = true
          | .waterTimeout => waterTimeoutDue t = true
          | .inputChange i => inputChangeDue i t = true
          | .serviceSilenceTimeout => silenceDue t = true
          | .startingEnd => startingEndDue t = true
          | .frameGapTimeout k => (port t k).state = .receiving ∧ 20000 < (port t k).quiet
          | .discardMarkClear k => (port t k).discard = true ∧ 20000 < (port t k).quiet
          | .replySent k =>
            (port t k).state = .replying ∧ (port t k).reply.length * 10 * 1000000 ≤ (port t k).sending * 57600
          | _ => False)) ∧
      ∀ l : Link,
        let p := port s l
        let comes := p.line ≠ [] ∧ p.line.headD 0 ≤ p.quiet
        (comes → port t l =
          { p with
            quiet := 1, line := p.line.tail
            sending := if p.state = .replying then p.sending + 1 else p.sending }) ∧
        (¬comes → port t l =
          { p with
            quiet := p.quiet + 1
            sending := if p.state = .replying then p.sending + 1 else p.sending })

/-- No command ends in a fault or a refusal: the reference describes nothing that stops the part. -/
def Obligations.EveryCommandCompletes : Prop :=
  ∀ (c : Instr) (s : State), ∃ t, exec c s = .next t

/-! ## Frames (R182 to R186) -/

/-- The frame of a well-formed link command starts with 0xA5, and what follows the start byte decodes to the command.
-/
def Obligations.DecodeOfEncodedFrame : Prop :=
  ∀ (i : Instr) (l : Link) (code : Byte) (fields : List Byte),
    linkCommand i = some (l, code, fields) → WellFormed i = true →
      ∃ bytes, encodeFrame i = 0xA5 :: bytes ∧ decodeFrame l bytes = some i

/-- A length of 0 or above 250 is a bad length whatever follows it, and a whole frame whose check byte is any other
than the two's complement of the sum of length and body is a bad check. -/
def Obligations.BadFramesAreDiscarded : Prop :=
  (∀ (l : Link) (len : Byte) (rest : List Byte), len.toNat = 0 ∨ 250 < len.toNat →
    decodeFrame l (len :: rest) = some (.badFrame l .badLength)) ∧
  ∀ (l : Link) (body : List Byte) (check : Byte), body ≠ [] → body.length ≤ 250 →
    BitVec.ofNat 8 body.length + byteSum body + check ≠ 0 →
      decodeFrame l (BitVec.ofNat 8 body.length :: (body ++ [check])) = some (.badFrame l .badCheck)

/-! ## What every step keeps -/

/-- Every queue keeps at most one entry per kind, with a count of 1 to 255, and the fault set never names a member
twice. -/
def Obligations.QueuesAndFaultsStaySound : Prop :=
  (∀ s t : State, QueuesSound s → step s = .next t → QueuesSound t) ∧
  ∀ s t : State, FaultsSound s → step s = .next t → FaultsSound t

/-- CH0 to CH2 stay RUNNING exactly while the path is granted to them; delivered plus remaining stays the base of
every dose, and charged never exceeds delivered. -/
def Obligations.PathAndDosesStaySound : Prop :=
  (∀ s t : State, PathSound s → step s = .next t → PathSound t) ∧
  ∀ s t : State, DosesSound s → step s = .next t → DosesSound t

/-- The run stays PAUSED exactly while a pause cause is present. -/
def Obligations.RunStaysSound : Prop :=
  ∀ s t : State, RunSound s → step s = .next t → RunSound t

/-- The settings in force, in the verified record and in a record being written stay within their ranges, and the
override in force within the strap. -/
def Obligations.StoreStaysSound : Prop :=
  ∀ s t : State, StoreSound s → step s = .next t → StoreSound t

/-- What every step keeps holds right after reset. -/
def Obligations.ResetStateIsSound : Prop :=
  QueuesSound State.reset ∧ PathSound State.reset ∧ DosesSound State.reset ∧ RunSound State.reset ∧
    FaultsSound State.reset ∧ StoreSound State.reset ∧ BudgetSound State.reset

/-! ## Queues, faults, accounts and the path -/

/-- R166, R167: a raise appends an entry at the tail of a queue that holds none of its kind, and otherwise raises the
count of the entry there, which takes the raise's time and argument and is unreported again; the end of a level kind's
condition removes a reported entry and marks an unreported one ENDED. -/
def Obligations.RaisesAndEndsReachAQueue : Prop :=
  ∀ (k : EventKind) (arg : Option Byte) (t : Nat) (q : List Entry), (q.map Entry.kind).Nodup →
    placeEntry k arg t q =
      (if k ∈ q.map Entry.kind then
        q.map (fun e => if e.kind = k then
          { e with
            count := min (e.count + 1) 255, time := t, reported := false, argument := arg
            standing := if k.isLevel then .holding else .edge } else e)
      else
        q ++ [{ kind := k, count := 1, time := t, reported := false, argument := arg
                standing := if k.isLevel then .holding else .edge }]) ∧
    endEntry k q =
      (q.filter (fun e => !(decide (e.kind = k) && e.reported))).map
        (fun e => if e.kind = k then { e with standing := .ended } else e)

/-- R165, R169, R170: a raise reaches the queues of the links in the kind's set and no other; a member that enters the
fault set raises FAULT_ACTIVE with its number, one already in it changes nothing, and the last one to leave ends the
condition. A link's attention line is asserted exactly while its queue holds an unreported entry. -/
def Obligations.FaultsRaiseTheirEvent : Prop :=
  (∀ (k : EventKind) (arg : Option Byte) (s : State) (l : Link),
    (raiseEvent k arg s).events.queues.get l =
      if (steeringOf s.events.steering k).get l then placeEntry k arg (seconds s) (s.events.queues.get l)
      else s.events.queues.get l) ∧
  (∀ (f : FaultKind) (s : State),
    (f ∈ s.events.faults → enterFault f s = s) ∧
    (f ∉ s.events.faults →
      (enterFault f s).events.faults = s.events.faults ++ [f] ∧
        conditionHolds .faultActive (enterFault f s) = true ∧
        ∀ l : Link, (enterFault f s).events.queues.get l =
          if (steeringOf s.events.steering .faultActive).get l then
            placeEntry .faultActive (some (BitVec.ofNat 8 f.number)) (seconds s) (s.events.queues.get l)
          else s.events.queues.get l)) ∧
  (∀ (f : FaultKind) (s : State), f ∈ s.events.faults →
    (leaveFault f s).events.faults = s.events.faults.filter (fun g => decide (g ≠ f)) ∧
      ∀ l : Link, (leaveFault f s).events.queues.get l =
        if s.events.faults.filter (fun g => decide (g ≠ f)) = [] then
          endEntry .faultActive (s.events.queues.get l)
        else s.events.queues.get l) ∧
  ∀ (l : Link) (s : State), attention s l = true ↔ ∃ e ∈ s.events.queues.get l, e.reported = false

/-- R109, R140: with K above 0, a charge of `p` pulses to BOILER or NOZZLE loses nothing between deposit and carry,
but for the saturation of the deposit, and nothing between the steam used and its remainder. R95, R96: the
cancellation of a RUNNING dose is a charging point: its uncharged pulses are handed on; of a dose that does not run
nothing is. -/
def Obligations.ChargesAreConserved : Prop :=
  (∀ (p : Nat) (d : Destination) (s : State), 0 < s.settings.flowConstant →
    let k := s.settings.flowConstant
    let x := s.scale.carry + p * s.settings.hardness * (if d = .boiler then 1000 else if d = .nozzle then 600 else 0)
    let t := chargeAccount p d s
    t.scale.carry = x % (k * 1000) ∧ t.scale.carry < k * 1000 ∧
      (s.scale.deposit + x / (k * 1000) ≤ 9999999 →
        t.scale.deposit * (k * 1000) + t.scale.carry = s.scale.deposit * (k * 1000) + x) ∧
      (9999999 < s.scale.deposit + x / (k * 1000) → t.scale.deposit = 9999999) ∧
      t.scale.level = levelOf t.scale.deposit s.settings.scaleLimit ∧
      (runActive s = true →
        (countSteam p s).ret.run.steamUsed * k + (countSteam p s).ret.run.steamRemainder =
            s.ret.run.steamUsed * k + (s.ret.run.steamRemainder + p * 1000) ∧
          (countSteam p s).ret.run.steamRemainder < k) ∧
      (runActive s = false → countSteam p s = s)) ∧
  ∀ (c : Chan) (d : Dose) (s : State), c ≠ .ch3 → (chan s c).dose = some d →
    let t := cancelDose c s
    chan t c = ⟨.idle, none⟩ ∧
      ((chan s c).state = .running → HandsOn (d.delivered - d.charged) d s t ∧
        (s.water.path = .granted c → t.water.path = .settling ∧ t.water.settleTimer = 0)) ∧
      ((chan s c).state ≠ .running → ChargesNothing s t ∧ t.water.path = s.water.path)

/-- R85, R88, R92, R98: with the path FREE and no service hold, the REQUESTING channel of highest priority, CH2 then
CH0 then CH1, is granted the path with its no-flow timer at 0; a granted dose starts its portion. With the path not
FREE, or under a service hold, nobody is granted it. A REQUESTING drain starts as soon as there is no service hold,
and no step that settles leaves one waiting without a hold, nor a FREE path with a channel that requests it. The seven
water outputs (R84) follow the path's dose and the drain while mains is PRESENT, and a force or pulse where one holds
the output. That the priority decides also between two channels that enter REQUESTING at the same moment with the path
FREE is the model's choice (notes/assumptions/67.md). -/
def Obligations.PathGoesByPriority : Prop :=
  ∀ s : State,
    (serviceHold s = false → s.water.path = .free → ∀ c : Chan,
      (c = .ch2 ∨ (c = .ch0 ∧ (chan s .ch2).state ≠ .requesting) ∨
        (c = .ch1 ∧ (chan s .ch2).state ≠ .requesting ∧ (chan s .ch0).state ≠ .requesting)) →
      (chan s c).state = .requesting →
        (arbitrate s).water.path = .granted c ∧ (arbitrate s).water.noFlowTimer = 0 ∧
          (chan (arbitrate s) c).state = .running ∧
          (chan (arbitrate s) c).dose =
            (chan s c).dose.map (fun d => { d with portionLeft := min d.portion d.remaining }) ∧
          ∀ c' : Chan, c' ≠ c → c' ≠ .ch3 → chan (arbitrate s) c' = chan s c') ∧
    (s.water.path ≠ .free ∨ serviceHold s = true →
      (arbitrate s).water.path = s.water.path ∧
        ∀ c : Chan, c ≠ .ch3 → chan (arbitrate s) c = chan s c) ∧
    (serviceHold s = true → arbitrate s = s) ∧
    (serviceHold s = false →
      chan (arbitrate s) .ch3 =
        { chan s .ch3 with
          state := if (chan s .ch3).state = .requesting then .running else (chan s .ch3).state }) ∧
    (serviceHold (settle s) = false →
      (chan (settle s) .ch3).state ≠ .requesting ∧
        ((settle s).water.path = .free → ∀ c : Chan, (chan (settle s) c).state ≠ .requesting)) ∧
    (∀ o : Output, outputIsWater o = true →
      (∀ x : ForceEntry, forceEntry o s = some x → waterLevel o s = x.level) ∧
        (forceEntry o s = none → inPulse o s = true → waterLevel o s = true)) ∧
    let own := fun o : Output => forceEntry o s = none ∧ inPulse o s = false
    (s.water.path = .free ∨ s.water.path = .settling ∨ s.meas.mainsPresent = false →
      ∀ o ∈ [Output.supplyPump, .inletValve, .boilerValve, .nozzleValve, .drainLineValve],
        own o → waterLevel o s = false) ∧
    (∀ (c : Chan) (d : Dose) (src : Source), s.water.path = .granted c → (chan s c).dose = some d →
      d.source = some src → s.meas.mainsPresent = true →
        (own .supplyPump → (waterLevel .supplyPump s = true ↔ src = .tank)) ∧
        (own .inletValve → (waterLevel .inletValve s = true ↔ src = .inlet)) ∧
        (own .boilerValve → (waterLevel .boilerValve s = true ↔ d.mode ≠ .flush ∧ d.destination = .boiler)) ∧
        (own .nozzleValve → (waterLevel .nozzleValve s = true ↔ d.mode ≠ .flush ∧ d.destination = .nozzle)) ∧
        (own .drainLineValve →
          (waterLevel .drainLineValve s = true ↔ d.mode = .flush ∨ d.destination = .drainLine))) ∧
    ∀ o ∈ [Output.drainPump, .drainValve], own o →
      (waterLevel o s = true ↔ (chan s .ch3).state = .running ∧ s.meas.mainsPresent = true)

/-! ## The end of a step -/

/-- What `settle` leaves unchanged in every state: measurement, inputs, locks, ports, settings, start-up, heat runs,
window count, limits, grants and marks, the allocation in progress but for the claim it has placed, and every member
of the fault set but VENT_STUCK. The two conditions of the water unit stand as they should when it ends: WATER_EMPTY
holds while a channel is SUSPENDED (R93), and TANK_MISSING while the tank is in use and absent (R83); the beginning of
either is raised, and its end reaches the queues. -/
def Obligations.SettleChangesNoMore : Prop :=
  ∀ s : State,
    let t := settle s
    t.now = s.now ∧ t.pending = s.pending ∧ t.windows = s.windows ∧ t.draws = s.draws ∧ t.meas = s.meas ∧
      t.inputs = s.inputs ∧ t.prot = s.prot ∧ t.ports = s.ports ∧ t.settings = s.settings ∧ t.start = s.start ∧
      t.marker = s.marker ∧ t.out.heat = s.out.heat ∧ t.out.halfCycle = s.out.halfCycle ∧
      t.out.lampShot = s.out.lampShot ∧
      t.out.fanRelay = s.out.fanRelay ∧
      t.out.heaterRelay = { s.out.heaterRelay with askClosed := t.out.heaterRelay.askClosed } ∧
      t.share = { s.share with
        demands := t.share.demands, claim := t.share.claim, allocation := t.share.allocation } ∧
      (t.share.allocation = s.share.allocation ∨
        t.share.allocation = s.share.allocation.map (fun a => { a with placed := none })) ∧
      t.climate.shortfall = s.climate.shortfall ∧ t.climate.coolingFan = s.climate.coolingFan ∧
      t.events.steering = s.events.steering ∧ t.store.verified = s.store.verified ∧
      (∀ f : FaultKind, f ≠ .ventStuck → (f ∈ t.events.faults ↔ f ∈ s.events.faults)) ∧
      t.ret.run.runId = s.ret.run.runId ∧
      t.ret.descale.elapsed = s.ret.descale.elapsed ∧ t.ret.descale.total = s.ret.descale.total ∧
      (conditionHolds .waterEmpty t = true ↔ ∃ c : Chan, c ≠ .ch3 ∧ (chan t c).state = .suspended) ∧
      (conditionHolds .tankMissing t = true ↔
        (s.start.straps.supply = .tank ∨ t.ret.descale.phase ≠ .idle) ∧ s.inputs.tankPresent.reading = false) ∧
      ∀ (k : EventKind) (l : Link), k = .waterEmpty ∨ k = .tankMissing →
        (conditionHolds k s = false → conditionHolds k t = true → (steeringOf s.events.steering k).get l = true →
          ∃ e ∈ t.events.queues.get l, e.kind = k ∧ e.standing = .holding ∧ e.reported = false) ∧
        (QueuesSound s → conditionHolds k s = true → conditionHolds k t = false →
          ∀ e ∈ t.events.queues.get l, e.kind = k → e.standing = .ended ∧ e.reported = false)

/-- Where no unit finds anything to do, the end of a step only serves the commit the step asked for. Where a unit
does: a top-up is cancelled while BOILER_HIGH reads covered or the descale phase is not IDLE (R102); PREPARE goes to
AWAIT_AGENT with the boiler EMPTY, loads its drain with the boiler HEATING or READY, and waits otherwise (R117; in
DRY_FAULT the model's choice, notes/assumptions/53.md); and with no fault check acting WATER is added when its
condition begins and removed when it ends (R146), and a condition that still holds after WATER_TIMEOUT adds it no more
(DEDUCED, notes/assumptions/29.md). -/
def Obligations.QuietStepsOnlyCommit : Prop :=
  ∀ s : State,
    let t := settle s
    let d := s.ret.descale
    let topUp := holdsFor s .ch0 .boilerControl = true ∧ modeIs .single (chan s .ch0) = true
    let cancels := topUp ∧ (highCovered s = true ∨ d.phase ≠ .idle)
    let prepares := s.start.ready = true ∧ d.phase = .prepare ∧ d.stall = .none
    let boils := s.boiler.state = .heating ∨ s.boiler.state = .ready
    let drains := ¬(s.start.straps.supply = .tank ∧ tankPresent s = false)
    let checked := runActive s = true ∧
      (fatalFault s ≠ none ∨ (steamFault s = true ∧ s.ret.run.steamLost = false))
    let source := if s.start.straps.supply = .tank then Source.tank else .inlet
    let dry := runActive s = true ∧
      (((currentStage s).mode.isSteam = true ∧ s.ret.run.degraded = false) ∨ holdsDose s .ch1 = true) ∧
      (sourceLow source s = true ∨ ∃ c : Chan, c ≠ .ch3 ∧ (chan s c).state = .suspended ∧
        (requesterIs .boilerControl (chan s c) = true ∨ requesterIs .program (chan s c) = true))
    let r := s.ret.run
    (quiet s = true → t = flushCommit s) ∧
    (cancels → chan t .ch0 = ⟨.idle, none⟩ ∧
      ((chan s .ch0).state = .running → s.water.path = .granted .ch0 → t.water.path = .settling) ∧
      (¬checked → ∀ x : Dose, (chan s .ch0).dose = some x →
        ((chan s .ch0).state = .running → HandsOn (x.delivered - x.charged) x s t) ∧
          ((chan s .ch0).state ≠ .running → ChargesNothing s t))) ∧
    (prepares → s.boiler.state = .empty →
      t.ret.descale.phase = .awaitAgent ∧ t.work.drain = false ∧ conditionHolds .descalePrompt t = true) ∧
    (prepares → boils → holdsDose s .ch3 = false →
      t.ret.descale.phase = .prepare ∧
        (drains → t.work.drain = false ∧ t.boiler.state = .draining ∧ t.boiler.drainPending = false ∧
          chan t .ch3 =
            ⟨.running,
              some
                { mode := .block, destination := .out, source := none, base := 45, remaining := 45, delivered := 0
                  charged := 0, reload := false, requester := .descale, portion := 0, portionLeft := 0 }⟩) ∧
        (¬drains → t.work.drain = true ∧ t.boiler.state = s.boiler.state ∧ chan t .ch3 = chan s .ch3)) ∧
    (¬prepares ∨ (s.boiler.state ≠ .empty ∧ (¬boils ∨ holdsDose s .ch3 = true)) →
      t.ret.descale = d ∧ t.work = s.work ∧ t.boiler.state = s.boiler.state) ∧
    (¬checked → ¬cancels →
      (t.seq.waterCondition = true ↔ dry) ∧
      (dry → s.seq.waterCondition = false →
        t.ret.run.causes = { r.causes with water := true } ∧ t.ret.run.waterTimer = 0 ∧
          t.climate.steamWithheld = true ∧ (RunSound s → t.ret.run.state = .paused)) ∧
      (¬dry → s.seq.waterCondition = true → r.causes.water = true →
        t.ret.run.causes = { r.causes with water := false } ∧ t.ret.run.waterTimer = 0 ∧
          t.climate.steamWithheld = r.degraded ∧
          t.ret.run.state =
            if r.causes.door = true ∨ r.causes.probe = true ∨ r.causes.mains = true then r.state else .running) ∧
      ((dry ↔ s.seq.waterCondition = true) ∨ (¬dry ∧ r.causes.water = false) →
        t.ret.run = r ∧ t.climate.steamWithheld = s.climate.steamWithheld))

/-- R150, R151, R157, R158: a step that ends with a fatal fault during a run ends the run with the result FAULT and
that fault, in the stage it finds current; where two have entered in one step the record names the first in the order
of the fault set's table (the model's choice, notes/assumptions/39.md). A step that ends with a water or boiler fault
and no fatal one leaves steam lost set for as long as the run goes on, and where it sets it the current stage, if it
uses steam and goes on, is degraded, without a burst and with steam withheld (R149). The fatal faults are
THERMAL_CUTOUT, HEAT_RUNAWAY and SENSOR_CAVITY, and FAN_STALL while the current stage's mode is a fan mode (R151). -/
def Obligations.RunFaultsActAtTheEndOfAStep : Prop :=
  (∀ s : State,
    let fanStage := (currentStage s).mode ∈ [Mode.convection, .bottomCrisp, .grillFan, .steam, .combi, .proof]
    fatalFault s =
      if FaultKind.thermalCutout ∈ s.events.faults then some .thermalCutout
      else if FaultKind.heatRunaway ∈ s.events.faults then some .heatRunaway
      else if FaultKind.sensorCavity ∈ s.events.faults then some .sensorCavity
      else if FaultKind.fanStall ∈ s.events.faults ∧ fanStage then some .fanStall
      else none) ∧
  (∀ (s : State) (f : FaultKind), runActive s = true → fatalFault s = some f →
     let t := settle s
     t.ret.run.state = .idle ∧ t.ret.run.causes = Causes.none ∧
       ∃ r, t.ret.lastRun = some r ∧ r.result = .fault ∧ r.fault = some f ∧ r.runId = s.ret.run.runId ∧
         r.slot = s.ret.run.slot ∧ r.generation = s.ret.run.generation ∧ r.finalStage = s.ret.run.stageIndex ∧
         r.runTime = s.ret.run.runTime ∧ s.ret.run.steamUsed ≤ r.steamUsed) ∧
  ∀ s : State, runActive s = true → fatalFault s = none →
    (hasFault .sensorBoiler s || hasFault .noFlow s || hasFault .boilerDry s || hasFault .levelSense s) = true →
      let t := settle s
      t.ret.run.state = .idle ∨
        (t.ret.run.steamLost = true ∧
          (s.ret.run.steamLost = false → (currentStage s).usesSteam = true →
            t.ret.run.stageIndex = s.ret.run.stageIndex →
              t.ret.run.degraded = true ∧
                (s.ret.run.degraded = false →
                  t.ret.run.degradedAny = true ∧ t.climate.steamWithheld = true ∧ t.ret.run.causes.water = false ∧
                    t.ret.run.deferredBurst = none ∧ holdsDose t .ch1 = false ∧
                    RaisedTo .steamDegraded (stageArg s) s t)))

/-! ## Measurement (R1 to R19) -/

/-- R2: classification, the breakpoint tables and linear interpolation, truncated toward zero; beyond the ends of type
M the end's value. A converted sample then takes the channel's offset and the clamp of its type (R3): −400 to 3200 for
the types R and N, 0 to 1000 for type M. -/
def Obligations.RawValuesAreConverted : Prop :=
  tableR = [(61, -400), (1000, 500), (2000, 1450), (3000, 2350), (3999, 3200)] ∧
  tableN = [(61, 3200), (800, 1500), (1800, 800), (3000, 300), (3999, -400)] ∧
  tableM = [(200, 0), (3800, 1000)] ∧
  (∀ (table : List (Nat × Int)) (lo hi offset : Int) (raw : BitVec 12),
    (convert table lo hi offset raw = .opened ↔ 4000 ≤ raw.toNat) ∧
    (convert table lo hi offset raw = .shorted ↔ raw.toNat ≤ 60) ∧
    (61 ≤ raw.toNat → raw.toNat ≤ 3999 →
      convert table lo hi offset raw = .inRange (max lo (min (interpolate table raw.toNat + offset) hi)))) ∧
  (∀ table ∈ [tableR, tableN, tableM], ∀ p ∈ table.zip table.tail, ∀ raw : Nat, p.1.1 ≤ raw → raw ≤ p.2.1 →
    interpolate table raw = p.1.2 + Int.tdiv (((raw : Int) - p.1.1) * (p.2.2 - p.1.2)) ((p.2.1 : Int) - p.1.1)) ∧
  (∀ (offset : Int) (raw : BitVec 12), convertR offset raw = convert tableR (-400) 3200 offset raw) ∧
  (∀ (offset : Int) (raw : BitVec 12), convertN offset raw = convert tableN (-400) 3200 offset raw) ∧
  (∀ (offset : Int) (raw : BitVec 12), convertM offset raw = convert tableM 0 1000 offset raw) ∧
  (∀ raw : Nat, raw < 200 → interpolate tableM raw = 0) ∧ ∀ raw : Nat, 3800 < raw → interpolate tableM raw = 1000

/-- R4, R5, R6: what a good and a bad sample do to a channel's filter, counts and sensor state. That the bad count is
0 from the entry of FAULTED on is the model's choice (notes/assumptions/59.md). -/
def Obligations.SamplesMoveFiltersAndSensorStates : Prop :=
  ∀ (c : SampleChannel) (x : Int),
    let moved := fun (old : Int) (loaded : Bool) => if loaded then old + Int.tdiv (x - old) 4 else x
    (c.state = .ok →
      c.takeGood (some x) = { c with bad := 0, value := moved c.value c.loaded, loaded := true } ∧
      (c.bad < 2 → c.takeBad = { c with bad := c.bad + 1 }) ∧
      (c.bad = 2 → c.takeBad = { c with state := .faulted, bad := 0, good := 0, shadowLoaded := false })) ∧
    (c.state = .faulted →
      c.takeBad = { c with good := 0, shadowLoaded := false } ∧
      (c.good < 9 → c.takeGood (some x) =
        { c with good := c.good + 1, shadow := moved c.shadow c.shadowLoaded, shadowLoaded := true }) ∧
      (c.good = 9 → (c.takeGood (some x)).state = .ok ∧ (c.takeGood (some x)).loaded = true ∧
        (c.takeGood (some x)).bad = 0 ∧ (c.takeGood (some x)).value = moved c.shadow c.shadowLoaded))

/-- SAMPLE_PERIOD, which is due 100 ms after the period before it (R1), from the beginning of its period on (DEDUCED,
notes/assumptions/48.md): the cavity, boiler and moisture channels take their conversions, each of which counts to the
channel's ten (R1, R5), an IN_RANGE one as a good sample and an OPEN or SHORT one as a bad sample (R4), the readings
follow the filters, the three sensor faults follow the sensor states and the cooling fan is decided, on the state the
period finds (DEDUCED, notes/assumptions/25.md). The climate, boiler and program units act on the readings in that
order (the model's choice, notes/assumptions/8.md): the runaway timer and limits with HEAT_RUNAWAY (R41, R42), the end
of COOLDOWN (R28), the zeros of a beginning SENSOR_CAVITY (R29) and the boiler's demand of 0 at a beginning
SENSOR_BOILER (R8, R103; in STARTING none is posted, R198), the boiler state's derivation (R108, R198), HEATING and
READY (R99), BOILER_DRY and DRY_FAULT (R105), of which the state alone waits for the derivation (R108, R190; DEDUCED,
notes/assumptions/51.md), the probe's events and the PROBE cause (R11, R147) and CORE_REACHED (R141); then the stage
ends if that is its end, and the step settles. A period that is not due changes nothing (the model's choice,
notes/assumptions/7.md). -/
def Obligations.SamplePeriodMeasures : Prop :=
  (∀ s : State, samplePeriodDue s = true ↔ 100000 ≤ s.meas.sampleClock) ∧
  (∀ (c : SampleChannel) (x : Int),
    let k := { c with count := min (c.count + 1) 10 }
    c.take (.inRange x) = k.takeGood (some x) ∧ c.take .opened = k.takeBad ∧ c.take .shorted = k.takeBad) ∧
  ∀ (raw : RawSamples) (s : State),
    (samplePeriodDue s = false → exec (.samplePeriod raw) s = .next s) ∧
    (samplePeriodDue s = true →
      ∃ v u, u = checkStageEnd v ∧ exec (.samplePeriod raw) s = .next (settle u) ∧
        v.meas = measure s.start.straps.probeFitted s.settings.offsets raw s.meas ∧
        (let counted :=
           match s.climate.record with
           | none => s.climate.runaway
           | some r =>
             if s.climate.runawayArmed = true ∧ hasFault .sensorCavity v = false then
               (if r.setpoint + 400 < v.meas.cavity then s.climate.runaway + 100 else 0)
             else s.climate.runaway
         let runs := s.climate.state ≠ .fault ∧ (60000 ≤ counted ∨ 3000 < v.meas.cavity)
         let cools := s.climate.state = .cooldown ∧ v.meas.cavity < 500
         (runs → v.climate.state = .fault ∧ hasFault .heatRunaway v = true ∧ v.climate.record = none ∧
           v.climate.iacc = 0 ∧ v.climate.relayAsk = false ∧ v.out.fan.code = 0 ∧ VentAsked .opened s v ∧
           v.boiler.steamRequest = 0 ∧
           v.share.demands.top = 0 ∧ v.share.demands.bottom = 0 ∧ v.share.demands.ring = 0 ∧
           v.share.demands.grill = 0) ∧
         (¬runs → v.climate.runaway = counted ∧ hasFault .heatRunaway v = hasFault .heatRunaway s ∧
           v.climate.record = s.climate.record ∧ (cools → v.climate.state = .off ∧ VentAsked .closed s v) ∧
           (¬cools → v.climate.state = s.climate.state ∧ v.out.vent = s.out.vent)) ∧
         (¬runs → cools → ∀ k : Link, (steeringOf s.events.steering .cooldownEnded).get k = true →
           ∃ e ∈ v.events.queues.get k, e.kind = .cooldownEnded ∧ e.reported = false)) ∧
        (hasFault .sensorCavity s = false → hasFault .sensorCavity v = true →
          working s = true ∨ s.climate.state = .paused →
            v.share.demands.top = 0 ∧ v.share.demands.bottom = 0 ∧ v.share.demands.ring = 0 ∧
              v.share.demands.grill = 0 ∧ v.boiler.steamRequest = 0) ∧
        (hasFault .sensorBoiler s = false → hasFault .sensorBoiler v = true →
          (s.start.ready = true → v.share.demands.boiler = 0) ∧
            (s.start.ready = false → v.share.demands.boiler = s.share.demands.boiler)) ∧
        (let counted := allCounted v
         let derives := counted = true ∧ s.boiler.derived = false
         let before := if derives then (if lowCovered s then BoilerState.heating else .empty) else s.boiler.state
         let boils :=
           if before = .heating ∧ 980 ≤ v.meas.boiler then BoilerState.ready
           else if before = .ready ∧ v.meas.boiler < 950 then .heating
           else before
         let dry := 1300 < v.meas.boiler ∧ hasFault .sensorBoiler v = false ∧ boils ≠ .dryFault
         v.boiler.derived = (s.boiler.derived || counted) ∧
         hasFault .boilerDry v = (hasFault .boilerDry s || decide dry) ∧
         v.boiler.state = (if dry ∧ v.boiler.derived = true then .dryFault else boils) ∧
         (derives → ¬dry ∨ s.start.ready = false → v.boiler.drainPending = lowCovered s)) ∧
        (v.meas.probePresent ≠ s.meas.probePresent →
          let k := if v.meas.probePresent then EventKind.probeInserted else .probeRemoved
          ∀ l : Link, (steeringOf s.events.steering k).get l = true →
            ∃ e ∈ v.events.queues.get l, e.kind = k ∧ e.reported = false) ∧
        (runActive s = true → (v.ret.run.causes.probe = true ↔
          (currentStage s).ending = .core ∧ v.meas.probePresent = false)) ∧
        (let reaches := runActive s = true ∧ (currentStage s).ending = .core ∧ v.meas.probePresent = true ∧
           s.ret.run.coreReached = false ∧ ∃ target, (currentStage s).core = some target ∧ target ≤ v.meas.core
         (reaches → v.ret.run.coreReached = true ∧
           ∀ l : Link, (steeringOf s.events.steering .coreReached).get l = true →
             ∃ e ∈ v.events.queues.get l, e.kind = .coreReached ∧ e.reported = false ∧
               e.argument = some (BitVec.ofNat 8 s.ret.run.stageIndex)) ∧
         (¬reaches → v.ret.run.coreReached = s.ret.run.coreReached)) ∧
        u.meas.sampleClock = s.meas.sampleClock - 100000 ∧
        u.meas.chans.cavityUpper =
          s.meas.chans.cavityUpper.take (convertR s.settings.offsets.cavityUpper raw.cavityUpper) ∧
        u.meas.chans.cavityLower =
          s.meas.chans.cavityLower.take (convertR s.settings.offsets.cavityLower raw.cavityLower) ∧
        u.meas.chans.boiler = s.meas.chans.boiler.take (convertR s.settings.offsets.boiler raw.boiler) ∧
        u.meas.chans.moisture = s.meas.chans.moisture.take (convertM s.settings.offsets.moisture raw.moisture) ∧
        u.meas.cavity =
          (match u.meas.chans.cavityUpper.state, u.meas.chans.cavityLower.state with
            | .ok, .ok => Int.tdiv (u.meas.chans.cavityUpper.value + u.meas.chans.cavityLower.value) 2
            | .ok, .faulted => u.meas.chans.cavityUpper.value
            | .faulted, .ok => u.meas.chans.cavityLower.value
            | .faulted, .faulted => s.meas.cavity) ∧
        u.meas.boiler = u.meas.chans.boiler.value ∧
        u.meas.moisture = Int.tdiv (u.meas.chans.moisture.value + 5) 10 ∧
        u.climate.coolingFan =
          (if s.climate.state = .off ∨ s.climate.state = .fault then
            if 600 ≤ u.meas.cavity then true else if u.meas.cavity < 500 then false else s.climate.coolingFan
          else true) ∧
        (hasFault .sensorCavity u = true ↔
          u.meas.chans.cavityUpper.state = .faulted ∧ u.meas.chans.cavityLower.state = .faulted) ∧
        (hasFault .sensorBoiler u = true ↔ u.meas.chans.boiler.state = .faulted) ∧
        (hasFault .moistureSensor u = true ↔ u.meas.chans.moisture.state = .faulted) ∧
        u.now = s.now ∧ u.pending = s.pending ∧ u.inputs = s.inputs ∧ u.prot = s.prot ∧ u.ports = s.ports ∧
        u.settings = s.settings ∧ u.start = s.start ∧ u.out.heat = s.out.heat ∧ u.out.halfCycle = s.out.halfCycle)

/-- R10 to R12: the core points' share of a sample period. An IN_RANGE sample is a good one and counts to the in-range
run; an OPEN sample is a good one that unloads the filter in place of updating it and counts to the open run; a SHORT
sample is a bad one and ends both runs. A point that is out of range is not counted in the core reading, the probe
becomes PRESENT on ten in-range samples of one point and ABSENT on ten open ones of all three, and nothing moves while
PROBE_FITTED reads no. That a point which returns to OK has a good count of 0 and no loaded shadow filter is the
model's choice (notes/assumptions/59.md). -/
def Obligations.CoreProbeIsMeasured : Prop :=
  ∀ (offsets : Offsets) (raw : RawSamples) (m : Measurement),
    let u := measure true offsets raw m
    let v := measure false offsets raw m
    u.chans.coreA = m.chans.coreA.takeCore (convertN offsets.coreA raw.coreA) ∧
    u.chans.coreB = m.chans.coreB.takeCore (convertN offsets.coreB raw.coreB) ∧
    u.chans.coreC = m.chans.coreC.takeCore (convertN offsets.coreC raw.coreC) ∧
    u.runsA = m.runsA.take (convertN offsets.coreA raw.coreA) ∧
    u.runsB = m.runsB.take (convertN offsets.coreB raw.coreB) ∧
    u.runsC = m.runsC.take (convertN offsets.coreC raw.coreC) ∧
    (u.probePresent = true ↔
      (if m.probePresent then ¬(u.runsA.openRun = 10 ∧ u.runsB.openRun = 10 ∧ u.runsC.openRun = 10)
        else u.runsA.inRange = 10 ∨ u.runsB.inRange = 10 ∨ u.runsC.inRange = 10)) ∧
    (let points := [(u.chans.coreA, u.runsA), (u.chans.coreB, u.runsB), (u.chans.coreC, u.runsC)]
     let inRange := points.filter (fun p => decide (p.1.state = .ok) && p.1.loaded && decide (0 < p.2.inRange))
     (inRange = [] → u.core = m.core) ∧
       (inRange ≠ [] → (∀ p ∈ inRange, u.core ≤ p.1.value) ∧ ∃ p ∈ inRange, u.core = p.1.value)) ∧
    v.chans.coreA = m.chans.coreA ∧ v.chans.coreB = m.chans.coreB ∧ v.chans.coreC = m.chans.coreC ∧
    v.runsA = m.runsA ∧ v.runsB = m.runsB ∧ v.runsC = m.runsC ∧ v.core = m.core ∧
    v.probePresent = m.probePresent ∧
    ∀ (c : SampleChannel) (r : CoreRuns) (x : Int),
      let k := { c with count := min (c.count + 1) 10 }
      r.take (.inRange x) = ⟨min (r.inRange + 1) 10, 0⟩ ∧ r.take .opened = ⟨0, min (r.openRun + 1) 10⟩ ∧
      r.take .shorted = ⟨0, 0⟩ ∧
      c.takeCore (.inRange x) = k.takeGood (some x) ∧ c.takeCore .shorted = k.takeBad ∧
      (c.state = .ok → c.takeCore .opened = { k with bad := 0, loaded := false }) ∧
      (c.state = .faulted → c.good < 9 →
        c.takeCore .opened = { k with good := c.good + 1, shadowLoaded := false }) ∧
      (c.state = .faulted → c.good = 9 →
        c.takeCore .opened =
          { k with
            state := .ok, value := c.shadow, loaded := false, bad := 0, good := 0, shadowLoaded := false })

/-- R13, R14: TACHO_EDGE and TACHO_TIMEOUT. That the first edge after a reset is accepted whenever it comes is DEDUCED
(notes/assumptions/11.md). A row that is not due changes nothing (the model's choice, notes/assumptions/7.md). -/
def Obligations.TachoEdgesGiveTheFanSpeed : Prop :=
  ∀ s : State,
    (s.meas.tachoSeen = false →
      exec .tachoEdge s = .next { s with meas := { s.meas with tachoSeen := true, tachoAge := 0 } }) ∧
    (s.meas.tachoSeen = true → s.meas.tachoAge < 1000 → exec .tachoEdge s = .next s) ∧
    (s.meas.tachoSeen = true → 1000 ≤ s.meas.tachoAge → s.meas.tachoAge ≤ 1000000 →
      exec .tachoEdge s =
        .next { s with meas := { s.meas with speed := 30000000 / s.meas.tachoAge, tachoAge := 0 } }) ∧
    (s.meas.tachoSeen = true → 1000000 < s.meas.tachoAge →
      exec .tachoEdge s = .next { s with meas := { s.meas with speed := 0, tachoAge := 0 } }) ∧
    (500000 ≤ s.meas.tachoAge → exec .tachoTimeout s = .next { s with meas := { s.meas with speed := 0 } }) ∧
    (s.meas.tachoAge < 500000 → exec .tachoTimeout s = .next s) ∧
    ∀ cause : ResetCause, ∃ t, exec (.reset cause) s = .next t ∧ t.meas.speed = 0 ∧ t.meas.tachoAge = 0 ∧
      t.meas.tachoSeen = false

/-- R15, R16: edges and timeouts of the mains monitor while the frequency is NONE. An edge that measures joins the
group, sixteen half-periods decide or empty it, 30,000 µs without an accepted edge empty it, and the frequency still
NONE 2 s after the reset raises MAINS_LOST and ends the wait; a deciding edge makes the mains PRESENT, which removes
the pause cause MAINS of a run (R148) and sets the outage timer to 0 (R193), and begins the first half-cycle. That the
group is emptied when it decides, too, is the model's choice (notes/assumptions/60.md), and so is that a timeout which
is not due changes nothing (notes/assumptions/7.md). -/
def Obligations.FrequencyIsDecided : Prop :=
  (∀ s : State, groupTimeoutDue s = true ↔
    s.meas.frequency = .undecided ∧ s.meas.edgeMeasures = true ∧ 30000 ≤ s.meas.edgeAge) ∧
  (∀ s : State, frequencyTimeoutDue s = true ↔
    s.meas.frequency = .undecided ∧ s.meas.frequencyWaitOver = false ∧ 2000000 ≤ s.now) ∧
  (∀ s : State, groupTimeoutDue s = false → exec .zeroCrossGroupTimeout s = .next s) ∧
  (∀ s : State, frequencyTimeoutDue s = false → exec .frequencyTimeout s = .next s) ∧
  ∀ s : State, s.meas.frequency = .undecided →
    let m := { s.meas with edgeSeen := true, edgeMeasures := true, edgeAge := 0 }
    let average := (s.meas.groupSum + s.meas.edgeAge) / 16
    (s.meas.edgeSeen = true → s.meas.edgeAge < 5000 → exec .zeroCross s = .next s) ∧
    (edgeAccepted s.meas = true → s.meas.edgeMeasures = false → exec .zeroCross s = .next { s with meas := m }) ∧
    (edgeAccepted s.meas = true → s.meas.edgeMeasures = true → s.meas.groupCount < 15 →
      exec .zeroCross s =
        .next
          { s with
            meas :=
              { m with groupSum := s.meas.groupSum + s.meas.edgeAge, groupCount := s.meas.groupCount + 1 } }) ∧
    (edgeAccepted s.meas = true → s.meas.edgeMeasures = true → s.meas.groupCount = 15 →
      (average < 7500 ∨ 11000 < average →
        exec .zeroCross s = .next { s with meas := { m with groupSum := 0, groupCount := 0 } }) ∧
      (7500 ≤ average → average ≤ 11000 →
        ∃ u, exec .zeroCross s = .next (settle u) ∧
          u.meas =
            { m with
              groupSum := 0, groupCount := 0, mainsPresent := true
              frequency := if 9000 ≤ average then .hz50 else .hz60 } ∧
          hasFault .mainsLost u = false ∧ u.start = { s.start with outageTimer := 0 } ∧
          (runActive s = true → u.ret.run.causes.mains = false) ∧
          u.out.halfCycle = some (nextHalfCycle { s with meas := u.meas }))) ∧
    (groupTimeoutDue s = true →
      exec .zeroCrossGroupTimeout s =
        .next { s with meas := { s.meas with groupSum := 0, groupCount := 0, edgeMeasures := false } }) ∧
    (s.meas.frequencyWaitOver = false → 2000000 ≤ s.now →
      exec .frequencyTimeout s =
        .next (enterFault .mainsLost { s with meas := { s.meas with frequencyWaitOver := true } }))

/-! ## The power share arbiter (R48 to R62) -/

/-- R59: every step keeps the budget law: the reserve and the ratings of the loads firing do not exceed the budget of
the window's limits, nor do the active runs with the firing force, in any cycle of the window, exceed its headroom;
the same holds of what the next window will adopt. In every cycle of the window an allocation prepares, the power of
the loads that fire in it, the forced one included, does not exceed the headroom. -/
def Obligations.BudgetLaw : Prop :=
  (∀ s t : State, StoreSound s → BudgetSound s → step s = .next t → BudgetSound t) ∧
  ∀ (c : Nat) (limits : Limits) (demands : PerLoad Nat) (policy : Policy) (claim : Option Load) (k : Nat), k < c →
    cyclePower limits (allocate c limits demands policy claim).result k ≤ limits.headroom

/-- R52 to R57: the placed claim, the granted length, the shortfall and the over-budget mark of each load. The run of
a load is searched over the profile that the placed claim and the runs of the loads before it in the policy's order
make, under the headroom less its rating; and what a search finds is the longest run that fits, no longer than the
demand, and of those the earliest, empty where not one cycle fits. -/
def Obligations.GrantsRunsAndMarks : Prop :=
  grantOrder .steamFirst = [.boiler, .ring, .top, .bottom, .grill] ∧
  grantOrder .heatFirst = [.ring, .top, .bottom, .grill, .boiler] ∧
  (∀ (c : Nat) (limits : Limits) (demands : PerLoad Nat) (policy : Policy) (claim : Option Load) (before after : List Load)
     (l : Load), grantOrder policy = before ++ l :: after →
     let a := (allocate c limits demands policy claim).result
     let claimed := match a.placed with | none => 0 | some x => limits.ratings.get x
     let profile := (List.range c).map (fun k =>
       claimed + (before.map (fun x => if (a.runs.get x).covers k then limits.ratings.get x else 0)).sum)
     (a.placed = some l ∨ demands.get l = 0 ∨ limits.headroom < limits.ratings.get l → a.runs.get l = Run.empty) ∧
     (a.placed ≠ some l → 0 < demands.get l → limits.ratings.get l ≤ limits.headroom →
       a.runs.get l = searchRun profile (limits.headroom - limits.ratings.get l) (demands.get l))) ∧
  (∀ (c : Nat) (limits : Limits) (demands : PerLoad Nat) (policy : Policy) (claim : Option Load) (l : Load),
     let a := (allocate c limits demands policy claim).result
     let r := a.runs.get l
     let rating := limits.ratings.get l
     (a.placed = some l ↔ claim = some l ∧ rating ≤ limits.headroom) ∧
     r.start + r.length ≤ c ∧ r.length ≤ demands.get l ∧
     (a.placed = some l →
       r.length = 0 ∧ a.granted.get l = c ∧ a.shortfalls.get l = 0 ∧ a.marks.get l = false) ∧
     (a.placed ≠ some l →
       a.granted.get l = r.length ∧ a.shortfalls.get l = demands.get l - r.length ∧
       (a.marks.get l = true ↔ 0 < demands.get l ∧ limits.headroom < rating) ∧
       (a.marks.get l = true → r.length = 0))) ∧
  ∀ (profile : List Nat) (room d : Nat),
    let r := searchRun profile room d
    let fits := fun (start len : Nat) => start + len ≤ profile.length ∧
      ∀ w ∈ (profile.drop start).take len, w ≤ room
    r.length ≤ d ∧ (0 < r.length → fits r.start r.length ∧ ∀ start, start < r.start → ¬fits start r.length) ∧
      (r.length = 0 → r.start = 0) ∧ ∀ start len, r.length < len → len ≤ d → ¬fits start len

/-- ALLOCATION_END (R56 to R58, R64): the grants reach the heat channels' pending runs, the shortfalls the regulator
and the boiler controller, the granted cycles the heat-up count, and LOAD_OVER_BUDGET follows the marks. A row that is
not due changes nothing (the model's choice, notes/assumptions/7.md). -/
def Obligations.AllocationEndHandsOnItsResults : Prop :=
  (∀ s : State, s.share.allocation = none → exec .allocationEnd s = .next s) ∧
  ∀ (s : State) (a : Allocation), s.share.allocation = some a →
    ∃ t, exec .allocationEnd s = .next t ∧
      (∀ l : Load, t.out.heat.get l =
        { s.out.heat.get l with
          pending :=
            if s.meas.mainsPresent = false ∨ cutoutOpen s = true ∨ (l.isCavity = true ∧ doorOpen s = true) ∨
                (l = .boiler ∧ lowCovered s = false) ∨ (a.runs.get l).length = 0 then ⟨0, 0⟩
            else a.runs.get l }) ∧
      t.out = { s.out with
        heat := t.out.heat
        forces := s.out.forces.map (fun e =>
          if (outputLoad e.output).isSome = true ∧ outputLoad e.output = a.placed ∧ e.phase = .placing then
            { e with phase := .marked }
          else e) } ∧
      t.share = { s.share with preparedGrants := a.granted, marks := a.marks, allocation := none } ∧
      t.climate = { s.climate with
        shortfall := ⟨a.shortfalls.top, a.shortfalls.bottom, a.shortfalls.ring, a.shortfalls.grill⟩ } ∧
      t.boiler = { s.boiler with
        shortfall := a.shortfalls.boiler
        heatUp :=
          if s.boiler.state = .heating ∧ s.ret.descale.phase = .idle then s.boiler.heatUp + a.granted.boiler
          else s.boiler.heatUp } ∧
      (hasFault .loadOverBudget t = true ↔ ∃ l : Load, a.marks.get l = true) ∧
      (∀ f : FaultKind, f ≠ .loadOverBudget → (f ∈ t.events.faults ↔ f ∈ s.events.faults)) ∧
      t.meas = s.meas ∧ t.water = s.water ∧ t.ret = s.ret ∧ t.scale = s.scale ∧ t.inputs = s.inputs ∧
      t.settings = s.settings ∧ t.store = s.store ∧ t.ports = s.ports ∧ t.prot = s.prot ∧ t.pending = s.pending

/-! ## Windows and half-cycles (R17, R60, R63 to R65, R80) -/

/-- ZERO_CROSS once the frequency is decided: an accepted edge makes the mains PRESENT, which ends MAINS_LOST, sets
the outage timer to 0 (R193) and removes the pause cause MAINS of a run, which goes on where it was the last one
(R148, R144), before the sequencer takes the regulator's reports, and begins the next half-cycle; the first of a
window adopts pending runs, prepared limits and prepared grants and begins the allocation of the next window; each
load fires in the half-cycle exactly when its active run covers the cycle, or it is forced and firing, and every gate
of its channel is open. -/
def Obligations.ZeroCrossBeginsAHalfCycle : Prop :=
  ∀ s : State, s.meas.frequency ≠ .undecided →
    (s.meas.edgeSeen = true → s.meas.edgeAge < 5000 → exec .zeroCross s = .next s) ∧
    (s.meas.edgeSeen = false ∨ 5000 ≤ s.meas.edgeAge →
      ∃ u h, exec .zeroCross s = .next (settle u) ∧
        h = (match s.out.halfCycle with
          | none => 0
          | some h => if 2 * cycles s ≤ h + 1 then 0 else h + 1) ∧
        u.out.halfCycle = some h ∧
        u.meas = { s.meas with edgeSeen := true, edgeMeasures := true, edgeAge := 0, mainsPresent := true } ∧
        (s.meas.mainsPresent = false → hasFault .mainsLost u = false ∧
          u.start = { s.start with outageTimer := 0 } ∧ (runActive s = true → u.ret.run.causes.mains = false)) ∧
        (s.meas.mainsPresent = false → ∃ (v : State) (report : ReachedReport), u = takeReports report v ∧
          (runActive s = false → v.ret.run = s.ret.run) ∧
          (runActive s = true →
            let r := s.ret.run
            let goes := r.causes = ⟨false, false, false, true⟩
            (goes → v.ret.run = { r with causes := Causes.none, state := .running } ∧
              RaisedTo .programResumed (stageArg s) s v) ∧
            (¬goes → v.ret.run = { r with causes := { r.causes with mains := false } }))) ∧
        (s.meas.mainsPresent = true → u.start = s.start) ∧
        (h ≠ 0 → u.windows = s.windows ∧ u.share.currentGrants = s.share.currentGrants ∧
          ∀ l : Load, (u.out.heat.get l).active = (s.out.heat.get l).active) ∧
        (h = 0 → s.share.allocation = none →
          u.windows = s.windows + 1 ∧ u.share.window = s.share.prepared ∧
            u.share.currentGrants = s.share.preparedGrants ∧ u.share.allocation.isSome = true ∧
            u.share.prepared = limitsOf s.start.straps s.settings ∧
            ∀ l : Load, (u.out.heat.get l).active = (s.out.heat.get l).pending ∧
              (u.out.heat.get l).pending = Run.empty) ∧
        ∀ l : Load,
          let covered := (u.out.heat.get l).active.covers (h / 2) = true
          let gates := cutoutOpen s = false ∧
            (if l.isCavity then doorOpen s = false ∧ u.out.heaterRelay.state = .closed else lowCovered s = true)
          let forced := ∃ e ∈ u.out.forces, outputLoad e.output = some l ∧ e.phase = .firing
          (u.out.heat.get l).fired = true ↔ gates ∧ (covered ∨ forced))

/-- MAINS_LOST, when 30,000 µs pass without an accepted edge: the fault is raised, windows stop, every run is
discarded and nothing fires, the grants become 0, the RUNNING dose and a RUNNING drain reach their charging point
(R96), at which the dose's uncharged pulses are handed on and none of the drain's are, MAINS joins the pause causes,
the outage timer starts and a commit is asked for. That the allocation in progress is given up and that a marked force
entry, too, returns to PLACING is DEDUCED (notes/assumptions/13.md). A row that is not due changes nothing (the
model's choice, notes/assumptions/7.md). -/
def Obligations.MainsLostStopsWindows : Prop :=
  ∀ s : State,
    (mainsLostDue s = true ↔
      s.meas.frequency ≠ .undecided ∧ s.meas.mainsPresent = true ∧ 30000 ≤ s.meas.edgeAge) ∧
    (mainsLostDue s = false → exec .mainsLost s = .next s) ∧
    (s.meas.frequency ≠ .undecided → s.meas.mainsPresent = true → 30000 ≤ s.meas.edgeAge →
      ∃ u, exec .mainsLost s = .next (settle u) ∧
        u.meas = { s.meas with mainsPresent := false } ∧ hasFault .mainsLost u = true ∧ u.out.halfCycle = none ∧
        (∀ l : Load, u.out.heat.get l = ⟨Run.empty, Run.empty, false⟩) ∧
        u.share = { s.share with currentGrants := .all 0, preparedGrants := .all 0, allocation := none } ∧
        (∀ e ∈ u.out.forces, e.phase = .placing) ∧ u.water.path = s.water.path ∧
        (∀ (c : Chan) (d : Dose), s.water.path = .granted c → (chan s c).dose = some d →
          (chan u c).dose = some { d with charged := d.delivered }) ∧
        (∀ d : Dose, (chan s .ch3).state = .running → (chan s .ch3).dose = some d →
          (chan u .ch3).dose = some { d with charged := d.delivered } ∧
            (d.effective = .out → s.water.path = .free ∨ s.water.path = .settling → ChargesNothing s u)) ∧
        (((chan s .ch3).state = .running → ∃ d, (chan s .ch3).dose = some d ∧ d.effective = .out) →
          (∀ (c : Chan) (d : Dose), s.water.path = .granted c → (chan s c).dose = some d →
            HandsOn (d.delivered - d.charged) d s u) ∧
          (s.water.path = .free ∨ s.water.path = .settling → ChargesNothing s u)) ∧
        (runActive s = true → u.ret.run.causes.mains = true ∧
          (s.ret.run.causes.isEmpty = true → u.ret.run.state = .paused)) ∧
        u.start = { s.start with outageTimer := 0 } ∧ u.store.asked = true ∧
        u.settings = s.settings ∧ u.inputs = s.inputs ∧ u.ports = s.ports ∧ u.prot = s.prot ∧ u.boiler = s.boiler)

/-! ## Relays, fan drive, vent flap, lamp (R69 to R78) -/

/-- R69 to R71: a change starts once the recovery has ended, the requested position differs and the load condition
holds (at a zero-crossing for the heater supply relay, or at any moment while mains is LOST; at duty 0 for the
direction relay), takes 30 ms and is followed by 2 s of recovery; the direction relay's new state ends a reversal. A
row that is not due changes nothing (the model's choice, notes/assumptions/7.md). That the heater supply relay's
change while mains is PRESENT is part of ZERO_CROSS at the first half-cycle of a cycle, and not a row of its own, is
DEDUCED (notes/assumptions/17.md). -/
def Obligations.RelaysChange : Prop :=
  ∀ (r : RelayId) (s : State),
    let x := relay s r
    let free := match r with | .heaterSupply => s.meas.mainsPresent = false | .fanDirection => s.out.fan.duty = 0
    (x.recovering = false → x.state = .opened → x.askClosed = true → free →
      exec (.relayChangeStart r) s = .next (setRelay r { x with state := .closing, timer := 0 } s)) ∧
    (x.recovering = false → x.state = .closed → x.askClosed = false → free →
      exec (.relayChangeStart r) s = .next (setRelay r { x with state := .opening, timer := 0 } s)) ∧
    (x.recovering = true ∨ x.state = .closing ∨ x.state = .opening ∨ (x.state = .opened ∧ x.askClosed = false) ∨
        (x.state = .closed ∧ x.askClosed = true) ∨ ¬free → exec (.relayChangeStart r) s = .next s) ∧
    (x.state = .closing → 30000 ≤ x.timer →
      exec (.relayContactEnd r) s =
        .next
          (let t := setRelay r { x with state := .closed, timer := 0, recovering := true } s
           match r with | .heaterSupply => t | .fanDirection => endReversal t)) ∧
    (x.state = .opening → 30000 ≤ x.timer →
      exec (.relayContactEnd r) s =
        .next
          (let t := setRelay r { x with state := .opened, timer := 0, recovering := true } s
           match r with | .heaterSupply => t | .fanDirection => endReversal t)) ∧
    (x.state = .opened ∨ x.state = .closed ∨ x.timer < 30000 → exec (.relayContactEnd r) s = .next s) ∧
    (x.recovering = true → x.state = .opened ∨ x.state = .closed → 2000000 ≤ x.timer →
      exec (.relayRecoveryEnd r) s = .next (setRelay r { x with recovering := false } s)) ∧
    (x.recovering = false ∨ x.state = .closing ∨ x.state = .opening ∨ x.timer < 2000000 →
      exec (.relayRecoveryEnd r) s = .next s) ∧
    (∀ t : State, s.out.fan.phase = .switching → endReversal s = t →
      t.out.fan.phase = (if 0 < s.out.fan.code ∧ fanHeld s = false then .running else .stopped) ∧
        t.out.fan.duty = (if 0 < s.out.fan.code ∧ fanHeld s = false then 400 else 0)) ∧
    (s.meas.frequency ≠ .undecided → s.meas.edgeSeen = false ∨ 5000 ≤ s.meas.edgeAge →
      let y := s.out.heaterRelay
      let h := match s.out.halfCycle with
        | none => 0
        | some h => if 2 * cycles s ≤ h + 1 then 0 else h + 1
      let called := ∃ l : Load, l.isCavity = true ∧
        (if h = 0 then (s.out.heat.get l).pending else (s.out.heat.get l).active).covers (h / 2) = true
      let forced := ∃ e ∈ s.out.forces, ∃ l : Load, outputLoad e.output = some l ∧ l.isCavity = true
      (h = 0 → s.share.allocation = none ∧ s.share.claim = none) →
        ∃ t, exec .zeroCross s = .next t ∧
          (h % 2 = 0 → y.recovering = false → y.state = .opened → y.askClosed = true →
            t.out.heaterRelay = { y with state := .closing, timer := 0, askClosed := t.out.heaterRelay.askClosed }) ∧
          (h % 2 = 0 → y.recovering = false → y.state = .closed → y.askClosed = false → ¬called → ¬forced →
            t.out.heaterRelay = { y with state := .opening, timer := 0, askClosed := t.out.heaterRelay.askClosed }) ∧
          (h % 2 = 1 ∨ y.recovering = true ∨ y.state = .closing ∨ y.state = .opening ∨
              (y.state = .opened ∧ y.askClosed = false) ∨
              (y.state = .closed ∧ (y.askClosed = true ∨ called ∨ forced)) →
            t.out.heaterRelay = { y with askClosed := t.out.heaterRelay.askClosed }))

/-- R72 to R75, R45: the 200 ms tick moves the duty of a RUNNING fan by a quarter of the speed error, a stall stops
the fan with FAN_STALL, the reversal timer begins BRAKING, and a second below 300 rpm asks for the opposite direction.
The reversal timer runs out when it reaches the period of the record's mode while it counts: in PREHEAT or HOLD, in a
mode with a period, at a fan code above 0, with the mains PRESENT and no reversal in progress. That the slow timer
keeps its last count at the end of BRAKING, until the next microsecond, is the model's choice
(notes/assumptions/70.md), and so is that a row that is not due changes nothing (notes/assumptions/7.md). -/
def Obligations.FanDriveRuns : Prop :=
  ∀ s : State,
    let f := s.out.fan
    (reversalDue s = true ↔
      ∃ r, s.climate.record = some r ∧ (s.climate.state = .preheat ∨ s.climate.state = .hold) ∧ 0 < r.fanCode ∧
        (r.mode = .convection ∨ r.mode = .bottomCrisp ∨ r.mode = .grillFan ∨ r.mode = .combi) ∧
        s.meas.mainsPresent = true ∧ f.phase ≠ .braking ∧ f.phase ≠ .switching ∧ 120000000 ≤ s.climate.reversal) ∧
    (f.tickClock < 200000 → exec .fanTick s = .next s) ∧
    (f.phase ≠ .running ∨ f.stallTimer < 2000000 → exec .fanStall s = .next s) ∧
    (reversalDue s = false → exec .reversalTimerExpiry s = .next s) ∧
    (f.phase ≠ .braking ∨ f.slowTimer < 1000000 → exec .slowTimerExpiry s = .next s) ∧
    (200000 ≤ f.tickClock → f.phase = .running →
      exec .fanTick s =
        .next
          (setFan
            { f with
              tickClock := f.tickClock - 200000
              duty :=
                (max 0 (min ((f.duty : Int) + Int.tdiv ((450 + 150 * f.code : Nat) - (s.meas.speed : Int)) 4)
                  1000)).toNat } s)) ∧
    (200000 ≤ f.tickClock → f.phase ≠ .running →
      exec .fanTick s = .next (setFan { f with tickClock := f.tickClock - 200000 } s)) ∧
    (f.phase = .running → 2000000 ≤ f.stallTimer →
      ∃ u, exec .fanStall s = .next (settle u) ∧ hasFault .fanStall u = true ∧
        u = { s with
          out := { s.out with fan := { f with duty := 0, phase := .stopped, stallTimer := 0 } }, events := u.events }) ∧
    (reversalDue s = true →
      exec .reversalTimerExpiry s =
        .next
          (setFan { f with phase := .braking, duty := 0, slowTimer := 0, stallTimer := 0 }
            (setClimate { s.climate with reversal := 0 } s))) ∧
    (f.phase = .braking → 1000000 ≤ f.slowTimer →
      exec .slowTimerExpiry s =
        .next
          { s with
            out :=
              { s.out with
                fan := { f with phase := .switching }
                fanRelay :=
                  { s.out.fanRelay with
                    askClosed := !(s.out.fanRelay.state == .closing || s.out.fanRelay.state == .closed) } } })

/-- VENT_STUCK (R77), LAMP_ONE_SHOT_EXPIRY and LAMP (R78), and the levels of the lamp (R78) and of the electronics
cooling fan (R46), which a force or pulse of the output takes over (R79, R82). That the travel timer of a STUCK flap
keeps its last count is the model's choice (notes/assumptions/69.md), and so is that a row that is not due changes
nothing (notes/assumptions/7.md). -/
def Obligations.VentStuckAndLamp : Prop :=
  (∀ s : State, s.out.vent.state = .opening ∨ s.out.vent.state = .closing → 5000000 ≤ s.out.vent.travel →
    exec .ventStuck s = .next (enterFault .ventStuck (setVent { s.out.vent with state := .stuck } s))) ∧
  (∀ s : State, (s.out.vent.state ≠ .opening ∧ s.out.vent.state ≠ .closing) ∨ s.out.vent.travel < 5000000 →
    exec .ventStuck s = .next s) ∧
  (∀ (s : State) (t : Nat), s.out.lampShot = some t → 120000000 ≤ t →
    exec .lampOneShotExpiry s = .next { s with out := { s.out with lampShot := none } }) ∧
  (∀ s : State, (∀ t : Nat, s.out.lampShot = some t → t < 120000000) → exec .lampOneShotExpiry s = .next s) ∧
  (∀ s : State,
    (∀ x : ForceEntry, forceEntry .lamp s = some x → lampLit s = x.level) ∧
    (forceEntry .lamp s = none →
      (lampLit s = true ↔
        inPulse .lamp s = true ∨ doorOpen s = true ∨ runActive s = true ∨ s.out.lampShot ≠ none)) ∧
    (∀ x : ForceEntry, forceEntry .coolingFan s = some x → coolingFanOn s = x.level) ∧
    (forceEntry .coolingFan s = none →
      (coolingFanOn s = true ↔ inPulse .coolingFan s = true ∨ s.climate.coolingFan = true))) ∧
  ∀ (l : Link) (b : Byte) (s : State), Reaches l 0x36 [b] s →
    let a := acceptFrame l s
    (b.toNat = 0 →
      exec (.lamp l [b]) s =
        .next (answer l 0x36 (Reply.bare .ok) { a with out := { a.out with lampShot := none } })) ∧
    (b.toNat = 1 →
      exec (.lamp l [b]) s =
        .next (answer l 0x36 (Reply.bare .ok) { a with out := { a.out with lampShot := some 0 } })) ∧
    (1 < b.toNat → Refuses (.lamp l [b]) l 0x36 .badArgument s)

/-! ## Service forcing (R79 to R82) -/

/-- FORCE_EXPIRY, due when an output's entry is 30 s old, and PULSE_END, and what a removal does: the entry goes, a
heat load's claim ends, with the mark that the allocation in progress would have given for it (R52; DEDUCED,
notes/assumptions/57.md), the heater supply relay's request is renewed, and a vent drive returns to the flap's rule,
as the end of a pulse returns it. A forced or pulsed vent drive runs until its end switch reads reached and stays
stopped while the entry or pulse stands; that this holds of either drive also while the other one is forced or pulsed
on, so that the motor counts as running toward both ends, is the model's choice (notes/assumptions/32.md), and so is
the travel timer of a flap whose end is reached (notes/assumptions/69.md). No step that settles leaves an entry or a
pulse unless the run state and the descale phase are IDLE, the climate is OFF and service unlock is active (R79, R81,
R82). A row that is not due changes nothing (the model's choice, notes/assumptions/7.md). -/
def Obligations.ForcesAndPulsesEnd : Prop :=
  (∀ (o : Output) (s : State), forceDue o s = true ↔ ∃ e, forceEntry o s = some e ∧ 30000000 ≤ e.age) ∧
  (∀ (o : Output) (s : State) (e : ForceEntry), (s.out.forces.map ForceEntry.output).Nodup →
    (forceEntry o s = some e ↔ e ∈ s.out.forces ∧ e.output = o)) ∧
  (∀ (o : Output) (s : State), forceDue o s = true → exec (.forceExpiry o) s = .next (settle (removeForce o s))) ∧
  (∀ (o : Output) (s : State), forceDue o s = false → exec (.forceExpiry o) s = .next s) ∧
  (∀ (p : PulseRecord) (s : State), s.out.pulse = some p → p.remaining = 0 →
    exec .pulseEnd s = .next (settle (endPulse s))) ∧
  (∀ s : State, (∀ p : PulseRecord, s.out.pulse = some p → p.remaining ≠ 0) → exec .pulseEnd s = .next s) ∧
  (∀ (o : Output) (s : State), (forceEntry o s).isSome = true →
    (removeForce o s).out.forces = s.out.forces.filter (fun e => decide (e.output ≠ o)) ∧
      forceEntry o (removeForce o s) = none ∧
      ((outputLoad o).isSome = true → (removeForce o s).share =
        { s.share with
          claim := none, allocation := s.share.allocation.map (fun a => { a with placed := none }) }) ∧
      ((outputLoad o).isSome = false → (removeForce o s).share = s.share) ∧
      (removeForce o s).out.heaterRelay.askClosed = (s.climate.relayAsk || forcedCavity (removeForce o s)) ∧
      (removeForce o s).water = s.water ∧ (removeForce o s).climate = s.climate ∧
      (isVentDrive o = true →
        let target := s.out.vent.target
        (endReached target s = true → (removeForce o s).out.vent.state =
          (match target with | .opened => VentState.opened | .closed => VentState.closed)) ∧
        (endReached target s = false → (removeForce o s).out.vent =
          { state := (match target with | .opened => VentState.opening | .closed => VentState.closing)
            target := target, travel := 0 }))) ∧
  (∀ (p : PulseRecord) (s : State), s.out.pulse = some p →
    (endPulse s).out.pulse = none ∧
      (p.outputs.any isVentDrive = false → endPulse s = { s with out := { s.out with pulse := none } }) ∧
      (p.outputs.any isVentDrive = true →
        let target := s.out.vent.target
        endPulse s =
          { s with
            out := { s.out with pulse := none, vent := (endPulse s).out.vent }
            events := (endPulse s).events } ∧
        (endReached target s = true →
          (endPulse s).out.vent =
              { s.out.vent with state := (match target with | .opened => VentState.opened | .closed => .closed) } ∧
            hasFault .ventStuck (endPulse s) = false) ∧
        (endReached target s = false →
          (endPulse s).events = s.events ∧
            (endPulse s).out.vent =
              { state := (match target with | .opened => VentState.opening | .closed => .closing)
                target := target, travel := 0 }))) ∧
  (∀ (e : VentEnd) (x : ForceEntry) (s : State), forceEntry (ventDrive e) s = some x →
    (motorToward e s = true ↔ x.level = true ∧ endReached e s = false ∧ x.ended = false)) ∧
  (∀ (e : VentEnd) (p : PulseRecord) (s : State), forceEntry (ventDrive e) s = none → s.out.pulse = some p →
    ventDrive e ∈ p.outputs → (motorToward e s = true ↔ endReached e s = false ∧ p.ended = false)) ∧
  (∀ (e : VentEnd) (b s : State),
    (∀ x : ForceEntry, forceEntry (ventDrive e) s = some x →
      forceEntry (ventDrive e) (reachEnd e b s) = some { x with ended := true }) ∧
    (∀ p : PulseRecord, s.out.pulse = some p →
      (reachEnd e b s).out.pulse = some (if ventDrive e ∈ p.outputs then { p with ended := true } else p))) ∧
  ∀ s : State,
    let t := settle s
    (t.out.forces ≠ [] ∨ t.out.pulse ≠ none) →
      t.ret.run.state = .idle ∧ t.ret.descale.phase = .idle ∧ t.climate.state = .off ∧ t.prot.serviceUnlock = true

/-- FORCE_OUTPUT (R79): the cases in the order of the rule's table, and the entry of a taken one with its reply.
DEDUCED (notes/assumptions/22.md): RELEASE of an unknown output number is answered OK, the reply gives whole remaining
seconds, truncated, and an entry that is replaced keeps its mark. The model's choice (notes/assumptions/22.md and
32.md): the reply lists the entries in the order of their making, an entry that is replaced keeps its place there, and
a replaced entry of a vent drive takes its end switch's reading anew, so that the drive runs again where the switch
does not read reached. -/
def Obligations.ForceOutputIsDecidedInOrder : Prop :=
  ∀ (l : Link) (b v : Byte) (s : State), Reaches l 0x41 [b, v] s →
    let i := Instr.forceOutput l [b, v]
    let a := acceptFrame l s
    let limits := limitsOf s.start.straps s.settings
    (2 < v.toNat → Refuses i l 0x41 .badArgument s) ∧
    (∀ o : Output, outputOfNumber b.toNat = some o → v.toNat = 2 →
      let t := settle (removeForce o a)
      exec i s = .next (answer l 0x41 ⟨.ok, forceList t⟩ t)) ∧
    (outputOfNumber b.toNat = none → v.toNat = 2 →
      exec i s = .next (answer l 0x41 ⟨.ok, forceList (settle a)⟩ (settle a))) ∧
    (v.toNat < 2 → s.ret.run.state ≠ .idle → Refuses i l 0x41 .runActive s) ∧
    (v.toNat < 2 → s.ret.run.state = .idle → s.ret.descale.phase ≠ .idle → Refuses i l 0x41 .descaleActive s) ∧
    (v.toNat < 2 → s.ret.run.state = .idle → s.ret.descale.phase = .idle → s.climate.state ≠ .off →
      Refuses i l 0x41 .busy s) ∧
    (v.toNat < 2 → s.ret.run.state = .idle → s.ret.descale.phase = .idle → s.climate.state = .off →
      (outputOfNumber b.toNat = none → Refuses i l 0x41 .badArgument s) ∧
      ∀ o : Output, outputOfNumber b.toNat = some o →
        (∀ h : Load, outputLoad o = some h →
          (v.toNat = 0 → Refuses i l 0x41 .badArgument s) ∧
          (v.toNat = 1 → limits.headroom < limits.ratings.get h → Refuses i l 0x41 .badArgument s) ∧
          (v.toNat = 1 → limits.ratings.get h ≤ limits.headroom →
            (otherHeatForced o s = true ∨ (h.isCavity = true ∧ doorOpen s = true) → Refuses i l 0x41 .busy s) ∧
            (otherHeatForced o s = false → (h.isCavity = true → doorOpen s = false) →
              let t := settle
                { a with
                  out := { a.out with forces := placeForce o true false a.out.forces }
                  share := { a.share with claim := some h } }
              exec i s = .next (answer l 0x41 ⟨.ok, forceList t⟩ t)))) ∧
        (outputLoad o = none →
          (otherVentForced o s = true ∨ (outputIsWater o = true ∧ waterBusy s = true) ∨ inPulse o s = true →
            Refuses i l 0x41 .busy s) ∧
          (otherVentForced o s = false → (outputIsWater o = true → waterBusy s = false) → inPulse o s = false →
            let t := settle
              { a with
                out :=
                  { a.out with
                    forces :=
                      placeForce o (decide (v.toNat = 1))
                        ((decide (o = .ventOpenDrive) && s.inputs.ventOpenEnd.reading) ||
                          (decide (o = .ventCloseDrive) && s.inputs.ventClosedEnd.reading)) a.out.forces } }
            exec i s = .next (answer l 0x41 ⟨.ok, forceList t⟩ t)))) ∧
    (∀ (o : Output) (level ended : Bool) (es : List ForceEntry), (∀ e ∈ es, e.output ≠ o) →
      placeForce o level ended es =
        es ++ [{ output := o, level := level, age := 0, phase := .placing, ended := ended }]) ∧
    (∀ (o : Output) (level ended : Bool) (es : List ForceEntry), (es.map ForceEntry.output).Nodup →
      o ∈ es.map ForceEntry.output →
        placeForce o level ended es =
          es.map (fun e => if e.output = o then { e with level := level, age := 0, ended := ended } else e)) ∧
    ∀ t : State, forceList t =
      bytes1 t.out.forces.length ++ t.out.forces.flatMap (fun e =>
        bytes1 (outputNumber e.output) ++ flagByte e.level ++ bytes1 ((30000000 - e.age) / 1000000))

/-- PULSE_OUTPUT (R82): the cases in order, and the pulse record of a taken one with its reply. That a pulsed vent
drive whose end switch already reads reached stays stopped for the whole pulse is DEDUCED (notes/assumptions/32.md).
-/
def Obligations.PulseOutputIsDecidedInOrder : Prop :=
  ∀ (l : Link) (m1 m0 t1 t0 : Byte) (s : State), Reaches l 0x42 [m1, m0, t1, t0] s →
    let i := Instr.pulseOutput l [m1, m0, t1, t0]
    let a := acceptFrame l s
    let os := outputsOfMask (number2 m1 m0)
    let ms := number2 t1 t0
    let time := max 10 (min ms 5000)
    (s.ret.run.state ≠ .idle → Refuses i l 0x42 .runActive s) ∧
    (s.ret.run.state = .idle → s.ret.descale.phase ≠ .idle → Refuses i l 0x42 .descaleActive s) ∧
    (s.ret.run.state = .idle → s.ret.descale.phase = .idle → s.climate.state ≠ .off → Refuses i l 0x42 .busy s) ∧
    (s.ret.run.state = .idle → s.ret.descale.phase = .idle → s.climate.state = .off →
      (os = [] ∨ (∃ o ∈ os, (outputLoad o).isSome = true) ∨
        (Output.ventOpenDrive ∈ os ∧ Output.ventCloseDrive ∈ os) → Refuses i l 0x42 .badArgument s) ∧
      (badSet os = false → s.out.pulse.isSome = true ∨ (∃ o ∈ os, (forceEntry o s).isSome = true) ∨
        ((∃ o ∈ os, outputIsWater o = true) ∧ waterBusy s = true) → Refuses i l 0x42 .busy s) ∧
      (badSet os = false → pulseBusy os s = false →
        exec i s =
          .next
            (answer l 0x42 ⟨if time = ms then .ok else .clamped, bytes2 time⟩
              (settle
                { a with
                  out :=
                    { a.out with
                      pulse :=
                        some
                          { outputs := os, remaining := time * 1000
                            ended :=
                              (decide (Output.ventOpenDrive ∈ os) && s.inputs.ventOpenEnd.reading) ||
                                (decide (Output.ventCloseDrive ∈ os) && s.inputs.ventClosedEnd.reading) } } }))))

/-! ## The water unit (R83 to R106) -/

/-- FLOW_PULSE (R18, R87): an edge within 2 ms of the accepted one before it is ignored; an accepted pulse is counted
to the dose that holds the path, and to no dose while the path is FREE or SETTLING. A priming dose that ends lets the
channels that wait for its source request the path again (R94). The first pulse of a draw sets the agent marker and
asks for a commit (R119, R124). The end of a portion and the terminal count are charging points (R96). At its terminal
count the boiler controller's fill leaves the boiler HEATING with BOILER_HIGH covered and otherwise raises LEVEL_SENSE
and leaves it in DRY_FAULT (R100), and a rinse's flush brings the step FILL, whose 500 ml are requested on CH0 as soon
as that channel is free, or the DRY stall (R122). DEDUCED (notes/assumptions/36.md): the fill is requested with its
full base also where BOILER_HIGH already reads covered, since R101 stops it when the electrode becomes covered. The
model's choice (notes/assumptions/64.md): the channel of a fill that has raised LEVEL_SENSE stays DONE, as the entry
of DRY_FAULT cancels a dose that still holds CH0 and no other. The count of accepted pulses, without a width, is the
model's choice too (notes/assumptions/50.md). That the portion left of a reloaded dose is 0 until its next grant is
the model's choice (notes/assumptions/68.md). -/
def Obligations.FlowPulsesCount : Prop :=
  ∀ s : State,
    let m := { s.meas with pulseSeen := true, pulseAge := 0, pulseCount := s.meas.pulseCount + 1 }
    (s.meas.pulseSeen = true → s.meas.pulseAge < 2000 → exec .flowPulse s = .next s) ∧
    (s.meas.pulseSeen = false ∨ 2000 ≤ s.meas.pulseAge →
      (s.water.path = .free ∨ s.water.path = .settling → exec .flowPulse s = .next { s with meas := m }) ∧
      ∀ (c : Chan) (d : Dose), c ≠ .ch3 → s.water.path = .granted c → (chan s c).dose = some d →
        (1 < d.remaining → d.mode ≠ .single ∨ 1 < d.portionLeft →
          let marks := c = .ch0 ∧ d.requester = .descale ∧ s.ret.descale.phase = .draw ∧ s.marker = false
          let d' := { d with
            remaining := d.remaining - 1, delivered := d.delivered + 1
            portionLeft := if d.mode = .single then d.portionLeft - 1 else d.portionLeft }
          exec .flowPulse s =
            .next
              (settle
                { s with
                  meas := m
                  water :=
                    { s.water with
                      noFlowTimer := 0, chans := s.water.chans.set c { chan s c with dose := some d' } }
                  marker := if marks then true else s.marker
                  store := { s.store with asked := if marks then true else s.store.asked } })) ∧
        (1 < d.remaining → d.mode = .single → d.portionLeft = 1 →
          ∃ u, exec .flowPulse s = .next (settle u) ∧ Steady { s with meas := m } u ∧
            u.water.path = .settling ∧ u.water.settleTimer = 0 ∧ chan u c =
              ⟨.requesting,
                some
                  { d with
                    remaining := d.remaining - 1, delivered := d.delivered + 1, charged := d.delivered + 1
                    portionLeft := 0 }⟩ ∧
            HandsOn (d.delivered + 1 - d.charged) d s u) ∧
        (d.remaining = 1 →
          ∃ u, exec .flowPulse s = .next (settle u) ∧ Steady { s with meas := m } u ∧
            u.water.path = .settling ∧ hasFault .noFlow u = false ∧
            (d.reload = false → ∃ x, (chan u c).dose = some x ∧ x.charged = d.delivered + 1) ∧
            (PathSound s → d.requester = .program ∨ d.requester = .prime ∨ (d.requester = .boilerControl ∧
                (d.mode ≠ .demand ∨ highCovered s = true ∨ s.start.ready = false ∨
                  (s.ret.descale.phase ≠ .draw ∧ s.ret.descale.phase ≠ .soak))) →
              HandsOn (d.delivered + 1 - d.charged) d s u) ∧
            (d.requester = .boilerControl → d.mode = .demand →
              (highCovered s = true → u.boiler.state = .heating ∧
                ∀ f : FaultKind, f ≠ .noFlow → (f ∈ u.events.faults ↔ f ∈ s.events.faults)) ∧
              (highCovered s = false → u.boiler.state = .dryFault ∧ hasFault .levelSense u = true)) ∧
            (d.requester = .descale → d.reload = false → c ≠ .ch0 → s.ret.descale.step = some .flush →
              (chan u c).state = .done ∧ u.ret.descale.phase = s.ret.descale.phase ∧
                u.ret.descale.step = some .fill ∧
                ((chan s .ch0).state ≠ .running → HandsOn (d.delivered + 1 - d.charged) d s u) ∧
                (s.boiler.state = .dryFault → u.ret.descale.stall = .dry ∧ u.work.dose = none ∧
                  u.boiler.state = .dryFault) ∧
                (s.boiler.state ≠ .dryFault → holdsDose s .ch0 = false →
                  let n := (500 * s.settings.flowConstant + 500) / 1000
                  u.work.dose = none ∧ u.boiler.state = .filling ∧
                    chan u .ch0 =
                      ⟨if sourceLow .tank s then .suspended else .requesting,
                        some
                          { mode := .block, destination := .boiler, source := some .tank, base := n, remaining := n
                            delivered := 0, charged := 0, reload := false, requester := .descale, portion := 0
                            portionLeft := 0 }⟩) ∧
                (s.boiler.state ≠ .dryFault → holdsDose s .ch0 = true → modeIs .single (chan s .ch0) = false →
                  u.work.dose = some (.ch0, .millilitres 500) ∧ chan u .ch0 = chan s .ch0)) ∧
            (d.requester = .program ∨ d.requester = .boilerControl →
              (d.reload = false → (chan u c).state = .done) ∧
              (d.reload = true →
                chan u c =
                  ⟨.requesting,
                    some
                      { d with
                        remaining := d.base, delivered := 0, charged := 0, portionLeft := 0 }⟩)) ∧
            (∀ src : Source, d.requester = .prime → d.source = some src → d.reload = false →
              (chan u c).state = .done ∧
                ∀ c' : Chan, c' ≠ .ch3 → c' ≠ c → sourceIs src (chan s c') = true →
                  (chan s c').state = .suspended → (chan u c').state = .requesting)))

/-- SETTLE_END (R85) and NO_FLOW (R92, R100 to R102, R125), which is a charging point of the dose (R96). That a boiler
in DRY_FAULT stays there over the fault of a descale dose is DEDUCED (notes/assumptions/38.md). A row that is not due
changes nothing (the model's choice, notes/assumptions/7.md). -/
def Obligations.SettleEndAndNoFlow : Prop :=
  (∀ s : State, s.water.path = .settling → 500000 ≤ s.water.settleTimer →
    exec .settleEnd s = .next (arbitrate { s with water := { s.water with path := .free } })) ∧
  (∀ s : State, s.water.path ≠ .settling ∨ s.water.settleTimer < 500000 → exec .settleEnd s = .next s) ∧
  (∀ s : State, noFlowDue s = true ↔ (∃ c : Chan, s.water.path = .granted c) ∧ 4000000 ≤ s.water.noFlowTimer) ∧
  (∀ s : State, noFlowDue s = false → exec .noFlow s = .next s) ∧
  ∀ (s : State) (c : Chan) (d : Dose), s.water.path = .granted c → (chan s c).dose = some d →
    4000000 ≤ s.water.noFlowTimer →
      ∃ u, exec .noFlow s = .next (settle u) ∧ Steady s u ∧ hasFault .noFlow u = true ∧ u.water.path = .settling ∧
        u.water.settleTimer = 0 ∧ chan u c = ⟨.fault, some { d with charged := d.delivered }⟩ ∧
        (PathSound s → HandsOn (d.delivered - d.charged) d s u) ∧
        (d.requester = .boilerControl → d.mode = .demand → u.boiler.fillHeld = true ∧
          u.boiler.state = (if lowCovered s then .heating else .empty)) ∧
        (d.requester = .boilerControl → d.mode ≠ .demand → u.boiler.topUpHeld = true) ∧
        (d.requester = .descale → u.ret.descale.stall = .flow ∧ u.ret.descale.phase = s.ret.descale.phase ∧
          u.work.faulted = d.remaining ∧
          (c = .ch0 → u.boiler.state =
            (if s.boiler.state = .dryFault then .dryFault else if lowCovered s then .heating else .empty)) ∧
          (c ≠ .ch0 → u.boiler.state = s.boiler.state))

/-- DRAIN_TERMINAL_COUNT (R91, R98, R106, R117, R121, R125): a drain that ends with BOILER_LOW covered raises
LEVEL_SENSE and leaves the boiler HEATING with drain-pending clear, and one of PREPARE, of DRAIN_AGENT or of a rinse's
step DRAIN stalls with cause LEVEL; one that ends with it uncovered leaves the boiler EMPTY with drain-pending clear,
and the phase goes on: from RINSE_1 to the flush of 150 ml of RINSE_2 on CH2 (R122), from RINSE_2 to IDLE with
DESCALE_ENDED, the result and the figures of an aborted draw cleared (R123). A boiler in DRY_FAULT stays there (R121);
that its drain-pending mark is left as it stands when BOILER_LOW reads covered is the model's choice
(notes/assumptions/63.md). A row that is not due changes nothing (the model's choice, notes/assumptions/7.md). -/
def Obligations.DrainsEnd : Prop :=
  (∀ s : State, drainCountDue s = true ↔
    (chan s .ch3).state = .running ∧ ∃ d, (chan s .ch3).dose = some d ∧ d.remaining = 0) ∧
  (∀ s : State, drainCountDue s = false → exec .drainTerminalCount s = .next s) ∧
  ∀ (s : State) (d : Dose), (chan s .ch3).state = .running → (chan s .ch3).dose = some d → d.remaining = 0 →
    d.effective = .out →
    let phase := s.ret.descale.phase
    let stalls := phase = .prepare ∨ (d.requester = .descale ∧
      (phase = .drainAgent ∨ ((phase = .rinse1 ∨ phase = .rinse2) ∧ s.ret.descale.step = some .drain)))
    ∃ u, exec .drainTerminalCount s = .next (settle u) ∧ Steady s u ∧ (chan u .ch3).state = .done ∧
      hasFault .noFlow u = false ∧
      (lowCovered s = true →
        hasFault .levelSense u = true ∧
          u.boiler.state = (if s.boiler.state = .dryFault then .dryFault else .heating) ∧
          (s.boiler.state ≠ .dryFault → u.boiler.drainPending = false) ∧
          (s.boiler.state = .dryFault → u.boiler.drainPending = s.boiler.drainPending) ∧
          u.ret.descale = { s.ret.descale with stall := if stalls then .level else s.ret.descale.stall }) ∧
      (lowCovered s = false →
        u.boiler.state = (if s.boiler.state = .dryFault then .dryFault else .empty) ∧
          (s.boiler.state ≠ .dryFault → s.boiler.state ≠ .empty → u.boiler.drainPending = false) ∧
          (d.requester = .descale → s.ret.descale.phase = .prepare → u.ret.descale.phase = .awaitAgent) ∧
          (d.requester = .descale → s.ret.descale.phase = .drainAgent → u.ret.descale.phase = .awaitRinse) ∧
          (d.requester = .descale → s.ret.descale.phase = .rinse1 → s.ret.descale.step = some .drain →
            let n := (150 * s.settings.flowConstant + 500) / 1000
            u.ret.descale = { s.ret.descale with phase := .rinse2, step := some .flush } ∧
              (holdsDose s .ch2 = true →
                u.work.dose = some (.ch2, .millilitres 150) ∧ chan u .ch2 = chan s .ch2) ∧
              (holdsDose s .ch2 = false → u.work.dose = none ∧
                chan u .ch2 =
                  ⟨if sourceLow .tank s then .suspended else .requesting,
                    some
                      { mode := .flush, destination := .drainLine, source := some .tank, base := n, remaining := n
                        delivered := 0, charged := 0, reload := false, requester := .descale, portion := 0
                        portionLeft := 0 }⟩)) ∧
          (d.requester = .descale → s.ret.descale.phase = .rinse2 → s.ret.descale.step = some .drain →
            u.marker = false ∧ u.store.asked = true ∧ RaisedTo .descaleEnded none s u ∧
              u.ret.descale =
                { s.ret.descale with
                  phase := .idle, step := none, elapsed := 0, total := 0, aborted := false
                  result := if s.ret.descale.aborted then .aborted else .completed } ∧
              (holdsDose s .ch0 = false → s.ret.descale.aborted = false → u.scale.deposit = 0 ∧ u.scale.carry = 0) ∧
              (holdsDose s .ch0 = false → s.ret.descale.aborted = true → u.scale.deposit = s.scale.deposit)))

/-- BOILER_FILL, TOP_UP, BOILER_DRAIN_START and DESCALE_DRAIN_LOAD (R86, R98 to R100, R102, R106, R121): when the
boiler is needed, when each of the four is due, and the doses they load, in pulses from millilitres by K, or 45 s for
a drain. A held fill or top-up is released when NO_FLOW leaves the fault set, which a terminal count brings, CH3's
included (R91, R100, R102), and when the boiler, not needed before, is needed again; need is considered at the end of
each step (R99; the model's choice, notes/assumptions/8.md). HEAT_UP_COUNT_EXPIRY (R104, R105): a boiler that has
taken 480 × C granted cycles without boiling is dry. That the boiler is DRAINING from the load of a drain on, also
while CH3 waits for a service hold to end, is DEDUCED (notes/assumptions/37.md). That the portion left of a top-up is
0 until its first grant is the model's choice (notes/assumptions/68.md). A row that is not due changes nothing (the
model's choice, notes/assumptions/7.md). -/
def Obligations.BoilerWork : Prop :=
  (∀ s : State,
     let phase := s.ret.descale.phase
     let free := fun c : Chan => (chan s c).state = .idle ∨ (chan s c).state = .done ∨ (chan s c).state = .fault
     let boils := s.boiler.state = .heating ∨ s.boiler.state = .ready
     let drains := s.start.straps.supply = .tank → s.inputs.tankPresent.reading = true
     (boilerNeeded s = true ↔
       ((∃ r, s.climate.record = some r ∧ (r.mode = .steam ∨ r.mode = .combi ∨ r.mode = .proof)) ∧
         (s.climate.state = .preheat ∨ s.climate.state = .hold) ∧ s.ret.run.causes.door = false ∧
         s.ret.run.causes.water = false) ∨
       phase = .draw ∨ phase = .soak ∨ ((phase = .rinse1 ∨ phase = .rinse2) ∧ s.ret.descale.step = some .fill)) ∧
     (boilerFillDue s = true ↔
       s.start.ready = true ∧ s.boiler.state = .empty ∧ boilerNeeded s = true ∧ phase = .idle ∧
         FaultKind.levelSense ∉ s.events.faults ∧ s.boiler.fillHeld = false ∧ free .ch0) ∧
     (topUpDue s = true ↔
       s.start.ready = true ∧ boils ∧ s.inputs.boilerHigh.reading = false ∧ phase = .idle ∧
         s.boiler.drainPending = false ∧ s.boiler.topUpHeld = false ∧ free .ch0) ∧
     (boilerDrainDue s = true ↔
       s.start.ready = true ∧ s.boiler.drainPending = true ∧ boils ∧ boilerNeeded s = false ∧ s.meas.boiler < 800 ∧
         FaultKind.sensorBoiler ∉ s.events.faults ∧ drains ∧ free .ch3) ∧
     (descaleDrainDue s = true ↔ s.start.ready = true ∧ s.work.drain = true ∧ free .ch3 ∧ drains)) ∧
  (∀ s : State, heatUpDue s = true ↔
    s.boiler.state = .heating ∧ s.ret.descale.phase = .idle ∧ s.meas.frequency ≠ .undecided ∧
      480 * cycles s ≤ s.boiler.heatUp) ∧
  (∀ s : State,
     let source := if tankOven s then Source.tank else .inlet
     let pulses := fun ml : Nat => (ml * s.settings.flowConstant + 500) / 1000
     let drain := fun r : Requester =>
       ({ mode := .block, destination := .out, source := none, base := 45, remaining := 45, delivered := 0
          charged := 0, reload := false, requester := r, portion := 0, portionLeft := 0 } : Dose)
     (boilerFillDue s = true →
       ∃ u, exec .boilerFill s = .next (settle u) ∧
         u = { s with water := u.water, boiler := u.boiler, share := u.share } ∧
         u.boiler.state = (if highCovered s then .heating else .filling) ∧
         chan u .ch0 =
           ⟨if highCovered s then .done else if sourceLow source s then .suspended else .requesting,
             some
               { mode := .demand, destination := .boiler, source := some source, base := pulses s.settings.fillVolume
                 remaining := pulses s.settings.fillVolume, delivered := 0, charged := 0, reload := false
                 requester := .boilerControl, portion := 0, portionLeft := 0 }⟩) ∧
     (topUpDue s = true →
       ∃ u, exec .topUp s = .next (settle u) ∧ u = { s with water := u.water } ∧ u.water.path = s.water.path ∧
         chan u .ch0 =
           ⟨if sourceLow source s then .suspended else .requesting,
             some
               { mode := .single, destination := .boiler, source := some source, base := pulses s.settings.fillVolume
                 remaining := pulses s.settings.fillVolume, delivered := 0, charged := 0, reload := true
                 requester := .boilerControl, portion := pulses 25, portionLeft := 0 }⟩) ∧
     (boilerDrainDue s = true →
       ∃ u, exec .boilerDrainStart s = .next (settle u) ∧ Steady s u ∧ u.boiler.state = .draining ∧
         u.boiler.drainPending = false ∧
         chan u .ch3 = ⟨if serviceHold s then .requesting else .running, some (drain .boilerControl)⟩) ∧
     (descaleDrainDue s = true →
       ∃ u, exec .descaleDrainLoad s = .next (settle u) ∧ Steady s u ∧ u.work.drain = false ∧
         u.boiler.drainPending = false ∧
         u.boiler.state = (if s.boiler.state = .dryFault then .dryFault else .draining) ∧
         chan u .ch3 = ⟨if serviceHold s then .requesting else .running, some (drain .descale)⟩) ∧
     (boilerFillDue s = false → exec .boilerFill s = .next s) ∧ (topUpDue s = false → exec .topUp s = .next s) ∧
     (boilerDrainDue s = false → exec .boilerDrainStart s = .next s) ∧
     (descaleDrainDue s = false → exec .descaleDrainLoad s = .next s)) ∧
  ∀ s : State,
    (heatUpDue s = false → exec .heatUpCountExpiry s = .next s) ∧
    (s.boiler.state = .heating → s.ret.descale.phase = .idle → s.meas.frequency ≠ .undecided →
      480 * cycles s ≤ s.boiler.heatUp →
        ∃ u, exec .heatUpCountExpiry s = .next (settle u) ∧ Steady s u ∧ hasFault .boilerDry u = true ∧
          u.boiler.state = .dryFault ∧ (s.start.ready = true → u.share.demands.boiler = 0) ∧
          holdsFor u .ch0 .boilerControl = false ∧ u.ret.slots = s.ret.slots ∧ u.ret.descale = s.ret.descale) ∧
    (let t := settle s
     let again := boilerNeeded t = true ∧ s.boiler.wasNeeded = false
     t.boiler.wasNeeded = boilerNeeded t ∧
       (t.boiler.fillHeld = true ↔ s.boiler.fillHeld = true ∧ ¬again) ∧
       (t.boiler.topUpHeld = true ↔ s.boiler.topUpHeld = true ∧ ¬again)) ∧
    (∀ (c : Chan) (d : Dose), c ≠ .ch3 → s.water.path = .granted c → (chan s c).dose = some d → d.remaining = 1 →
      s.meas.pulseSeen = false ∨ 2000 ≤ s.meas.pulseAge →
        ∃ u, exec .flowPulse s = .next (settle u) ∧ hasFault .noFlow u = false ∧
          (hasFault .noFlow s = true → u.boiler.fillHeld = false ∧ u.boiler.topUpHeld = false) ∧
          (hasFault .noFlow s = false →
            u.boiler.fillHeld = s.boiler.fillHeld ∧ u.boiler.topUpHeld = s.boiler.topUpHeld)) ∧
    ∀ d : Dose, (chan s .ch3).state = .running → (chan s .ch3).dose = some d → d.remaining = 0 →
      ∃ u, exec .drainTerminalCount s = .next (settle u) ∧ hasFault .noFlow u = false ∧
        (hasFault .noFlow s = true → u.boiler.fillHeld = false ∧ u.boiler.topUpHeld = false) ∧
        (hasFault .noFlow s = false →
          u.boiler.fillHeld = s.boiler.fillHeld ∧ u.boiler.topUpHeld = s.boiler.topUpHeld)

/-! ## The climate regulator (R21 to R34) -/

/-- R21, R23, R26, R28, R38, R44: the record the regulator adopts, a stage entry, a DOOR pause and its end, and the
end of the climate, which a regulator in FAULT does not take, with the fan code and the vent request that each issues
(R76). That it changes nothing in OFF and in COOLDOWN either is the model's choice (notes/assumptions/62.md). -/
def Obligations.ClimateFollowsTheRun : Prop :=
  (∀ sent : SentRecord,
    let r := (completeRecord sent).1
    let row := modeRow sent.mode
    r.mode = sent.mode ∧ row.low ≤ r.setpoint ∧ r.setpoint ≤ row.high ∧
    (row.low ≤ sent.setpoint → sent.setpoint ≤ row.high → r.setpoint = sent.setpoint) ∧
    (row.moisture = none → r.moisture = none) ∧
    (∀ lo hi : Int, row.moisture = some (lo, hi) →
      (sent.moisture = none → r.moisture = some (Int.tdiv (lo + hi) 2)) ∧
      (∀ h : Int, sent.moisture = some h → r.moisture = some (max lo (min h hi)))) ∧
    r.fanCode = (match sent.fanCode with | none => row.fanCode | some f => min f 15) ∧
    r.policy = (match sent.policy with | none => row.policy | some p => p)) ∧
  (∀ (sent : SentRecord) (s : State), s.climate.state = .fault → stageEntry sent s = (s, none)) ∧
  (∀ (sent : SentRecord) (s : State), s.climate.state ≠ .fault →
    let t := (stageEntry sent s).1
    let r := (completeRecord sent).1
    t.climate.record = some r ∧ t.climate.tempReached = false ∧ t.climate.moistReached = false ∧
      t.climate.direction = (if s.meas.cavity ≤ r.setpoint then .up else .down) ∧
      t.climate.runaway = 0 ∧ t.climate.runawayArmed = false ∧ t.climate.reversal = 0 ∧
      t.climate.iacc = (match s.climate.record with
        | none => 0
        | some old => if old.mode = r.mode then s.climate.iacc else 0) ∧
      (s.climate.state = .paused → t.climate.state = .paused ∧ t.climate.returnState = some .preheat ∧
        t.climate.relayAsk = s.climate.relayAsk ∧ t.out = s.out) ∧
      (s.climate.state ≠ .paused → t.climate.state = .preheat ∧ t.climate.relayAsk = true ∧
        t.out.fan.code = r.fanCode ∧ ModeVentAsked r.mode s t)) ∧
  (∀ s : State, working s = true →
    let t := pauseClimate s
    t.climate.state = .paused ∧
      t.climate.returnState = some (if s.climate.state = .hold then WorkingState.hold else .preheat) ∧
      t.share.demands.top = 0 ∧ t.share.demands.bottom = 0 ∧ t.share.demands.ring = 0 ∧ t.share.demands.grill = 0 ∧
      t.boiler.steamRequest = 0 ∧ t.climate.relayAsk = false ∧ t.out.fan.code = 0 ∧ VentAsked .opened s t ∧
      t.out.vent.state.isFor .opened ∧ t.climate.iacc = s.climate.iacc) ∧
  (∀ (s : State) (w : WorkingState), s.climate.state = .paused → s.climate.returnState = some w →
    (unpauseClimate s).climate.state = w.state ∧ (unpauseClimate s).climate.returnState = none ∧
      (unpauseClimate s).climate.relayAsk = true ∧
      ∀ r : SetpointRecord, s.climate.record = some r →
        (unpauseClimate s).out.fan.code = r.fanCode ∧ ModeVentAsked r.mode s (unpauseClimate s)) ∧
  (∀ s : State, s.climate.state = .fault ∨ s.climate.state = .off ∨ s.climate.state = .cooldown → endClimate s = s) ∧
  ∀ s : State, working s = true ∨ s.climate.state = .paused →
    let t := endClimate s
    t.climate.state = (if 600 ≤ s.meas.cavity then .cooldown else .off) ∧ t.climate.record = none ∧
      (600 ≤ s.meas.cavity → VentAsked .opened s t) ∧ (s.meas.cavity < 600 → VentAsked .closed s t) ∧
      t.climate.iacc = 0 ∧ t.climate.relayAsk = false ∧ t.out.fan.code = 0 ∧ t.boiler.steamRequest = 0 ∧
      t.share.demands.top = 0 ∧ t.share.demands.bottom = 0 ∧ t.share.demands.ring = 0 ∧ t.share.demands.grill = 0

/-- R20, R30 to R40, R103: the table of the modes; the loop's output and accumulator, and the demand of a weighted
load; what the regulator does at a window start: the reached tests with their reports, the posts of the four cavity
loads where the loop runs and of zeros where it does not, the moisture loop's steam request and vent request, and the
boiler's demand that is posted with the steam request, the soak's holding among it; and what the sequencer makes of
the reports. Without a record the regulator posts zeros. DEDUCED: the change from PREHEAT to HOLD issues the mode's
vent request (notes/assumptions/18.md), the loop reads the shortfalls that stand at the window start
(notes/assumptions/14.md), and the regulator acts before the relay and the loads of the half-cycle, with its reports
taken last (notes/assumptions/15.md). -/
def Obligations.LoopAndDemand : Prop :=
  ([Mode.convection, .topBottom, .bottomCrisp, .grill, .grillFan, .steam, .combi, .proof].map modeRow =
    [⟨⟨0, 0, 100, 0⟩, 300, 2300, none, 10, 120, some .opened, 150, 240, .heatFirst⟩,
     ⟨⟨100, 80, 0, 0⟩, 500, 2300, none, 0, 0, some .opened, 200, 300, .heatFirst⟩,
     ⟨⟨0, 100, 40, 0⟩, 1000, 2300, none, 8, 120, some .opened, 200, 300, .heatFirst⟩,
     ⟨⟨0, 0, 0, 100⟩, 1500, 2300, none, 0, 0, some .opened, 300, 0, .heatFirst⟩,
     ⟨⟨0, 0, 0, 100⟩, 1500, 2300, none, 9, 120, some .opened, 250, 0, .heatFirst⟩,
     ⟨⟨0, 0, 0, 0⟩, 400, 1000, none, 6, 0, some .closed, 60, 120, .steamFirst⟩,
     ⟨⟨0, 0, 100, 0⟩, 1000, 2300, some (20, 90), 10, 120, none, 150, 240, .steamFirst⟩,
     ⟨⟨0, 100, 0, 0⟩, 300, 500, some (60, 95), 3, 0, none, 40, 180, .steamFirst⟩]) ∧
  (∀ (row : ModeRow) (e iacc : Int) (shortfall : PerCavity Nat),
    let raw := Int.tdiv (e * 1000) row.pb + Int.tdiv iacc 1000
    let out := temperatureLoop row e iacc shortfall
    let short := (0 < row.weights.top ∧ 0 < shortfall.top) ∨ (0 < row.weights.bottom ∧ 0 < shortfall.bottom) ∨
      (0 < row.weights.ring ∧ 0 < shortfall.ring) ∨ (0 < row.weights.grill ∧ 0 < shortfall.grill)
    out.1 = (max 0 (min raw 1000)).toNat ∧ out.1 ≤ 1000 ∧
    (row.ti ≤ 0 ∨ (1000 < raw ∧ 0 < e) ∨ (raw < 0 ∧ e < 0) ∨ (0 < e ∧ short) → out.2 = iacc) ∧
    (0 < row.ti → ¬(1000 < raw ∧ 0 < e) → ¬(raw < 0 ∧ e < 0) → ¬(0 < e ∧ short) →
      out.2 = max (-1000000) (min (iacc + Int.tdiv (e * 1000000) (row.pb * row.ti)) 1000000))) ∧
  (∀ u w c : Nat, loadDemand u w c = (u * w * c + 50000) / 100000 ∧
    (u ≤ 1000 → w ≤ 100 → loadDemand u w c ≤ c)) ∧
  (∀ s : State, s.climate.record = none →
    let t := (regulatorWindow s).1
    t.share.demands.top = 0 ∧ t.share.demands.bottom = 0 ∧ t.share.demands.ring = 0 ∧ t.share.demands.grill = 0 ∧
      t.boiler.steamRequest = 0) ∧
  (∀ (s : State) (r : SetpointRecord), s.climate.record = some r →
    let t := (regulatorWindow s).1
    let report := (regulatorWindow s).2
    let row := modeRow r.mode
    let target := r.moisture.getD 0
    let blind := hasFault .sensorCavity s = true
    let works := s.climate.state = .preheat ∨ s.climate.state = .hold
    let reaches := s.climate.state = .preheat ∧ ¬blind ∧
      (match s.climate.direction with
        | .up => r.setpoint - 50 ≤ s.meas.cavity
        | .down => s.meas.cavity ≤ r.setpoint + 50)
    let wets := works ∧ (r.mode = .combi ∨ r.mode = .proof) ∧ s.climate.moistReached = false ∧ ¬blind ∧
      hasFault .moistureSensor s = false ∧ target - 5 ≤ s.meas.moisture ∧ s.meas.moisture ≤ target + 5
    let ran := works ∧ ¬blind ∧
      (if r.mode = .steam then s.climate.steamWithheld = false else s.out.heaterRelay.state = .closed)
    let out := temperatureLoop row (r.setpoint - s.meas.cavity) s.climate.iacc s.climate.shortfall
    let swings := s.out.fan.phase = .braking ∨ s.out.fan.phase = .switching
    let opens := target - s.meas.moisture < -3 ∨ r.setpoint + 100 < s.meas.cavity
    (reaches → t.climate.state = .hold ∧ t.climate.tempReached = true ∧ t.climate.runaway = 0 ∧
      t.climate.runawayArmed = true ∧ (report.temp = true ↔ s.climate.tempReached = false)) ∧
    (¬reaches → t.climate.state = s.climate.state ∧ t.climate.tempReached = s.climate.tempReached ∧
      t.climate.runaway = s.climate.runaway ∧ t.climate.runawayArmed = s.climate.runawayArmed ∧ report.temp = false) ∧
    (∀ e : VentEnd, row.vent = some e →
      (reaches → s.out.vent.state.isFor e = false →
        t.out.vent =
          { state := if endReached e s then (match e with | .opened => VentState.opened | .closed => .closed)
              else (match e with | .opened => VentState.opening | .closed => .closing)
            target := e, travel := 0 }) ∧
      (¬reaches ∨ s.out.vent.state.isFor e = true → t.out.vent = s.out.vent)) ∧
    (wets → t.climate.moistReached = true ∧ report.moist = true) ∧
    (¬wets → t.climate.moistReached = s.climate.moistReached ∧ report.moist = false) ∧
    (ran → t.climate.iacc = out.2 ∧ t.share.demands.top = loadDemand out.1 row.weights.top (cycles s) ∧
      t.share.demands.bottom = loadDemand out.1 row.weights.bottom (cycles s) ∧
      (swings → t.share.demands.ring = 0 ∧ t.share.demands.grill = 0) ∧
      (¬swings → t.share.demands.ring = loadDemand out.1 row.weights.ring (cycles s) ∧
        t.share.demands.grill = loadDemand out.1 row.weights.grill (cycles s))) ∧
    (¬ran → t.climate.iacc = s.climate.iacc ∧ t.share.demands.top = 0 ∧ t.share.demands.bottom = 0 ∧
      t.share.demands.ring = 0 ∧ t.share.demands.grill = 0) ∧
    (r.mode = .steam → t.boiler.steamRequest = if ran then out.1 else 0) ∧
    (r.mode ≠ .steam → r.mode ≠ .combi → r.mode ≠ .proof → t.boiler.steamRequest = 0) ∧
    (r.mode = .combi ∨ r.mode = .proof →
      (¬works ∨ blind ∨ s.climate.steamWithheld = true → t.boiler.steamRequest = 0) ∧
      (works → ¬blind → s.climate.steamWithheld = false →
        (hasFault .moistureSensor s = true → (t.boiler.steamRequest : Int) = max 0 (target * 10)) ∧
        (hasFault .moistureSensor s = false →
          (t.boiler.steamRequest : Int) = max 0 (min ((target - s.meas.moisture) * 100) 1000))) ∧
      (¬works ∨ blind ∨ hasFault .moistureSensor s = true ∨ hasFault .ventStuck s = true → t.out.vent = s.out.vent) ∧
      (works → ¬blind → hasFault .moistureSensor s = false → hasFault .ventStuck s = false →
        (opens → t.out.vent.state.isFor .opened = true) ∧
        (¬opens → 0 < target - s.meas.moisture → t.out.vent.state.isFor .closed = true) ∧
        (¬opens → target - s.meas.moisture ≤ 0 → t.out.vent = s.out.vent)))) ∧
  (∀ s : State, s.start.ready = true →
    let t := (regulatorWindow s).1
    let d := t.share.demands.boiler
    let barred := lowCovered s = false ∨ hasFault .sensorBoiler s = true ∨ s.boiler.drainPending = true ∨
      (s.boiler.state ≠ .heating ∧ s.boiler.state ≠ .ready)
    (barred → d = 0) ∧
    (¬barred → s.ret.descale.phase = .idle →
      d = if s.boiler.state = .heating then cycles s else (t.boiler.steamRequest * cycles s + 500) / 1000) ∧
    (¬barred → s.ret.descale.phase ≠ .idle → s.boiler.soakTarget = false → d = 0) ∧
    (¬barred → s.ret.descale.phase ≠ .idle → s.boiler.soakTarget = true →
      d = if s.meas.boiler < 570 then cycles s else if 630 < s.meas.boiler then 0 else s.share.demands.boiler)) ∧
  (∀ (report : ReachedReport) (s : State),
    (runActive s = false → takeReports report s = s) ∧
    (runActive s = true → ∃ v, takeReports report s = checkStageEnd v ∧
      v.ret.run =
        { s.ret.run with
          tempReached := s.ret.run.tempReached || report.temp, moistReached := s.ret.run.moistReached || report.moist } ∧
      (report.temp = true → ∀ l : Link, (steeringOf s.events.steering .tempReached).get l = true →
        ∃ e ∈ v.events.queues.get l, e.kind = .tempReached ∧ e.reported = false ∧
          e.argument = some (BitVec.ofNat 8 s.ret.run.stageIndex)))) ∧
  ∀ s : State, s.meas.frequency ≠ .undecided → s.meas.edgeSeen = false ∨ 5000 ≤ s.meas.edgeAge →
    s.out.halfCycle = none ∨ (∃ h, s.out.halfCycle = some h ∧ 2 * cycles s ≤ h + 1) → s.share.allocation = none →
      ∃ v, exec .zeroCross s = .next (settle (takeReports (regulatorWindow s).2 v)) ∧
        v.climate = (regulatorWindow s).1.climate ∧ v.boiler = (regulatorWindow s).1.boiler ∧
        v.out.vent = (regulatorWindow s).1.out.vent ∧ v.share.demands = (regulatorWindow s).1.share.demands

/-! ## The descale controller (R113 to R127) -/

/-- SOAK_END, due when the soak elapsed reaches the soak total, and DESCALE_DOSE_LOAD, due when a dose waits for a
channel that is IDLE, DONE or FAULT (R119 to R122), and the end of a draw's or a rinse's fill, which its last pulse
brings: the soak or the step DRAIN with BOILER_LOW covered, and with it uncovered LEVEL_SENSE, DRY_FAULT and, in the
draw, the abort with credit. The boiler becomes FILLING at the load of a draw and HEATING at a fill's end, but a
boiler in DRY_FAULT stays there, and a draw that ends there uncovered is aborted all the same: DEDUCED
(notes/assumptions/38.md). DEDUCED as well: a dose on CH0 is loaded with its full base also where BOILER_HIGH already
reads covered (notes/assumptions/36.md), the abort is one with credit also while the marker is clear
(notes/assumptions/30.md), and the boiler is DRAINING from the load of a drain on (notes/assumptions/37.md). That a
rinse fill of a FLOW stall's remaining count, too, stalls DRY while the boiler is in DRY_FAULT is the model's choice
(notes/assumptions/61.md). A row that is not due changes nothing (the model's choice, notes/assumptions/7.md). -/
def Obligations.DescaleAdvances : Prop :=
  (∀ s : State, soakEndDue s = true ↔
    s.start.ready = true ∧ s.ret.descale.phase = .soak ∧ s.ret.descale.total ≤ s.ret.descale.elapsed) ∧
  (∀ s : State, descaleDoseDue s = true ↔
    s.start.ready = true ∧ ∃ (c : Chan) (a : DoseAmount), s.work.dose = some (c, a) ∧
      ((chan s c).state = .idle ∨ (chan s c).state = .done ∨ (chan s c).state = .fault ∨
        (c = .ch0 ∧ s.ret.descale.step = some .fill ∧ s.boiler.state = .dryFault))) ∧
  (∀ s : State, soakEndDue s = false → exec .soakEnd s = .next s) ∧
  (∀ s : State, s.start.ready = true → s.ret.descale.phase = .soak → s.ret.descale.total ≤ s.ret.descale.elapsed →
    ∃ u, exec .soakEnd s = .next (settle u) ∧ Steady s u ∧ u.ret.descale.phase = .drainAgent ∧
      u.boiler.soakTarget = false ∧
      (u.work.drain = true ∨ holdsDose u .ch3 = true)) ∧
  (∀ s : State, descaleDoseDue s = false → exec .descaleDoseLoad s = .next s) ∧
  (∀ (s : State) (c : Chan) (a : DoseAmount), s.start.ready = true → s.work.dose = some (c, a) →
    let n := match a with
      | .millilitres ml => (ml * s.settings.flowConstant + 500) / 1000
      | .pulses p => p
    (c = .ch0 → s.ret.descale.step = some .fill → s.boiler.state = .dryFault →
      ∃ u, exec .descaleDoseLoad s = .next (settle u) ∧ Steady s u ∧ u.ret.descale.stall = .dry ∧ u.work.dose = none) ∧
    (holdsDose s c = false → c = .ch0 → ¬(s.ret.descale.step = some .fill ∧ s.boiler.state = .dryFault) →
      ∃ u, exec .descaleDoseLoad s = .next (settle u) ∧ Steady s u ∧ u.work.dose = none ∧
        u.boiler.state = (if s.boiler.state = .dryFault then .dryFault else .filling) ∧
        chan u .ch0 =
          ⟨if sourceLow .tank s then .suspended else .requesting,
            some
              { mode := .block, destination := .boiler, source := some .tank, base := n, remaining := n
                delivered := 0, charged := 0, reload := false, requester := .descale, portion := 0
                portionLeft := 0 }⟩) ∧
    (holdsDose s c = false → c ≠ .ch0 →
      ∃ u, exec .descaleDoseLoad s = .next (settle u) ∧ Steady s u ∧ u.work.dose = none ∧
        chan u c =
          ⟨if sourceLow .tank s then .suspended else .requesting,
            some
              { mode := .flush, destination := .drainLine, source := some .tank, base := n, remaining := n
                delivered := 0, charged := 0, reload := false, requester := .descale, portion := 0
                portionLeft := 0 }⟩)) ∧
  (∀ (s : State) (d : Dose), s.water.path = .granted .ch0 → (chan s .ch0).dose = some d → d.remaining = 1 →
    d.requester = .descale → d.reload = false → s.meas.pulseSeen = false ∨ 2000 ≤ s.meas.pulseAge →
      ∃ w, exec .flowPulse s = .next (settle (endNoFlow (descaleFillEnded w))) ∧ (chan w .ch0).state = .done ∧
        w.ret.descale = s.ret.descale ∧ w.boiler = s.boiler ∧ w.inputs = s.inputs ∧ w.work = s.work ∧
        w.events.faults = s.events.faults ∧ HandsOn (d.delivered + 1 - d.charged) d s w) ∧
  ∀ s : State,
    let u := descaleFillEnded s
    let rinses := (s.ret.descale.phase = .rinse1 ∨ s.ret.descale.phase = .rinse2) ∧ s.ret.descale.step = some .fill
    (lowCovered s = true → u.events.faults = s.events.faults ∧
      (s.boiler.state = .dryFault → u.boiler.state = .dryFault) ∧
      (s.boiler.state ≠ .dryFault → ¬rinses ∨ u.work.drain = true → u.boiler.state = .heating) ∧
      (s.boiler.state ≠ .dryFault → rinses → u.work.drain = false → u.boiler.state = .draining)) ∧
    (lowCovered s = false → u.boiler.state = .dryFault ∧ hasFault .levelSense u = true) ∧
    (s.ret.descale.phase = .draw → lowCovered s = true →
      u.ret.descale.phase = .soak ∧ u.ret.descale.elapsed = 0 ∧
        u.ret.descale.total = max 900 (min (900 + 2 * s.settings.hardness) 2100) ∧ u.boiler.soakTarget = true) ∧
    (s.ret.descale.phase = .draw → lowCovered s = false →
      u.ret.descale.phase = .drainAgent ∧ u.ret.descale.aborted = true ∧ u.ret.descale.stall = .none ∧
        u.boiler.soakTarget = false ∧ (u.work.drain = true ∨ holdsDose u .ch3 = true)) ∧
    (rinses →
      u.ret.descale.phase = s.ret.descale.phase ∧ u.ret.descale.step = some .drain ∧
        (u.work.drain = true ∨ holdsDose u .ch3 = true))

/-- DESCALE_START, DESCALE_CONFIRM and DESCALE_ABORT (R113, R116, R118, R121, R125, R126): the cases in order, and
what a taken one does: the confirm of AWAIT_AGENT requests the draw of 500 ml on CH0 (R119), that of AWAIT_RINSE the
flush of 150 ml on CH2 (R122), that of a FLOW stall the pulses that the faulted dose had left, and that of a DRY
stall, once the boiler has left DRY_FAULT, the fill anew; an abort with the marker clear raises DESCALE_ENDED. An
abort with the marker set, in DRAW or SOAK, cancels the draw that still holds CH0, with its delivered pulses charged
before the credit is worked out, withdraws the soak target and goes to DRAIN_AGENT, whose drain is loaded or awaited.
DEDUCED: the draw and the fill are loaded with their full base also where BOILER_HIGH already reads covered
(notes/assumptions/36.md), a boiler in DRY_FAULT stays there at the load of the draw and at its cancellation
(notes/assumptions/38.md), and the boiler is DRAINING from the load of the drain on (notes/assumptions/37.md). That
the confirm of a rinse fill's FLOW stall leads to a DRY stall while the boiler is in DRY_FAULT is the model's choice
(notes/assumptions/61.md). An abort with the marker clear in a phase after the draw, which no run reaches, is taken to
IDLE: DEDUCED (notes/assumptions/30.md). That such an abort leaves a channel in FAULT that a dose of the controller
has left there is the model's choice (notes/assumptions/64.md). -/
def Obligations.DescaleCommands : Prop :=
  (∀ (l : Link) (s : State), Reaches l 0x20 [] s →
    let i := Instr.descaleStart l []
    let barred := FaultKind.thermalCutout ∈ s.events.faults ∨ FaultKind.heatRunaway ∈ s.events.faults ∨
      FaultKind.fanStall ∈ s.events.faults ∨ FaultKind.boilerDry ∈ s.events.faults ∨
      FaultKind.levelSense ∈ s.events.faults ∨ FaultKind.sensorBoiler ∈ s.events.faults
    (s.ret.descale.phase ≠ .idle → Refuses i l 0x20 .descaleActive s) ∧
    (s.ret.descale.phase = .idle → s.ret.run.state ≠ .idle → Refuses i l 0x20 .runActive s) ∧
    (s.ret.descale.phase = .idle → s.ret.run.state = .idle → barred → Refuses i l 0x20 .faultActive s) ∧
    (s.ret.descale.phase = .idle → s.ret.run.state = .idle → ¬barred → 600 ≤ s.meas.cavity ∨ 600 ≤ s.meas.boiler →
      Refuses i l 0x20 .busy s) ∧
    (s.ret.descale.phase = .idle → s.ret.run.state = .idle → ¬barred → s.meas.cavity < 600 → s.meas.boiler < 600 →
      ∃ u, exec i s = .next (answer l 0x20 (Reply.bare .ok) (settle u)) ∧ Steady (acceptFrame l s) u ∧
        u.ret.descale =
          { phase := .prepare, step := none, stall := .none, elapsed := 0, total := 0, aborted := false
            result := .none })) ∧
  (∀ (l : Link) (p : Byte) (s : State), Reaches l 0x21 [p] s →
    let i := Instr.descaleConfirm l [p]
    let d := s.ret.descale
    (d.phase = .idle ∨ d.phase.number ≠ p.toNat → Refuses i l 0x21 .stale s) ∧
    (d.phase ≠ .idle → d.phase.number = p.toNat → tankPresent s = false → Refuses i l 0x21 .tankMissing s) ∧
    (d.phase ≠ .idle → d.phase.number = p.toNat → tankPresent s = true →
      (d.stall = .dry → s.boiler.state = .dryFault → Refuses i l 0x21 .faultActive s) ∧
      (d.stall = .level →
        ∃ u, exec i s = .next (answer l 0x21 (Reply.bare .ok) (settle u)) ∧ Steady (acceptFrame l s) u ∧
          u.ret.descale.stall = .none ∧
          u.ret.descale.phase = d.phase ∧ (u.work.drain = true ∨ holdsDose u .ch3 = true)) ∧
      (d.stall = .flow →
        let c := if d.step = some .flush then Chan.ch2 else .ch0
        ¬(c = .ch0 ∧ d.step = some .fill ∧ s.boiler.state = .dryFault) →
        ∃ u, exec i s = .next (answer l 0x21 (Reply.bare .ok) (settle u)) ∧ Steady (acceptFrame l s) u ∧
          u.ret.descale.stall = .none ∧ u.ret.descale.phase = d.phase ∧
          (holdsDose s c = true → u.work.dose = some (c, .pulses s.work.faulted) ∧ chan u c = chan s c) ∧
          (holdsDose s c = false → u.work.dose = none ∧
            chan u c =
              ⟨if sourceLow .tank s then .suspended else .requesting,
                some
                  { mode := if c = .ch2 then .flush else .block
                    destination := if c = .ch2 then .drainLine else .boiler, source := some .tank
                    base := s.work.faulted, remaining := s.work.faulted, delivered := 0, charged := 0
                    reload := false, requester := .descale, portion := 0, portionLeft := 0 }⟩)) ∧
      (d.stall = .flow → d.step = some .fill → s.boiler.state = .dryFault →
        ∃ u, exec i s = .next (answer l 0x21 (Reply.bare .ok) (settle u)) ∧ Steady (acceptFrame l s) u ∧
          u.ret.descale = { d with stall := .dry } ∧ u.work.dose = none ∧ u.water = s.water) ∧
      (d.stall = .dry → s.boiler.state ≠ .dryFault →
        let n := (500 * s.settings.flowConstant + 500) / 1000
        ∃ u, exec i s = .next (answer l 0x21 (Reply.bare .ok) (settle u)) ∧ Steady (acceptFrame l s) u ∧
          u.ret.descale.stall = .none ∧ u.ret.descale.phase = d.phase ∧
          (holdsDose s .ch0 = true → u.work.dose = some (.ch0, .millilitres 500) ∧ chan u .ch0 = chan s .ch0) ∧
          (holdsDose s .ch0 = false → u.work.dose = none ∧ u.boiler.state = .filling ∧
            chan u .ch0 =
              ⟨if sourceLow .tank s then .suspended else .requesting,
                some
                  { mode := .block, destination := .boiler, source := some .tank, base := n, remaining := n
                    delivered := 0, charged := 0, reload := false, requester := .descale, portion := 0
                    portionLeft := 0 }⟩)) ∧
      (d.stall = .none → d.phase = .awaitAgent →
        let n := (500 * s.settings.flowConstant + 500) / 1000
        let free := holdsDose s .ch0 = false ∨
          (holdsFor s .ch0 .boilerControl = true ∧ modeIs .single (chan s .ch0) = true)
        ∃ u, exec i s = .next (answer l 0x21 (Reply.bare .ok) (settle u)) ∧ Steady (acceptFrame l s) u ∧
          u.ret.descale = { d with phase := .draw, step := none } ∧
          (free → u.work.dose = none ∧
            u.boiler.state = (if s.boiler.state = .dryFault then .dryFault else .filling) ∧
            chan u .ch0 =
              ⟨if sourceLow .tank s then .suspended else .requesting,
                some
                  { mode := .block, destination := .boiler, source := some .tank, base := n, remaining := n
                    delivered := 0, charged := 0, reload := false, requester := .descale, portion := 0
                    portionLeft := 0 }⟩) ∧
          (¬free → u.work.dose = some (.ch0, .millilitres 500) ∧ chan u .ch0 = chan s .ch0)) ∧
      (d.stall = .none → d.phase = .awaitRinse →
        let n := (150 * s.settings.flowConstant + 500) / 1000
        ∃ u, exec i s = .next (answer l 0x21 (Reply.bare .ok) (settle u)) ∧ Steady (acceptFrame l s) u ∧
          u.ret.descale = { d with phase := .rinse1, step := some .flush } ∧
          (holdsDose s .ch2 = false → u.work.dose = none ∧
            chan u .ch2 =
              ⟨if sourceLow .tank s then .suspended else .requesting,
                some
                  { mode := .flush, destination := .drainLine, source := some .tank, base := n, remaining := n
                    delivered := 0, charged := 0, reload := false, requester := .descale, portion := 0
                    portionLeft := 0 }⟩) ∧
          (holdsDose s .ch2 = true →
            u.work.dose = some (.ch2, .millilitres 150) ∧ chan u .ch2 = chan s .ch2)) ∧
      (d.stall = .none → d.phase ≠ .awaitAgent → d.phase ≠ .awaitRinse → Refuses i l 0x21 .busy s))) ∧
  ∀ (l : Link) (s : State), Reaches l 0x22 [] s →
    let i := Instr.descaleAbort l []
    let d := s.ret.descale
    (d.phase = .idle → Refuses i l 0x22 .notRunning s) ∧
    (d.phase ≠ .idle → s.marker = false →
      ∃ u, exec i s = .next (answer l 0x22 (Reply.bare .ok) (settle u)) ∧ Steady (acceptFrame l s) u ∧
        RaisedTo .descaleEnded none s u ∧
        u.ret.descale = { d with phase := .idle, step := none, stall := .none, result := .aborted } ∧
        u.boiler.soakTarget = false ∧
        u.work.dose = none ∧ u.work.drain = false ∧
        (∀ c : Chan, c = .ch0 ∨ c = .ch2 → holdsFor u c .descale = false ∧
          (requesterIs .descale (chan s c) = true → (chan s c).state = .fault → chan u c = chan s c)) ∧
        (lowCovered s = true → u.boiler.drainPending = true)) ∧
    (d.phase = .draw ∨ d.phase = .soak → s.marker = true →
      ∃ u, exec i s = .next (answer l 0x22 (Reply.bare .ok) (settle u)) ∧ Steady (acceptFrame l s) u ∧
        u.ret.descale = { d with phase := .drainAgent, step := none, stall := .none, aborted := true } ∧
        u.marker = true ∧ u.store.asked = true ∧ u.boiler.soakTarget = false ∧ u.work.dose = none ∧
        (let draws := holdsFor s .ch0 .descale = true
         let before := if draws ∧ s.boiler.state ≠ .dryFault then
             (if lowCovered s then BoilerState.heating else .empty)
           else s.boiler.state
         let drains := holdsDose s .ch3 = false ∧ (s.start.straps.supply = .tank → tankPresent s = true)
         (draws → chan u .ch0 = ⟨.idle, none⟩ ∧
           ((chan s .ch0).state = .running → s.water.path = .granted .ch0 →
             u.water.path = .settling ∧ u.water.settleTimer = 0)) ∧
         (∀ x : Dose, draws → (chan s .ch0).dose = some x → (chan s .ch0).state = .running → x.mode ≠ .flush →
           x.destination = .boiler →
             let account := (chargeAccount (x.delivered - x.charged) .boiler s).scale
             u.scale.deposit = account.deposit - account.deposit * d.elapsed / d.total ∧
               u.scale.carry = account.carry) ∧
         (holdsDose s .ch0 = false ∨ (draws ∧ (chan s .ch0).state ≠ .running) →
           u.scale.deposit = s.scale.deposit - s.scale.deposit * d.elapsed / d.total ∧
             u.scale.carry = s.scale.carry) ∧
         u.scale.level = levelOf u.scale.deposit s.settings.scaleLimit ∧
         (drains → u.work.drain = false ∧ u.boiler.drainPending = false ∧
           u.boiler.state = (if s.boiler.state = .dryFault then .dryFault else .draining) ∧
           chan u .ch3 =
             ⟨if serviceHold s then .requesting else .running,
               some
                 { mode := .block, destination := .out, source := none, base := 45, remaining := 45, delivered := 0
                   charged := 0, reload := false, requester := .descale, portion := 0, portionLeft := 0 }⟩) ∧
         (¬drains → u.work.drain = true ∧ u.boiler.state = before ∧ chan u .ch3 = chan s .ch3))) ∧
    (d.phase ≠ .idle → d.phase ≠ .draw → d.phase ≠ .soak → s.marker = true → Refuses i l 0x22 .agentPresent s)

/-! ## The program sequencer (R131 to R160) -/

/-- SEQUENCER_TICK (R139, R140, R145, R146, R148): what one second counts during a run. That a retained run counts
nothing during STARTING is DEDUCED (notes/assumptions/43.md). A row that is not due changes nothing (the model's
choice, notes/assumptions/7.md). -/
def Obligations.SequencerTicks : Prop :=
  ∀ s : State,
    let s' := { s with seq := { s.seq with tickClock := s.seq.tickClock - 1000000 } }
    let r := s.ret.run
    let c := r.causes
    let counts := c = Causes.none ∧ ((currentStage s).timerStart ≠ some .afterReached ∨ r.tempReached = true)
    (s.seq.tickClock < 1000000 → exec .sequencerTick s = .next s) ∧
    (1000000 ≤ s.seq.tickClock → runActive s = false → exec .sequencerTick s = .next s') ∧
    (1000000 ≤ s.seq.tickClock → runActive s = true →
      exec .sequencerTick s =
        .next
          { s' with
            ret :=
              { s.ret with
                run :=
                  { r with
                    elapsed := if counts then r.elapsed + 1 else r.elapsed
                    runTime := if c.mains then r.runTime else r.runTime + 1
                    doorTimer := if c.door then r.doorTimer + 1 else r.doorTimer
                    waterTimer := if c.water && s.meas.mainsPresent then r.waterTimer + 1 else r.waterTimer } } })

/-- R138, R142, R154: STAGE_TIME_END, SKIP_STAGE and CONFIRM end the current stage; the stage of the next index is
entered, and after the last one the run ends COMPLETED. A CORE or REACHED end is met by the stage's flags, by R142's
table, and a check of it ends the stage of an active run exactly then. The end of a stage charges what its burst has
delivered (R96); the entry of one writes its record to the regulator, raises STAGE_STARTED with its index and, where
its end is CONFIRM, CONFIRM_AWAITED, considers PROBE (R147) and WATER (R146) for the new stage, leaves DOOR and MAINS
as they stand but for a START, which adds them, and requests the stage's burst or leaves it waiting for the door
(R143). A stage that is at its end as soon as it is entered ends after the steps of its entry, and the one after it is
entered in the same step (DEDUCED, notes/assumptions/31.md). A row that is not due changes nothing (the model's
choice, notes/assumptions/7.md). -/
def Obligations.StagesEnd : Prop :=
  (∀ s : State, stageTimeDue s = true ↔
    runActive s = true ∧ ∃ d, s.ret.run.duration = some d ∧ d ≤ s.ret.run.elapsed) ∧
  (∀ s : State, stageTimeDue s = false → exec .stageTimeEnd s = .next s) ∧
  (∀ (s : State) (d : Nat), runActive s = true → s.ret.run.duration = some d → d ≤ s.ret.run.elapsed →
    exec .stageTimeEnd s = .next (settle (endStage s))) ∧
  (∀ (l : Link) (r1 r0 b : Byte) (s : State), Reaches l 0x15 [r1, r0, b] s →
    let i := Instr.skipStage l [r1, r0, b]
    let named := number2 r1 r0 = s.ret.run.runId ∧ b.toNat = s.ret.run.stageIndex
    (runActive s = false → Refuses i l 0x15 .notRunning s) ∧
    (runActive s = true → ¬named → Refuses i l 0x15 .stale s) ∧
    (runActive s = true → named →
      exec i s = .next (answer l 0x15 (Reply.bare .ok) (settle (endStage (acceptFrame l s)))))) ∧
  (∀ (l : Link) (r1 r0 b : Byte) (s : State), Reaches l 0x16 [r1, r0, b] s →
    let i := Instr.confirm l [r1, r0, b]
    let named := number2 r1 r0 = s.ret.run.runId ∧ b.toNat = s.ret.run.stageIndex
    (runActive s = false → Refuses i l 0x16 .notRunning s) ∧
    (runActive s = true → ¬named → Refuses i l 0x16 .stale s) ∧
    (runActive s = true → named → (currentStage s).ending ≠ .confirm → Refuses i l 0x16 .badArgument s) ∧
    (runActive s = true → named → (currentStage s).ending = .confirm →
      exec i s = .next (answer l 0x16 (Reply.bare .ok) (settle (endStage (acceptFrame l s)))))) ∧
  (∀ s : State, (runStages s).length ≤ s.ret.run.stageIndex + 1 →
    endStage s = endRun .completed none (closeStage s)) ∧
  (∀ s : State, s.ret.run.stageIndex + 1 < (runStages s).length →
    let entry := enterStage (s.ret.run.stageIndex + 1) false (closeStage s)
    (entry.2 = false → endStage s = entry.1 ∧ entry.1.ret.run.state = .idle) ∧
    (entry.2 = true → stageEndMet entry.1 = false → endStage s = entry.1) ∧
    (entry.2 = true → stageEndMet entry.1 = true →
      ((runStages s).length ≤ s.ret.run.stageIndex + 2 →
        endStage s = endRun .completed none (closeStage entry.1)) ∧
      (s.ret.run.stageIndex + 2 < (runStages s).length →
        let next := enterStage (s.ret.run.stageIndex + 2) false (closeStage entry.1)
        next.2 = false ∨ stageEndMet next.1 = false → endStage s = next.1))) ∧
  (∀ s : State, holdsDose (closeStage s) .ch1 = false ∧ (closeStage s).ret.run.deferredBurst = none ∧
    (closeStage s).ret.run.causes.probe = false ∧ conditionHolds .confirmAwaited (closeStage s) = false ∧
    (∀ d : Dose, (chan s .ch1).state = .running → (chan s .ch1).dose = some d →
      HandsOn (d.delivered - d.charged) d s (closeStage s)) ∧
    ((chan s .ch1).state ≠ .running → ChargesNothing s (closeStage s))) ∧
  (∀ s : State,
    let st := currentStage s
    let r := s.ret.run
    (st.ending = .time ∨ st.ending = .confirm → stageEndMet s = false) ∧
    (st.ending = .core → (stageEndMet s = true ↔ r.coreReached = true)) ∧
    (st.ending = .reached → r.degraded = true → (stageEndMet s = true ↔ r.tempReached = true ∨ st.mode = .steam)) ∧
    (st.ending = .reached → r.degraded = false → st.mode = .combi ∨ st.mode = .proof →
      (stageEndMet s = true ↔ r.tempReached = true ∧ r.moistReached = true)) ∧
    (st.ending = .reached → r.degraded = false → st.mode ≠ .combi → st.mode ≠ .proof →
      (stageEndMet s = true ↔ r.tempReached = true)) ∧
    checkStageEnd s = if runActive s = true ∧ stageEndMet s = true then endStage s else s) ∧
  ∀ (k : Nat) (atStart : Bool) (s : State),
    fatalFault (setRun (s.ret.run.atStage k (stageAt s k)) s) = none → s.climate.state ≠ .fault →
      let t := (enterStage k atStart s).1
      (enterStage k atStart s).2 = true ∧ t.ret.run.stageIndex = k ∧ t.ret.run.elapsed = 0 ∧
        t.ret.run.duration = (stageAt s k).duration ∧ t.ret.run.adjSetpoint = none ∧ t.ret.run.adjMoisture = none ∧
        t.ret.run.tempReached = false ∧ t.ret.run.moistReached = false ∧ t.ret.run.coreReached = false ∧
        (t.ret.run.degraded = true ↔ s.ret.run.steamLost = true ∧ (stageAt s k).usesSteam = true) ∧
        t.climate.record =
          (let st := stageAt s k
           some (completeRecord
             { mode := st.mode, setpoint := st.setpoint, moisture := st.moisture, fanCode := st.fanCode
               policy := st.policy }).1) ∧
        (t.ret.run.causes.door = true ↔ s.ret.run.causes.door = true ∨ (atStart = true ∧ doorOpen s = true)) ∧
        (t.ret.run.causes.mains = true ↔
          s.ret.run.causes.mains = true ∨ (atStart = true ∧ s.meas.mainsPresent = false)) ∧
        (runActive s = true → TakesUp (stageAt s k) s t) ∧
        RaisedTo .stageStarted (some (BitVec.ofNat 8 k)) s t ∧
        ((stageAt s k).ending = .confirm →
          RaisedTo .confirmAwaited (some (BitVec.ofNat 8 k)) s t ∧ conditionHolds .confirmAwaited t = true)

/-- STOP (R156): on every link and in every state but STARTING, a STOP ends an active run with the result USER_STOP
and is answered OK; with the run state IDLE it is answered NOT_RUNNING and changes nothing. -/
def Obligations.StopEndsTheRun : Prop :=
  ∀ (l : Link) (s : State), portOpen s l → s.start.ready = true →
    (s.ret.run.state = .idle → Refuses (.stop l []) l 0x13 .notRunning s) ∧
    (s.ret.run.state ≠ .idle →
      ∃ t, exec (.stop l []) s = .next t ∧ Replies l 0x13 (Reply.bare .ok) s t ∧ t.ret.run.state = .idle ∧
        ∃ r, t.ret.lastRun = some r ∧ r.result = .userStop ∧ r.fault = none ∧ r.runId = s.ret.run.runId ∧
          r.finalStage = s.ret.run.stageIndex)

/-- R157: the end of a run, with DOOR_TIMEOUT (R145) among its causes: the burst is cancelled, which charges what it
has delivered (R96), PROGRAM_ENDED is raised with the final stage's index, the run is IDLE without a cause, its slot
LOADED and its record written, the climate ends, a program that has steamed sets drain-pending, and a commit is asked
for. That the context of the ended run keeps its steam used, and its remainder with it, is the model's choice
(notes/assumptions/66.md). A row that is not due changes nothing (the model's choice, notes/assumptions/7.md). -/
def Obligations.RunsEnd : Prop :=
  (∀ s : State, doorTimeoutDue s = true ↔
    runActive s = true ∧ s.ret.run.causes.door = true ∧ 600 ≤ s.ret.run.doorTimer) ∧
  (∀ s : State, doorTimeoutDue s = false → exec .doorTimeout s = .next s) ∧
  (∀ s : State, runActive s = true → s.ret.run.causes.door = true → 600 ≤ s.ret.run.doorTimer →
    exec .doorTimeout s = .next (settle (endRun .doorTimeout none s))) ∧
  ∀ (result : RunResult) (fault : Option FaultKind) (s : State), s.ret.run.slot ≤ 3 →
    let t := endRun result fault s
    holdsDose t .ch1 = false ∧ conditionHolds .confirmAwaited t = false ∧ t.ret.run.state = .idle ∧
      t.ret.run.causes = Causes.none ∧ t.ret.run.deferredBurst = none ∧ t.ret.run.runId = s.ret.run.runId ∧
      ((s.ret.slots.get s.ret.run.slot).state = .inUse →
        t.ret.slots.get s.ret.run.slot = { s.ret.slots.get s.ret.run.slot with state := .loaded }) ∧
      (∃ r, t.ret.lastRun = some r ∧ r.result = result ∧ r.fault = fault ∧ r.runId = s.ret.run.runId ∧
        r.slot = s.ret.run.slot ∧ r.generation = s.ret.run.generation ∧ r.finalStage = s.ret.run.stageIndex ∧
        r.runTime = s.ret.run.runTime ∧ r.degradedAny = s.ret.run.degradedAny ∧
        r.steamUsed = t.ret.run.steamUsed ∧ s.ret.run.steamUsed ≤ r.steamUsed) ∧
      ((chan s .ch1).state ≠ .running → t.ret.run.steamUsed = s.ret.run.steamUsed) ∧
      (∀ d : Dose, (chan s .ch1).state = .running → (chan s .ch1).dose = some d → PathSound s →
        HandsOn (d.delivered - d.charged) d s t) ∧
      RaisedTo .programEnded (some (BitVec.ofNat 8 s.ret.run.stageIndex)) s t ∧
      (working s = true ∨ s.climate.state = .paused →
        t.climate.state = (if 600 ≤ s.meas.cavity then .cooldown else .off)) ∧
      (s.climate.state = .fault → t.climate.state = .fault) ∧
      (programUsesSteam ((runStages s).take (s.ret.run.stageIndex + 1)) = true → t.boiler.drainPending = true) ∧
      t.store.asked = true

/-- WATER_TIMEOUT (R146, R149): WATER is removed with its timer at 0 and a stage that uses steam becomes degraded,
which raises STEAM_DEGRADED with the stage's index, with steam withheld and its burst cancelled; the stage then ends
if that is its end. That a condition which still holds does not add WATER again before it has ended is DEDUCED
(notes/assumptions/29.md) and said in QuietStepsOnlyCommit. A row that is not due changes nothing (the model's choice,
notes/assumptions/7.md). -/
def Obligations.WaterTimesOut : Prop :=
  (∀ s : State, waterTimeoutDue s = true ↔
    runActive s = true ∧ s.ret.run.causes.water = true ∧ 300 ≤ s.ret.run.waterTimer) ∧
  (∀ s : State, waterTimeoutDue s = false → exec .waterTimeout s = .next s) ∧
  ∀ s : State, runActive s = true → s.ret.run.causes.water = true → 300 ≤ s.ret.run.waterTimer →
    ∃ v, exec .waterTimeout s = .next (settle (checkStageEnd v)) ∧ Steady s v ∧ v.ret.run.causes.water = false ∧
      v.ret.run.waterTimer = 0 ∧ v.ret.run.stageIndex = s.ret.run.stageIndex ∧
      ((currentStage s).usesSteam = true → s.ret.run.degraded = false →
        v.ret.run.degraded = true ∧ v.ret.run.degradedAny = true ∧ v.climate.steamWithheld = true ∧
          RaisedTo .steamDegraded (stageArg s) s v ∧ holdsDose v .ch1 = false ∧ v.ret.run.deferredBurst = none)

/-- LOAD_PROGRAM and CLEAR_SLOT (R131 to R134), the bad stages of R132 and the ranges of R133. -/
def Obligations.SlotsAreLoadedAndCleared : Prop :=
  (∀ (l : Link) (fields : List Byte) (p : SentProgram) (s : State), parseProgram fields = some p →
    Reaches l 0x10 fields s →
      let i := Instr.loadProgram l fields
      let x := s.ret.slots.get p.slot
      (3 < p.slot ∨ 24 < p.label.length → Refuses i l 0x10 .badArgument s) ∧
      (p.slot ≤ 3 → p.label.length ≤ 24 → x.state = .inUse → Refuses i l 0x10 .busy s) ∧
      (p.slot ≤ 3 → p.label.length ≤ 24 → x.state ≠ .inUse → p.stages.length = 0 ∨ 12 < p.stages.length →
        ∃ t, exec i s = .next t ∧ Replies l 0x10 ⟨.badProgram, [0xFF]⟩ s t ∧ OnlyPorts s t) ∧
      (p.slot ≤ 3 → p.label.length ≤ 24 → x.state ≠ .inUse → 0 < p.stages.length → p.stages.length ≤ 12 →
        (∀ k : Nat, firstBad s.start.straps.probeFitted p.stages = some k →
          ∃ t, exec i s = .next t ∧ Replies l 0x10 ⟨.badProgram, bytes1 k⟩ s t ∧ OnlyPorts s t) ∧
        (firstBad s.start.straps.probeFitted p.stages = none →
          let x' : Slot :=
            { state := .loaded, generation := (x.generation + 1) % 65536, link := some l, label := p.label
              stages := p.stages.map (fun st => st.store.1) }
          exec i s =
            .next
              (answer l 0x10
                ⟨if p.stages.any (fun st => st.store.2) then .clamped else .ok, bytes2 x'.generation⟩
                (setSlot p.slot x' (acceptFrame l s)))))) ∧
  (∀ (fitted : Bool) (st : SentStage), st.bad fitted = true ↔
    st.badName = true ∨ st.mode = none ∨ st.setpoint = none ∨ st.ending = none ∨
      (st.ending = some .time ∧ st.duration = none) ∨
      (st.ending = some .core ∧ (st.core = none ∨ fitted = false))) ∧
  (∀ (fitted : Bool) (stages : List SentStage),
    (∀ k : Nat, firstBad fitted stages = some k ↔
      (∃ st, stages[k]? = some st ∧ st.bad fitted = true) ∧
        ∀ j : Nat, j < k → ∀ st, stages[j]? = some st → st.bad fitted = false) ∧
    (firstBad fitted stages = none ↔ ∀ st ∈ stages, st.bad fitted = false)) ∧
  (∀ (m s1 s0 h f e d3 d2 d1 d0 c1 c0 b1 b0 p t x y : Byte) (st : SentStage),
    parseStage [m, s1, s0, h, f, e, d3, d2, d1, d0, c1, c0, b1, b0, p, t, x, y] = some st →
      (st.badName = true ↔
        (7 < m.toNat ∧ m.toNat ≠ 255) ∨ (3 < e.toNat ∧ e.toNat ≠ 255) ∨ (1 < p.toNat ∧ p.toNat ≠ 255) ∨
          (1 < t.toNat ∧ t.toNat ≠ 255))) ∧
  (∀ (st : SentStage) (m : Mode) (x : Int) (e : StageEnd), st.mode = some m → st.setpoint = some x →
    st.ending = some e →
      let row := modeRow m
      let kept := st.store.1
      kept.mode = m ∧ kept.setpoint = max row.low (min x row.high) ∧
      (row.moisture = none → kept.moisture = none) ∧
      (∀ lo hi : Int, row.moisture = some (lo, hi) → kept.moisture = st.moisture.map (fun n => max lo (min n hi))) ∧
      kept.fanCode = st.fanCode.map (fun n => min n 15) ∧ kept.ending = e ∧
      kept.duration = st.duration.map (fun n => max 1 (min n 86400)) ∧
      (e = .core → kept.core = st.core.map (fun n => max 200 (min n 990))) ∧ (e ≠ .core → kept.core = none) ∧
      kept.burst = st.burst.map (fun n => max 10 (min n 200)) ∧ kept.policy = st.policy ∧
      kept.timerStart = st.timerStart ∧
      (st.store.2 = true ↔ kept.setpoint ≠ x ∨ kept.moisture ≠ st.moisture ∨ kept.fanCode ≠ st.fanCode ∨
        kept.duration ≠ st.duration ∨ (e = .core ∧ kept.core ≠ st.core) ∨ kept.burst ≠ st.burst)) ∧
  ∀ (l : Link) (n : Byte) (s : State), Reaches l 0x11 [n] s →
    let i := Instr.clearSlot l [n]
    let x := s.ret.slots.get n.toNat
    (3 < n.toNat → Refuses i l 0x11 .badArgument s) ∧
    (n.toNat ≤ 3 → x.state = .inUse → Refuses i l 0x11 .busy s) ∧
    (n.toNat ≤ 3 → x.state = .empty →
      exec i s = .next (answer l 0x11 (Reply.bare .ok) (acceptFrame l s))) ∧
    (n.toNat ≤ 3 → x.state = .loaded →
      exec i s =
        .next
          (answer l 0x11 (Reply.bare .ok)
            (setSlot n.toNat { x with state := .empty, link := none, label := [], stages := [] } (acceptFrame l s))))

/-- START (R136, R137): the cases in order, with the faults that bar a program; a taken START makes the slot IN_USE,
begins the run context anew under the next run id, ends every force and any pulse (R81, R82) and enters stage 0, which
raises STAGE_STARTED with index 0 and takes up DOOR, MAINS, PROBE and WATER and the stage's burst (R138, R143). That
stage 0 ends only after all the steps of its entry, where its end is met by then, is DEDUCED
(notes/assumptions/31.md). -/
def Obligations.StartBeginsARun : Prop :=
  (∀ s : State, enterFirst s =
    if (enterStage 0 true s).2 then checkStageEnd (enterStage 0 true s).1 else (enterStage 0 true s).1) ∧
  (∀ s : State, (enterStage 0 true s).2 = true →
    let t := (enterStage 0 true s).1
    RaisedTo .stageStarted (some 0) s t ∧ (doorOpen s = true → t.ret.run.causes.door = true) ∧
      (s.meas.mainsPresent = false → t.ret.run.causes.mains = true) ∧
      (runActive s = true → TakesUp (stageAt s 0) s t)) ∧
  (∀ (stages : List Stage) (s : State), startBarred stages s = true ↔
    FaultKind.thermalCutout ∈ s.events.faults ∨ FaultKind.heatRunaway ∈ s.events.faults ∨
      FaultKind.sensorCavity ∈ s.events.faults ∨
      (FaultKind.fanStall ∈ s.events.faults ∧ ∃ st ∈ stages, st.mode ≠ .topBottom ∧ st.mode ≠ .grill) ∨
      ((FaultKind.boilerDry ∈ s.events.faults ∨ FaultKind.levelSense ∈ s.events.faults) ∧
        ∃ st ∈ stages, st.mode = .steam ∨ st.mode = .combi ∨ st.mode = .proof ∨ st.burst ≠ none)) ∧
  ∀ (l : Link) (n g1 g0 : Byte) (s : State), Reaches l 0x12 [n, g1, g0] s → n.toNat ≤ 3 →
    let i := Instr.start l [n, g1, g0]
    let x := s.ret.slots.get n.toNat
    let ok0 := runActive s = false
    let ok1 := ok0 ∧ x.state ≠ .empty ∧ x.generation = number2 g1 g0
    let ok2 := ok1 ∧ s.ret.descale.phase = .idle
    let ok3 := ok2 ∧ s.marker = false
    let ok4 := ok3 ∧ ¬(s.scale.level = .blocked ∧ programUsesSteam x.stages = true)
    (¬ok0 → Refuses i l 0x12 .runActive s) ∧
    (ok0 → ¬ok1 → Refuses i l 0x12 .noProgram s) ∧
    (ok1 → ¬ok2 → Refuses i l 0x12 .descaleActive s) ∧
    (ok2 → ¬ok3 → Refuses i l 0x12 .agentPresent s) ∧
    (ok3 → ¬ok4 → Refuses i l 0x12 .steamBlocked s) ∧
    (ok4 → startBarred x.stages s = true → Refuses i l 0x12 .faultActive s) ∧
    (ok4 → startBarred x.stages s = false →
      let id := (s.ret.run.runId + 1) % 65536
      ∃ u, exec i s = .next (answer l 0x12 ⟨.ok, bytes2 id⟩ (settle (enterFirst u))) ∧
        u.ret.slots = s.ret.slots.set n.toNat { x with state := .inUse } ∧
        u.ret.run =
          { state := .running, runId := id, known := true, slot := n.toNat, generation := x.generation
            stageIndex := 0, elapsed := 0, duration := none, adjSetpoint := none, adjMoisture := none
            tempReached := false, moistReached := false, coreReached := false, degraded := false
            causes := Causes.none, doorTimer := 0, waterTimer := 0, deferredBurst := none
            steamLost := steamFault s, degradedAny := false, steamUsed := 0, steamRemainder := 0, runTime := 0 } ∧
        (programUsesSteam x.stages = true → u.boiler.drainPending = false) ∧
        u.out.forces = [] ∧ u.out.pulse = none ∧ u.out.heat = s.out.heat ∧
        (s.out.forces = [] → s.out.pulse = none → u.events = s.events ∧ u.out = s.out) ∧
        (u.climate = s.climate ∧ u.meas = s.meas ∧ u.settings = s.settings))

/-- ADJUST and INJECT (R152, R153, R155, R107): the cases in order, the new duration, the adopted values, which become
the stage's adjusted values while a value that is not sent stays, CLAMPED where one of them is not the value sent and
OK otherwise, the bytes of the results, an ADJUST without fields, what the adjust write does to the regulator (R25:
the runaway timer, the entry direction, PREHEAT again outside the new band), and the burst of a taken INJECT. The
model's choice (notes/assumptions/19.md): a present field with its absent encoding is BAD_ARGUMENT, and bits of the
mask above bit 2 name nothing. DEDUCED: the results of ADJUST (the same entry), and that an INJECT in a degraded stage
or with steam lost raises nothing while a refusal of the water unit raises STEAM_DEGRADED once
(notes/assumptions/20.md). -/
def Obligations.AdjustAndInject : Prop :=
  (∀ (m : Mode) (x : Int), adoptSetpoint m x = max (modeRow m).low (min x (modeRow m).high)) ∧
  (∀ (m : Mode) (h : Int),
    ((modeRow m).moisture = none → adoptMoisture m (some h) = none) ∧
    ∀ low high : Int, (modeRow m).moisture = some (low, high) →
      adoptMoisture m (some h) = some (max low (min h high))) ∧
  (∀ (l : Link) (r1 r0 b mask s1 s0 d3 d2 d1 d0 h : Byte) (s : State),
    Reaches l 0x14 [r1, r0, b, mask, s1, s0, d3, d2, d1, d0, h] s →
    let i := Instr.adjust l [r1, r0, b, mask, s1, s0, d3, d2, d1, d0, h]
    let named := number2 r1 r0 = s.ret.run.runId ∧ b.toNat = s.ret.run.stageIndex
    let hasSet := mask.toNat.testBit 0
    let hasDelta := mask.toNat.testBit 1
    let hasMoist := mask.toNat.testBit 2
    let absent := (hasSet = true ∧ number2 s1 s0 = 0x8000) ∨ (hasMoist = true ∧ h.toNat = 0xFF)
    (runActive s = false → Refuses i l 0x14 .notRunning s) ∧
    (runActive s = true → ¬named → Refuses i l 0x14 .stale s) ∧
    (runActive s = true → named → absent → Refuses i l 0x14 .badArgument s) ∧
    (runActive s = true → named → ¬absent → hasDelta = true → s.ret.run.duration = none →
      Refuses i l 0x14 .badArgument s) ∧
    (runActive s = true → named → hasSet = false → hasDelta = false → hasMoist = false →
      exec i s = .next (answer l 0x14 ⟨.ok, adjustResults s⟩ (settle (acceptFrame l s)))) ∧
    (runActive s = true → named → ¬absent → (hasDelta = true → s.ret.run.duration ≠ none) →
      (hasSet = true ∨ hasMoist = true) → s.climate.state = .off ∨ s.climate.state = .cooldown ∨
        s.climate.state = .fault → Refuses i l 0x14 .faultActive s) ∧
    (runActive s = true → named → ¬absent → (hasDelta = true → s.ret.run.duration ≠ none) →
      ∀ record : SetpointRecord, s.climate.record = some record → working s = true ∨ s.climate.state = .paused →
        let sent := signed2 (number2 s1 s0)
        let target : Option Int := some h.toNat
        let cut := ∃ d : Nat, hasDelta = true ∧ s.ret.run.duration = some d ∧
          let delta := signed4 (number4 d3 d2 d1 d0)
          let x := max (-((d : Int) - s.ret.run.elapsed - 1)) (min delta 3600)
          min ((d : Int) + x) 86400 ≠ d + delta
        let clamped := (hasSet = true ∧ adoptSetpoint record.mode sent ≠ sent) ∨
          (hasMoist = true ∧ adoptMoisture record.mode target ≠ target) ∨ cut
        ∃ (u : State) (st : Status),
          exec i s = .next (answer l 0x14 ⟨st, adjustResults u⟩ (settle u)) ∧
          (clamped → st = .clamped) ∧ (¬clamped → st = .ok) ∧
          Steady (acceptFrame l s) u ∧ u.water = s.water ∧ u.scale = s.scale ∧ u.climate.iacc = s.climate.iacc ∧
          u.climate.tempReached = s.climate.tempReached ∧ u.climate.moistReached = s.climate.moistReached ∧
          (hasSet = false → u.climate.state = s.climate.state ∧ u.climate.returnState = s.climate.returnState ∧
            u.climate.runaway = s.climate.runaway ∧ u.climate.runawayArmed = s.climate.runawayArmed ∧
            u.climate.direction = s.climate.direction) ∧
          (hasSet = true →
            let now := adoptSetpoint record.mode sent
            let outside := s.meas.cavity < now - 50 ∨ now + 50 < s.meas.cavity
            let again := s.climate.tempReached = true ∧ outside
            u.climate.runaway = 0 ∧
              u.climate.runawayArmed = (s.climate.runawayArmed && !decide again) ∧
              u.climate.direction =
                (if again ∨ s.climate.tempReached = false then
                  (if s.meas.cavity ≤ now then .up else .down)
                else s.climate.direction) ∧
              u.climate.state = (if again ∧ s.climate.state = .hold then .preheat else s.climate.state) ∧
              u.climate.returnState =
                (if again ∧ s.climate.state = .paused then some .preheat else s.climate.returnState)) ∧
          (hasSet = false → hasMoist = false → u.climate = s.climate) ∧
          (∃ r, u.climate.record = some r ∧ r.mode = record.mode ∧
            (hasSet = false → r.setpoint = record.setpoint) ∧
            (hasSet = true → r.setpoint = adoptSetpoint record.mode (signed2 (number2 s1 s0)) ∧
              u.ret.run.adjSetpoint = some r.setpoint) ∧
            (hasSet = false → u.ret.run.adjSetpoint = s.ret.run.adjSetpoint) ∧
            (hasMoist = true → r.moisture = adoptMoisture record.mode (some (h.toNat : Int)) ∧
              u.ret.run.adjMoisture = r.moisture) ∧
            (hasMoist = false → r.moisture = record.moisture ∧ u.ret.run.adjMoisture = s.ret.run.adjMoisture) ∧
            r.fanCode = record.fanCode ∧ r.policy = record.policy ∧
            adjustResults u =
              signedBytes2 r.setpoint ++
                bytes1 (match r.moisture with | none => 0xFF | some x => x.toNat) ++
                bytes4 (match u.ret.run.duration with | none => 0xFFFFFFFF | some d => d - s.ret.run.elapsed)) ∧
          (hasDelta = false → u.ret.run.duration = s.ret.run.duration) ∧
          (∀ d : Nat, hasDelta = true → s.ret.run.duration = some d →
            let x := max (-((d : Int) - s.ret.run.elapsed - 1)) (min (signed4 (number4 d3 d2 d1 d0)) 3600)
            u.ret.run.duration = some (min ((d : Int) + x) 86400).toNat))) ∧
  ∀ (l : Link) (r1 r0 b v1 v0 : Byte) (s : State), Reaches l 0x17 [r1, r0, b, v1, v0] s →
    let i := Instr.inject l [r1, r0, b, v1, v0]
    let named := number2 r1 r0 = s.ret.run.runId ∧ b.toNat = s.ret.run.stageIndex
    let lost := s.ret.run.degraded = true ∨ s.ret.run.steamLost = true
    let cool := s.meas.cavity < 1500 ∨ holdsDose s .ch1 = true
    let ml := number2 v1 v0
    let taken := max 10 (min ml 200)
    (runActive s = false → Refuses i l 0x17 .notRunning s) ∧
    (runActive s = true → ¬named → Refuses i l 0x17 .stale s) ∧
    (runActive s = true → named → s.ret.run.causes.door = true → Refuses i l 0x17 .busy s) ∧
    (runActive s = true → named → s.ret.run.causes.door = false → lost → Refuses i l 0x17 .steamBlocked s) ∧
    (runActive s = true → named → s.ret.run.causes.door = false → ¬lost → s.scale.level = .blocked →
      exec i s =
        .next (answer l 0x17 (Reply.bare .steamBlocked)
          (settle (raiseEvent .steamDegraded none (acceptFrame l s))))) ∧
    (runActive s = true → named → s.ret.run.causes.door = false → ¬lost → s.scale.level ≠ .blocked → cool →
      exec i s =
        .next (answer l 0x17 (Reply.bare .busy) (settle (raiseEvent .steamDegraded none (acceptFrame l s))))) ∧
    (runActive s = true → named → s.ret.run.causes.door = false → ¬lost → s.scale.level ≠ .blocked → ¬cool →
      ∃ u, exec i s =
          .next (answer l 0x17 ⟨if taken = ml then .ok else .clamped, bytes2 taken⟩ (settle u)) ∧
        u = { acceptFrame l s with water := u.water } ∧ u.water.path = s.water.path ∧
        let source := if tankOven s then Source.tank else .inlet
        let pulses := (taken * s.settings.flowConstant + 500) / 1000
        chan u .ch1 =
          ⟨if sourceLow source s then .suspended else .requesting,
            some
              { mode := .block, destination := .nozzle, source := some source, base := pulses, remaining := pulses
                delivered := 0, charged := 0, reload := false, requester := .program, portion := 0
                portionLeft := 0 }⟩)

/-! ## Inputs (R161) and what their changes do -/

/-- RAW_LEVEL_CHANGE and INPUT_CHANGE (R161): a raw level equal to the reading stands the settling timer at 0; a
watched input whose timer has reached its debounce time, of the eleven that the table of the inputs gives, takes the
raw level. The door's opening (R66, R73, R81, R145), which withdraws remote permission and tells so by LOCK_CHANGED
(R175), and its closing (R73, R78, R145), which requests a burst that waited for it (R143), raise their events (R163)
and with a run pause the regulator and let it go on (R26) with its fan code and the vent request of its mode (R38,
R44), the cutout's (R68, R81, R163), the low electrode's uncovering (R67, R103), a tank input, which also loads the
drain that the descale controller has waiting (R121), the tray (R163) and the service connector's removal, which ends
service unlock with LOCK_CHANGED (R177), act at that moment; BOILER_HIGH ends the boiler controller's fill and top-up
(R90, R100, R102) and stops a descale dose (R101); a source that becomes low suspends its doses (R93), the RUNNING one
with a charge (R96), and one that stops being low is primed by 20 ml through CH2 before they request again, or lets
them request at once where CH2 holds a dose of another requester or source (R94). That a suspended SINGLE dose keeps
its portion left is the model's choice (notes/assumptions/68.md). DEDUCED: INPUT_CHANGE of an input that is not
watched changes nothing (notes/assumptions/45.md), and the boiler is DRAINING from the load of a drain on
(notes/assumptions/37.md). A row that is not due changes nothing (the model's choice, notes/assumptions/7.md). -/
def Obligations.InputsChange : Prop :=
  (∀ (i : Input) (level : Bool) (s : State),
    exec (.rawLevelChange i level) s =
      .next
        { s with
          inputs :=
            s.inputs.set i
              { s.inputs.get i with
                raw := level, timer := if level = (s.inputs.get i).reading then 0 else (s.inputs.get i).timer } }) ∧
  ([Input.door, .thermalCutout, .tankPresent, .tankFloat, .trayFull, .boilerLow, .boilerHigh, .ventOpenEnd,
     .ventClosedEnd, .inletPressure, .servicePresent].map debounceTime =
    [50000, 20000, 500000, 2000000, 5000000, 1000000, 1000000, 20000, 20000, 2000000, 100000]) ∧
  (∀ (i : Input) (s : State), inputChangeDue i s = true ↔
    watched s i = true ∧ (s.inputs.get i).raw ≠ (s.inputs.get i).reading ∧
      debounceTime i ≤ (s.inputs.get i).timer) ∧
  (∀ (i : Input) (s : State), inputChangeDue i s = false → exec (.inputChange i) s = .next s) ∧
  ∀ (i : Input) (s : State), watched s i = true → (s.inputs.get i).raw ≠ (s.inputs.get i).reading →
    debounceTime i ≤ (s.inputs.get i).timer →
      let now := (s.inputs.get i).raw
      let tank := i = .tankPresent ∨ i = .tankFloat
      let present := if i = .tankPresent then now else s.inputs.tankPresent.reading
      let loads := tank ∧ s.work.drain = true ∧ holdsDose s .ch3 = false ∧
        (s.start.straps.supply = .tank → present = true)
      let topUpEnds := loads ∧ holdsFor s .ch0 .boilerControl = true ∧ modeIs .single (chan s .ch0) = true ∧
        s.boiler.state ≠ .draining ∧ s.boiler.state ≠ .dryFault
      ∃ u, exec (.inputChange i) s = .next (settle u) ∧ u.inputs = s.inputs.set i ⟨now, now, 0⟩ ∧
        u.settings = s.settings ∧ u.meas = s.meas ∧ u.ports = s.ports ∧ u.pending = s.pending ∧
        (i = .door → now = true →
          (∀ l : Load, l.isCavity = true → (u.out.heat.get l).active = Run.empty ∧
            (u.out.heat.get l).pending = Run.empty) ∧
          u.out.heat.boiler = s.out.heat.boiler ∧ u.out.fan.duty = 0 ∧ u.prot.remotePermission = false ∧
          (∀ e ∈ u.out.forces, isCavityOutput e.output = false) ∧
          RaisedTo .doorOpened none s u ∧
          (s.prot.remotePermission = true → RaisedTo .lockChanged (some 1) s u) ∧
          (runActive s = true → u.ret.run.causes.door = true ∧ u.ret.run.doorTimer = 0 ∧
            (s.ret.run.causes.isEmpty = true →
              u.ret.run.state = .paused ∧ RaisedTo .programPaused (stageArg s) s u) ∧
            (working s = true →
              u.climate.state = .paused ∧
                u.climate.returnState = some (if s.climate.state = .hold then WorkingState.hold else .preheat) ∧
                u.climate.relayAsk = false ∧ u.out.fan.code = 0 ∧ u.boiler.steamRequest = 0 ∧
                u.share.demands.top = 0 ∧ u.share.demands.bottom = 0 ∧ u.share.demands.ring = 0 ∧
                u.share.demands.grill = 0 ∧ u.out.vent.state.isFor .opened = true ∧ VentAsked .opened s u) ∧
            (working s = false → u.climate = s.climate)) ∧
          (runActive s = false → u.climate = s.climate ∧ u.ret.run = s.ret.run)) ∧
        (i = .door → now = false →
          u.out.heat = s.out.heat ∧ u.out.lampShot = some 0 ∧ RaisedTo .doorClosed none s u ∧
            (runActive s = true → s.ret.run.causes.door = true → u.ret.run.causes.door = false ∧
              u.ret.run.doorTimer = 0 ∧
              (s.ret.run.causes = ⟨true, false, false, false⟩ → s.ret.run.deferredBurst = none →
                u.ret.run.state = .running ∧ RaisedTo .programResumed (stageArg s) s u) ∧
              (∀ w : WorkingState, s.climate.state = .paused → s.climate.returnState = some w →
                u.climate.state = w.state ∧ u.climate.returnState = none ∧ u.climate.relayAsk = true ∧
                  ∀ r : SetpointRecord, s.climate.record = some r →
                    u.out.fan.code = r.fanCode ∧ ModeVentAsked r.mode s u) ∧
              (∀ ml : Nat, s.ret.run.deferredBurst = some ml →
                u.ret.run.deferredBurst = none ∧ BurstAsked ml s u) ∧
              (s.climate.state ≠ .paused → s.ret.run.deferredBurst = none → u.climate = s.climate)) ∧
            (runActive s = false ∨ s.ret.run.causes.door = false → u.climate = s.climate ∧ u.ret.run = s.ret.run)) ∧
        (i = .thermalCutout → now = true →
          hasFault .thermalCutout u = true ∧
            (∀ l : Load, (u.out.heat.get l).active = Run.empty ∧ (u.out.heat.get l).pending = Run.empty) ∧
            ∀ e ∈ u.out.forces, isHeatOutput e.output = false) ∧
        (i = .boilerLow → now = false →
          u.out.heat.boiler.active = Run.empty ∧ u.out.heat.boiler.pending = Run.empty ∧
            (s.start.ready = true → u.share.demands.boiler = 0) ∧
            ∀ l : Load, l.isCavity = true → u.out.heat.get l = s.out.heat.get l) ∧
        (i = .boilerHigh → now = true → holdsFor s .ch0 .boilerControl = true → modeIs .demand (chan s .ch0) = true →
          (chan u .ch0).state = .done ∧ u.boiler.state = .heating ∧
            ∀ d : Dose, (chan s .ch0).dose = some d →
              (chan u .ch0).dose = some { d with charged := d.delivered } ∧
                HandsOn (d.delivered - d.charged) d s u ∧
                (s.water.path = .granted .ch0 → u.water.path = .settling)) ∧
        (i = .boilerHigh → now = true → holdsFor s .ch0 .descale = true → (chan s .ch0).state ≠ .suspended →
          ∃ w, u = descaleFillEnded w ∧ (chan w .ch0).state = .done ∧ w.ret.descale = s.ret.descale ∧
            w.boiler = s.boiler ∧ w.work = s.work ∧ w.inputs = u.inputs ∧ w.events.faults = s.events.faults ∧
            (s.water.path = .granted .ch0 → w.water.path = .settling) ∧
            ∀ d : Dose, (chan s .ch0).dose = some d →
              (chan w .ch0).dose = some { d with charged := d.delivered } ∧
                HandsOn (d.delivered - d.charged) d s w) ∧
        (i = .boilerHigh → now = true → holdsFor s .ch0 .boilerControl = true → modeIs .single (chan s .ch0) = true →
          chan u .ch0 = ⟨.idle, none⟩ ∧
            ∀ d : Dose, (chan s .ch0).dose = some d → (chan s .ch0).state = .running →
              HandsOn (d.delivered - d.charged) d s u) ∧
        (i = .trayFull → conditionHolds .trayFull u = now) ∧
        (i = .servicePresent → now = false → u.prot.serviceUnlock = false ∧
          (s.prot.serviceUnlock = true → u.prot.silence = 0 ∧ RaisedTo .lockChanged (some 2) s u)) ∧
        (i = .ventOpenEnd → now = true → motorToward .closed s = false →
          u.out.vent.state = .opened ∧ hasFault .ventStuck u = false) ∧
        (i = .ventClosedEnd → now = true → motorToward .opened s = false →
          u.out.vent.state = .closed ∧ hasFault .ventStuck u = false) ∧
        (loads →
          u.work.drain = false ∧ u.boiler.drainPending = false ∧
            u.boiler.state = (if s.boiler.state = .dryFault then .dryFault else .draining) ∧
            chan u .ch3 =
              ⟨if serviceHold s then .requesting else .running,
                some
                  { mode := .block, destination := .out, source := none, base := 45, remaining := 45, delivered := 0
                    charged := 0, reload := false, requester := .descale, portion := 0, portionLeft := 0 }⟩) ∧
        (tank → ¬loads → u.work.drain = s.work.drain ∧ u.boiler = s.boiler ∧ chan u .ch3 = chan s .ch3) ∧
        (topUpEnds → chan u .ch0 = ⟨.idle, none⟩ ∧
          ∀ d : Dose, (chan s .ch0).dose = some d → (chan s .ch0).state = .running → PathSound s →
            HandsOn (d.delivered - d.charged) d s u ∧ u.water.path = .settling) ∧
        (tank → sourceLow .tank s = false → sourceLow .tank u = true →
          (∀ c : Chan, c ≠ .ch3 → (c = .ch0 → ¬topUpEnds) → sourceIs .tank (chan s c) = true →
            (chan s c).state = .requesting ∨ (chan s c).state = .running → (chan u c).state = .suspended) ∧
          (PathSound s → ¬topUpEnds → Suspends .tank s u)) ∧
        (i = .inletPressure → sourceLow .inlet s = false → sourceLow .inlet u = true →
          (∀ c : Chan, c ≠ .ch3 → sourceIs .inlet (chan s c) = true →
            (chan s c).state = .requesting ∨ (chan s c).state = .running → (chan u c).state = .suspended) ∧
          (PathSound s → Suspends .inlet s u)) ∧
        ∀ src : Source, (src = .tank ∧ tank ∧ tankInUse s = true) ∨ (src = .inlet ∧ i = .inletPressure) →
          sourceLow src s = true → sourceLow src u = false →
            let n := (20 * s.settings.flowConstant + 500) / 1000
            let primes := requesterIs .prime (chan s .ch2) = true ∧ sourceIs src (chan s .ch2) = true
            (holdsDose s .ch2 = false →
              chan u .ch2 =
                  ⟨.requesting,
                    some
                      { mode := .flush, destination := .drainLine, source := some src, base := n, remaining := n
                        delivered := 0, charged := 0, reload := false, requester := .prime, portion := 0
                        portionLeft := 0 }⟩ ∧
                (¬topUpEnds → chan u .ch0 = chan s .ch0) ∧ chan u .ch1 = chan s .ch1) ∧
            (holdsDose s .ch2 = true → primes →
              ((chan s .ch2).state = .suspended → (chan u .ch2).state = .requesting) ∧
                (¬topUpEnds → chan u .ch0 = chan s .ch0) ∧ chan u .ch1 = chan s .ch1) ∧
            (holdsDose s .ch2 = true → ¬primes →
              ∀ c : Chan, c ≠ .ch3 → (c = .ch0 → ¬topUpEnds) → sourceIs src (chan s c) = true →
                (chan s c).state = .suspended →
                (chan u c).state = .requesting)

/-! ## Locks (R174 to R177) -/

/-- SERVICE_SILENCE_TIMEOUT, SET_LOCK, SERVICE_UNLOCK and SERVICE_LOCK: the cases in order, the lock inputs as they
then stand in the reply, and LOCK_CHANGED where a value changes. A row that is not due changes nothing (the model's
choice, notes/assumptions/7.md). -/
def Obligations.LocksChange : Prop :=
  (∀ s : State, silenceDue s = true ↔ s.prot.serviceUnlock = true ∧ 60000000 ≤ s.prot.silence) ∧
  (∀ s : State, silenceDue s = false → exec .serviceSilenceTimeout s = .next s) ∧
  (∀ s : State, s.prot.serviceUnlock = true → 60000000 ≤ s.prot.silence →
    exec .serviceSilenceTimeout s =
      .next
        (settle
          (raiseEvent .lockChanged (some 2)
            { s with prot := { s.prot with serviceUnlock := false, silence := 0 } }))) ∧
  (∀ (input value : Byte) (s : State), Reaches .panel 0x31 [input, value] s →
    let i := Instr.setLock .panel [input, value]
    let a := acceptFrame .panel s
    let b := decide (value.toNat = 1)
    (1 < input.toNat ∨ 1 < value.toNat → Refuses i .panel 0x31 .badArgument s) ∧
    (input.toNat = 0 → value.toNat ≤ 1 →
      let t := { a with settings := { a.settings with childLock := b } }
      exec i s =
        .next
          (answer .panel 0x31 ⟨.ok, bytes1 (lockInputs t)⟩
            (settle (askCommit (if s.settings.childLock = b then t else raiseEvent .lockChanged (some 0) t))))) ∧
    (input.toNat = 1 → value.toNat ≤ 1 →
      let t := { a with prot := { a.prot with remotePermission := b } }
      exec i s =
        .next
          (answer .panel 0x31 ⟨.ok, bytes1 (lockInputs t)⟩
            (settle (if s.prot.remotePermission = b then t else raiseEvent .lockChanged (some 1) t))))) ∧
  (∀ s : State, Reaches .service 0x32 [] s →
    let i := Instr.serviceUnlock .service []
    let a := acceptFrame .service s
    let refused := Refuses i .service 0x32
    (s.prot.serviceUnlock = true →
      exec i s = .next (answer .service 0x32 (Reply.bare .ok) { a with prot := { a.prot with silence := 0 } })) ∧
    (s.prot.serviceUnlock = false →
      (s.inputs.servicePresent.reading = false → refused .busy s) ∧
      (s.inputs.servicePresent.reading = true →
        (s.ret.run.state ≠ .idle → refused .runActive s) ∧
        (s.ret.run.state = .idle → s.ret.descale.phase ≠ .idle → refused .descaleActive s) ∧
        (s.ret.run.state = .idle → s.ret.descale.phase = .idle →
          exec i s =
            .next
              (answer .service 0x32 (Reply.bare .ok)
                (settle
                  (raiseEvent .lockChanged (some 2)
                    { a with prot := { a.prot with serviceUnlock := true, silence := 0 } }))))))) ∧
  ∀ s : State, Reaches .service 0x33 [] s →
    let a := acceptFrame .service s
    exec (.serviceLock .service []) s =
      .next
        (answer .service 0x33 (Reply.bare .ok)
          (settle
            (if s.prot.serviceUnlock then
              raiseEvent .lockChanged (some 2)
                { a with prot := { a.prot with serviceUnlock := false, silence := 0 } }
            else a)))

/-! ## Ports and commands (R182 to R186) -/

/-- FRAME_START, FRAME_START_WHILE_BUSY, BAD_FRAME, FRAME_GAP_TIMEOUT, DISCARD_MARK_CLEAR and REPLY_SENT: each changes
its port alone. FRAME_START_WHILE_BUSY is the same byte as FRAME_START, whatever state the port is in. DEDUCED: a
frame is held by the moments at which its bytes end, without the bytes themselves (notes/assumptions/42.md), and a
reply counts as sent when ten bit times a byte have passed, with no gap between bytes (notes/assumptions/23.md). A row
that is not due changes nothing (the model's choice, notes/assumptions/7.md). -/
def Obligations.PortsReceiveAndReply : Prop :=
  ∀ (l : Link) (gaps : List Nat) (s : State),
    let p := port s l
    let p' := { p with line := gaps, quiet := 0 }
    exec (.frameStartWhileBusy ⟨l, gaps⟩) s = exec (.frameStart ⟨l, gaps⟩) s ∧
    (p.state = .idle → p.discard = false →
      exec (.frameStart ⟨l, gaps⟩) s = .next (setPort l { p' with state := .receiving } s)) ∧
    (p.state = .receiving ∨ (p.state = .idle ∧ p.discard = true) →
      exec (.frameStart ⟨l, gaps⟩) s = .next (setPort l p' s)) ∧
    (p.state = .executing ∨ p.state = .replying →
      exec (.frameStart ⟨l, gaps⟩) s = .next (setPort l { p' with overrun := true, discard := true } s)) ∧
    (∀ defect : FrameDefect,
      exec (.badFrame l defect) s =
        .next
          (setPort l { p with quiet := 0, state := if p.state = .receiving then .idle else p.state } s)) ∧
    (p.state = .receiving → 20000 < p.quiet →
      exec (.frameGapTimeout l) s = .next (setPort l { p with state := .idle } s)) ∧
    (p.state ≠ .receiving ∨ p.quiet ≤ 20000 → exec (.frameGapTimeout l) s = .next s) ∧
    (p.quiet ≤ 20000 → exec (.discardMarkClear l) s = .next s) ∧
    (p.discard = false → exec (.discardMarkClear l) s = .next s) ∧
    (p.discard = true → 20000 < p.quiet →
      exec (.discardMarkClear l) s = .next (setPort l { p with discard := false } s)) ∧
    (p.state = .replying → p.reply.length * 10 * 1000000 ≤ p.sending * 57600 →
      exec (.replySent l) s = .next (setPort l { p with state := .idle, reply := [], sending := 0 } s)) ∧
    (p.state ≠ .replying ∨ p.sending * 57600 < p.reply.length * 10 * 1000000 → exec (.replySent l) s = .next s)

/-- R183, R136, R174 to R178, R191: what a link command meets before its owner, in order: a port that cannot receive
it discards its frame (that a command row which meets an IDLE port stands for its whole frame is the model's choice,
notes/assumptions/24.md), a code outside the catalogue is unknown, then the layout, STARTING for every group but READ,
the checks that come before the lock (the slot of START, the number of WRITE_SETTING), and the lock, by the groups and
the links. Each refusal changes nothing outside the port but the service silence timer, which every accepted frame of
the service link sets to 0. That SET_LOCK is locked by its link before its arguments are looked at is DEDUCED
(notes/assumptions/21.md). UNKNOWN_COMMAND (R186) is echoed with its code, the status UNKNOWN_COMMAND, the flags and
detail 0, in every state. -/
def Obligations.CommandsAreDecidedInOrder : Prop :=
  (∀ (i : Instr) (l : Link) (code : Byte) (fields : List Byte) (s : State),
     linkCommand i = some (l, code, fields) → WellFormed i = true →
       (¬portOpen s l →
         exec i s =
           .next
             (setPort l
               (if (port s l).state = .executing ∨ (port s l).state = .replying then
                 { port s l with line := [], overrun := true, discard := true, quiet := 0 }
               else { port s l with state := .idle, line := [], quiet := 0 }) s)) ∧
       (portOpen s l ↔ ((port s l).state = .receiving ∧ (port s l).quiet ≤ 20000) ∨
         ((port s l).state = .idle ∧ (port s l).discard = false)) ∧
       (portOpen s l →
         (code ∉ catalogue → Refuses i l code .unknownCommand s) ∧
         (code ∈ catalogue →
           (layoutFits code fields = false → Refuses i l code .badArgument s) ∧
           (layoutFits code fields = true → readCode code = false →
             (s.start.ready = false → Refuses i l code .starting s) ∧
             (s.start.ready = true →
               (earlyFault code fields = true → Refuses i l code .badArgument s) ∧
               (earlyFault code fields = false → commandLocked code fields l s = true →
                 Refuses i l code .locked s)))))) ∧
  (∀ (code : Byte) (fields : List Byte), earlyFault code fields = true ↔
    (code = 0x12 ∧ 3 < (fields.headD 0).toNat) ∨
      (code = 0x30 ∧ ((fields.headD 0).toNat = 0 ∨ 19 < (fields.headD 0).toNat))) ∧
  (∀ (code : Byte) (fields : List Byte) (l : Link) (s : State), s.start.ready = true →
    let setting := fun numbers : List Nat => code = 0x30 ∧ (fields.headD 0).toNat ∈ numbers
    let is := fun (panel network service : Bool) =>
      commandLocked code fields l s = (match l with | .panel => panel | .network => network | .service => service)
    let locked := !s.prot.serviceUnlock
    (code ∈ [0x01, 0x02, 0x03, 0x04, 0x05, 0x06, 0x07, 0x13] → is false false false) ∧
    (code ∈ [0x10, 0x11, 0x12, 0x14, 0x15, 0x16, 0x17, 0x20, 0x21, 0x22] →
      is s.settings.childLock (!s.prot.remotePermission) locked) ∧
    (code ∈ [0x34, 0x35, 0x36] ∨ setting [1, 3, 4] →
      is (s.settings.childLock && decide (s.ret.run.state ≠ .idle)) true locked) ∧
    (code ∈ [0x40, 0x41, 0x42] ∨ setting [2, 5, 6, 7, 8, 9, 10, 11, 12, 13, 14, 15, 16, 17, 18, 19] →
      is true true locked) ∧
    (code = 0x31 → is false true true) ∧
    (code ∈ [0x32, 0x33] → is true true false)) ∧
  ∀ (l : Link) (code : Byte) (fields : List Byte) (s : State), portOpen s l →
    ∃ t, exec (.unknownCommand l code fields) s = .next t ∧ OnlyPorts s t ∧
      (port t l).state = .replying ∧ (port t l).overrun = false ∧
      (port t l).reply =
        frameOf
          [code, 2,
            BitVec.ofNat 8 ((if (port s l).overrun then 1 else 0) + (if attention s l then 2 else 0)), 0]

/-- GET_STATUS, GET_SNAPSHOT, GET_LAST_RUN, READ_SLOT, READ_SETTING and READ_SCALE are taken in every state, STARTING
included, on every link; their replies carry the records of R130, R134, R158, R188, R189, R190 and R191, field by
field with the encodings and the numbers of R187, and nothing outside the port changes but the service silence timer.
After present = 0 an absent last-run record has the absent encodings of R187 for the slot, the result, the fault kind,
the final stage and the run time; that it has the other nine bytes, too, and that they are free, is the model's choice
(notes/assumptions/5.md). -/
def Obligations.ReadCommandsReply : Prop :=
  (∀ (n : Nat) (i : Int) (b : Bool) (o : Option Nat),
    bytes1 n = [BitVec.ofNat 8 n] ∧ bytes2 n = [BitVec.ofNat 8 (n / 256), BitVec.ofNat 8 n] ∧
    bytes4 n =
      [BitVec.ofNat 8 (n / 16777216), BitVec.ofNat 8 (n / 65536), BitVec.ofNat 8 (n / 256), BitVec.ofNat 8 n] ∧
    signedBytes2 i = bytes2 (i % 65536).toNat ∧ signedBytes4 i = bytes4 (i % 4294967296).toNat ∧
    flagByte b = [if b then 1 else 0] ∧ optByte o = (match o with | none => [0xFF] | some k => bytes1 k)) ∧
  ([RunState.idle, .running, .paused].map RunState.number = [0, 1, 2] ∧
    [ClimateState.off, .preheat, .hold, .paused, .cooldown, .fault].map ClimateState.number = [0, 1, 2, 3, 4, 5] ∧
    [Mode.convection, .topBottom, .bottomCrisp, .grill, .grillFan, .steam, .combi, .proof].map Mode.number =
      [0, 1, 2, 3, 4, 5, 6, 7] ∧
    [BoilerState.empty, .filling, .heating, .ready, .draining, .dryFault].map BoilerState.number =
      [0, 1, 2, 3, 4, 5] ∧
    [PathState.free, .granted .ch0, .granted .ch1, .granted .ch2, .settling].map PathState.number =
      [0, 1, 2, 3, 4] ∧
    [ScaleLevel.normal, .due, .blocked].map ScaleLevel.number = [0, 1, 2] ∧
    [DescalePhase.idle, .prepare, .awaitAgent, .draw, .soak, .drainAgent, .awaitRinse, .rinse1, .rinse2, .done].map
      DescalePhase.number = [0, 1, 2, 3, 4, 5, 6, 7, 8, 9] ∧
    [RinseStep.flush, .fill, .drain].map RinseStep.number = [0, 1, 2] ∧
    [Stall.none, .flow, .level, .dry].map Stall.number = [0, 1, 2, 3] ∧
    [DescaleResult.none, .completed, .aborted].map DescaleResult.number = [0, 1, 2] ∧
    [SlotState.empty, .loaded, .inUse].map SlotState.number = [0, 1, 2] ∧
    [RunResult.completed, .userStop, .doorTimeout, .fault, .powerLoss].map RunResult.number = [0, 1, 2, 3, 4] ∧
    [Frequency.undecided, .hz50, .hz60].map Frequency.number = [0, 50, 60] ∧
    [ResetKind.cold, .dip, .line].map ResetKind.number = [0, 1, 2] ∧
    [Link.panel, .network, .service].map linkNumber = [0, 1, 2] ∧
    [FaultKind.thermalCutout, .heatRunaway, .sensorCavity, .sensorBoiler, .moistureSensor, .fanStall, .ventStuck,
      .noFlow, .boilerDry, .levelSense, .loadOverBudget, .mainsLost, .storeWrite].map FaultKind.number =
        [1, 2, 3, 4, 5, 6, 7, 8, 9, 10, 11, 12, 13]) ∧
  (∀ st : Stage,
    stageBytes st =
      bytes1 st.mode.number ++ signedBytes2 st.setpoint ++
        bytes1 (match st.moisture with | none => 0xFF | some h => h.toNat) ++ optByte st.fanCode ++
        bytes1 (match st.ending with | .time => 0 | .core => 1 | .reached => 2 | .confirm => 3) ++
        bytes4 (st.duration.getD 0xFFFFFFFF) ++
        (match st.core with | none => bytes2 0x8000 | some c => signedBytes2 c) ++ bytes2 (st.burst.getD 0xFFFF) ++
        bytes1 (match st.policy with | none => 0xFF | some .heatFirst => 0 | some .steamFirst => 1) ++
        bytes1 (match st.timerStart with | none => 0xFF | some .immediate => 0 | some .afterReached => 1) ++
        [0, 0]) ∧
  (∀ x : Slot,
    slotRecord x =
      bytes1 x.state.number ++ bytes2 x.generation ++ optByte (x.link.map linkNumber) ++ bytes1 x.label.length ++
        (x.label ++ List.replicate (24 - x.label.length) 0) ++ bytes1 x.stages.length ++
        x.stages.flatMap stageBytes) ∧
  (∀ x : Settings,
    (List.range 21).map (settingValue x) =
      [none, some (x.hardness : Int), some (x.flowConstant : Int), some (x.scaleLimit : Int),
        some (x.resumeLimit : Int), some (x.budgetOverride : Int), some (x.reserve : Int),
        some (x.ratings.top : Int), some (x.ratings.bottom : Int), some (x.ratings.ring : Int),
        some (x.ratings.grill : Int), some (x.ratings.boiler : Int), some x.offsets.cavityUpper,
        some x.offsets.cavityLower, some x.offsets.boiler, some x.offsets.coreA, some x.offsets.coreB,
        some x.offsets.coreC, some x.offsets.moisture, some (x.fillVolume : Int),
        some (if x.childLock then 1 else 0)] ∧
      ∀ n : Nat, 20 < n → settingValue x n = none) ∧
  ∀ (l : Link) (s : State), portOpen s l →
    let reads := fun (i : Instr) (code : Byte) (r : Reply) =>
      ∃ t, exec i s = .next t ∧ Replies l code r s t ∧ OnlyPorts s t
    reads (.getStatus l []) 0x01 ⟨.ok, statusRecord s⟩ ∧ (statusRecord s).length = 14 ∧
    (let straps := s.start.straps
     statusRecord s =
      flagByte s.start.ready ++ bytes1 s.start.kind.number ++ bytes2 s.start.outage ++ flagByte s.start.resumed ++
        bytes1 s.meas.frequency.number ++
        bytes1
          ((if straps.supply = .plumbed then 1 else 0) + (if straps.probeFitted then 2 else 0) +
            (match straps.budget with | .w2990 => 0 | .w3450 => 4 | .w3680 => 8)) ++
        bytes4 (min (s.now / 1000000) 4294967295) ++ bytes1 s.ret.run.state.number ++ bytes2 s.ret.run.runId) ∧
    reads (.getSnapshot l []) 0x02 ⟨.ok, snapshotRecord s⟩ ∧ (snapshotRecord s).length = 33 ∧
    (let r := s.ret.run
     let on := fun (b : Bool) (k : Nat) => if b then k else 0
     snapshotRecord s =
      bytes1 r.state.number ++ bytes2 r.runId ++ (if r.known then bytes1 r.stageIndex else [0xFF]) ++
        bytes4
          (match r.state, r.duration with
            | .idle, _ => 0xFFFFFFFF | _, none => 0xFFFFFFFF | _, some d => d - r.elapsed) ++
        bytes1 (on r.causes.door 1 + on r.causes.water 2 + on r.causes.probe 4 + on r.causes.mains 8) ++
        bytes1 s.climate.state.number ++
        (match s.climate.record with
          | none => [0xFF, 0x80, 0] | some x => bytes1 x.mode.number ++ signedBytes2 x.setpoint) ++
        signedBytes2 s.meas.cavity ++ bytes1 s.meas.moisture.toNat ++ signedBytes2 s.meas.core ++
        flagByte s.meas.probePresent ++ bytes1 s.boiler.state.number ++ bytes1 s.water.path.number ++
        bytes1 s.scale.level.number ++ bytes1 s.ret.descale.phase.number ++ flagByte s.marker ++
        bytes2 ((s.events.faults.map (fun f => 2 ^ (f.number - 1))).sum) ++
        bytes1
          (on s.settings.childLock 1 + on s.prot.remotePermission 2 + on s.prot.serviceUnlock 4) ++
        bytes1 s.meas.frequency.number ++ bytes1 s.share.currentGrants.top ++ bytes1 s.share.currentGrants.bottom ++
        bytes1 s.share.currentGrants.ring ++ bytes1 s.share.currentGrants.grill ++
        bytes1 s.share.currentGrants.boiler) ∧
    (∀ r : LastRun, s.ret.lastRun = some r →
      reads (.getLastRun l []) 0x04
        ⟨.ok,
          flagByte true ++ bytes2 r.runId ++ bytes1 r.slot ++ bytes2 r.generation ++ bytes1 r.result.number ++
            optByte (r.fault.map FaultKind.number) ++ bytes1 r.finalStage ++ bytes4 r.runTime ++
            flagByte r.degradedAny ++ bytes4 r.steamUsed⟩) ∧
    (s.ret.lastRun = none →
      ∃ (t : State) (a b c d e f g h i : Byte), exec (.getLastRun l []) s = .next t ∧
        Replies l 0x04
          ⟨.ok,
            [0, a, b, 0xFF, c, d, 0xFF, 0xFF, 0xFF, 0xFF, 0xFF, 0xFF, 0xFF, e, f, g, h, i]⟩ s t ∧
        OnlyPorts { s with draws := s.draws + 1 } t) ∧
    (∀ n : Byte, n.toNat ≤ 3 → reads (.readSlot l [n]) 0x05 ⟨.ok, slotRecord (s.ret.slots.get n.toNat)⟩) ∧
    (∀ n : Byte, 3 < n.toNat → reads (.readSlot l [n]) 0x05 (Reply.bare .badArgument)) ∧
    (∀ (n : Byte) (v : Int), settingValue s.settings n.toNat = some v →
      reads (.readSetting l [n]) 0x06 ⟨.ok, bytes1 n.toNat ++ signedBytes4 v⟩) ∧
    (∀ n : Byte, n.toNat = 0 ∨ 20 < n.toNat → reads (.readSetting l [n]) 0x06 (Reply.bare .badArgument)) ∧
    reads (.readScale l []) 0x07 ⟨.ok, scaleRecord s⟩ ∧ (scaleRecord s).length = 24 ∧
    let d := s.ret.descale
    scaleRecord s =
      bytes4 s.scale.deposit ++ bytes4 s.settings.scaleLimit ++ bytes4 (s.settings.scaleLimit * 85 / 100) ++
        bytes1 s.scale.level.number ++ bytes2 s.settings.hardness ++ bytes1 d.phase.number ++
        optByte (d.step.map RinseStep.number) ++ bytes1 d.stall.number ++ bytes2 d.elapsed ++ bytes2 d.total ++
        flagByte s.marker ++ bytes1 d.result.number

/-! ## Events and faults over the links (R165, R168, R171) -/

/-- FETCH_EVENTS, SET_STEERING and CLEAR_FAULTS. FETCH_EVENTS leaves the queue in its order, without the entries of an
edge kind and the ENDED entries that it has returned, the HOLDING ones it has returned reported in their places, and
every other entry as it was (R168); an entry's eight bytes are those of the catalogue. A new set leaves the entries
that are queued as they are and in their places; a link that joins the set of a kind whose condition holds is given
the condition, by R166 with the argument of its latest raise (R165). The model's choice: a maximum above 8 is CLAMPED
also where nothing is unreported (notes/assumptions/54.md). DEDUCED: the results of SET_STEERING are the pairs without
a count (notes/assumptions/21.md), and the mask of CLEAR_FAULTS is taken after the removals (notes/assumptions/26.md).
After the removals the regulator leaves FAULT for OFF with a vent request for CLOSED when HEAT_RUNAWAY has gone (R43),
a STOPPED fan with a code above 0 starts at duty 400 when nothing holds it any longer (R73, R74), and the boiler
leaves DRY_FAULT by BOILER_LOW when neither BOILER_DRY nor LEVEL_SENSE remains (R105; also while CH3 runs or a descale
dose holds CH0: the model's choice, notes/assumptions/52.md). -/
def Obligations.EventCommands : Prop :=
  (∀ e : Entry,
    entryBytes e =
      bytes1 e.kind.number ++ bytes1 e.count ++ bytes4 e.time ++
        [match e.argument with | none => 0xFF | some a => a,
          match e.standing with | .edge => 0 | .holding => 1 | .ended => 2]) ∧
  ([EventKind.doorOpened, .doorClosed, .stageStarted, .tempReached, .coreReached, .confirmAwaited, .programPaused,
    .programResumed, .programEnded, .waterEmpty, .tankMissing, .trayFull, .probeInserted, .probeRemoved, .scaleDue,
    .scaleBlocked, .descalePrompt, .descaleEnded, .faultActive, .steamDegraded, .settingsChanged, .lockChanged,
    .resumedAfterDip, .cooldownEnded].map EventKind.number = (List.range 25).tail) ∧
  (∀ (l : Link) (m : Byte) (s : State), portOpen s l →
    (m.toNat = 0 → Refuses (.fetchEvents l [m]) l 0x03 .badArgument s) ∧
    (0 < m.toNat →
      ∃ (taken left : List Entry),
        exec (.fetchEvents l [m]) s =
          .next
            (answer l 0x03
              ⟨if 8 < m.toNat then .clamped else .ok,
                bytes1 taken.length ++ taken.flatMap entryBytes ++ bytes1 (unreported left).length⟩
              (setQueue l left (acceptFrame l s))) ∧
        taken = (unreported (s.events.queues.get l)).take (min m.toNat 8) ∧
        unreported left = (unreported (s.events.queues.get l)).drop (min m.toNat 8) ∧
        (∃ passed kept : List Entry, s.events.queues.get l = passed ++ kept ∧ unreported passed = taken ∧
          (kept = [] ∨ taken.length = min m.toNat 8) ∧
          left =
            passed.flatMap (fun e =>
              if e.reported then [e]
              else
                match e.standing with
                | .edge => []
                | .holding => [{ e with reported := true }]
                | .ended => []) ++ kept) ∧
        (∀ e ∈ s.events.queues.get l, e.reported = true → e ∈ left) ∧
        (∀ e ∈ taken, e.standing = .holding → { e with reported := true } ∈ left))) ∧
  (∀ (l : Link) (n : Byte) (rest : List Byte) (pairs : List (Nat × Nat)) (s : State),
    parsePairs n.toNat rest = some pairs → Reaches l 0x34 (n :: rest) s →
      let i := Instr.setSteering l (n :: rest)
      let bad := pairs = [] ∨ 24 < pairs.length ∨ pairs.any badPair = true ∨ namedTwice pairs = true
      (bad → Refuses i l 0x34 .badArgument s) ∧
      (¬bad → s.events.steering.length = 24 →
        ∃ u, exec i s = .next (answer l 0x34 ⟨.ok, pairs.flatMap (pairBytes u)⟩ u) ∧
          u = { acceptFrame l s with events := u.events } ∧ u.events.faults = s.events.faults ∧
          u.events.conditions = s.events.conditions ∧
          (∀ p ∈ pairs, ∀ k : EventKind, EventKind.ofNumber p.1 = some k →
            steeringOf u.events.steering k = linkSetOfMask p.2) ∧
          (∀ k : EventKind, (∀ p ∈ pairs, p.1 ≠ k.number) →
            steeringOf u.events.steering k = steeringOf s.events.steering k) ∧
          ∀ q : Link,
            let before := s.events.queues.get q
            let after := u.events.queues.get q
            let joins := fun k : EventKind => (steeringOf s.events.steering k).get q = false ∧
              (steeringOf u.events.steering k).get q = true ∧ conditionHolds k s = true
            (∀ (k : EventKind) (c : Condition), joins k →
              s.events.conditions.find? (fun c => decide (c.kind = k)) = some c →
                after.filter (fun e => decide (e.kind = k)) =
                  placeEntry k c.argument (seconds s) (before.filter (fun e => decide (e.kind = k)))) ∧
            (∀ k : EventKind, ¬joins k →
              after.filter (fun e => decide (e.kind = k)) = before.filter (fun e => decide (e.kind = k))) ∧
            ((∀ k : EventKind, ¬joins k) → after = before) ∧
            ∃ added : List EventKind, after.map Entry.kind = before.map Entry.kind ++ added)) ∧
  (∀ v : State,
    let u := leaveDryFault (startFan (leaveClimateFault v))
    let cools := v.climate.state = .fault ∧ hasFault .heatRunaway v = false
    let starts := v.out.fan.phase = .stopped ∧ 0 < v.out.fan.code ∧ doorOpen v = false ∧ hasFault .fanStall v = false
    let leaves := v.boiler.state = .dryFault ∧ hasFault .boilerDry v = false ∧ hasFault .levelSense v = false
    (cools → u.climate = { v.climate with state := .off, relayAsk := false } ∧ u.out.fan.code = 0 ∧
      (v.out.fan.phase = .running → u.out.fan.phase = .stopped ∧ u.out.fan.duty = 0) ∧
      (v.out.fan.phase ≠ .running → u.out.fan = { v.out.fan with code := 0 }) ∧
      u.out.vent.state.isFor .closed = true ∧ VentAsked .closed v u) ∧
    (¬cools → u.climate = v.climate ∧ u.out.vent = v.out.vent ∧
      u.out.fan = if starts then { v.out.fan with duty := 400, phase := .running, stallTimer := 0 } else v.out.fan) ∧
    (leaves → u.boiler.state = if lowCovered v then .heating else .empty) ∧
    (¬leaves → u.boiler = v.boiler) ∧
    ∀ f : FaultKind, f ≠ .ventStuck → (f ∈ u.events.faults ↔ f ∈ v.events.faults)) ∧
  ∀ (l : Link) (s : State), Reaches l 0x35 [] s →
    ∃ v, exec (.clearFaults l []) s =
        .next (answer l 0x35 ⟨.ok, bytes2 (faultMask v)⟩ (settle (leaveDryFault (startFan (leaveClimateFault v))))) ∧
      v = { acceptFrame l s with events := v.events } ∧
      v.events.faults =
        s.events.faults.filter (fun f =>
          !(match f with
            | .thermalCutout => !cutoutOpen s
            | .heatRunaway => decide (s.meas.cavity < 2500)
            | .boilerDry => decide (s.meas.boiler < 1000)
            | .fanStall => true
            | .levelSense => true
            | _ => false))

/-! ## Settings and the store (R48, R110, R114, R191, R195 to R197) -/

/-- WRITE_SETTING and SCALE_RESET: the settings by their numbers (R191) and their ranges (R3, R48, R100, R110, R195),
a number that names none, which is BAD_ARGUMENT before any lock; the stored value lies in the setting's range,
SETTINGS_CHANGED is raised with the number and a commit asked for; SCALE_RESET clears deposit and carry and asks for a
commit. -/
def Obligations.SettingsAreWritten : Prop :=
  (∀ p : Straps,
    let watts : Int := match p.budget with | .w2990 => 2990 | .w3450 => 3450 | .w3680 => 3680
    [1, 2, 3, 4, 5, 6, 7, 8, 9, 10, 11, 12, 13, 14, 15, 16, 17, 18, 19].map (settingRange p) =
      [(0, 600), (500, 6000), (5000, 100000), (0, 600), (1500, watts), (100, 400), (200, 3000), (200, 3000),
        (200, 3000), (200, 3000), (200, 3000), (-100, 100), (-100, 100), (-100, 100), (-100, 100), (-100, 100),
        (-100, 100), (-100, 100), (300, 900)]) ∧
  (∀ x : Settings,
    [1, 2, 3, 4, 5, 6, 7, 8, 9, 10, 11, 12, 13, 14, 15, 16, 17, 18, 19].map (settingValue x) =
      [some (x.hardness : Int), some (x.flowConstant : Int), some (x.scaleLimit : Int), some (x.resumeLimit : Int),
        some (x.budgetOverride : Int), some (x.reserve : Int), some (x.ratings.top : Int),
        some (x.ratings.bottom : Int), some (x.ratings.ring : Int), some (x.ratings.grill : Int),
        some (x.ratings.boiler : Int), some x.offsets.cavityUpper, some x.offsets.cavityLower,
        some x.offsets.boiler, some x.offsets.coreA, some x.offsets.coreB, some x.offsets.coreC,
        some x.offsets.moisture, some (x.fillVolume : Int)]) ∧
  (∀ (l : Link) (n v3 v2 v1 v0 : Byte) (s : State), portOpen s l → s.start.ready = true →
    n.toNat = 0 ∨ 19 < n.toNat → Refuses (.writeSetting l [n, v3, v2, v1, v0]) l 0x30 .badArgument s) ∧
  (∀ (l : Link) (n v3 v2 v1 v0 : Byte) (s : State), Reaches l 0x30 [n, v3, v2, v1, v0] s → 1 ≤ n.toNat →
    n.toNat ≤ 19 →
      let value := signed4 (number4 v3 v2 v1 v0)
      let range := settingRange s.start.straps n.toNat
      let stored := if n.toNat = 5 ∧ value = 0 then 0 else max range.1 (min value range.2)
      ∃ u, exec (.writeSetting l [n, v3, v2, v1, v0]) s =
          .next
            (answer l 0x30
              ⟨if stored = value then .ok else .clamped, bytes1 n.toNat ++ signedBytes4 stored⟩ (settle u)) ∧
        settingValue u.settings n.toNat = some stored ∧
        (∀ k : Nat, k ≠ n.toNat → settingValue u.settings k = settingValue s.settings k) ∧
        (∀ k : Link, (steeringOf s.events.steering .settingsChanged).get k = true →
          ∃ e ∈ u.events.queues.get k, e.kind = .settingsChanged ∧ e.argument = some n ∧ e.reported = false) ∧
        u.store.asked = true ∧ (n.toNat = 1 ∨ n.toNat = 2 → u.scale.carry = 0) ∧
        (n.toNat = 2 → u.ret.run.steamRemainder = 0) ∧ u.scale.deposit = s.scale.deposit ∧
        (n.toNat = 3 → u.scale.level = levelOf s.scale.deposit u.settings.scaleLimit) ∧
        u.share = s.share ∧ u.marker = s.marker ∧
        Steady { acceptFrame l s with settings := u.settings } u) ∧
  ∀ (l : Link) (s : State), Reaches l 0x40 [] s →
    ∃ u, exec (.scaleReset l []) s = .next (answer l 0x40 (Reply.bare .ok) (settle u)) ∧ Steady (acceptFrame l s) u ∧
      u.scale = { deposit := 0, carry := 0, level := levelOf 0 s.settings.scaleLimit } ∧ u.store.asked = true ∧
      u.settings = s.settings ∧ u.ret = s.ret ∧ u.marker = s.marker

/-- R196: that the requests of one step are one request is the model's choice (notes/assumptions/34.md); in IDLE it
begins a commit with the settings, the account, the agent marker and the run summary of that moment, in WRITING it
sets the follow-up mark and leaves the write alone. COMMIT_END (R196, R197): a record that reads back as written
becomes the verified one and ends STORE_WRITE; another is discarded and raises STORE_WRITE; the follow-up mark begins
a new write with the contents of that moment. A row that is not due changes nothing (the model's choice,
notes/assumptions/7.md). -/
def Obligations.CommitsAreServedAndEnd : Prop :=
  (∀ s : State, s.store.asked = true → s.store.writing = none →
    flushCommit s =
      { s with
        store := { s.store with
          asked := false
          writing := some
            { settings := s.settings, deposit := s.scale.deposit, carry := s.scale.carry, marker := s.marker
              summary :=
                { runId := s.ret.run.runId
                  opened :=
                    if s.ret.run.state = .idle then none
                    else some
                      { slot := s.ret.run.slot, generation := s.ret.run.generation
                        stageIndex := s.ret.run.stageIndex, runTime := s.ret.run.runTime
                        steamUsed := s.ret.run.steamUsed, degradedAny := s.ret.run.degradedAny } } } } }) ∧
  (∀ (s : State) (r : StoreRecord), s.store.asked = true → s.store.writing = some r →
    flushCommit s = { s with store := { s.store with asked := false, followUp := true } }) ∧
  (∀ s : State, s.store.asked = false → flushCommit s = s) ∧
  (∀ s : State, (settle s).store.asked = false) ∧
  (∀ (good : Bool) (s : State), s.store.writing = none → exec (.commitEnd good) s = .next s) ∧
  ∀ (good : Bool) (s : State) (r : StoreRecord), s.store.writing = some r →
    ∃ t, exec (.commitEnd good) s = .next t ∧
      t.store =
        { s.store with
          verified := if good then some r else s.store.verified
          writing := if s.store.followUp then some (recordOf s) else none
          followUp := false } ∧
      (hasFault .storeWrite t = true ↔ good = false) ∧
      (∀ f : FaultKind, f ≠ .storeWrite → (f ∈ t.events.faults ↔ f ∈ s.events.faults)) ∧
      t = { s with store := t.store, events := t.events }

/-! ## Reset and start-up (R19, R22, R61, R108, R159, R160, R162, R172, R173, R192 to R195, R198) -/

/-- RESET: the kind and the outage, the latched straps, the loaded record, retained memory as found or at its COLD
values, and every volatile unit at its value after reset, each written out (R19, R22, R61, R69, R82, R108, R165, R173,
R192); a store that holds no verified record gives the defaults of R195; the event queues hold the level conditions
that the first readings and the loaded record raise, and nothing else (R172). The model's choice: a line keeps the
bytes that have not ended yet, which are the sender's (notes/assumptions/58.md); the values that R19 leaves open, of a
shadow filter that is not loaded and of the count of accepted flow pulses (notes/assumptions/49.md, 50.md); and what
the end of a reset finds are the operands of RESET, the time that the reset lasted among them, which adds to the
outage timer (notes/assumptions/41.md). The queue of commands that wait stays as it is, also the model's choice
(notes/assumptions/33.md), and the one-second and 200 ms ticks begin with the end of the reset
(notes/assumptions/10.md). DEDUCED: the step of a reset asks for no commit (notes/assumptions/44.md), DESCALE_PROMPT
is raised at the reset where the retained phase or stall has its condition hold (notes/assumptions/27.md), and the
first sample period is due at once (notes/assumptions/48.md). -/
def Obligations.ResetSetsThePart : Prop :=
  ∀ (cause : ResetCause) (s : State),
    let latched := s.start.latch = true ∧ cause.holdUpExhausted = false
    let kind := if latched then (if cause.supplyFell then ResetKind.dip else .line) else .cold
    let record : StoreRecord := s.store.verified.getD
      { settings :=
          { hardness := 180, flowConstant := 2000, scaleLimit := 30000, resumeLimit := 120, budgetOverride := 0
            reserve := 150, ratings := ⟨1100, 1000, 2000, 2000, 1800⟩, offsets := ⟨0, 0, 0, 0, 0, 0, 0⟩
            fillVolume := 650, childLock := false }
        deposit := 0, carry := 0, marker := false, summary := ⟨0, none⟩ }
    let strap : Nat := match cause.straps.budget with | .w2990 => 2990 | .w3450 => 3450 | .w3680 => 3680
    let settings : Settings := { record.settings with budgetOverride := min record.settings.budgetOverride strap }
    let budget := if settings.budgetOverride = 0 then strap else settings.budgetOverride
    let limits : Limits :=
      { budget := budget, reserve := settings.reserve, headroom := budget - settings.reserve
        ratings := settings.ratings }
    let level :=
      if settings.scaleLimit ≤ record.deposit then ScaleLevel.blocked
      else if settings.scaleLimit * 85 / 100 ≤ record.deposit then .due
      else .normal
    let sensor := fun bottom : Int =>
      ({ count := 0, state := .ok, value := bottom, loaded := false, bad := 0, good := 0, shadow := bottom
         shadowLoaded := false } : SampleChannel)
    let relay : Relay := { state := .opened, askClosed := false, timer := 0, recovering := true }
    let heat : HeatChannel := ⟨⟨0, 0⟩, ⟨0, 0⟩, false⟩
    let slot : Slot := { state := .empty, generation := 0, link := none, label := [], stages := [] }
    let cold : Retained :=
      { slots := ⟨slot, slot, slot, slot⟩
        run :=
          { state := .idle, runId := record.summary.runId, known := false, slot := 0, generation := 0, stageIndex := 0
            elapsed := 0, duration := none, adjSetpoint := none, adjMoisture := none, tempReached := false
            moistReached := false, coreReached := false, degraded := false, causes := ⟨false, false, false, false⟩
            doorTimer := 0, waterTimer := 0, deferredBurst := none, steamLost := false, degradedAny := false
            steamUsed := 0, steamRemainder := 0, runTime := 0 }
        lastRun := none
        descale :=
          { phase := .idle, step := none, stall := .none, elapsed := 0, total := 0, aborted := false, result := .none } }
    let phase := if latched ∧ cause.checkAgrees = true then s.ret.descale.phase else .idle
    let stall := if latched ∧ cause.checkAgrees = true then s.ret.descale.stall else .none
    let raised := fun (k : EventKind) (argument : Option Byte) =>
      match k with
      | .faultActive => s.inputs.thermalCutout.raw = true ∧ argument = some 1
      | .trayFull => s.inputs.trayFull.raw = true ∧ argument = none
      | .tankMissing => (cause.straps.supply = .tank ∨ phase ≠ .idle) ∧ s.inputs.tankPresent.raw = false ∧
          argument = none
      | .scaleDue => level = .due ∧ argument = some 1
      | .scaleBlocked => level = .blocked ∧ argument = some 2
      | .descalePrompt => (phase = .awaitAgent ∨ phase = .awaitRinse ∨ stall ≠ .none) ∧
          argument = numberArg phase.number
      | _ => False
    ∃ t, exec (.reset cause) s = .next t ∧
      t.start.kind = kind ∧
      t.start.outage = (if kind = .dip then min 65535 ((s.start.outageTimer + cause.held) / 1000000) else 0) ∧
      t.start.ready = false ∧ t.start.resumed = false ∧ t.start.straps = cause.straps ∧ t.start.latch = true ∧
      t.start.outageTimer = 0 ∧ t.start.summary = record.summary ∧
      t.ret =
        (if latched ∧ cause.checkAgrees = true then s.ret else cold) ∧
      t.settings = settings ∧ t.scale.deposit = record.deposit ∧ t.scale.carry = record.carry ∧
      t.scale.level = level ∧ t.marker = record.marker ∧
      t.store = { verified := s.store.verified, writing := none, followUp := false, asked := false } ∧
      t.now = 0 ∧
      t.meas =
        { sampleClock := 100000
          chans :=
            ⟨sensor (-400), sensor (-400), sensor (-400), sensor (-400), sensor (-400), sensor (-400), sensor 0⟩
          runsA := ⟨0, 0⟩, runsB := ⟨0, 0⟩, runsC := ⟨0, 0⟩, cavity := -400, boiler := -400, moisture := 0
          core := -400, probePresent := false, speed := 0, tachoSeen := false, tachoAge := 0
          frequency := .undecided, mainsPresent := false, groupSum := 0, groupCount := 0, edgeSeen := false
          edgeMeasures := false, edgeAge := 0, frequencyWaitOver := false, pulseSeen := false, pulseAge := 0
          pulseCount := 0 } ∧
      t.climate =
        { state := .off, record := none, iacc := 0, tempReached := false, moistReached := false, direction := .up
          returnState := none, steamWithheld := false, shortfall := ⟨0, 0, 0, 0⟩, runaway := 0, runawayArmed := false
          reversal := 0, coolingFan := false, relayAsk := false } ∧
      t.share =
        { demands := ⟨0, 0, 0, 0, 0⟩, prepared := limits, window := limits, claim := none
          preparedGrants := ⟨0, 0, 0, 0, 0⟩, currentGrants := ⟨0, 0, 0, 0, 0⟩
          marks := ⟨false, false, false, false, false⟩, allocation := none } ∧
      t.water =
        { path := .free, settleTimer := 0, noFlowTimer := 0, drainClock := 0
          chans := ⟨⟨.idle, none⟩, ⟨.idle, none⟩, ⟨.idle, none⟩, ⟨.idle, none⟩⟩ } ∧
      t.boiler =
        { state := .empty, derived := false, drainPending := false, fillHeld := false, topUpHeld := false
          wasNeeded := false, heatUp := 0, shortfall := 0, steamRequest := 0, soakTarget := false } ∧
      t.out =
        { halfCycle := none, heat := ⟨heat, heat, heat, heat, heat⟩, heaterRelay := relay, fanRelay := relay
          fan := { code := 0, duty := 0, phase := .stopped, stallTimer := 0, slowTimer := 0, tickClock := 0 }
          vent := t.out.vent, lampShot := none, forces := [], pulse := none } ∧
      t.out.vent =
        { state := if s.inputs.ventClosedEnd.raw then .closed else .closing, target := .closed, travel := 0 } ∧
      t.prot = { remotePermission := false, serviceUnlock := false, silence := 0 } ∧
      t.events.steering.length = 24 ∧
      (∀ k : EventKind, steeringOf t.events.steering k =
        ⟨true, true, decide (k = .faultActive ∨ k = .settingsChanged)⟩) ∧
      (t.start.retentionValid = true ↔ latched ∧ cause.checkAgrees = true) ∧
      t.seq = { tickClock := 0, waterCondition := false } ∧ t.pending = s.pending ∧
      (∀ c : Condition, c ∈ t.events.conditions ↔ raised c.kind c.argument) ∧
      (t.events.conditions.map Condition.kind).Nodup ∧
      (∀ l : Link, ((t.events.queues.get l).map Entry.kind).Nodup ∧
        ∀ e : Entry, e ∈ t.events.queues.get l ↔
          (l = .service → e.kind = .faultActive ∨ e.kind = .settingsChanged) ∧ raised e.kind e.argument ∧
            e.count = 1 ∧ e.time = 0 ∧ e.reported = false ∧ e.standing = .holding) ∧
      t.work = { dose := none, drain := false, faulted := 0 } ∧
      (∀ l : Link, port t l =
        { state := .idle, overrun := false, discard := true, quiet := 0
          line := laterBytes ((port s l).quiet + cause.held) (port s l).line, reply := [], sending := 0 }) ∧
      t.events.faults = (if s.inputs.thermalCutout.raw then [.thermalCutout] else []) ∧
      (∀ i : Input, i ≠ .inletPressure → t.inputs.get i = ⟨(s.inputs.get i).raw, (s.inputs.get i).raw, 0⟩) ∧
      (cause.straps.supply = .plumbed →
        t.inputs.inletPressure = ⟨s.inputs.inletPressure.raw, s.inputs.inletPressure.raw, 0⟩) ∧
      (cause.straps.supply = .tank → t.inputs.inletPressure = ⟨s.inputs.inletPressure.raw, false, 0⟩) ∧
      ∀ (n g : Nat) (rest : List Nat), laterBytes n [] = [] ∧ (n < g → laterBytes n (g :: rest) = (g - n) :: rest) ∧
        (g ≤ n → laterBytes n (g :: rest) = laterBytes (n - g) rest)

/-- STARTING_END (R198): the three conditions together end the STARTING state; the run is settled (R159, R160), then
the descale recovered (R129), and the part is READY. A resume raises RESUMED_AFTER_DIP, and PROGRAM_PAUSED where a
cause is present, keeps the timer of a cause that stays, derives PROBE and WATER afresh, clears drain-pending for a
program that uses steam, and requests a deferred burst with the door closed; a lost run leaves its slot LOADED and
raises PROGRAM_ENDED. A run that resumes meets the fault checks of R150 and R151 before the regulator is written: a
fatal fault ends it with the result FAULT, and a water or boiler fault sets steam lost and degrades its stage
(DEDUCED, notes/assumptions/56.md). With the door closed the resume write takes the retained record to HOLD or PREHEAT
by its saved mark, and with the door open to PAUSED (R24). The descale is recovered by the agent marker (R129): with
the marker set the phase is DRAIN_AGENT with its drain loaded or awaited (R121), with the abort credit after DRAW or
SOAK, with the aborted mark as retained after the drain or a rinse, and with the mark set and no credit where
retention is not valid or the retained phase is any other; with the marker clear the phase is IDLE, without credit or
event. DEDUCED: CONFIRM_AWAITED is raised anew for a resumed stage that ends by CONFIRM (notes/assumptions/27.md), the
recovery leaves neither stall nor rinse step (notes/assumptions/28.md), and the boiler is DRAINING from the load of
the drain on (notes/assumptions/37.md). A row that is not due changes nothing (the model's choice,
notes/assumptions/7.md). -/
def Obligations.StartingEnds : Prop :=
  (∀ s : State,
    let c := s.meas.chans
    startingEndDue s = true ↔
      s.start.ready = false ∧ (s.meas.frequency ≠ .undecided ∨ s.meas.frequencyWaitOver = true) ∧
        s.boiler.derived = true ∧ c.cavityUpper.count = 10 ∧ c.cavityLower.count = 10 ∧ c.boiler.count = 10 ∧
        c.moisture.count = 10 ∧
        (s.start.straps.probeFitted = true → c.coreA.count = 10 ∧ c.coreB.count = 10 ∧ c.coreC.count = 10)) ∧
  (∀ s : State, startingEndDue s = false → exec .startingEnd s = .next s) ∧
  ∀ s : State, s.start.ready = false → s.meas.frequency ≠ .undecided ∨ s.meas.frequencyWaitOver = true →
    allCounted s = true → s.boiler.derived = true → (∀ c : Chan, holdsDose s c = false) →
      let d := s.ret.descale
      let r := s.ret.run
      ∃ u, exec .startingEnd s = .next (settle u) ∧ Steady { s with start := u.start } u ∧ u.start.ready = true ∧
        (s.start.retentionValid = false →
          u.ret.run = s.ret.run ∧ u.start.resumed = s.start.resumed ∧
            (∀ o : OpenRun, s.start.summary.opened = some o →
              RaisedTo .programEnded (some (BitVec.ofNat 8 o.stageIndex)) s u ∧ u.store.asked = true ∧ u.ret.lastRun =
                some
                  { runId := s.start.summary.runId, slot := o.slot, generation := o.generation, result := .powerLoss
                    fault := none, finalStage := o.stageIndex, runTime := o.runTime, degradedAny := o.degradedAny
                    steamUsed := o.steamUsed })) ∧
        (s.start.retentionValid = true → r.state = .idle → u.ret.run = r ∧ u.start.resumed = s.start.resumed) ∧
        (s.start.retentionValid = true → r.state ≠ .idle →
          let resumes := s.start.outage ≤ s.settings.resumeLimit ∧ (s.ret.slots.get r.slot).state = .inUse ∧
            (s.ret.slots.get r.slot).generation = r.generation ∧ s.marker = false
          let st := currentStage s
          let record := (completeRecord
            { mode := st.mode, setpoint := r.adjSetpoint.getD st.setpoint
              moisture := if r.adjMoisture.isSome then r.adjMoisture else st.moisture
              fanCode := st.fanCode, policy := st.policy }).1
          let w := if r.tempReached then WorkingState.hold else .preheat
          let source := if s.start.straps.supply = .tank then Source.tank else .inlet
          let dry := (st.mode = .steam ∨ st.mode = .combi ∨ st.mode = .proof) ∧ r.degraded = false ∧
            sourceLow source s = true
          let resumed := fun u : State =>
            u.climate.record = some record ∧ u.climate.iacc = 0 ∧ u.climate.tempReached = r.tempReached ∧
              u.climate.moistReached = r.moistReached ∧ u.climate.runaway = 0 ∧
              u.climate.runawayArmed = r.tempReached ∧
              (r.tempReached = false →
                u.climate.direction = if s.meas.cavity ≤ record.setpoint then .up else .down) ∧
              (doorOpen s = true → u.climate.state = .paused ∧ u.climate.returnState = some w ∧
                u.climate.relayAsk = false ∧ u.out.fan.code = 0) ∧
              (doorOpen s = false → u.climate.state = w.state ∧ u.climate.relayAsk = true ∧
                u.out.fan.code = record.fanCode) ∧
              (u.ret.run.causes.water = true ∨ u.ret.run.degraded = true → u.climate.steamWithheld = true)
          (resumes → ∀ f : FaultKind, fatalFault s = some f →
            u.start.resumed = true ∧ u.ret.run.state = .idle ∧ u.store.asked = true ∧
              (u.ret.slots.get r.slot).state = .loaded ∧
              RaisedTo .programEnded (some (BitVec.ofNat 8 r.stageIndex)) s u ∧
              ∃ last, u.ret.lastRun = some last ∧ last.result = .fault ∧ last.fault = some f ∧
                last.runId = r.runId ∧ last.finalStage = r.stageIndex ∧ last.runTime = r.runTime) ∧
          (resumes → fatalFault s = none → steamFault s = true → r.steamLost = false →
            u.start.resumed = true ∧ u.ret.run.runId = r.runId ∧ RaisedTo .resumedAfterDip (stageArg s) s u ∧
              (u.ret.run.state ≠ .idle → programUsesSteam (runStages s) = true → u.boiler.drainPending = false) ∧
              (u.ret.run.state = .idle ∨
                (u.ret.run.steamLost = true ∧ (u.ret.run.stageIndex = r.stageIndex →
                  ((currentStage s).usesSteam = true → u.ret.run.degraded = true) ∧
                    (s.climate.state = .off → resumed u))))) ∧
          (resumes → fatalFault s = none → steamFault s = false ∨ r.steamLost = true →
            u.start.resumed = true ∧ u.ret.run.state ≠ .idle ∧ u.ret.run.runId = r.runId ∧
              u.ret.run.stageIndex = r.stageIndex ∧ u.ret.run.elapsed = r.elapsed ∧
              u.ret.run.duration = r.duration ∧ u.ret.run.runTime = r.runTime ∧
              (u.ret.run.causes.door = true ↔ doorOpen s = true) ∧
              (u.ret.run.causes.mains = true ↔ s.meas.mainsPresent = false) ∧
              (u.ret.run.causes.probe = true ↔ st.ending = .core ∧ s.meas.probePresent = false) ∧
              (u.ret.run.causes.water = true ↔ WaterWanting u) ∧
              u.ret.run =
                { r with
                  state := if u.ret.run.causes = Causes.none then .running else .paused
                  causes := u.ret.run.causes
                  doorTimer := if r.causes.door = true ∧ doorOpen s = true then r.doorTimer else 0
                  waterTimer := if r.causes.water = true ∧ dry then r.waterTimer else 0
                  deferredBurst := if doorOpen s = true then r.deferredBurst else none } ∧
              RaisedTo .resumedAfterDip (stageArg s) s u ∧
              (u.ret.run.causes ≠ Causes.none → RaisedTo .programPaused (stageArg s) s u) ∧
              (st.ending = .confirm → RaisedTo .confirmAwaited (stageArg s) s u) ∧
              (∀ ml : Nat, r.deferredBurst = some ml → doorOpen s = false → BurstAsked ml s u) ∧
              (programUsesSteam (runStages s) = true → u.boiler.drainPending = false) ∧
              (s.climate.state = .off → resumed u)) ∧
          (¬resumes →
            u.ret.run.state = .idle ∧ u.start.resumed = s.start.resumed ∧ u.store.asked = true ∧
              ((s.ret.slots.get r.slot).state = .inUse →
                u.ret.slots.get r.slot = { s.ret.slots.get r.slot with state := .loaded }) ∧
              RaisedTo .programEnded (some (BitVec.ofNat 8 r.stageIndex)) s u ∧
              u.ret.lastRun =
                some
                  { runId := r.runId, slot := r.slot, generation := r.generation, result := .powerLoss, fault := none
                    finalStage := r.stageIndex, runTime := r.runTime, degradedAny := r.degradedAny
                    steamUsed := r.steamUsed })) ∧
        (s.marker = true →
          let soaks := s.start.retentionValid = true ∧ (d.phase = .draw ∨ d.phase = .soak)
          let rinses := s.start.retentionValid = true ∧
            (d.phase = .drainAgent ∨ d.phase = .awaitRinse ∨ d.phase = .rinse1 ∨ d.phase = .rinse2)
          let drains := s.start.straps.supply = .tank → tankPresent s = true
          u.marker = true ∧
            u.ret.descale =
              { d with
                phase := .drainAgent, step := none, stall := .none, aborted := if rinses then d.aborted else true } ∧
            (soaks → u.store.asked = true ∧ u.scale.carry = s.scale.carry ∧
              u.scale.deposit = s.scale.deposit - s.scale.deposit * d.elapsed / d.total ∧
              u.scale.level = levelOf u.scale.deposit s.settings.scaleLimit) ∧
            (¬soaks → u.scale = s.scale) ∧
            (drains → u.work.drain = false ∧ u.boiler.drainPending = false ∧
              u.boiler.state = (if s.boiler.state = .dryFault then .dryFault else .draining) ∧
              chan u .ch3 =
                ⟨if serviceHold s then .requesting else .running,
                  some
                    { mode := .block, destination := .out, source := none, base := 45, remaining := 45, delivered := 0
                      charged := 0, reload := false, requester := .descale, portion := 0, portionLeft := 0 }⟩) ∧
            (¬drains → u.work.drain = true ∧ chan u .ch3 = chan s .ch3)) ∧
        (s.marker = false → u.marker = false ∧ u.ret.descale.phase = .idle ∧ u.scale = s.scale ∧
          (d.phase = .idle → u.ret.descale = d) ∧
          (d.phase ≠ .idle → u.ret.descale.result = .aborted) ∧
          ∀ (l : Link) (e : Entry), e ∈ u.events.queues.get l → e.kind = .descaleEnded → e ∈ s.events.queues.get l)
end

