-- ==== Sys2Proof/Laws/Charges.lean ====
section
/-! SUPPORT. What a charging point does (R96, R109, R140): the account's charge, the count of steam, and a channel that
passes its uncharged pulses. -/

namespace Sys2Proof.Machine

/-- Following a condition touches the events alone. -/
theorem followCondition_eq (k : EventKind) (arg : Option Byte) (b : Bool) (s : State) :
    ∃ e, followCondition k arg b s = { s with events := e } := by
  unfold followCondition raiseEvent endCondition
  split
  · exact ⟨_, rfl⟩
  · split <;> exact ⟨_, rfl⟩

/-- The account's level follows its deposit; the events and the commit that a change asks for are all else it touches. -/
theorem evaluateLevel_eq (s : State) :
    ∃ e st, evaluateLevel s =
      { s with
        scale := { s.scale with level := levelOf s.scale.deposit s.settings.scaleLimit }, events := e, store := st } := by
  unfold evaluateLevel
  dsimp only
  split
  · next h => exact ⟨s.events, s.store, by rw [h]⟩
  · unfold followLevel askCommit
    obtain ⟨e, he⟩ := followCondition_eq .scaleDue
      (numberArg (levelOf s.scale.deposit s.settings.scaleLimit).number)
      (decide (levelOf s.scale.deposit s.settings.scaleLimit = .due))
      { s with scale := { s.scale with level := levelOf s.scale.deposit s.settings.scaleLimit } }
    obtain ⟨e', he'⟩ := followCondition_eq .scaleBlocked
      (numberArg (levelOf s.scale.deposit s.settings.scaleLimit).number)
      (decide (levelOf s.scale.deposit s.settings.scaleLimit = .blocked))
      { s with scale := { s.scale with level := levelOf s.scale.deposit s.settings.scaleLimit }, events := e }
    exact ⟨e', { s.store with asked := true }, by dsimp only at he he' ⊢; rw [he, he']⟩

/-- The account after a charge, in figures (R109, R111). -/
theorem chargeAccount_scale (p : Nat) (d : Destination) (s : State) :
    (chargeAccount p d s).scale =
      (let x := s.scale.carry + p * s.settings.hardness * chargeFactor d
       let deposit := min (s.scale.deposit + x / (s.settings.flowConstant * 1000)) 9999999
       { deposit := deposit, carry := x % (s.settings.flowConstant * 1000)
         level := levelOf deposit s.settings.scaleLimit }) := by
  unfold chargeAccount
  dsimp only
  generalize hx : State.mk _ _ _ _ _ _ _ _ _ _ _ _ _ _ _ _ _ _ _ _ _ _ = x
  obtain ⟨e, st, h⟩ := evaluateLevel_eq x
  rw [h, ← hx]

/-- A charge leaves the run and the settings alone. -/
theorem chargeAccount_ret (p : Nat) (d : Destination) (s : State) :
    (chargeAccount p d s).ret = s.ret ∧ (chargeAccount p d s).settings = s.settings ∧
      (chargeAccount p d s).start = s.start ∧ (chargeAccount p d s).water = s.water := by
  unfold chargeAccount
  dsimp only
  generalize hx : State.mk _ _ _ _ _ _ _ _ _ _ _ _ _ _ _ _ _ _ _ _ _ _ = x
  obtain ⟨e, st, h⟩ := evaluateLevel_eq x
  rw [h, ← hx]
  exact ⟨rfl, rfl, rfl, rfl⟩

/-- The count of steam touches the run context alone. -/
theorem countSteam_eq (p : Nat) (s : State) :
    countSteam p s = { s with ret := { s.ret with run := (countSteam p s).ret.run } } := by
  unfold countSteam setRun
  split <;> rfl

/-- The count of steam reads the part state, the run and the settings alone. -/
theorem countSteam_run (p : Nat) {s t : State} (hr : t.ret = s.ret) (hs : t.settings = s.settings) (ht : t.start = s.start) :
    (countSteam p t).ret.run = (countSteam p s).ret.run := by
  unfold countSteam runActive setRun
  rw [hr, hs, ht]
  split
  · rfl
  · exact congrArg Retained.run hr

/-- A channel that passes its pulses hands on what its dose has delivered since it was charged, and is charged with all
it has delivered (R96). -/
theorem passPulses_handsOn {c : Chan} {d : Dose} {s : State} (h : (chan s c).dose = some d) :
    HandsOn (d.delivered - d.charged) d s (passPulses c s) ∧
      (passPulses c s).water = (setDose c { d with charged := d.delivered } s).water := by
  unfold passPulses
  rw [h]
  dsimp only
  have same : (setDose c { d with charged := d.delivered } s).ret = s.ret := rfl
  by_cases hf : d.mode = .flush
  · have he : d.effective = .drainLine := by unfold Dose.effective; rw [if_pos hf]
    rw [he, if_neg (by decide)]
    exact ⟨⟨fun x => absurd hf x.1, fun _ => ⟨rfl, rfl, rfl⟩⟩, rfl⟩
  · have he : d.effective = d.destination := by unfold Dose.effective; rw [if_neg hf]
    rw [he]
    by_cases hd : d.destination = .boiler ∨ d.destination = .nozzle
    · rw [if_pos hd]
      unfold chargeDelivered
      obtain ⟨hr, hs, ht, hw⟩ := chargeAccount_ret (d.delivered - d.charged) d.destination
        (setDose c { d with charged := d.delivered } s)
      have hrun := countSteam_run (s := s) (d.delivered - d.charged) hr hs ht
      refine ⟨⟨fun _ => ⟨?_, congrArg RunContext.steamUsed hrun, congrArg RunContext.steamRemainder hrun⟩,
        fun x => absurd ⟨hf, hd⟩ x⟩, ?_⟩
      · rw [countSteam_eq]
        exact (chargeAccount_scale _ _ _).trans (chargeAccount_scale _ _ s).symm
      · rw [countSteam_eq]
        exact hw
    · rw [if_neg hd]
      exact ⟨⟨fun x => absurd x.2 hd, fun _ => ⟨rfl, rfl, rfl⟩⟩, rfl⟩

end Sys2Proof.Machine
end

