-- ==== Sys2Proof/Laws/Sound.lean ====
section
/-! SUPPORT. `Sound s t`: what every shared operation leaves true of the event queues, the fault set, the supply path,
the dose records and the run state. One lemma per primitive update; Laws/Operations.lean has one per operation. -/

namespace Sys2Proof.Machine

/-- Whatever was sound in `s` is sound in `t`. -/
structure Sound (s t : State) : Prop where
  queues : QueuesSound s → QueuesSound t
  faults : FaultsSound s → FaultsSound t
  path : PathSound s → PathSound t
  doses : DosesSound s → DosesSound t
  run : RunSound s → RunSound t

theorem Sound.refl (s : State) : Sound s s := ⟨id, id, id, id, id⟩

theorem Sound.trans {s t u : State} (h : Sound s t) (k : Sound t u) : Sound s u :=
  ⟨k.queues ∘ h.queues, k.faults ∘ h.faults, k.path ∘ h.path, k.doses ∘ h.doses, k.run ∘ h.run⟩

/-- The parts of the state that the five properties read. -/
def State.core (s : State) : EventBlock × Water × RunState × Causes :=
  (s.events, s.water, s.ret.run.state, s.ret.run.causes)

/-- An update outside those parts. -/
theorem Sound.same {s₀ s t : State} (h : Sound s₀ s) (e : t.core = s.core) : Sound s₀ t := by
  have he : t.events = s.events := congrArg Prod.fst e
  have hw : t.water = s.water := congrArg (fun x => x.2.1) e
  have hr : t.ret.run.state = s.ret.run.state := congrArg (fun x => x.2.2.1) e
  have hc : t.ret.run.causes = s.ret.run.causes := congrArg (fun x => x.2.2.2) e
  refine h.trans ⟨?_, ?_, ?_, ?_, ?_⟩
  · unfold QueuesSound; rw [he]; exact id
  · unfold FaultsSound; rw [he]; exact id
  · unfold PathSound chan; rw [hw]; exact id
  · unfold DosesSound chan; rw [hw]; exact id
  · unfold RunSound; rw [hr, hc]; exact id

/-! ## Events -/

/-- An update of the event block that keeps queues and fault set sound. -/
theorem Sound.events {s : State} {e : EventBlock}
    (hq : QueuesSound s → ∀ l : Link, QueueSound (e.queues.get l)) (hf : FaultsSound s → e.faults.Nodup) :
    Sound s { s with events := e } :=
  ⟨hq, hf, id, id, id⟩

theorem placeEntry_kinds (k : EventKind) (a : Option Byte) (t : Nat) (q : List Entry) :
    (placeEntry k a t q).map Entry.kind =
      if k ∈ q.map Entry.kind then q.map Entry.kind else q.map Entry.kind ++ [k] := by
  induction q with
  | nil => simp [placeEntry]
  | cons e rest ih =>
    unfold placeEntry
    by_cases h : e.kind = k
    · simp [h]
    · have h' : ¬ k = e.kind := fun x => h x.symm
      simp only [h, if_false, List.map_cons, ih, List.mem_cons, h', false_or]
      split <;> simp

theorem placeEntry_sound {k : EventKind} {a : Option Byte} {t : Nat} {q : List Entry} (h : QueueSound q) :
    QueueSound (placeEntry k a t q) := by
  refine ⟨?_, ?_⟩
  · rw [placeEntry_kinds]
    split
    · exact h.1
    · rename_i hk
      exact List.nodup_append.2 ⟨h.1, List.nodup_singleton k, by
        intro x hx y hy; rw [List.mem_singleton] at hy; subst hy; exact fun e => hk (e ▸ hx)⟩
  · have hc := h.2
    clear h
    induction q with
    | nil => intro e he; simp only [placeEntry, List.mem_singleton] at he; subst he; simp
    | cons e rest ih =>
      intro x hx
      unfold placeEntry at hx
      split at hx
      · rcases List.mem_cons.1 hx with rfl | hx
        · have := hc e (List.mem_cons_self ..)
          constructor <;> (simp only []; omega)
        · exact hc x (List.mem_cons_of_mem _ hx)
      · rcases List.mem_cons.1 hx with rfl | hx
        · exact hc _ (List.mem_cons_self ..)
        · exact ih (fun y hy => hc y (List.mem_cons_of_mem _ hy)) x hx

theorem endEntry_sublist (k : EventKind) (q : List Entry) :
    ((endEntry k q).map Entry.kind).Sublist (q.map Entry.kind) := by
  induction q with
  | nil => simp [endEntry]
  | cons e rest ih =>
    unfold endEntry
    split
    · split
      · simp
      · simp
    · simpa using ih

theorem endEntry_count {k : EventKind} {q : List Entry} {e : Entry} (h : e ∈ endEntry k q) :
    ∃ e' ∈ q, e.count = e'.count := by
  induction q with
  | nil => simp [endEntry] at h
  | cons x rest ih =>
    unfold endEntry at h
    split at h
    · split at h
      · exact ⟨e, List.mem_cons_of_mem _ h, rfl⟩
      · rcases List.mem_cons.1 h with rfl | h
        · exact ⟨x, List.mem_cons_self .., rfl⟩
        · exact ⟨e, List.mem_cons_of_mem _ h, rfl⟩
    · rcases List.mem_cons.1 h with rfl | h
      · exact ⟨_, List.mem_cons_self .., rfl⟩
      · obtain ⟨e', he', hc⟩ := ih h
        exact ⟨e', List.mem_cons_of_mem _ he', hc⟩

theorem endEntry_sound {k : EventKind} {q : List Entry} (h : QueueSound q) : QueueSound (endEntry k q) := by
  refine ⟨(endEntry_sublist k q).nodup h.1, fun e he => ?_⟩
  obtain ⟨e', he', hc⟩ := endEntry_count he
  rw [hc]; exact h.2 e' he'

theorem placeInSet_sound {set : LinkSet} {k : EventKind} {a : Option Byte} {t : Nat} {q : PerLink (List Entry)}
    (h : ∀ l : Link, QueueSound (q.get l)) (l : Link) : QueueSound ((placeInSet set k a t q).get l) := by
  cases l <;> simp only [placeInSet, PerLink.get] <;> split
  · exact placeEntry_sound (h .panel)
  · exact h .panel
  · exact placeEntry_sound (h .network)
  · exact h .network
  · exact placeEntry_sound (h .service)
  · exact h .service

theorem raiseEvent_sound (k : EventKind) (a : Option Byte) {s₀ s : State} (h : Sound s₀ s) :
    Sound s₀ (raiseEvent k a s) :=
  h.trans (Sound.events (fun hq l => placeInSet_sound hq l) id)

theorem endCondition_sound (k : EventKind) {s₀ s : State} (h : Sound s₀ s) : Sound s₀ (endCondition k s) :=
  h.trans (Sound.events (fun hq l => by
    cases l
    · exact endEntry_sound (hq .panel)
    · exact endEntry_sound (hq .network)
    · exact endEntry_sound (hq .service)) id)

theorem enterFault_sound (f : FaultKind) {s₀ s : State} (h : Sound s₀ s) : Sound s₀ (enterFault f s) := by
  unfold enterFault
  split
  · exact h
  · rename_i hn
    refine raiseEvent_sound _ _ (h.trans (Sound.events id fun hf => ?_))
    have hm : f ∉ s.events.faults := by simpa [hasFault] using hn
    exact List.nodup_append.2 ⟨hf, List.nodup_singleton f, by
      intro x hx y hy; rw [List.mem_singleton] at hy; subst hy; exact fun e => hm (e ▸ hx)⟩

theorem leaveFault_sound (f : FaultKind) {s₀ s : State} (h : Sound s₀ s) : Sound s₀ (leaveFault f s) := by
  unfold leaveFault
  split
  · have h' : Sound s₀ { s with events := { s.events with faults := s.events.faults.filter (fun g => decide (g ≠ f)) } } :=
      h.trans (Sound.events id fun hf => hf.filter _)
    dsimp only
    split
    · exact endCondition_sound _ h'
    · exact h'
  · exact h

/-! ## The run -/

theorem addCause_run (p : PauseCause) (s : State) (h : RunSound s) :
    (addCause p s).ret.run.state = .paused ↔ (addCause p s).ret.run.causes.isEmpty = false := by
  unfold addCause
  split
  · exact h
  · have hp : (s.ret.run.causes.put p true).isEmpty = false := by
      cases p <;> simp [Causes.put, Causes.isEmpty]
    dsimp only
    split
    · simp [raiseEvent, setRun, hp]
    · rename_i he
      have hs : s.ret.run.state = .paused := h.2 (by simpa using he)
      simp [setRun, hp, hs]

theorem removeCause_run (p : PauseCause) (s : State) (h : RunSound s) :
    (removeCause p s).ret.run.state = .paused ↔ (removeCause p s).ret.run.causes.isEmpty = false := by
  unfold removeCause
  split
  · rename_i hp
    have hne : s.ret.run.causes.isEmpty = false := by
      cases p <;> simp_all [Causes.has, Causes.isEmpty]
    have hs : s.ret.run.state = .paused := h.2 hne
    dsimp only
    split
    · rename_i he
      simp only [setRun] at he
      simp [raiseEvent, setRun, he]
    · rename_i he
      simp only [setRun, Bool.not_eq_true] at he
      simp [setRun, he, hs]
  · exact h

theorem addCause_sound (p : PauseCause) {s₀ s : State} (h : Sound s₀ s) : Sound s₀ (addCause p s) := by
  refine h.trans ⟨fun hq => ?_, fun hf => ?_, fun hp => ?_, fun hd => ?_, addCause_run p s⟩ <;> unfold addCause <;>
    split <;> try assumption
  all_goals dsimp only; split
  · exact fun l => placeInSet_sound hq l
  all_goals assumption

theorem removeCause_sound (p : PauseCause) {s₀ s : State} (h : Sound s₀ s) : Sound s₀ (removeCause p s) := by
  refine h.trans ⟨fun hq => ?_, fun hf => ?_, fun hp => ?_, fun hd => ?_, removeCause_run p s⟩ <;>
    unfold removeCause <;> split <;> try assumption
  all_goals dsimp only; split
  · exact fun l => placeInSet_sound hq l
  all_goals assumption

/-- A run context that is sound by itself. -/
theorem Sound.newRun {s₀ s : State} (h : Sound s₀ s) {r : RunContext}
    (hr : r.state = .paused ↔ r.causes.isEmpty = false) {t : State} (he : t.events = s.events)
    (hw : t.water = s.water) (ht : t.ret.run = r) : Sound s₀ t := by
  refine h.trans ⟨?_, ?_, ?_, ?_, fun _ => ?_⟩
  · unfold QueuesSound; rw [he]; exact id
  · unfold FaultsSound; rw [he]; exact id
  · unfold PathSound chan; rw [hw]; exact id
  · unfold DosesSound chan; rw [hw]; exact id
  · unfold RunSound; rw [ht]; exact hr

theorem idle_sound (r : RunContext) : r.idle.state = .paused ↔ r.idle.causes.isEmpty = false := by
  simp [RunContext.idle, Causes.none, Causes.isEmpty]

/-! ## Channels and the path -/

theorem Channels.get_set (p : Channels) (c c' : Chan) (x : Channel) :
    (p.set c x).get c' = if c' = c then x else p.get c' := by
  cases c <;> cases c' <;> rfl

@[simp] theorem chan_setChan (c c' : Chan) (x : Channel) (s : State) :
    chan (setChan c x s) c' = if c' = c then x else chan s c' :=
  Channels.get_set s.water.chans c c' x

@[simp] theorem path_setChan (c : Chan) (x : Channel) (s : State) : (setChan c x s).water.path = s.water.path := rfl

/-- A channel's record is sound: held doses exist, and the counts agree. -/
def ChannelSound (x : Channel) : Prop :=
  (x.state.holds = true → x.dose.isSome = true) ∧ ∀ d : Dose, x.dose = some d → DoseSound d

/-- An update of the water unit. -/
theorem Sound.water {s : State} {w : Water} (hp : PathSound s → PathSound { s with water := w })
    (hd : DosesSound s → ∀ c : Chan, ChannelSound (w.chans.get c)) : Sound s { s with water := w } :=
  ⟨id, id, hp, hd, id⟩

/-- A channel's record is replaced by one that is not RUNNING, the path not being granted to it. -/
theorem setChan_sound {c : Chan} {x : Channel} {s₀ s : State} (h : Sound s₀ s)
    (hx : DosesSound s → ChannelSound x) (hs : x.state ≠ .running)
    (hn : PathSound s → c ≠ .ch3 → s.water.path ≠ .granted c) : Sound s₀ (setChan c x s) := by
  refine h.trans (Sound.water (fun hp => ?_) (fun hd c' => ?_))
  · refine ⟨fun c' hc' => ?_, hp.2⟩
    have := chan_setChan c c' x s
    unfold setChan at this
    rw [this]
    split
    · rename_i e; subst e
      exact ⟨fun e => absurd e hs, fun e => absurd e (hn hp hc')⟩
    · exact hp.1 c' hc'
  · show ChannelSound ((s.water.chans.set c x).get c')
    rw [Channels.get_set]
    split
    · exact hx hd
    · exact hd c'

/-- A channel's record is replaced by one in the same state. -/
theorem setChan_same_sound {c : Chan} {x : Channel} {s₀ s : State} (h : Sound s₀ s)
    (hx : DosesSound s → ChannelSound x) (hs : c ≠ .ch3 → x.state = (chan s c).state) : Sound s₀ (setChan c x s) := by
  refine h.trans (Sound.water (fun hp => ?_) (fun hd c' => ?_))
  · refine ⟨fun c' hc' => ?_, hp.2⟩
    have := chan_setChan c c' x s
    unfold setChan at this
    rw [this]
    split
    · rename_i e; subst e
      rw [hs hc']; exact hp.1 c' hc'
    · exact hp.1 c' hc'
  · show ChannelSound ((s.water.chans.set c x).get c')
    rw [Channels.get_set]
    split
    · exact hx hd
    · exact hd c'

end Sys2Proof.Machine
end

