-- ==== Sys2Proof/Laws/Doses.lean ====
section
/-! SUPPORT. `Sound` through the scale account, the supply path arbiter and the dosing channels: one lemma per
operation, each composed after a chain of others. -/

namespace Sys2Proof.Machine

/-! ## Updates outside events, water and run -/

theorem Sound.with_now {s₀ s : State} {x : Nat} (h : Sound s₀ s) :
    Sound s₀ { s with now := x } := h.same rfl

theorem Sound.with_pending {s₀ s : State} {x : List Instr} (h : Sound s₀ s) :
    Sound s₀ { s with pending := x } := h.same rfl

theorem Sound.with_windows {s₀ s : State} {x : Nat} (h : Sound s₀ s) :
    Sound s₀ { s with windows := x } := h.same rfl

theorem Sound.with_draws {s₀ s : State} {x : Nat} (h : Sound s₀ s) :
    Sound s₀ { s with draws := x } := h.same rfl

theorem Sound.with_meas {s₀ s : State} {x : Measurement} (h : Sound s₀ s) :
    Sound s₀ { s with meas := x } := h.same rfl

theorem Sound.with_climate {s₀ s : State} {x : Climate} (h : Sound s₀ s) :
    Sound s₀ { s with climate := x } := h.same rfl

theorem Sound.with_share {s₀ s : State} {x : PowerShare} (h : Sound s₀ s) :
    Sound s₀ { s with share := x } := h.same rfl

theorem Sound.with_out {s₀ s : State} {x : OutputTiming} (h : Sound s₀ s) :
    Sound s₀ { s with out := x } := h.same rfl

theorem Sound.with_boiler {s₀ s : State} {x : Boiler} (h : Sound s₀ s) :
    Sound s₀ { s with boiler := x } := h.same rfl

theorem Sound.with_scale {s₀ s : State} {x : ScaleAccount} (h : Sound s₀ s) :
    Sound s₀ { s with scale := x } := h.same rfl

theorem Sound.with_work {s₀ s : State} {x : DescaleWork} (h : Sound s₀ s) :
    Sound s₀ { s with work := x } := h.same rfl

theorem Sound.with_marker {s₀ s : State} {x : Bool} (h : Sound s₀ s) :
    Sound s₀ { s with marker := x } := h.same rfl

theorem Sound.with_seq {s₀ s : State} {x : Sequencer} (h : Sound s₀ s) :
    Sound s₀ { s with seq := x } := h.same rfl

theorem Sound.with_inputs {s₀ s : State} {x : Inputs} (h : Sound s₀ s) :
    Sound s₀ { s with inputs := x } := h.same rfl

theorem Sound.with_prot {s₀ s : State} {x : Protection} (h : Sound s₀ s) :
    Sound s₀ { s with prot := x } := h.same rfl

theorem Sound.with_ports {s₀ s : State} {x : PerLink Port} (h : Sound s₀ s) :
    Sound s₀ { s with ports := x } := h.same rfl

theorem Sound.with_settings {s₀ s : State} {x : Settings} (h : Sound s₀ s) :
    Sound s₀ { s with settings := x } := h.same rfl

theorem Sound.with_store {s₀ s : State} {x : Store} (h : Sound s₀ s) :
    Sound s₀ { s with store := x } := h.same rfl

theorem Sound.with_start {s₀ s : State} {x : StartUp} (h : Sound s₀ s) :
    Sound s₀ { s with start := x } := h.same rfl


theorem Sound.with_ret {s₀ s : State} {x : Retained} (h : Sound s₀ s) (hs : x.run.state = s.ret.run.state)
    (hc : x.run.causes = s.ret.run.causes) : Sound s₀ { s with ret := x } :=
  h.same (by simp [State.core, hs, hc])

theorem ite_sound {b : Prop} [Decidable b] {s₀ t u : State} (ht : Sound s₀ t) (hu : Sound s₀ u) :
    Sound s₀ (if b then t else u) := by
  split
  · exact ht
  · exact hu

theorem setRun_sound {r : RunContext} {s₀ s : State} (h : Sound s₀ s) (hs : r.state = s.ret.run.state)
    (hc : r.causes = s.ret.run.causes) : Sound s₀ (setRun r s) := h.with_ret hs hc

/-! ## The scale account -/

theorem followCondition_sound (k : EventKind) (arg : Option Byte) (holds : Bool) {s₀ s : State} (h : Sound s₀ s) :
    Sound s₀ (followCondition k arg holds s) := by
  unfold followCondition
  split
  · exact h
  · split
    · exact raiseEvent_sound _ _ h
    · exact endCondition_sound _ h

theorem followLevel_sound {s₀ s : State} (h : Sound s₀ s) : Sound s₀ (followLevel s) :=
  followCondition_sound _ _ _ (followCondition_sound _ _ _ h)

theorem askCommit_sound {s₀ s : State} (h : Sound s₀ s) : Sound s₀ (askCommit s) := h.with_store

theorem evaluateLevel_sound {s₀ s : State} (h : Sound s₀ s) : Sound s₀ (evaluateLevel s) := by
  unfold evaluateLevel
  dsimp only
  split
  · exact h
  · exact askCommit_sound (followCondition_sound _ _ _ (followCondition_sound _ _ _ h.with_scale))

theorem chargeDelivered_sound (p : Nat) (d : Destination) {s₀ s : State} (h : Sound s₀ s) :
    Sound s₀ (chargeDelivered p d s) := by
  unfold chargeDelivered countSteam chargeAccount
  dsimp only
  split
  · exact setRun_sound (evaluateLevel_sound h.with_scale) rfl rfl
  · exact evaluateLevel_sound h.with_scale

/-! ## Doses -/

theorem chan_sound {s : State} (h : DosesSound s) (c : Chan) : ChannelSound (chan s c) := h c

theorem passPulses_sound (c : Chan) {s₀ s : State} (h : Sound s₀ s) : Sound s₀ (passPulses c s) := by
  unfold passPulses
  split
  · exact h
  · rename_i d hd
    have h' : Sound s₀ (setDose c { d with charged := d.delivered } s) :=
      setChan_same_sound h
        (fun hs => ⟨fun _ => rfl, fun d' e => by cases e; exact ⟨((hs c).2 d hd).1, Nat.le_refl _⟩⟩) fun _ => rfl
    dsimp only
    split
    · exact chargeDelivered_sound _ _ h'
    · exact h'

theorem chan_raiseEvent (k : EventKind) (a : Option Byte) (s : State) (c : Chan) :
    chan (raiseEvent k a s) c = chan s c := rfl

/-- A charge leaves the water unit alone. -/
theorem water_followCondition (k : EventKind) (a : Option Byte) (b : Bool) (s : State) :
    (followCondition k a b s).water = s.water := by
  unfold followCondition; split
  · rfl
  · split <;> rfl

theorem water_chargeDelivered (p : Nat) (d : Destination) (s : State) : (chargeDelivered p d s).water = s.water := by
  have he : ∀ t : State, (evaluateLevel t).water = t.water := fun t => by
    unfold evaluateLevel; dsimp only; split
    · rfl
    · simp only [askCommit, followLevel, water_followCondition]
  unfold chargeDelivered countSteam; dsimp only; split
  · simp only [setRun, chargeAccount, he]
  · simp only [chargeAccount, he]

theorem chan_passPulses_self (c : Chan) (s : State) :
    (chan (passPulses c s) c).state = (chan s c).state ∧
      (chan (passPulses c s) c).dose.isSome = (chan s c).dose.isSome := by
  unfold passPulses
  split
  · simp
  · rename_i d hd
    have : ∀ t : State, t.water = (setDose c { d with charged := d.delivered } s).water →
        (chan t c).state = (chan s c).state ∧ (chan t c).dose.isSome = (chan s c).dose.isSome := fun t ht => by
      have : chan t c = chan (setDose c { d with charged := d.delivered } s) c := by unfold chan; rw [ht]
      rw [this, setDose, chan_setChan]; simp [hd]
    dsimp only
    split
    · exact this _ (water_chargeDelivered _ _ _)
    · exact this _ rfl

/-- A channel releases the path, if it holds it, and takes a record that is not RUNNING. -/
theorem release_sound {c : Chan} {x : Channel} {s₀ s : State} (h : Sound s₀ s)
    (hx : DosesSound s → ChannelSound x) (hs : x.state ≠ .running) :
    Sound s₀ (setChan c x (releasePath c s)) := by
  unfold releasePath holdsPath
  split
  · rename_i hp
    have hp : s.water.path = .granted c := by simpa using hp
    refine h.trans (Sound.water (w := { s.water with path := .settling, settleTimer := 0, chans := s.water.chans.set c x })
      (fun hp' => ⟨fun c' hc' => ?_, by simp⟩) (fun hd c' => ?_))
    · have e : chan { s with water := { s.water with path := .settling, settleTimer := 0, chans := s.water.chans.set c x } } c'
          = if c' = c then x else chan s c' := Channels.get_set s.water.chans c c' x
      rw [e]
      split
      · simp [hs]
      · rename_i hn
        have := hp'.1 c' hc'
        rw [hp] at this
        simp only [PathState.granted.injEq, Ne.symm hn, iff_false] at this
        simp [this]
    · show ChannelSound ((s.water.chans.set c x).get c')
      rw [Channels.get_set]; split
      · exact hx hd
      · exact hd c'
  · rename_i hp
    exact setChan_sound h hx hs fun _ _ => by simpa using hp

@[simp] theorem chan_releasePath (c c' : Chan) (s : State) : chan (releasePath c s) c' = chan s c' := by
  unfold releasePath; split <;> rfl

theorem endDose_sound (c : Chan) (st : ChanState) (hst : st.holds = false) {s₀ s : State} (h : Sound s₀ s) :
    Sound s₀ (endDose c st s) := by
  unfold endDose setChanState
  refine release_sound (passPulses_sound c h) (fun hd => ?_) (fun e => ?_)
  · rw [chan_releasePath]
    exact ⟨fun e => by simp [hst] at e, (hd c).2⟩
  · simp only at e; subst e; simp [ChanState.holds] at hst

/-- A RUNNING dose goes back to waiting or is suspended. -/
theorem pauseDose_sound (c : Chan) (st : ChanState) (hst : st ≠ .running) {s₀ s : State} (h : Sound s₀ s)
    (hd : (chan s c).state.holds = true ∨ (chan s c).dose.isSome = true) :
    Sound s₀ (setChanState c st (releasePath c (passPulses c s))) := by
  refine release_sound (passPulses_sound c h) (fun hs => ?_) hst
  rw [chan_releasePath]
  refine ⟨fun _ => ?_, (hs c).2⟩
  rcases hd with hd | hd
  · exact (hs c).1 (by rw [(chan_passPulses_self c s).1]; exact hd)
  · simpa [(chan_passPulses_self c s).2] using hd

theorem cancelDose_sound (c : Chan) {s₀ s : State} (h : Sound s₀ s) : Sound s₀ (cancelDose c s) := by
  have hx : ∀ t : State, DosesSound t → ChannelSound ⟨.idle, none⟩ := fun _ _ => ⟨by simp [ChanState.holds], by simp⟩
  unfold cancelDose
  split
  · exact h
  · dsimp only
    split
    · exact release_sound (passPulses_sound c h) (hx _) (by simp)
    · rename_i hr
      exact setChan_sound h (hx _) (by simp) fun hp hc e => hr ((hp.1 c hc).2 e)

theorem suspendDose_sound (c : Chan) {s₀ s : State} (h : Sound s₀ s) : Sound s₀ (suspendDose c s) := by
  unfold suspendDose
  split
  · rename_i e
    exact pauseDose_sound c _ (by simp) h (.inl (by simp [e, ChanState.holds]))
  · rename_i e
    exact setChan_sound h (fun hs => ⟨fun _ => (hs c).1 (by simp [e, ChanState.holds]), (hs c).2⟩) (by simp)
      fun hp hc e' => by simp [(hp.1 c hc).2 e'] at e
  · exact h

theorem suspendSource_sound (src : Source) {s₀ s : State} (h : Sound s₀ s) : Sound s₀ (suspendSource src s) := by
  unfold suspendSource
  simp only [List.foldl_cons, List.foldl_nil]
  repeat' first | exact h | apply suspendDose_sound | split

theorem requeue_sound {c : Chan} {s₀ s : State} (h : Sound s₀ s) (e : (chan s c).state = .suspended) :
    Sound s₀ (setChanState c .requesting s) :=
  setChan_sound h (fun hs => ⟨fun _ => (hs c).1 (by simp [e, ChanState.holds]), (hs c).2⟩) (by simp)
    fun hp hc e' => by simp [(hp.1 c hc).2 e'] at e

theorem resumeSource_sound (src : Source) {s₀ s : State} (h : Sound s₀ s) : Sound s₀ (resumeSource src s) := by
  have one : ∀ (c : Chan) (t : State), Sound s₀ t →
      Sound s₀ (if sourceIs src (chan t c) && decide ((chan t c).state = .suspended) then setChanState c .requesting t
        else t) := fun c t ht => by
    split
    · rename_i e
      exact requeue_sound ht (by simp at e; exact e.2)
    · exact ht
  exact one _ _ (one _ _ (one _ _ h))

theorem loadDose_sound (c : Chan) (m : DoseMode) (dest : Destination) (src : Source) (base : Nat) (reload : Bool)
    (r : Requester) {s₀ s : State} (h : Sound s₀ s) : Sound s₀ (loadDose c m dest src base reload r s) := by
  unfold loadDose
  split
  · exact h
  · rename_i hn
    refine setChan_sound h (fun _ => ⟨fun _ => rfl, fun d e => by cases e; simp [DoseSound]⟩) ?_ fun hp hc e => hn ?_
    · split
      · simp
      · split <;> simp
    · simp [holdsDose, (hp.1 c hc).2 e, ChanState.holds]

theorem grantPath_sound (c : Chan) {s₀ s : State} (h : Sound s₀ s) (hc3 : c ≠ .ch3) (hf : s.water.path = .free)
    (hr : (chan s c).state = .requesting) : Sound s₀ (grantPath c s) := by
  have hch : ∀ (x : Channel) (c' : Chan),
      chan (setChan c x { s with water := { s.water with path := .granted c, noFlowTimer := 0 } }) c' =
        if c' = c then x else chan s c' := fun x c' => chan_setChan c c' x _
  have hp : ∀ x : Channel, x.state = .running → PathSound s →
      PathSound (setChan c x { s with water := { s.water with path := .granted c, noFlowTimer := 0 } }) := by
    intro x hx hp
    refine ⟨fun c' hc' => ?_, by simp [setChan, hc3]⟩
    rw [hch]
    show _ ↔ PathState.granted c = .granted c'
    split
    · rename_i e; subst e; simp [hx]
    · rename_i e
      have := hp.1 c' hc'
      rw [hf] at this
      simp only [PathState.granted.injEq, Ne.symm e, iff_false]
      simpa using this
  unfold grantPath
  dsimp only
  split
  · rename_i hd
    refine h.trans ⟨id, id, hp _ rfl, fun hs => ?_, id⟩
    have := (hs c).1 (by simp [hr, ChanState.holds])
    simp [hd] at this
  · rename_i d hd
    refine h.trans ⟨id, id, hp _ rfl, fun hs c' => ?_, id⟩
    rw [hch]
    split
    · refine ⟨fun _ => rfl, fun d' e => ?_⟩
      cases e; exact (hs c).2 d hd
    · exact hs c'

theorem arbitrate_sound {s₀ s : State} (h : Sound s₀ s) : Sound s₀ (arbitrate s) := by
  unfold arbitrate
  split
  · exact h
  · have h' : Sound s₀ (if (chan s .ch3).state = .requesting then setChanState .ch3 .running s else s) := by
      split
      · rename_i e
        exact setChan_same_sound h
          (fun hs => ⟨fun _ => (hs .ch3).1 (by simp [e, ChanState.holds]), (hs .ch3).2⟩) (by simp)
      · exact h
    dsimp only
    generalize (if (chan s .ch3).state = .requesting then setChanState .ch3 .running s else s) = t at h'
    split
    · rename_i hf
      split
      · exact grantPath_sound _ h' (by simp) hf ‹_›
      · split
        · exact grantPath_sound _ h' (by simp) hf ‹_›
        · split
          · exact grantPath_sound _ h' (by simp) hf ‹_›
          · exact h'
    · exact h'

end Sys2Proof.Machine
end

