-- ==== Sys2Proof/Laws/Kept.lean ====
section
/-! SUPPORT. `Kept s t`: what no shared operation of the units touches. Measurement, inputs, protection block, ports,
settings, start-up unit, heat runs, the timebase and the queue stay as they are, of the fault set only the members
that shared operations raise move, and a commit that begins writes the settings in force. One lemma per operation, `settle` among them. -/

namespace Sys2Proof.Machine

/-- The members of the fault set that operations shared by several rows enter or leave; the raiser's own row alone
touches the others. -/
@[reducible] def FaultKind.shared : FaultKind → Bool
  | .heatRunaway | .ventStuck | .noFlow | .boilerDry | .levelSense => true
  | _ => false

/-- The parts of the state that no shared operation changes. -/
structure Kept (s t : State) : Prop where
  now : t.now = s.now
  pending : t.pending = s.pending
  windows : t.windows = s.windows
  draws : t.draws = s.draws
  meas : t.meas = s.meas
  inputs : t.inputs = s.inputs
  prot : t.prot = s.prot
  ports : t.ports = s.ports
  settings : t.settings = s.settings
  start : t.start = s.start
  heat : t.out.heat = s.out.heat
  halfCycle : t.out.halfCycle = s.out.halfCycle
  verified : t.store.verified = s.store.verified
  faults : ∀ f : FaultKind, f.shared = false → (f ∈ t.events.faults ↔ f ∈ s.events.faults)
  writing : t.store.writing = s.store.writing ∨ ∃ r, t.store.writing = some r ∧ r.settings = s.settings

theorem Kept.refl (s : State) : Kept s s := ⟨rfl, rfl, rfl, rfl, rfl, rfl, rfl, rfl, rfl, rfl, rfl, rfl, rfl, fun _ _ => .rfl, .inl rfl⟩

theorem Kept.trans {s t u : State} (h : Kept s t) (k : Kept t u) : Kept s u where
  now := k.now.trans h.now
  pending := k.pending.trans h.pending
  windows := k.windows.trans h.windows
  draws := k.draws.trans h.draws
  meas := k.meas.trans h.meas
  inputs := k.inputs.trans h.inputs
  prot := k.prot.trans h.prot
  ports := k.ports.trans h.ports
  settings := k.settings.trans h.settings
  start := k.start.trans h.start
  heat := k.heat.trans h.heat
  halfCycle := k.halfCycle.trans h.halfCycle
  verified := k.verified.trans h.verified
  faults f hf := (k.faults f hf).trans (h.faults f hf)
  writing := by
    rcases k.writing with e | ⟨r, e, hr⟩
    · rw [e]; exact h.writing
    · exact .inr ⟨r, e, hr.trans h.settings⟩

theorem Kept.with_climate {s₀ s : State} {x : Climate} (h : Kept s₀ s) : Kept s₀ { s with climate := x } :=
  h.trans ⟨rfl, rfl, rfl, rfl, rfl, rfl, rfl, rfl, rfl, rfl, rfl, rfl, rfl, fun _ _ => .rfl, .inl rfl⟩

theorem Kept.with_share {s₀ s : State} {x : PowerShare} (h : Kept s₀ s) : Kept s₀ { s with share := x } :=
  h.trans ⟨rfl, rfl, rfl, rfl, rfl, rfl, rfl, rfl, rfl, rfl, rfl, rfl, rfl, fun _ _ => .rfl, .inl rfl⟩

theorem Kept.with_water {s₀ s : State} {x : Water} (h : Kept s₀ s) : Kept s₀ { s with water := x } :=
  h.trans ⟨rfl, rfl, rfl, rfl, rfl, rfl, rfl, rfl, rfl, rfl, rfl, rfl, rfl, fun _ _ => .rfl, .inl rfl⟩

theorem Kept.with_boiler {s₀ s : State} {x : Boiler} (h : Kept s₀ s) : Kept s₀ { s with boiler := x } :=
  h.trans ⟨rfl, rfl, rfl, rfl, rfl, rfl, rfl, rfl, rfl, rfl, rfl, rfl, rfl, fun _ _ => .rfl, .inl rfl⟩

theorem Kept.with_scale {s₀ s : State} {x : ScaleAccount} (h : Kept s₀ s) : Kept s₀ { s with scale := x } :=
  h.trans ⟨rfl, rfl, rfl, rfl, rfl, rfl, rfl, rfl, rfl, rfl, rfl, rfl, rfl, fun _ _ => .rfl, .inl rfl⟩

theorem Kept.with_work {s₀ s : State} {x : DescaleWork} (h : Kept s₀ s) : Kept s₀ { s with work := x } :=
  h.trans ⟨rfl, rfl, rfl, rfl, rfl, rfl, rfl, rfl, rfl, rfl, rfl, rfl, rfl, fun _ _ => .rfl, .inl rfl⟩

theorem Kept.with_marker {s₀ s : State} {x : Bool} (h : Kept s₀ s) : Kept s₀ { s with marker := x } :=
  h.trans ⟨rfl, rfl, rfl, rfl, rfl, rfl, rfl, rfl, rfl, rfl, rfl, rfl, rfl, fun _ _ => .rfl, .inl rfl⟩

theorem Kept.with_seq {s₀ s : State} {x : Sequencer} (h : Kept s₀ s) : Kept s₀ { s with seq := x } :=
  h.trans ⟨rfl, rfl, rfl, rfl, rfl, rfl, rfl, rfl, rfl, rfl, rfl, rfl, rfl, fun _ _ => .rfl, .inl rfl⟩

theorem Kept.with_ret {s₀ s : State} {x : Retained} (h : Kept s₀ s) : Kept s₀ { s with ret := x } :=
  h.trans ⟨rfl, rfl, rfl, rfl, rfl, rfl, rfl, rfl, rfl, rfl, rfl, rfl, rfl, fun _ _ => .rfl, .inl rfl⟩

theorem Kept.with_events {s₀ s : State} {x : EventBlock} (h : Kept s₀ s)
    (hx : ∀ f : FaultKind, f.shared = false → (f ∈ x.faults ↔ f ∈ s.events.faults)) : Kept s₀ { s with events := x } :=
  h.trans ⟨rfl, rfl, rfl, rfl, rfl, rfl, rfl, rfl, rfl, rfl, rfl, rfl, rfl, hx, .inl rfl⟩

theorem Kept.with_out {s₀ s : State} {x : OutputTiming} (h : Kept s₀ s) (hx : x.heat = s.out.heat)
    (hc : x.halfCycle = s.out.halfCycle) : Kept s₀ { s with out := x } :=
  h.trans ⟨rfl, rfl, rfl, rfl, rfl, rfl, rfl, rfl, rfl, rfl, hx, hc, rfl, fun _ _ => .rfl, .inl rfl⟩

theorem kept_ite {b : Prop} [Decidable b] {s₀ t u : State} (ht : Kept s₀ t) (hu : Kept s₀ u) :
    Kept s₀ (if b then t else u) := by
  split
  · exact ht
  · exact hu

theorem askCommit_kept {s₀ s : State} (h : Kept s₀ s) : Kept s₀ (askCommit s) :=
  h.trans ⟨rfl, rfl, rfl, rfl, rfl, rfl, rfl, rfl, rfl, rfl, rfl, rfl, rfl, fun _ _ => .rfl, .inl rfl⟩

theorem flushCommit_kept {s₀ s : State} (h : Kept s₀ s) : Kept s₀ (flushCommit s) := by
  refine h.trans ?_
  unfold flushCommit
  split
  · split
    · exact ⟨rfl, rfl, rfl, rfl, rfl, rfl, rfl, rfl, rfl, rfl, rfl, rfl, rfl, fun _ _ => .rfl, .inr ⟨_, rfl, rfl⟩⟩
    · exact ⟨rfl, rfl, rfl, rfl, rfl, rfl, rfl, rfl, rfl, rfl, rfl, rfl, rfl, fun _ _ => .rfl, .inl rfl⟩
  · exact .refl s

theorem raiseEvent_kept (k : EventKind) (arg : Option Byte) {s₀ s : State} (h : Kept s₀ s) :
    Kept s₀ (raiseEvent k arg s) := by
  unfold raiseEvent
  with_reducible repeat' first | exact h | exact h.with_events fun _ _ => .rfl

theorem endCondition_kept (k : EventKind) {s₀ s : State} (h : Kept s₀ s) :
    Kept s₀ (endCondition k s) := by
  unfold endCondition
  with_reducible repeat' first | exact h | exact h.with_events fun _ _ => .rfl

theorem followCondition_kept (k : EventKind) (arg : Option Byte) (holds : Bool) {s₀ s : State} (h : Kept s₀ s) :
    Kept s₀ (followCondition k arg holds s) := by
  unfold followCondition
  with_reducible repeat' first | exact h | apply raiseEvent_kept | apply endCondition_kept | split

theorem mem_append_unshared {f g : FaultKind} {fs : List FaultKind} (hf : f.shared = true) (hg : g.shared = false) :
    g ∈ fs ++ [f] ↔ g ∈ fs := by
  have hne : g ≠ f := by rintro rfl; simp [hf] at hg
  simp [hne]

theorem enterFault_kept (f : FaultKind) {s₀ s : State} (hf : f.shared = true) (h : Kept s₀ s) :
    Kept s₀ (enterFault f s) := by
  unfold enterFault
  split
  · exact h
  · exact raiseEvent_kept _ _ (h.with_events fun _ hg => mem_append_unshared hf hg)

theorem leaveFault_kept (f : FaultKind) {s₀ s : State} (hf : f.shared = true) (h : Kept s₀ s) :
    Kept s₀ (leaveFault f s) := by
  have hm : ∀ g : FaultKind, g.shared = false →
      (g ∈ s.events.faults.filter (fun x => decide (x ≠ f)) ↔ g ∈ s.events.faults) := by
    intro g hg
    have hne : g ≠ f := by rintro rfl; simp [hf] at hg
    simp [hne]
  unfold leaveFault
  dsimp only
  split
  · split
    · exact endCondition_kept _ (h.with_events hm)
    · exact h.with_events hm
  · exact h

theorem setRun_kept (r : RunContext) {s₀ s : State} (h : Kept s₀ s) :
    Kept s₀ (setRun r s) := h.with_ret

theorem followLevel_kept {s₀ s : State} (h : Kept s₀ s) :
    Kept s₀ (followLevel s) := by
  unfold followLevel
  dsimp only
  with_reducible repeat' first | exact h | apply followCondition_kept

theorem evaluateLevel_kept {s₀ s : State} (h : Kept s₀ s) :
    Kept s₀ (evaluateLevel s) := by
  unfold evaluateLevel
  dsimp only
  with_reducible repeat' first | exact h | apply askCommit_kept | apply followLevel_kept | exact h.with_scale | split

theorem chargeAccount_kept (p : Nat) (d : Destination) {s₀ s : State} (h : Kept s₀ s) :
    Kept s₀ (chargeAccount p d s) := by
  unfold chargeAccount
  dsimp only
  with_reducible repeat' first | exact h | apply evaluateLevel_kept | exact h.with_scale

theorem countSteam_kept (p : Nat) {s₀ s : State} (h : Kept s₀ s) :
    Kept s₀ (countSteam p s) := by
  unfold countSteam
  dsimp only
  with_reducible repeat' first | exact h | apply setRun_kept | split

theorem clearAccount_kept {s₀ s : State} (h : Kept s₀ s) :
    Kept s₀ (clearAccount s) := by
  unfold clearAccount
  with_reducible repeat' first | exact h | apply askCommit_kept | apply evaluateLevel_kept | exact h.with_scale

theorem creditAbort_kept {s₀ s : State} (h : Kept s₀ s) :
    Kept s₀ (creditAbort s) := by
  unfold creditAbort
  dsimp only
  with_reducible repeat' first | exact h | apply askCommit_kept | apply evaluateLevel_kept | exact h.with_scale

theorem setChan_kept (c : Chan) (x : Channel) {s₀ s : State} (h : Kept s₀ s) :
    Kept s₀ (setChan c x s) := by
  unfold setChan
  with_reducible repeat' first | exact h | exact h.with_water

theorem setChanState_kept (c : Chan) (st : ChanState) {s₀ s : State} (h : Kept s₀ s) :
    Kept s₀ (setChanState c st s) := by
  unfold setChanState
  with_reducible repeat' first | exact h | apply setChan_kept

theorem setDose_kept (c : Chan) (d : Dose) {s₀ s : State} (h : Kept s₀ s) :
    Kept s₀ (setDose c d s) := by
  unfold setDose
  with_reducible repeat' first | exact h | apply setChan_kept

theorem chargeDelivered_kept (p : Nat) (d : Destination) {s₀ s : State} (h : Kept s₀ s) :
    Kept s₀ (chargeDelivered p d s) := by
  unfold chargeDelivered
  with_reducible repeat' first | exact h | apply countSteam_kept | apply chargeAccount_kept

theorem passPulses_kept (c : Chan) {s₀ s : State} (h : Kept s₀ s) :
    Kept s₀ (passPulses c s) := by
  unfold passPulses
  dsimp only
  with_reducible repeat' first | exact h | apply setDose_kept | apply chargeDelivered_kept | split

theorem releasePath_kept (c : Chan) {s₀ s : State} (h : Kept s₀ s) :
    Kept s₀ (releasePath c s) := by
  unfold releasePath
  with_reducible repeat' first | exact h | exact h.with_water | split

theorem grantPath_kept (c : Chan) {s₀ s : State} (h : Kept s₀ s) :
    Kept s₀ (grantPath c s) := by
  unfold grantPath
  dsimp only
  with_reducible repeat' first | exact h | apply setChanState_kept | apply setChan_kept | exact h.with_water | split

theorem arbitrate_kept {s₀ s : State} (h : Kept s₀ s) :
    Kept s₀ (arbitrate s) := by
  unfold arbitrate
  dsimp only
  with_reducible repeat' first | exact h | apply setChanState_kept | apply grantPath_kept | split

theorem loadDose_kept (c : Chan) (m : DoseMode) (dest : Destination) (src : Source) (base : Nat) (reload : Bool) (r : Requester) {s₀ s : State} (h : Kept s₀ s) :
    Kept s₀ (loadDose c m dest src base reload r s) := by
  unfold loadDose
  dsimp only
  with_reducible repeat' first | exact h | apply setChan_kept | split

theorem endDose_kept (c : Chan) (st : ChanState) {s₀ s : State} (h : Kept s₀ s) :
    Kept s₀ (endDose c st s) := by
  unfold endDose
  with_reducible repeat' first | exact h | apply setChanState_kept | apply releasePath_kept | apply passPulses_kept

theorem cancelDose_kept (c : Chan) {s₀ s : State} (h : Kept s₀ s) :
    Kept s₀ (cancelDose c s) := by
  unfold cancelDose
  dsimp only
  with_reducible repeat' first | exact h | apply releasePath_kept | apply passPulses_kept | apply setChan_kept | split

theorem suspendDose_kept (c : Chan) {s₀ s : State} (h : Kept s₀ s) :
    Kept s₀ (suspendDose c s) := by
  unfold suspendDose
  with_reducible repeat' first
      | exact h | apply setChanState_kept | apply releasePath_kept | apply passPulses_kept | split

theorem suspendSource_kept (src : Source) {s₀ s : State} (h : Kept s₀ s) :
    Kept s₀ (suspendSource src s) := by
  have one : ∀ (c : Chan) (t : State), Kept s₀ t →
      Kept s₀ (if sourceIs src (chan t c) then suspendDose c t else t) := fun c t ht =>
    kept_ite (suspendDose_kept _ ht) ht
  exact one _ _ (one _ _ (one _ _ h))

theorem resumeSource_kept (src : Source) {s₀ s : State} (h : Kept s₀ s) :
    Kept s₀ (resumeSource src s) := by
  have one : ∀ (c : Chan) (t : State), Kept s₀ t →
      Kept s₀ (if sourceIs src (chan t c) && decide ((chan t c).state = .suspended) then setChanState c .requesting t else t) := fun c t ht =>
    kept_ite (setChanState_kept _ _ ht) ht
  exact one _ _ (one _ _ (one _ _ h))

theorem primeSource_kept (src : Source) {s₀ s : State} (h : Kept s₀ s) :
    Kept s₀ (primeSource src s) := by
  unfold primeSource
  with_reducible repeat' first
      | exact h | apply setChanState_kept | apply resumeSource_kept | apply loadDose_kept | split

theorem followSource_kept (src : Source) (was : Bool) {s₀ s : State} (h : Kept s₀ s) :
    Kept s₀ (followSource src was s) := by
  unfold followSource
  with_reducible repeat' first | exact h | apply suspendSource_kept | apply primeSource_kept | split

theorem followWaterConditions_kept {s₀ s : State} (h : Kept s₀ s) :
    Kept s₀ (followWaterConditions s) := by
  unfold followWaterConditions
  with_reducible repeat' first | exact h | apply followCondition_kept

theorem renewHeaterRequest_kept {s₀ s : State} (h : Kept s₀ s) :
    Kept s₀ (renewHeaterRequest s) := by
  unfold renewHeaterRequest
  with_reducible repeat' first | exact h | exact h.with_out rfl rfl

theorem askRelay_kept (closed : Bool) {s₀ s : State} (h : Kept s₀ s) :
    Kept s₀ (askRelay closed s) := by
  unfold askRelay
  with_reducible repeat' first | exact h | apply renewHeaterRequest_kept | exact h.with_climate

theorem setRelay_kept (r : RelayId) (x : Relay) {s₀ s : State} (h : Kept s₀ s) :
    Kept s₀ (setRelay r x s) := by
  unfold setRelay
  with_reducible repeat' first | exact h | exact h.with_out rfl rfl | split

theorem setFan_kept (f : FanDrive) {s₀ s : State} (h : Kept s₀ s) :
    Kept s₀ (setFan f s) := h.with_out rfl rfl

theorem startFan_kept {s₀ s : State} (h : Kept s₀ s) :
    Kept s₀ (startFan s) := by
  unfold startFan
  with_reducible repeat' first | exact h | apply setFan_kept | split

theorem issueFan_kept (code : Nat) {s₀ s : State} (h : Kept s₀ s) :
    Kept s₀ (issueFan code s) := by
  unfold issueFan
  dsimp only
  with_reducible repeat' first | exact h | apply setFan_kept | apply startFan_kept | split

theorem holdFan_kept {s₀ s : State} (h : Kept s₀ s) :
    Kept s₀ (holdFan s) := by
  unfold holdFan
  with_reducible repeat' first | exact h | apply setFan_kept | split

theorem beginReversal_kept {s₀ s : State} (h : Kept s₀ s) :
    Kept s₀ (beginReversal s) := by
  unfold beginReversal
  with_reducible repeat' first | exact h | apply setFan_kept | split

theorem endReversal_kept {s₀ s : State} (h : Kept s₀ s) :
    Kept s₀ (endReversal s) := by
  unfold endReversal
  with_reducible repeat' first | exact h | apply startFan_kept | apply setFan_kept | split

theorem setVent_kept (v : VentFlap) {s₀ s : State} (h : Kept s₀ s) :
    Kept s₀ (setVent v s) := h.with_out rfl rfl

theorem arriveVent_kept (e : VentEnd) {s₀ s : State} (h : Kept s₀ s) :
    Kept s₀ (arriveVent e s) := by
  unfold arriveVent
  with_reducible repeat' first | exact h | apply leaveFault_kept _ rfl | apply setVent_kept

theorem travelVent_kept (e : VentEnd) {s₀ s : State} (h : Kept s₀ s) :
    Kept s₀ (travelVent e s) := by
  unfold travelVent
  dsimp only
  with_reducible repeat' first | exact h | apply setVent_kept | apply arriveVent_kept | split

theorem requestVent_kept (e : VentEnd) {s₀ s : State} (h : Kept s₀ s) :
    Kept s₀ (requestVent e s) := by
  unfold requestVent
  with_reducible repeat' first | exact h | apply travelVent_kept | split

theorem returnVent_kept {s₀ s : State} (h : Kept s₀ s) :
    Kept s₀ (returnVent s) := by
  unfold returnVent
  with_reducible repeat' first | exact h | apply arriveVent_kept | apply travelVent_kept | split

theorem endDrive_kept (e : VentEnd) {s₀ s : State} (h : Kept s₀ s) :
    Kept s₀ (endDrive e s) := h.with_out rfl rfl

theorem reachEnd_kept (e : VentEnd) (before : State) {s₀ s : State} (h : Kept s₀ s) :
    Kept s₀ (reachEnd e before s) := by
  unfold reachEnd
  with_reducible repeat' first | exact h | apply endDrive_kept | apply arriveVent_kept | split

theorem startLamp_kept {s₀ s : State} (h : Kept s₀ s) :
    Kept s₀ (startLamp s) := h.with_out rfl rfl

theorem stopLamp_kept {s₀ s : State} (h : Kept s₀ s) :
    Kept s₀ (stopLamp s) := h.with_out rfl rfl

theorem dropClaim_kept {s₀ s : State} (h : Kept s₀ s) : Kept s₀ (dropClaim s) := h.with_share

theorem removeForce_kept (o : Output) {s₀ s : State} (h : Kept s₀ s) :
    Kept s₀ (removeForce o s) := by
  have h1 : Kept s₀ { s with
      out := { s.out with forces := s.out.forces.filter (fun e => decide (e.output ≠ o)) } } := h.with_out rfl rfl
  unfold removeForce
  dsimp only
  with_reducible repeat' first
    | exact h | exact h1 | apply dropClaim_kept | apply renewHeaterRequest_kept | apply returnVent_kept | split

theorem removeForces_kept (which : Output → Bool) {s₀ s : State} (h : Kept s₀ s) :
    Kept s₀ (removeForces which s) := by
  unfold removeForces
  generalize allOutputs = os
  induction os generalizing s with
  | nil => exact h
  | cons o os ih => exact ih (kept_ite (removeForce_kept _ h) h)

theorem endPulse_kept {s₀ s : State} (h : Kept s₀ s) :
    Kept s₀ (endPulse s) := by
  unfold endPulse
  dsimp only
  with_reducible repeat' first | exact h | apply returnVent_kept | exact h.with_out rfl rfl | split

theorem endForces_kept {s₀ s : State} (h : Kept s₀ s) :
    Kept s₀ (endForces s) := endPulse_kept (removeForces_kept _ h)

theorem yieldForces_kept {s₀ s : State} (h : Kept s₀ s) :
    Kept s₀ (yieldForces s) := by
  unfold yieldForces
  with_reducible repeat' first | exact h | apply endForces_kept | split

theorem setBoiler_kept (b : Boiler) {s₀ s : State} (h : Kept s₀ s) :
    Kept s₀ (setBoiler b s) := h.with_boiler

theorem followNeed_kept {s₀ s : State} (h : Kept s₀ s) :
    Kept s₀ (followNeed s) := by
  unfold followNeed
  dsimp only
  with_reducible repeat' first | exact h | apply setBoiler_kept

theorem postBoilerAs_kept (d : Nat) {s₀ s : State} (h : Kept s₀ s) :
    Kept s₀ (postBoilerAs d s) := by
  unfold postBoilerAs
  with_reducible repeat' first | exact h | exact h.with_share | exact h.with_boiler | split

theorem postBoiler_kept {s₀ s : State} (h : Kept s₀ s) :
    Kept s₀ (postBoiler s) := by
  unfold postBoiler
  with_reducible repeat' first | exact h | apply postBoilerAs_kept

theorem handSteamRequest_kept (n : Nat) {s₀ s : State} (h : Kept s₀ s) :
    Kept s₀ (handSteamRequest n s) := by
  unfold handSteamRequest
  with_reducible repeat' first | exact h | apply postBoiler_kept | apply setBoiler_kept

theorem cancelTopUp_kept {s₀ s : State} (h : Kept s₀ s) :
    Kept s₀ (cancelTopUp s) := by
  unfold cancelTopUp
  with_reducible repeat' first | exact h | apply cancelDose_kept | split

theorem markDrain_kept (b : Bool) {s₀ s : State} (h : Kept s₀ s) :
    Kept s₀ (markDrain b s) := by
  unfold markDrain
  dsimp only
  with_reducible repeat' first
      | exact h | apply setBoiler_kept | apply postBoiler_kept | apply cancelTopUp_kept | split

theorem enterBoiler_kept (st : BoilerState) {s₀ s : State} (h : Kept s₀ s) :
    Kept s₀ (enterBoiler st s) := by
  unfold enterBoiler
  dsimp only
  with_reducible repeat' first
      | exact h | apply setBoiler_kept | apply postBoiler_kept | apply cancelTopUp_kept | split

theorem endNoFlow_kept {s₀ s : State} (h : Kept s₀ s) :
    Kept s₀ (endNoFlow s) := by
  unfold endNoFlow
  with_reducible repeat' first | exact h | apply leaveFault_kept _ rfl | apply setBoiler_kept | split

theorem followTopUp_kept {s₀ s : State} (h : Kept s₀ s) :
    Kept s₀ (followTopUp s) := by
  unfold followTopUp
  with_reducible repeat' first | exact h | apply cancelTopUp_kept | split

theorem loadDrain_kept (r : Requester) {s₀ s : State} (h : Kept s₀ s) :
    Kept s₀ (loadDrain r s) := by
  unfold loadDrain
  split
  · exact h
  · have h1 : ∀ x : Channel, Kept s₀ (markDrain false { setChan .ch3 x s with
        water := { (setChan .ch3 x s).water with drainClock := 0 } }) := fun x =>
      markDrain_kept _ (Kept.with_water (setChan_kept _ _ h))
    exact kept_ite (h1 _) (enterBoiler_kept _ (h1 _))

theorem setClimate_kept (c : Climate) {s₀ s : State} (h : Kept s₀ s) :
    Kept s₀ (setClimate c s) := h.with_climate

theorem postCavity_kept (d : PerCavity Nat) {s₀ s : State} (h : Kept s₀ s) :
    Kept s₀ (postCavity d s) := by
  unfold postCavity
  with_reducible repeat' first | exact h | exact h.with_share

theorem postZeros_kept {s₀ s : State} (h : Kept s₀ s) :
    Kept s₀ (postZeros s) := by
  unfold postZeros
  with_reducible repeat' first | exact h | apply handSteamRequest_kept | apply postCavity_kept

theorem requestModeVent_kept {s₀ s : State} (h : Kept s₀ s) :
    Kept s₀ (requestModeVent s) := by
  unfold requestModeVent
  with_reducible repeat' first | exact h | apply requestVent_kept | split

theorem issueOutputs_kept {s₀ s : State} (h : Kept s₀ s) :
    Kept s₀ (issueOutputs s) := by
  unfold issueOutputs
  with_reducible repeat' first
      | exact h | apply requestModeVent_kept | apply issueFan_kept | apply askRelay_kept | apply requestVent_kept
      | split

theorem stageEntry_kept (sent : SentRecord) {s₀ s : State} (h : Kept s₀ s) : Kept s₀ (stageEntry sent s).1 := by
  unfold stageEntry
  dsimp only
  with_reducible repeat' first | exact h | apply issueOutputs_kept | apply setClimate_kept | split

theorem adjustWrite_kept (a b : Option Int) {s₀ s : State} (h : Kept s₀ s) : Kept s₀ (adjustWrite a b s).1 := by
  unfold adjustWrite
  dsimp only
  with_reducible repeat' first | exact h | apply setClimate_kept | split

theorem resumeWrite_kept (sent : SentRecord) (temp : Bool) (moist : Bool) (door : Bool) {s₀ s : State} (h : Kept s₀ s) :
    Kept s₀ (resumeWrite sent temp moist door s) := by
  unfold resumeWrite
  exact kept_ite (stageEntry_kept sent h) (issueOutputs_kept (setClimate_kept _ h))

theorem pauseClimate_kept {s₀ s : State} (h : Kept s₀ s) :
    Kept s₀ (pauseClimate s) := by
  unfold pauseClimate
  with_reducible repeat' first
      | exact h | apply issueOutputs_kept | apply postZeros_kept | apply setClimate_kept | split

theorem unpauseClimate_kept {s₀ s : State} (h : Kept s₀ s) :
    Kept s₀ (unpauseClimate s) := by
  unfold unpauseClimate
  with_reducible repeat' first | exact h | apply issueOutputs_kept | apply setClimate_kept | split

theorem withholdSteam_kept (b : Bool) {s₀ s : State} (h : Kept s₀ s) :
    Kept s₀ (withholdSteam b s) := by
  unfold withholdSteam
  dsimp only
  with_reducible repeat' first | exact h | apply setClimate_kept | apply handSteamRequest_kept | split

theorem endClimate_kept {s₀ s : State} (h : Kept s₀ s) :
    Kept s₀ (endClimate s) := by
  unfold endClimate
  dsimp only
  with_reducible repeat' first
      | exact h | apply issueOutputs_kept | apply postZeros_kept | apply setClimate_kept | split

theorem enterClimateFault_kept {s₀ s : State} (h : Kept s₀ s) :
    Kept s₀ (enterClimateFault s) := by
  unfold enterClimateFault
  with_reducible repeat' first
      | exact h | apply issueOutputs_kept | apply postZeros_kept | apply setClimate_kept | apply enterFault_kept _ rfl

theorem leaveClimateFault_kept {s₀ s : State} (h : Kept s₀ s) :
    Kept s₀ (leaveClimateFault s) := by
  unfold leaveClimateFault
  with_reducible repeat' first | exact h | apply issueOutputs_kept | apply setClimate_kept | split

theorem issueMoistureVent_kept (r : SetpointRecord) {s₀ s : State} (h : Kept s₀ s) :
    Kept s₀ (issueMoistureVent r s) := by
  unfold issueMoistureVent
  with_reducible repeat' first | exact h | apply requestVent_kept | split

theorem runLoops_kept (r : SetpointRecord) {s₀ s : State} (h : Kept s₀ s) :
    Kept s₀ (runLoops r s) := by
  unfold runLoops
  dsimp only
  with_reducible repeat' first
      | exact h | apply setClimate_kept | apply postCavity_kept | apply issueMoistureVent_kept
      | apply handSteamRequest_kept | split

theorem countRunaway_kept {s₀ s : State} (h : Kept s₀ s) :
    Kept s₀ (countRunaway s) := by
  unfold countRunaway
  with_reducible repeat' first | exact h | apply setClimate_kept | split

theorem checkRunaway_kept {s₀ s : State} (h : Kept s₀ s) :
    Kept s₀ (checkRunaway s) := by
  unfold checkRunaway
  with_reducible repeat' first | exact h | apply enterClimateFault_kept | split

theorem checkCooldown_kept {s₀ s : State} (h : Kept s₀ s) :
    Kept s₀ (checkCooldown s) := by
  unfold checkCooldown
  with_reducible repeat' first
      | exact h | apply raiseEvent_kept | apply issueOutputs_kept | apply setClimate_kept | split

theorem decideCoolingFan_kept {s₀ s : State} (h : Kept s₀ s) :
    Kept s₀ (decideCoolingFan s) := by
  unfold decideCoolingFan
  dsimp only
  with_reducible repeat' first | exact h | apply setClimate_kept

theorem climateSample_kept {s₀ s : State} (h : Kept s₀ s) :
    Kept s₀ (climateSample s) := by
  unfold climateSample
  with_reducible repeat' first
      | exact h | apply decideCoolingFan_kept | apply checkCooldown_kept | apply checkRunaway_kept
      | apply countRunaway_kept

theorem setDescale_kept (d : Descale) {s₀ s : State} (h : Kept s₀ s) :
    Kept s₀ (setDescale d s) := h.with_ret

theorem setWork_kept (w : DescaleWork) {s₀ s : State} (h : Kept s₀ s) :
    Kept s₀ (setWork w s) := h.with_work

theorem followPrompt_kept {s₀ s : State} (h : Kept s₀ s) :
    Kept s₀ (followPrompt s) := by
  unfold followPrompt
  with_reducible repeat' first | exact h | apply followCondition_kept

theorem enterPhase_kept (p : DescalePhase) (step : Option RinseStep) {s₀ s : State} (h : Kept s₀ s) :
    Kept s₀ (enterPhase p step s) := by
  unfold enterPhase
  with_reducible repeat' first
      | exact h | apply postBoiler_kept | apply followTopUp_kept | apply followPrompt_kept | apply setDescale_kept

theorem setStall_kept (x : Stall) {s₀ s : State} (h : Kept s₀ s) :
    Kept s₀ (setStall x s) := by
  unfold setStall
  with_reducible repeat' first | exact h | apply followPrompt_kept | apply setDescale_kept

theorem giveSoakTarget_kept {s₀ s : State} (h : Kept s₀ s) :
    Kept s₀ (giveSoakTarget s) := by
  unfold giveSoakTarget
  dsimp only
  with_reducible repeat' first | exact h | apply setBoiler_kept | apply postBoilerAs_kept

theorem withdrawSoakTarget_kept {s₀ s : State} (h : Kept s₀ s) :
    Kept s₀ (withdrawSoakTarget s) := by
  unfold withdrawSoakTarget
  with_reducible repeat' first | exact h | apply postBoiler_kept | apply setBoiler_kept

theorem tryDescaleDrain_kept {s₀ s : State} (h : Kept s₀ s) :
    Kept s₀ (tryDescaleDrain s) := by
  unfold tryDescaleDrain
  with_reducible repeat' first | exact h | apply loadDrain_kept | apply setWork_kept | split

theorem wantDrain_kept {s₀ s : State} (h : Kept s₀ s) :
    Kept s₀ (wantDrain s) := by
  unfold wantDrain
  with_reducible repeat' first | exact h | apply tryDescaleDrain_kept | apply setWork_kept

theorem tryDescaleDose_kept {s₀ s : State} (h : Kept s₀ s) :
    Kept s₀ (tryDescaleDose s) := by
  unfold tryDescaleDose
  dsimp only
  with_reducible repeat' first
      | exact h | apply setStall_kept | apply setWork_kept | apply enterBoiler_kept | apply loadDose_kept | split

theorem wantDose_kept (c : Chan) (a : DoseAmount) {s₀ s : State} (h : Kept s₀ s) :
    Kept s₀ (wantDose c a s) := by
  unfold wantDose
  with_reducible repeat' first | exact h | apply tryDescaleDose_kept | apply setWork_kept

theorem enterDraw_kept {s₀ s : State} (h : Kept s₀ s) :
    Kept s₀ (enterDraw s) := by
  unfold enterDraw
  with_reducible repeat' first | exact h | apply wantDose_kept | apply enterPhase_kept

theorem enterSoak_kept {s₀ s : State} (h : Kept s₀ s) :
    Kept s₀ (enterSoak s) := by
  unfold enterSoak
  dsimp only
  with_reducible repeat' first | exact h | apply enterPhase_kept | apply giveSoakTarget_kept | apply setDescale_kept

theorem enterDrainAgent_kept {s₀ s : State} (h : Kept s₀ s) :
    Kept s₀ (enterDrainAgent s) := by
  unfold enterDrainAgent
  with_reducible repeat' first | exact h | apply wantDrain_kept | apply enterPhase_kept

theorem enterRinse_kept (p : DescalePhase) {s₀ s : State} (h : Kept s₀ s) :
    Kept s₀ (enterRinse p s) := by
  unfold enterRinse
  with_reducible repeat' first | exact h | apply wantDose_kept | apply enterPhase_kept

theorem enterFill_kept {s₀ s : State} (h : Kept s₀ s) :
    Kept s₀ (enterFill s) := by
  unfold enterFill
  with_reducible repeat' first | exact h | apply wantDose_kept | apply enterPhase_kept

theorem enterDrainStep_kept {s₀ s : State} (h : Kept s₀ s) :
    Kept s₀ (enterDrainStep s) := by
  unfold enterDrainStep
  with_reducible repeat' first | exact h | apply wantDrain_kept | apply enterPhase_kept

theorem boilerAfterFill_kept {s₀ s : State} (h : Kept s₀ s) :
    Kept s₀ (boilerAfterFill s) := by
  unfold boilerAfterFill
  with_reducible repeat' first | exact h | apply enterBoiler_kept | split

theorem cancelDescaleFill_kept {s₀ s : State} (h : Kept s₀ s) :
    Kept s₀ (cancelDescaleFill s) := by
  unfold cancelDescaleFill
  with_reducible repeat' first | exact h | apply boilerAfterFill_kept | apply cancelDose_kept | split

theorem abortWithCredit_kept {s₀ s : State} (h : Kept s₀ s) :
    Kept s₀ (abortWithCredit s) := by
  unfold abortWithCredit
  dsimp only
  with_reducible repeat' first
      | exact h | apply cancelDescaleFill_kept | apply setWork_kept | apply creditAbort_kept
      | apply withdrawSoakTarget_kept | apply setStall_kept | apply setDescale_kept | apply enterDrainAgent_kept

theorem enterDryFault_kept {s₀ s : State} (h : Kept s₀ s) :
    Kept s₀ (enterDryFault s) := by
  unfold enterDryFault
  dsimp only
  with_reducible repeat' first
      | exact h | apply enterBoiler_kept | apply cancelDose_kept | apply abortWithCredit_kept | split

theorem leaveDryFault_kept {s₀ s : State} (h : Kept s₀ s) :
    Kept s₀ (leaveDryFault s) := by
  unfold leaveDryFault
  with_reducible repeat' first | exact h | apply enterBoiler_kept | split

theorem followPrepare_kept {s₀ s : State} (h : Kept s₀ s) :
    Kept s₀ (followPrepare s) := by
  unfold followPrepare
  with_reducible repeat' first | exact h | apply enterPhase_kept | apply setWork_kept | apply wantDrain_kept | split

theorem descaleFillEnded_kept {s₀ s : State} (h : Kept s₀ s) :
    Kept s₀ (descaleFillEnded s) := by
  unfold descaleFillEnded
  dsimp only
  with_reducible repeat' first
      | exact h | apply enterBoiler_kept | apply enterDryFault_kept | apply enterFault_kept _ rfl | apply enterSoak_kept
      | apply abortWithCredit_kept | apply enterDrainStep_kept | split

theorem descaleDoseFaulted_kept (c : Chan) {s₀ s : State} (h : Kept s₀ s) :
    Kept s₀ (descaleDoseFaulted c s) := by
  unfold descaleDoseFaulted
  dsimp only
  with_reducible repeat' first
    | exact h | apply boilerAfterFill_kept | apply setWork_kept | apply setStall_kept | split

theorem descaleDone_kept {s₀ s : State} (h : Kept s₀ s) :
    Kept s₀ (descaleDone s) := by
  unfold descaleDone
  dsimp only
  with_reducible repeat' first
      | exact h | apply askCommit_kept | apply setDescale_kept | apply clearAccount_kept | apply raiseEvent_kept
      | apply enterPhase_kept | exact h.with_marker | split

theorem descaleDrainDone_kept {s₀ s : State} (h : Kept s₀ s) :
    Kept s₀ (descaleDrainDone s) := by
  unfold descaleDrainDone
  with_reducible repeat' first
      | exact h | apply enterPhase_kept | apply enterRinse_kept | apply descaleDone_kept | split

theorem addCause_kept (p : PauseCause) {s₀ s : State} (h : Kept s₀ s) :
    Kept s₀ (addCause p s) := by
  unfold addCause
  dsimp only
  with_reducible repeat' first | exact h | apply setRun_kept | apply raiseEvent_kept | split

theorem removeCause_kept (p : PauseCause) {s₀ s : State} (h : Kept s₀ s) :
    Kept s₀ (removeCause p s) := by
  unfold removeCause
  dsimp only
  with_reducible repeat' first | exact h | apply setRun_kept | apply raiseEvent_kept | split

theorem requestBurst_kept (ml : Nat) {s₀ s : State} (h : Kept s₀ s) :
    Kept s₀ (requestBurst ml s) := by
  unfold requestBurst
  with_reducible repeat' first | exact h | apply raiseEvent_kept | apply loadDose_kept | split

theorem cancelBurst_kept {s₀ s : State} (h : Kept s₀ s) :
    Kept s₀ (cancelBurst s) := by
  unfold cancelBurst
  with_reducible repeat' first | exact h | apply cancelDose_kept | split

theorem dropDeferred_kept {s₀ s : State} (h : Kept s₀ s) :
    Kept s₀ (dropDeferred s) := by
  unfold dropDeferred
  with_reducible repeat' first | exact h | apply setRun_kept

theorem followWater_kept {s₀ s : State} (h : Kept s₀ s) :
    Kept s₀ (followWater s) := by
  unfold followWater
  dsimp only
  with_reducible repeat' first
      | exact h | apply withholdSteam_kept | apply addCause_kept | apply setRun_kept | apply removeCause_kept
      | exact h.with_seq | split

theorem degradeStage_kept {s₀ s : State} (h : Kept s₀ s) :
    Kept s₀ (degradeStage s) := by
  unfold degradeStage
  dsimp only
  with_reducible repeat' first
      | exact h | apply setRun_kept | apply withholdSteam_kept | apply raiseEvent_kept | apply dropDeferred_kept
      | apply cancelBurst_kept | apply removeCause_kept | split

theorem endRun_kept (result : RunResult) (fault : Option FaultKind) {s₀ s : State} (h : Kept s₀ s) :
    Kept s₀ (endRun result fault s) := by
  have ht : Kept s₀ (endCondition .confirmAwaited (dropDeferred (cancelBurst s))) :=
    endCondition_kept _ (dropDeferred_kept (cancelBurst_kept h))
  unfold endRun
  dsimp only
  generalize endCondition .confirmAwaited (dropDeferred (cancelBurst s)) = t at ht
  have h1 := endClimate_kept (withholdSteam_kept false (raiseEvent_kept .programEnded
    (numberArg (lastRunOf t.ret.run result fault).finalStage)
    (Kept.with_seq (x := { t.seq with waterCondition := false }) (ht.with_ret (x :=
      { t.ret with
        run := t.ret.run.idle, slots := t.ret.slots.set t.ret.run.slot (t.ret.slots.get t.ret.run.slot).release
        lastRun := some (lastRunOf t.ret.run result fault) })))))
  exact askCommit_kept (kept_ite (markDrain_kept _ h1) h1)

theorem followProbe_kept {s₀ s : State} (h : Kept s₀ s) :
    Kept s₀ (followProbe s) := by
  unfold followProbe
  with_reducible repeat' first | exact h | apply addCause_kept | apply removeCause_kept | split

theorem addDoor_kept {s₀ s : State} (h : Kept s₀ s) :
    Kept s₀ (addDoor s) := by
  unfold addDoor
  with_reducible repeat' first | exact h | apply pauseClimate_kept | apply addCause_kept | apply setRun_kept

theorem enterCauses_kept (atStart : Bool) {s₀ s : State} (h : Kept s₀ s) :
    Kept s₀ (enterCauses atStart s) := by
  unfold enterCauses
  dsimp only
  with_reducible repeat' first
      | exact h | apply followWater_kept | apply followProbe_kept | apply addDoor_kept | apply addCause_kept
      | exact h.with_seq | split

theorem enterBurst_kept {s₀ s : State} (h : Kept s₀ s) :
    Kept s₀ (enterBurst s) := by
  unfold enterBurst
  with_reducible repeat' first
      | exact h | apply setRun_kept | apply followWater_kept | apply requestBurst_kept | split

theorem closeStage_kept {s₀ s : State} (h : Kept s₀ s) :
    Kept s₀ (closeStage s) := by
  unfold closeStage
  with_reducible repeat' first
      | exact h | apply removeCause_kept | apply endCondition_kept | apply dropDeferred_kept
      | apply cancelBurst_kept

theorem enterStage_kept (i : Nat) (atStart : Bool) {s₀ s : State} (h : Kept s₀ s) :
    Kept s₀ (enterStage i atStart s).1 := by
  unfold enterStage
  dsimp only
  have h0 := setRun_kept (s.ret.run.atStage i (stageAt s i)) h
  generalize setRun (s.ret.run.atStage i (stageAt s i)) s = t at h0
  split
  · exact endRun_kept _ _ h0
  · have h1 : Kept s₀ (if t.ret.run.steamLost then degradeStage t else t) := kept_ite (degradeStage_kept h0) h0
    generalize (if t.ret.run.steamLost then degradeStage t else t) = u at h1
    have h2 := stageEntry_kept (stageRecord (stageAt s i) u.ret.run) h1
    split
    · rename_i e
      rw [e] at h2; exact endRun_kept _ _ h2
    · rename_i e
      rw [e] at h2
      have h3 := fun b => raiseEvent_kept .stageStarted (numberArg i) (withholdSteam_kept b h2)
      exact enterBurst_kept (enterCauses_kept _ (kept_ite (raiseEvent_kept _ _ (h3 _)) (h3 _)))

theorem endStages_kept (fuel : Nat) {s₀ s : State} (h : Kept s₀ s) : Kept s₀ (endStages fuel s) := by
  induction fuel generalizing s with
  | zero => exact h
  | succ fuel ih =>
    unfold endStages
    dsimp only
    have h1 := closeStage_kept h
    generalize closeStage s = t at h1
    split
    · exact endRun_kept _ _ h1
    · have h2 := enterStage_kept (t.ret.run.stageIndex + 1) false h1
      split
      · rename_i e
        rw [e] at h2
        exact kept_ite (ih h2) h2
      · rename_i e
        rw [e] at h2; exact h2

theorem endStage_kept {s₀ s : State} (h : Kept s₀ s) :
    Kept s₀ (endStage s) := endStages_kept 12 h

theorem checkStageEnd_kept {s₀ s : State} (h : Kept s₀ s) :
    Kept s₀ (checkStageEnd s) := by
  unfold checkStageEnd
  with_reducible repeat' first | exact h | apply endStage_kept | split

theorem checkRunFaults_kept {s₀ s : State} (h : Kept s₀ s) :
    Kept s₀ (checkRunFaults s) := by
  unfold checkRunFaults
  with_reducible repeat' first
      | exact h | apply endRun_kept | apply checkStageEnd_kept | apply degradeStage_kept | apply setRun_kept
      | split

theorem settle_kept {s₀ s : State} (h : Kept s₀ s) :
    Kept s₀ (settle s) := by
  unfold settle
  with_reducible repeat' first
      | exact h | apply flushCommit_kept | apply arbitrate_kept | apply followWaterConditions_kept
      | apply renewHeaterRequest_kept | apply yieldForces_kept | apply followPrepare_kept | apply followNeed_kept
      | apply followWater_kept | apply followTopUp_kept | apply checkRunFaults_kept

theorem doseCompleted_kept (c : Chan) (d : Dose) {s₀ s : State} (h : Kept s₀ s) :
    Kept s₀ (doseCompleted c d s) := by
  unfold doseCompleted
  with_reducible repeat' first
      | exact h | apply enterBoiler_kept | apply enterDryFault_kept | apply enterFault_kept _ rfl
      | apply descaleFillEnded_kept | apply enterFill_kept | apply resumeSource_kept | split

theorem doseFaulted_kept (c : Chan) (d : Dose) {s₀ s : State} (h : Kept s₀ s) :
    Kept s₀ (doseFaulted c d s) := by
  unfold doseFaulted
  with_reducible repeat' first
      | exact h | apply enterBoiler_kept | apply setBoiler_kept | apply descaleDoseFaulted_kept | split

theorem terminalCount_kept (c : Chan) {s₀ s : State} (h : Kept s₀ s) :
    Kept s₀ (terminalCount c s) := by
  unfold terminalCount
  dsimp only
  with_reducible repeat' first
      | exact h | apply endNoFlow_kept | apply doseCompleted_kept | apply endDose_kept | apply setChan_kept
      | split

theorem endPortion_kept (c : Chan) {s₀ s : State} (h : Kept s₀ s) :
    Kept s₀ (endPortion c s) := by
  unfold endPortion
  with_reducible repeat' first | exact h | apply setChanState_kept | apply releasePath_kept | apply passPulses_kept

theorem highBecomesCovered_kept {s₀ s : State} (h : Kept s₀ s) :
    Kept s₀ (highBecomesCovered s) := by
  unfold highBecomesCovered
  with_reducible repeat' first
      | exact h | apply enterBoiler_kept | apply endDose_kept | apply descaleFillEnded_kept
      | apply cancelTopUp_kept | split

theorem drainEnded_kept (d : Dose) {s₀ s : State} (h : Kept s₀ s) :
    Kept s₀ (drainEnded d s) := by
  unfold drainEnded
  dsimp only
  with_reducible repeat' first
      | exact h | apply enterFault_kept _ rfl | apply enterBoiler_kept | apply markDrain_kept | apply setStall_kept
      | apply descaleDrainDone_kept | split

theorem markAgent_kept (c : Chan) (d : Dose) {s₀ s : State} (h : Kept s₀ s) :
    Kept s₀ (markAgent c d s) := by
  unfold markAgent
  with_reducible repeat' first | exact h | apply askCommit_kept | exact h.with_marker | split

theorem countPulse_kept (c : Chan) (d : Dose) {s₀ s : State} (h : Kept s₀ s) :
    Kept s₀ (countPulse c d s) := by
  unfold countPulse
  dsimp only
  with_reducible repeat' first
      | exact h | apply setDose_kept | apply markAgent_kept | apply terminalCount_kept | apply endPortion_kept
      | exact h.with_water | split

theorem pulseArrives_kept {s₀ s : State} (h : Kept s₀ s) :
    Kept s₀ (pulseArrives s) := by
  unfold pulseArrives
  with_reducible repeat' first | exact h | apply settle_kept | apply countPulse_kept | split

theorem faultChannel_kept (c : Chan) {s₀ s : State} (h : Kept s₀ s) :
    Kept s₀ (faultChannel c s) := by
  unfold faultChannel
  with_reducible repeat' first
      | exact h | apply settle_kept | apply doseFaulted_kept | apply endDose_kept | apply enterFault_kept _ rfl | split

theorem deriveBoiler_kept (counted : Bool) {s₀ s : State} (h : Kept s₀ s) :
    Kept s₀ (deriveBoiler counted s) := by
  unfold deriveBoiler
  with_reducible repeat' first | exact h | apply setBoiler_kept | split

theorem followBoiling_kept {s₀ s : State} (h : Kept s₀ s) :
    Kept s₀ (followBoiling s) := by
  unfold followBoiling
  with_reducible repeat' first | exact h | apply enterBoiler_kept | split

theorem checkDry_kept {s₀ s : State} (h : Kept s₀ s) :
    Kept s₀ (checkDry s) := by
  unfold checkDry
  dsimp only
  with_reducible repeat' first | exact h | apply enterDryFault_kept | apply enterFault_kept _ rfl | split

theorem raiseProbe_kept (was : Bool) {s₀ s : State} (h : Kept s₀ s) :
    Kept s₀ (raiseProbe was s) := by
  unfold raiseProbe
  with_reducible repeat' first | exact h | apply raiseEvent_kept | split

theorem beginCavityFault_kept (before : State) {s₀ s : State} (h : Kept s₀ s) :
    Kept s₀ (beginCavityFault before s) := by
  unfold beginCavityFault
  with_reducible repeat' first | exact h | apply postZeros_kept | split

theorem changeBoilerFault_kept (before : State) {s₀ s : State} (h : Kept s₀ s) :
    Kept s₀ (changeBoilerFault before s) := by
  unfold changeBoilerFault
  with_reducible repeat' first | exact h | apply postBoiler_kept | split

theorem testCore_kept {s₀ s : State} (h : Kept s₀ s) :
    Kept s₀ (testCore s) := by
  unfold testCore
  with_reducible repeat' first | exact h | apply raiseEvent_kept | apply setRun_kept | split

theorem afterReadings_kept (before : State) {s₀ s : State} (h : Kept s₀ s) :
    Kept s₀ (afterReadings before s) := by
  unfold afterReadings
  dsimp only
  with_reducible repeat' first
      | exact h | apply climateSample_kept | apply changeBoilerFault_kept | apply beginCavityFault_kept
      | apply checkDry_kept | apply followBoiling_kept | apply deriveBoiler_kept | apply checkStageEnd_kept
      | apply testCore_kept | apply followProbe_kept

theorem setShare_kept (p : PowerShare) {s₀ s : State} (h : Kept s₀ s) :
    Kept s₀ (setShare p s) := h.with_share

theorem refuseClaim_kept (placed : Option Load) (claim : Option Load) {s₀ s : State} (h : Kept s₀ s) :
    Kept s₀ (refuseClaim placed claim s) := by
  unfold refuseClaim
  with_reducible repeat' first | exact h | apply removeForce_kept | split

theorem beginAllocation_kept {s₀ s : State} (h : Kept s₀ s) :
    Kept s₀ (beginAllocation s) := by
  unfold beginAllocation
  dsimp only
  with_reducible repeat' first | exact h | apply refuseClaim_kept | apply setShare_kept

theorem reportBoiler_kept (shortfall : Nat) (granted : Nat) {s₀ s : State} (h : Kept s₀ s) :
    Kept s₀ (reportBoiler shortfall granted s) := by
  unfold reportBoiler
  with_reducible repeat' first | exact h | apply setBoiler_kept

theorem relayAtZeroCross_kept (c : Nat) {s₀ s : State} (h : Kept s₀ s) :
    Kept s₀ (relayAtZeroCross c s) := by
  unfold relayAtZeroCross
  with_reducible repeat' first | exact h | apply setRelay_kept | split

theorem takeReports_kept (r : ReachedReport) {s₀ s : State} (h : Kept s₀ s) :
    Kept s₀ (takeReports r s) := by
  unfold takeReports
  dsimp only
  with_reducible repeat' first
      | exact h | apply raiseEvent_kept | apply setRun_kept | apply checkStageEnd_kept | split

theorem chargePath_kept {s₀ s : State} (h : Kept s₀ s) :
    Kept s₀ (chargePath s) := by
  unfold chargePath
  with_reducible repeat' first | exact h | apply passPulses_kept | split

theorem chargeRunning_kept {s₀ s : State} (h : Kept s₀ s) :
    Kept s₀ (chargeRunning s) := by
  unfold chargeRunning
  dsimp only
  with_reducible repeat' first | exact chargePath_kept h | apply passPulses_kept | split

theorem requestDeferred_kept {s₀ s : State} (h : Kept s₀ s) :
    Kept s₀ (requestDeferred s) := by
  unfold requestDeferred
  with_reducible repeat' first
      | exact h | apply followWater_kept | apply requestBurst_kept | apply dropDeferred_kept | split

theorem dropDoor_kept {s₀ s : State} (h : Kept s₀ s) :
    Kept s₀ (dropDoor s) := by
  unfold dropDoor
  with_reducible repeat' first
      | exact h | apply requestDeferred_kept | apply unpauseClimate_kept | apply removeCause_kept
      | apply setRun_kept | split

theorem doorCloses_kept {s₀ s : State} (h : Kept s₀ s) :
    Kept s₀ (doorCloses s) := by
  unfold doorCloses
  dsimp only
  with_reducible repeat' first
      | exact h | apply startFan_kept | apply startLamp_kept | apply raiseEvent_kept | apply dropDoor_kept | split

theorem followTray_kept {s₀ s : State} (h : Kept s₀ s) :
    Kept s₀ (followTray s) := by
  unfold followTray
  with_reducible repeat' first | exact h | apply followCondition_kept

theorem tankChanges_kept (before : State) {s₀ s : State} (h : Kept s₀ s) :
    Kept s₀ (tankChanges before s) := by
  unfold tankChanges
  with_reducible repeat' first | exact h | apply tryDescaleDrain_kept | apply followSource_kept

theorem endChanges_kept (e : VentEnd) (before : State) {s₀ s : State} (h : Kept s₀ s) :
    Kept s₀ (endChanges e before s) := by
  unfold endChanges
  with_reducible repeat' first | exact h | apply reachEnd_kept | split

theorem setQueue_kept (l : Link) (q : List Entry) {s₀ s : State} (h : Kept s₀ s) :
    Kept s₀ (setQueue l q s) := by
  unfold setQueue
  with_reducible repeat' first | exact h | exact h.with_events fun _ _ => .rfl

theorem steer_kept (k : EventKind) (set : LinkSet) {s₀ s : State} (h : Kept s₀ s) :
    Kept s₀ (steer k set s) := by
  unfold steer
  dsimp only
  with_reducible repeat' first | exact h | exact h.with_events fun _ _ => .rfl

theorem afterRemovals_kept {s₀ s : State} (h : Kept s₀ s) :
    Kept s₀ (afterRemovals s) := by
  unfold afterRemovals
  with_reducible repeat' first
      | exact h | apply leaveDryFault_kept | apply startFan_kept | apply leaveClimateFault_kept

theorem beginDescale_kept {s₀ s : State} (h : Kept s₀ s) :
    Kept s₀ (beginDescale s) := by
  unfold beginDescale
  with_reducible repeat' first | exact h | apply enterPhase_kept | apply setStall_kept | apply setDescale_kept

theorem confirmStall_kept {s₀ s : State} (h : Kept s₀ s) :
    Kept s₀ (confirmStall s) := by
  unfold confirmStall
  with_reducible repeat' first | exact h | apply wantDose_kept | apply setStall_kept | apply wantDrain_kept | split

theorem cancelOwn_kept (c : Chan) {s₀ s : State} (h : Kept s₀ s) :
    Kept s₀ (cancelOwn c s) := by
  unfold cancelOwn
  with_reducible repeat' first | exact h | apply cancelDose_kept | split

theorem abortClean_kept {s₀ s : State} (h : Kept s₀ s) :
    Kept s₀ (abortClean s) := by
  unfold abortClean
  dsimp only
  with_reducible repeat' first
      | exact h | apply cancelOwn_kept | apply cancelDescaleFill_kept | apply setWork_kept | apply markDrain_kept
      | apply setStall_kept | apply withdrawSoakTarget_kept | apply raiseEvent_kept | apply setDescale_kept
      | apply enterPhase_kept | split

theorem waterTimesOut_kept {s₀ s : State} (h : Kept s₀ s) :
    Kept s₀ (waterTimesOut s) := by
  unfold waterTimesOut
  dsimp only
  with_reducible repeat' first
      | exact h | apply removeCause_kept | apply withholdSteam_kept | apply setRun_kept | apply checkStageEnd_kept
      | apply degradeStage_kept

theorem setSlot_kept (n : Nat) (x : Slot) {s₀ s : State} (h : Kept s₀ s) :
    Kept s₀ (setSlot n x s) := h.with_ret

theorem enterFirst_kept {s₀ s : State} (h : Kept s₀ s) :
    Kept s₀ (enterFirst s) := by
  have h1 := enterStage_kept 0 true h
  unfold enterFirst
  split <;> (rename_i e; rw [e] at h1)
  · exact checkStageEnd_kept h1
  · exact h1

theorem beginRun_kept (slot : Nat) {s₀ s : State} (h : Kept s₀ s) :
    Kept s₀ (beginRun slot s) := by
  unfold beginRun
  dsimp only
  have h1 := setSlot_kept slot { s.ret.slots.get slot with state := .inUse } h
  generalize setSlot slot { s.ret.slots.get slot with state := .inUse } s = t at h1
  have h2 := endForces_kept (setRun_kept (t.ret.run.started slot (s.ret.slots.get slot).generation (steamFault t)) h1)
  generalize endForces _ = u at h2
  have h3 : Kept s₀ { u with seq := { u.seq with waterCondition := false } } := Kept.with_seq h2
  exact enterFirst_kept (kept_ite (markDrain_kept _ h3) h3)

theorem storeAdjusted_kept (a : Adjustment) {s₀ s : State} (h : Kept s₀ s) :
    Kept s₀ (storeAdjusted a s) := by
  unfold storeAdjusted
  with_reducible repeat' first | exact h | apply setRun_kept | split

theorem makeForce_kept (o : Output) (level : Bool) {s₀ s : State} (h : Kept s₀ s) :
    Kept s₀ (makeForce o level s) := by
  have h1 := h.with_out (x := { s.out with forces := placeForce o level (startsAtEnd s o) s.out.forces }) rfl rfl
  unfold makeForce
  split
  · exact h1
  · exact h1.with_share

theorem afterWrite_kept (number : Nat) {s₀ s : State} (h : Kept s₀ s) :
    Kept s₀ (afterWrite number s) := by
  unfold afterWrite
  with_reducible repeat' first | exact h | apply setRun_kept | apply evaluateLevel_kept | exact h.with_scale | split

theorem settleLost_kept {s₀ s : State} (h : Kept s₀ s) :
    Kept s₀ (settleLost s) := by
  unfold settleLost
  with_reducible repeat' first | exact h | apply askCommit_kept | apply raiseEvent_kept | exact h.with_ret | split

theorem raiseResumed_kept {s₀ s : State} (h : Kept s₀ s) :
    Kept s₀ (raiseResumed s) := by
  unfold raiseResumed
  dsimp only
  with_reducible repeat' first | exact h | apply raiseEvent_kept | split

theorem losePower_kept {s₀ s : State} (h : Kept s₀ s) :
    Kept s₀ (losePower s) := by
  unfold losePower
  dsimp only
  with_reducible repeat' first | exact h | apply askCommit_kept | apply raiseEvent_kept | exact h.with_ret

theorem recoverAgent_kept {s₀ s : State} (h : Kept s₀ s) :
    Kept s₀ (recoverAgent s) := by
  unfold recoverAgent
  dsimp only
  with_reducible repeat' first
      | exact h | apply creditAbort_kept | apply setDescale_kept | apply enterDrainAgent_kept
      | apply setStall_kept | split

theorem recoverClean_kept {s₀ s : State} (h : Kept s₀ s) :
    Kept s₀ (recoverClean s) := by
  unfold recoverClean
  with_reducible repeat' first | exact h | apply enterPhase_kept | apply setStall_kept | apply setDescale_kept | split

theorem recoverDescale_kept {s₀ s : State} (h : Kept s₀ s) :
    Kept s₀ (recoverDescale s) := by
  unfold recoverDescale
  with_reducible repeat' first | exact h | apply recoverAgent_kept | apply recoverClean_kept | split

theorem passDrain_kept {s₀ s : State} (h : Kept s₀ s) :
    Kept s₀ (passDrain s) := by
  unfold passDrain
  dsimp only
  with_reducible repeat' first | exact h | apply setDose_kept | exact h.with_water | split

end Sys2Proof.Machine
end

