-- ==== Sys2Proof/Laws/Operations.lean ====
section
/-! SUPPORT. `Sound` through every other shared operation of the units, in the order of the files of Machine/. -/

namespace Sys2Proof.Machine

theorem followFault_sound (f : FaultKind) (holds : Bool) {s₀ s : State} (h : Sound s₀ s) :
    Sound s₀ (followFault f holds s) := by
  unfold followFault
  with_reducible repeat' first | exact h | apply enterFault_sound | apply leaveFault_sound | split

theorem flushCommit_sound {s₀ s : State} (h : Sound s₀ s) :
    Sound s₀ (flushCommit s) := by
  unfold flushCommit
  with_reducible repeat' first | exact h | exact h.with_store | split

theorem clearAccount_sound {s₀ s : State} (h : Sound s₀ s) :
    Sound s₀ (clearAccount s) := by
  unfold clearAccount
  with_reducible repeat' first | exact h | apply askCommit_sound | apply evaluateLevel_sound | exact h.with_scale

theorem creditAbort_sound {s₀ s : State} (h : Sound s₀ s) :
    Sound s₀ (creditAbort s) := by
  unfold creditAbort
  dsimp only
  with_reducible repeat' first | exact h | apply askCommit_sound | apply evaluateLevel_sound | exact h.with_scale

theorem primeSource_sound (src : Source) {s₀ s : State} (h : Sound s₀ s) :
    Sound s₀ (primeSource src s) := by
  unfold primeSource
  split
  · split
    · split
      · exact requeue_sound h ‹_›
      · exact h
    · exact resumeSource_sound src h
  · exact loadDose_sound _ _ _ _ _ _ _ h

theorem followSource_sound (src : Source) (was : Bool) {s₀ s : State} (h : Sound s₀ s) :
    Sound s₀ (followSource src was s) := by
  unfold followSource
  with_reducible repeat' first | exact h | apply suspendSource_sound | apply primeSource_sound | split

theorem followWaterConditions_sound {s₀ s : State} (h : Sound s₀ s) :
    Sound s₀ (followWaterConditions s) := by
  unfold followWaterConditions
  with_reducible repeat' first | exact h | apply followCondition_sound

theorem cutCavity_sound {s₀ s : State} (h : Sound s₀ s) :
    Sound s₀ (cutCavity s) := by
  unfold cutCavity
  with_reducible repeat' first | exact h | exact h.with_out

theorem cutBoiler_sound {s₀ s : State} (h : Sound s₀ s) :
    Sound s₀ (cutBoiler s) := by
  unfold cutBoiler
  with_reducible repeat' first | exact h | exact h.with_out

theorem cutAll_sound {s₀ s : State} (h : Sound s₀ s) :
    Sound s₀ (cutAll s) := by
  unfold cutAll
  with_reducible repeat' first | exact h | exact h.with_out

theorem renewHeaterRequest_sound {s₀ s : State} (h : Sound s₀ s) :
    Sound s₀ (renewHeaterRequest s) := by
  unfold renewHeaterRequest
  with_reducible repeat' first | exact h | exact h.with_out

theorem askRelay_sound (closed : Bool) {s₀ s : State} (h : Sound s₀ s) :
    Sound s₀ (askRelay closed s) := by
  unfold askRelay
  with_reducible repeat' first | exact h | apply renewHeaterRequest_sound | exact h.with_climate

theorem setRelay_sound (r : RelayId) (x : Relay) {s₀ s : State} (h : Sound s₀ s) :
    Sound s₀ (setRelay r x s) := by
  unfold setRelay
  with_reducible repeat' first | exact h | exact h.with_out | split

theorem setFan_sound (f : FanDrive) {s₀ s : State} (h : Sound s₀ s) :
    Sound s₀ (setFan f s) := by
  unfold setFan
  with_reducible repeat' first | exact h | exact h.with_out

theorem startFan_sound {s₀ s : State} (h : Sound s₀ s) :
    Sound s₀ (startFan s) := by
  unfold startFan
  with_reducible repeat' first | exact h | apply setFan_sound | split

theorem issueFan_sound (code : Nat) {s₀ s : State} (h : Sound s₀ s) :
    Sound s₀ (issueFan code s) := by
  unfold issueFan
  dsimp only
  with_reducible repeat' first | exact h | apply setFan_sound | apply startFan_sound | split

theorem holdFan_sound {s₀ s : State} (h : Sound s₀ s) :
    Sound s₀ (holdFan s) := by
  unfold holdFan
  with_reducible repeat' first | exact h | apply setFan_sound | split

theorem beginReversal_sound {s₀ s : State} (h : Sound s₀ s) :
    Sound s₀ (beginReversal s) := by
  unfold beginReversal
  with_reducible repeat' first | exact h | apply setFan_sound | split

theorem endReversal_sound {s₀ s : State} (h : Sound s₀ s) :
    Sound s₀ (endReversal s) := by
  unfold endReversal
  with_reducible repeat' first | exact h | apply startFan_sound | apply setFan_sound | split

theorem setVent_sound (v : VentFlap) {s₀ s : State} (h : Sound s₀ s) :
    Sound s₀ (setVent v s) := by
  unfold setVent
  with_reducible repeat' first | exact h | exact h.with_out

theorem arriveVent_sound (e : VentEnd) {s₀ s : State} (h : Sound s₀ s) :
    Sound s₀ (arriveVent e s) := by
  unfold arriveVent
  with_reducible repeat' first | exact h | apply leaveFault_sound | apply setVent_sound

theorem travelVent_sound (e : VentEnd) {s₀ s : State} (h : Sound s₀ s) :
    Sound s₀ (travelVent e s) := by
  unfold travelVent
  dsimp only
  with_reducible repeat' first | exact h | apply setVent_sound | apply arriveVent_sound | split

theorem requestVent_sound (e : VentEnd) {s₀ s : State} (h : Sound s₀ s) :
    Sound s₀ (requestVent e s) := by
  unfold requestVent
  with_reducible repeat' first | exact h | apply travelVent_sound | split

theorem returnVent_sound {s₀ s : State} (h : Sound s₀ s) :
    Sound s₀ (returnVent s) := by
  unfold returnVent
  with_reducible repeat' first | exact h | apply arriveVent_sound | apply travelVent_sound | split

theorem endDrive_sound (e : VentEnd) {s₀ s : State} (h : Sound s₀ s) :
    Sound s₀ (endDrive e s) := h.with_out

theorem reachEnd_sound (e : VentEnd) (before : State) {s₀ s : State} (h : Sound s₀ s) :
    Sound s₀ (reachEnd e before s) := by
  unfold reachEnd
  with_reducible repeat' first | exact h | apply endDrive_sound | apply arriveVent_sound | split

theorem startLamp_sound {s₀ s : State} (h : Sound s₀ s) :
    Sound s₀ (startLamp s) := by
  unfold startLamp
  with_reducible repeat' first | exact h | exact h.with_out

theorem stopLamp_sound {s₀ s : State} (h : Sound s₀ s) :
    Sound s₀ (stopLamp s) := by
  unfold stopLamp
  with_reducible repeat' first | exact h | exact h.with_out

theorem dropClaim_sound {s₀ s : State} (h : Sound s₀ s) : Sound s₀ (dropClaim s) := h.with_share

theorem removeForce_sound (o : Output) {s₀ s : State} (h : Sound s₀ s) :
    Sound s₀ (removeForce o s) := by
  unfold removeForce
  dsimp only
  repeat' first
    | exact h
    | exact h.with_out
    | with_reducible apply dropClaim_sound
    | with_reducible apply renewHeaterRequest_sound
    | with_reducible apply returnVent_sound
    | split

theorem removeForces_sound (which : Output → Bool) {s₀ s : State} (h : Sound s₀ s) :
    Sound s₀ (removeForces which s) := by
  unfold removeForces
  generalize allOutputs = os
  induction os generalizing s with
  | nil => exact h
  | cons o os ih =>
    simp only [List.foldl_cons]
    exact ih (by split; exacts [removeForce_sound _ h, h])

theorem endPulse_sound {s₀ s : State} (h : Sound s₀ s) :
    Sound s₀ (endPulse s) := by
  unfold endPulse
  dsimp only
  with_reducible repeat' first | exact h | apply returnVent_sound | exact h.with_out | split

theorem endForces_sound {s₀ s : State} (h : Sound s₀ s) :
    Sound s₀ (endForces s) := endPulse_sound (removeForces_sound _ h)

theorem yieldForces_sound {s₀ s : State} (h : Sound s₀ s) :
    Sound s₀ (yieldForces s) := by
  unfold yieldForces
  with_reducible repeat' first | exact h | apply endForces_sound | split

theorem setBoiler_sound (b : Boiler) {s₀ s : State} (h : Sound s₀ s) :
    Sound s₀ (setBoiler b s) := h.with_boiler

theorem followNeed_sound {s₀ s : State} (h : Sound s₀ s) :
    Sound s₀ (followNeed s) := by
  unfold followNeed
  dsimp only
  with_reducible repeat' first | exact h | apply setBoiler_sound

theorem postBoilerAs_sound (d : Nat) {s₀ s : State} (h : Sound s₀ s) :
    Sound s₀ (postBoilerAs d s) := by
  unfold postBoilerAs
  with_reducible repeat' first | exact h | exact h.with_share | exact h.with_boiler | split

theorem postBoiler_sound {s₀ s : State} (h : Sound s₀ s) :
    Sound s₀ (postBoiler s) := by
  unfold postBoiler
  with_reducible repeat' first | exact h | apply postBoilerAs_sound

theorem handSteamRequest_sound (n : Nat) {s₀ s : State} (h : Sound s₀ s) :
    Sound s₀ (handSteamRequest n s) := by
  unfold handSteamRequest
  with_reducible repeat' first | exact h | apply postBoiler_sound | apply setBoiler_sound

theorem cancelTopUp_sound {s₀ s : State} (h : Sound s₀ s) :
    Sound s₀ (cancelTopUp s) := by
  unfold cancelTopUp
  with_reducible repeat' first | exact h | apply chan_sound | apply cancelDose_sound | split

theorem markDrain_sound (b : Bool) {s₀ s : State} (h : Sound s₀ s) :
    Sound s₀ (markDrain b s) := by
  unfold markDrain
  dsimp only
  with_reducible repeat' first
      | exact h | apply setBoiler_sound | apply postBoiler_sound | apply cancelTopUp_sound | split

theorem enterBoiler_sound (st : BoilerState) {s₀ s : State} (h : Sound s₀ s) :
    Sound s₀ (enterBoiler st s) := by
  unfold enterBoiler
  dsimp only
  with_reducible repeat' first
      | exact h | apply setBoiler_sound | apply postBoiler_sound | apply cancelTopUp_sound | split

theorem endNoFlow_sound {s₀ s : State} (h : Sound s₀ s) :
    Sound s₀ (endNoFlow s) := by
  unfold endNoFlow
  with_reducible repeat' first | exact h | apply leaveFault_sound | apply setBoiler_sound | split

theorem followTopUp_sound {s₀ s : State} (h : Sound s₀ s) :
    Sound s₀ (followTopUp s) := by
  unfold followTopUp
  with_reducible repeat' first | exact h | apply cancelTopUp_sound | split

theorem loadDrain_sound (r : Requester) {s₀ s : State} (h : Sound s₀ s) :
    Sound s₀ (loadDrain r s) := by
  unfold loadDrain
  split
  · exact h
  · have h1 : ∀ st : ChanState, ∀ d : Dose, DoseSound d →
        Sound s₀ (markDrain false { setChan .ch3 ⟨st, some d⟩ s with
          water := { (setChan .ch3 ⟨st, some d⟩ s).water with drainClock := 0 } }) := fun st d hd =>
      markDrain_sound _ (Sound.trans (setChan_same_sound h
        (fun _ => ⟨fun _ => rfl, fun d' e => by cases e; exact hd⟩) (by simp)) (Sound.water id id))
    show Sound s₀ (if (markDrain false _).boiler.state = _ then markDrain false _ else enterBoiler .draining (markDrain false _))
    refine ite_sound ?_ (enterBoiler_sound _ ?_)
    · refine h1 _ _ ?_; exact ⟨rfl, Nat.le_refl 0⟩
    · refine h1 _ _ ?_; exact ⟨rfl, Nat.le_refl 0⟩

theorem setClimate_sound (c : Climate) {s₀ s : State} (h : Sound s₀ s) :
    Sound s₀ (setClimate c s) := h.with_climate

theorem postCavity_sound (d : PerCavity Nat) {s₀ s : State} (h : Sound s₀ s) :
    Sound s₀ (postCavity d s) := by
  unfold postCavity
  with_reducible repeat' first | exact h | exact h.with_share

theorem postZeros_sound {s₀ s : State} (h : Sound s₀ s) :
    Sound s₀ (postZeros s) := by
  unfold postZeros
  with_reducible repeat' first | exact h | apply handSteamRequest_sound | apply postCavity_sound

theorem requestModeVent_sound {s₀ s : State} (h : Sound s₀ s) :
    Sound s₀ (requestModeVent s) := by
  unfold requestModeVent
  with_reducible repeat' first | exact h | apply requestVent_sound | split

theorem issueOutputs_sound {s₀ s : State} (h : Sound s₀ s) :
    Sound s₀ (issueOutputs s) := by
  unfold issueOutputs
  with_reducible repeat' first
      | exact h | apply requestModeVent_sound | apply issueFan_sound | apply askRelay_sound
      | apply requestVent_sound | split

theorem stageEntry_sound (sent : SentRecord) {s₀ s : State} (h : Sound s₀ s) : Sound s₀ (stageEntry sent s).1 := by
  unfold stageEntry
  dsimp only
  with_reducible repeat' first
      | exact h | exact h.with_climate | apply issueOutputs_sound | apply setClimate_sound | split

theorem adjustWrite_sound (a b : Option Int) {s₀ s : State} (h : Sound s₀ s) : Sound s₀ (adjustWrite a b s).1 := by
  unfold adjustWrite
  dsimp only
  with_reducible repeat' first | exact h | exact h.with_climate | apply setClimate_sound | split

theorem resumeWrite_sound (sent : SentRecord) (temp : Bool) (moist : Bool) (door : Bool) {s₀ s : State} (h : Sound s₀ s) :
    Sound s₀ (resumeWrite sent temp moist door s) := by
  unfold resumeWrite
  dsimp only
  split
  · exact stageEntry_sound sent h
  · exact issueOutputs_sound (setClimate_sound _ h)

theorem pauseClimate_sound {s₀ s : State} (h : Sound s₀ s) :
    Sound s₀ (pauseClimate s) := by
  unfold pauseClimate
  with_reducible repeat' first
      | exact h | apply issueOutputs_sound | apply postZeros_sound | apply setClimate_sound | split

theorem unpauseClimate_sound {s₀ s : State} (h : Sound s₀ s) :
    Sound s₀ (unpauseClimate s) := by
  unfold unpauseClimate
  with_reducible repeat' first | exact h | apply issueOutputs_sound | apply setClimate_sound | split

theorem withholdSteam_sound (b : Bool) {s₀ s : State} (h : Sound s₀ s) :
    Sound s₀ (withholdSteam b s) := by
  unfold withholdSteam
  dsimp only
  with_reducible repeat' first | exact h | apply setClimate_sound | apply handSteamRequest_sound | split

theorem endClimate_sound {s₀ s : State} (h : Sound s₀ s) :
    Sound s₀ (endClimate s) := by
  unfold endClimate
  dsimp only
  with_reducible repeat' first
      | exact h | apply issueOutputs_sound | apply postZeros_sound | apply setClimate_sound | split

theorem enterClimateFault_sound {s₀ s : State} (h : Sound s₀ s) :
    Sound s₀ (enterClimateFault s) := by
  unfold enterClimateFault
  with_reducible repeat' first
      | exact h | apply issueOutputs_sound | apply postZeros_sound | apply setClimate_sound
      | apply enterFault_sound

theorem leaveClimateFault_sound {s₀ s : State} (h : Sound s₀ s) :
    Sound s₀ (leaveClimateFault s) := by
  unfold leaveClimateFault
  with_reducible repeat' first | exact h | apply issueOutputs_sound | apply setClimate_sound | split

theorem issueMoistureVent_sound (r : SetpointRecord) {s₀ s : State} (h : Sound s₀ s) :
    Sound s₀ (issueMoistureVent r s) := by
  unfold issueMoistureVent
  with_reducible repeat' first | exact h | apply requestVent_sound | split

theorem runLoops_sound (r : SetpointRecord) {s₀ s : State} (h : Sound s₀ s) :
    Sound s₀ (runLoops r s) := by
  unfold runLoops
  dsimp only
  with_reducible repeat' first
      | exact h | apply setClimate_sound | apply postCavity_sound | apply issueMoistureVent_sound
      | apply handSteamRequest_sound | split

theorem countRunaway_sound {s₀ s : State} (h : Sound s₀ s) :
    Sound s₀ (countRunaway s) := by
  unfold countRunaway
  with_reducible repeat' first | exact h | apply setClimate_sound | split

theorem checkRunaway_sound {s₀ s : State} (h : Sound s₀ s) :
    Sound s₀ (checkRunaway s) := by
  unfold checkRunaway
  with_reducible repeat' first | exact h | apply enterClimateFault_sound | split

theorem checkCooldown_sound {s₀ s : State} (h : Sound s₀ s) :
    Sound s₀ (checkCooldown s) := by
  unfold checkCooldown
  with_reducible repeat' first
      | exact h | apply raiseEvent_sound | apply issueOutputs_sound | apply setClimate_sound | split

theorem decideCoolingFan_sound {s₀ s : State} (h : Sound s₀ s) :
    Sound s₀ (decideCoolingFan s) := by
  unfold decideCoolingFan
  dsimp only
  with_reducible repeat' first | exact h | apply setClimate_sound

theorem climateSample_sound {s₀ s : State} (h : Sound s₀ s) :
    Sound s₀ (climateSample s) := by
  unfold climateSample
  with_reducible repeat' first
      | exact h | apply decideCoolingFan_sound | apply checkCooldown_sound | apply checkRunaway_sound
      | apply countRunaway_sound

theorem setDescale_sound (d : Descale) {s₀ s : State} (h : Sound s₀ s) :
    Sound s₀ (setDescale d s) := by
  unfold setDescale
  with_reducible repeat' first | exact h | exact h.with_ret rfl rfl

theorem setWork_sound (w : DescaleWork) {s₀ s : State} (h : Sound s₀ s) :
    Sound s₀ (setWork w s) := h.with_work

theorem followPrompt_sound {s₀ s : State} (h : Sound s₀ s) :
    Sound s₀ (followPrompt s) := by
  unfold followPrompt
  with_reducible repeat' first | exact h | apply followCondition_sound

theorem enterPhase_sound (p : DescalePhase) (step : Option RinseStep) {s₀ s : State} (h : Sound s₀ s) :
    Sound s₀ (enterPhase p step s) := by
  unfold enterPhase
  with_reducible repeat' first
      | exact h | apply postBoiler_sound | apply followTopUp_sound | apply followPrompt_sound
      | apply setDescale_sound

theorem setStall_sound (x : Stall) {s₀ s : State} (h : Sound s₀ s) :
    Sound s₀ (setStall x s) := by
  unfold setStall
  with_reducible repeat' first | exact h | apply followPrompt_sound | apply setDescale_sound

theorem giveSoakTarget_sound {s₀ s : State} (h : Sound s₀ s) :
    Sound s₀ (giveSoakTarget s) := by
  unfold giveSoakTarget
  dsimp only
  with_reducible repeat' first | exact h | apply setBoiler_sound | apply postBoilerAs_sound

theorem withdrawSoakTarget_sound {s₀ s : State} (h : Sound s₀ s) :
    Sound s₀ (withdrawSoakTarget s) := by
  unfold withdrawSoakTarget
  with_reducible repeat' first | exact h | apply postBoiler_sound | apply setBoiler_sound

theorem tryDescaleDrain_sound {s₀ s : State} (h : Sound s₀ s) :
    Sound s₀ (tryDescaleDrain s) := by
  unfold tryDescaleDrain
  with_reducible repeat' first | exact h | apply loadDrain_sound | apply setWork_sound | split

theorem wantDrain_sound {s₀ s : State} (h : Sound s₀ s) :
    Sound s₀ (wantDrain s) := by
  unfold wantDrain
  with_reducible repeat' first | exact h | apply tryDescaleDrain_sound | apply setWork_sound

theorem tryDescaleDose_sound {s₀ s : State} (h : Sound s₀ s) :
    Sound s₀ (tryDescaleDose s) := by
  unfold tryDescaleDose
  dsimp only
  with_reducible repeat' first
      | exact h | apply setStall_sound | apply setWork_sound | apply enterBoiler_sound | apply loadDose_sound
      | split

theorem wantDose_sound (c : Chan) (a : DoseAmount) {s₀ s : State} (h : Sound s₀ s) :
    Sound s₀ (wantDose c a s) := by
  unfold wantDose
  with_reducible repeat' first | exact h | apply tryDescaleDose_sound | apply setWork_sound

theorem enterDraw_sound {s₀ s : State} (h : Sound s₀ s) :
    Sound s₀ (enterDraw s) := by
  unfold enterDraw
  with_reducible repeat' first | exact h | apply wantDose_sound | apply enterPhase_sound

theorem enterSoak_sound {s₀ s : State} (h : Sound s₀ s) :
    Sound s₀ (enterSoak s) := by
  unfold enterSoak
  dsimp only
  with_reducible repeat' first
      | exact h | apply enterPhase_sound | apply giveSoakTarget_sound | apply setDescale_sound

theorem enterDrainAgent_sound {s₀ s : State} (h : Sound s₀ s) :
    Sound s₀ (enterDrainAgent s) := by
  unfold enterDrainAgent
  with_reducible repeat' first | exact h | apply wantDrain_sound | apply enterPhase_sound

theorem enterRinse_sound (p : DescalePhase) {s₀ s : State} (h : Sound s₀ s) :
    Sound s₀ (enterRinse p s) := by
  unfold enterRinse
  with_reducible repeat' first | exact h | apply wantDose_sound | apply enterPhase_sound

theorem enterFill_sound {s₀ s : State} (h : Sound s₀ s) :
    Sound s₀ (enterFill s) := by
  unfold enterFill
  with_reducible repeat' first | exact h | apply wantDose_sound | apply enterPhase_sound

theorem enterDrainStep_sound {s₀ s : State} (h : Sound s₀ s) :
    Sound s₀ (enterDrainStep s) := by
  unfold enterDrainStep
  with_reducible repeat' first | exact h | apply wantDrain_sound | apply enterPhase_sound

theorem boilerAfterFill_sound {s₀ s : State} (h : Sound s₀ s) :
    Sound s₀ (boilerAfterFill s) := by
  unfold boilerAfterFill
  with_reducible repeat' first | exact h | apply enterBoiler_sound | split

theorem cancelDescaleFill_sound {s₀ s : State} (h : Sound s₀ s) :
    Sound s₀ (cancelDescaleFill s) := by
  unfold cancelDescaleFill
  with_reducible repeat' first | exact h | apply boilerAfterFill_sound | apply cancelDose_sound | split

theorem abortWithCredit_sound {s₀ s : State} (h : Sound s₀ s) :
    Sound s₀ (abortWithCredit s) := by
  unfold abortWithCredit
  dsimp only
  with_reducible repeat' first
      | exact h | apply cancelDescaleFill_sound | apply setWork_sound | apply creditAbort_sound
      | apply withdrawSoakTarget_sound | apply setStall_sound | apply setDescale_sound
      | apply enterDrainAgent_sound

theorem enterDryFault_sound {s₀ s : State} (h : Sound s₀ s) :
    Sound s₀ (enterDryFault s) := by
  unfold enterDryFault
  dsimp only
  with_reducible repeat' first
      | exact h | apply enterBoiler_sound | apply cancelDose_sound | apply abortWithCredit_sound | split

theorem leaveDryFault_sound {s₀ s : State} (h : Sound s₀ s) :
    Sound s₀ (leaveDryFault s) := by
  unfold leaveDryFault
  with_reducible repeat' first | exact h | apply enterBoiler_sound | split

theorem followPrepare_sound {s₀ s : State} (h : Sound s₀ s) :
    Sound s₀ (followPrepare s) := by
  unfold followPrepare
  with_reducible repeat' first
      | exact h | apply enterPhase_sound | apply setWork_sound | apply wantDrain_sound | split

theorem descaleFillEnded_sound {s₀ s : State} (h : Sound s₀ s) :
    Sound s₀ (descaleFillEnded s) := by
  unfold descaleFillEnded
  dsimp only
  with_reducible repeat' first
      | exact h | apply enterBoiler_sound | apply enterDryFault_sound | apply enterFault_sound
      | apply enterSoak_sound | apply abortWithCredit_sound | apply enterDrainStep_sound | split

theorem descaleDoseFaulted_sound (c : Chan) {s₀ s : State} (h : Sound s₀ s) :
    Sound s₀ (descaleDoseFaulted c s) := by
  unfold descaleDoseFaulted
  dsimp only
  with_reducible repeat' first
    | exact h | apply boilerAfterFill_sound | apply setWork_sound | apply setStall_sound | split

theorem descaleDone_sound {s₀ s : State} (h : Sound s₀ s) :
    Sound s₀ (descaleDone s) := by
  unfold descaleDone
  dsimp only
  with_reducible repeat' first
      | exact h | apply askCommit_sound | apply setDescale_sound | apply clearAccount_sound
      | apply raiseEvent_sound | apply enterPhase_sound | exact h.with_marker | split

theorem descaleDrainDone_sound {s₀ s : State} (h : Sound s₀ s) :
    Sound s₀ (descaleDrainDone s) := by
  unfold descaleDrainDone
  with_reducible repeat' first
      | exact h | apply enterPhase_sound | apply enterRinse_sound | apply descaleDone_sound | split

theorem requestBurst_sound (ml : Nat) {s₀ s : State} (h : Sound s₀ s) :
    Sound s₀ (requestBurst ml s) := by
  unfold requestBurst
  with_reducible repeat' first | exact h | apply raiseEvent_sound | apply loadDose_sound | split

theorem cancelBurst_sound {s₀ s : State} (h : Sound s₀ s) :
    Sound s₀ (cancelBurst s) := by
  unfold cancelBurst
  with_reducible repeat' first | exact h | apply cancelDose_sound | split

theorem dropDeferred_sound {s₀ s : State} (h : Sound s₀ s) :
    Sound s₀ (dropDeferred s) := by
  unfold dropDeferred
  repeat' first | with_reducible exact h | with_reducible apply setRun_sound | rfl

theorem followWater_sound {s₀ s : State} (h : Sound s₀ s) :
    Sound s₀ (followWater s) := by
  unfold followWater
  dsimp only
  repeat' first
    | with_reducible exact h
    | with_reducible apply withholdSteam_sound
    | with_reducible apply addCause_sound
    | with_reducible apply setRun_sound
    | with_reducible apply removeCause_sound
    | with_reducible exact h.with_seq
    | rfl
    | split

theorem degradeStage_sound {s₀ s : State} (h : Sound s₀ s) :
    Sound s₀ (degradeStage s) := by
  unfold degradeStage
  dsimp only
  repeat' first
    | with_reducible exact h
    | with_reducible apply setRun_sound
    | with_reducible apply withholdSteam_sound
    | with_reducible apply raiseEvent_sound
    | with_reducible apply dropDeferred_sound
    | with_reducible apply cancelBurst_sound
    | with_reducible apply removeCause_sound
    | rfl
    | split

theorem endRun_sound (result : RunResult) (fault : Option FaultKind) {s₀ s : State} (h : Sound s₀ s) :
    Sound s₀ (endRun result fault s) := by
  have ht : Sound s₀ (endCondition .confirmAwaited (dropDeferred (cancelBurst s))) :=
    endCondition_sound _ (dropDeferred_sound (cancelBurst_sound h))
  unfold endRun
  dsimp only
  generalize endCondition .confirmAwaited (dropDeferred (cancelBurst s)) = t at ht
  have h1 := endClimate_sound (withholdSteam_sound false (raiseEvent_sound .programEnded
    (numberArg (lastRunOf t.ret.run result fault).finalStage)
    (ht.newRun (idle_sound t.ret.run) (t :=
      { t with
        ret :=
          { t.ret with
            run := t.ret.run.idle, slots := t.ret.slots.set t.ret.run.slot (t.ret.slots.get t.ret.run.slot).release
            lastRun := some (lastRunOf t.ret.run result fault) }
        seq := { t.seq with waterCondition := false } }) rfl rfl rfl)))
  split
  · exact askCommit_sound (markDrain_sound _ h1)
  · exact askCommit_sound h1

theorem followProbe_sound {s₀ s : State} (h : Sound s₀ s) :
    Sound s₀ (followProbe s) := by
  unfold followProbe
  with_reducible repeat' first | exact h | apply addCause_sound | apply removeCause_sound | split

theorem addDoor_sound {s₀ s : State} (h : Sound s₀ s) :
    Sound s₀ (addDoor s) := by
  unfold addDoor
  repeat' first
    | with_reducible exact h
    | with_reducible apply pauseClimate_sound
    | with_reducible apply addCause_sound
    | with_reducible apply setRun_sound
    | rfl

theorem enterCauses_sound (atStart : Bool) {s₀ s : State} (h : Sound s₀ s) :
    Sound s₀ (enterCauses atStart s) := by
  unfold enterCauses
  dsimp only
  with_reducible repeat' first
      | exact h | apply followWater_sound | apply followProbe_sound | apply addDoor_sound | apply addCause_sound
      | exact h.with_seq | split

theorem enterBurst_sound {s₀ s : State} (h : Sound s₀ s) :
    Sound s₀ (enterBurst s) := by
  unfold enterBurst
  repeat' first
    | with_reducible exact h
    | with_reducible apply setRun_sound
    | with_reducible apply followWater_sound
    | with_reducible apply requestBurst_sound
    | rfl
    | split

theorem closeStage_sound {s₀ s : State} (h : Sound s₀ s) :
    Sound s₀ (closeStage s) := by
  unfold closeStage
  with_reducible repeat' first
      | exact h | apply removeCause_sound | apply endCondition_sound | apply dropDeferred_sound
      | apply cancelBurst_sound

theorem enterStage_sound (i : Nat) (atStart : Bool) {s₀ s : State} (h : Sound s₀ s) :
    Sound s₀ (enterStage i atStart s).1 := by
  unfold enterStage
  dsimp only
  have h0 : Sound s₀ (setRun (s.ret.run.atStage i (stageAt s i)) s) := setRun_sound h rfl rfl
  generalize setRun (s.ret.run.atStage i (stageAt s i)) s = t at h0
  split
  · exact endRun_sound _ _ h0
  · have h1 : Sound s₀ (if t.ret.run.steamLost then degradeStage t else t) := by
      split; exacts [degradeStage_sound h0, h0]
    generalize (if t.ret.run.steamLost then degradeStage t else t) = u at h1
    have h2 := stageEntry_sound (stageRecord (stageAt s i) u.ret.run) h1
    split
    · rename_i e
      rw [e] at h2; exact endRun_sound _ _ h2
    · rename_i e
      rw [e] at h2
      apply enterBurst_sound; apply enterCauses_sound
      split
      · exact raiseEvent_sound _ _ (raiseEvent_sound _ _ (withholdSteam_sound _ h2))
      · exact raiseEvent_sound _ _ (withholdSteam_sound _ h2)

theorem endStages_sound (fuel : Nat) {s₀ s : State} (h : Sound s₀ s) : Sound s₀ (endStages fuel s) := by
  induction fuel generalizing s with
  | zero => exact h
  | succ fuel ih =>
    unfold endStages
    dsimp only
    have h1 := closeStage_sound h
    generalize closeStage s = t at h1
    split
    · exact endRun_sound _ _ h1
    · have h2 := enterStage_sound (t.ret.run.stageIndex + 1) false h1
      split
      · rename_i e
        rw [e] at h2
        split
        · exact ih h2
        · exact h2
      · rename_i e
        rw [e] at h2; exact h2

theorem endStage_sound {s₀ s : State} (h : Sound s₀ s) :
    Sound s₀ (endStage s) := endStages_sound 12 h

theorem checkStageEnd_sound {s₀ s : State} (h : Sound s₀ s) :
    Sound s₀ (checkStageEnd s) := by
  unfold checkStageEnd
  with_reducible repeat' first | exact h | apply endStage_sound | split

theorem checkRunFaults_sound {s₀ s : State} (h : Sound s₀ s) :
    Sound s₀ (checkRunFaults s) := by
  unfold checkRunFaults
  repeat' first
    | with_reducible exact h
    | with_reducible apply endRun_sound
    | with_reducible apply checkStageEnd_sound
    | with_reducible apply degradeStage_sound
    | with_reducible apply setRun_sound
    | rfl
    | split

theorem settle_sound {s₀ s : State} (h : Sound s₀ s) :
    Sound s₀ (settle s) := by
  unfold settle
  with_reducible repeat' first
      | exact h | apply flushCommit_sound | apply arbitrate_sound | apply followWaterConditions_sound
      | apply renewHeaterRequest_sound | apply yieldForces_sound | apply followPrepare_sound
      | apply followNeed_sound | apply followWater_sound | apply followTopUp_sound | apply checkRunFaults_sound

theorem doseCompleted_sound (c : Chan) (d : Dose) {s₀ s : State} (h : Sound s₀ s) :
    Sound s₀ (doseCompleted c d s) := by
  unfold doseCompleted
  with_reducible repeat' first
      | exact h | apply enterBoiler_sound | apply enterDryFault_sound | apply enterFault_sound
      | apply descaleFillEnded_sound | apply enterFill_sound | apply resumeSource_sound | split

theorem doseFaulted_sound (c : Chan) (d : Dose) {s₀ s : State} (h : Sound s₀ s) :
    Sound s₀ (doseFaulted c d s) := by
  unfold doseFaulted
  with_reducible repeat' first
      | exact h | apply enterBoiler_sound | apply setBoiler_sound | apply descaleDoseFaulted_sound | split

theorem terminalCount_sound (c : Chan) {s₀ s : State} (h : Sound s₀ s) :
    Sound s₀ (terminalCount c s) := by
  unfold terminalCount
  split
  · exact h
  · rename_i d hd
    have h1 := endNoFlow_sound (doseCompleted_sound c d (endDose_sound c .done rfl h))
    dsimp only
    split
    · rename_i e
      simp only [Bool.and_eq_true, decide_eq_true_eq] at e
      exact setChan_sound h1 (fun _ => ⟨fun _ => rfl, fun d' e' => by cases e'; exact ⟨by simp [Dose.again], by simp [Dose.again]⟩⟩)
        (by simp) fun hp hc e' => by simp [(hp.1 c hc).2 e'] at e
    · exact h1

theorem endPortion_sound {c : Chan} {s₀ s : State} (h : Sound s₀ s) (hd : (chan s c).dose.isSome = true) :
    Sound s₀ (endPortion c s) := pauseDose_sound c _ (by simp) h (.inr hd)

theorem highBecomesCovered_sound {s₀ s : State} (h : Sound s₀ s) :
    Sound s₀ (highBecomesCovered s) := by
  unfold highBecomesCovered
  repeat' first
    | with_reducible exact h
    | with_reducible apply chan_sound
    | with_reducible apply enterBoiler_sound
    | with_reducible apply endDose_sound
    | with_reducible apply descaleFillEnded_sound
    | with_reducible apply cancelTopUp_sound
    | rfl
    | split

theorem drainEnded_sound (d : Dose) {s₀ s : State} (h : Sound s₀ s) :
    Sound s₀ (drainEnded d s) := by
  unfold drainEnded
  dsimp only
  with_reducible repeat' first
      | exact h | apply enterFault_sound | apply enterBoiler_sound | apply markDrain_sound | apply setStall_sound
      | apply descaleDrainDone_sound | split

theorem markAgent_sound (c : Chan) (d : Dose) {s₀ s : State} (h : Sound s₀ s) :
    Sound s₀ (markAgent c d s) := by
  unfold markAgent
  with_reducible repeat' first | exact h | apply askCommit_sound | exact h.with_marker | split

theorem countPulse_sound {c : Chan} {d : Dose} {s₀ s : State} (h : Sound s₀ s) (hd : (chan s c).dose = some d) :
    Sound s₀ (countPulse c d s) := by
  have hcnt : DoseSound d → DoseSound d.count := fun ⟨h1, h2⟩ => by
    unfold Dose.count; split
    · exact ⟨h1, h2⟩
    · constructor <;> simp only <;> omega
  have h1 : Sound s₀ (setDose c d.count { s with water := { s.water with noFlowTimer := 0 } }) :=
    setChan_same_sound (h.trans (Sound.water id id))
      (fun hs => ⟨fun _ => rfl, fun d' e => by cases e; exact hcnt ((hs c).2 d hd)⟩) fun _ => rfl
  have h2 := markAgent_sound c d h1
  have hc : (chan (markAgent c d (setDose c d.count { s with water := { s.water with noFlowTimer := 0 } })) c).dose.isSome
      = true := by
    have : ∀ t : State, chan (markAgent c d t) c = chan t c := fun t => by unfold markAgent; split <;> rfl
    rw [this, setDose, chan_setChan]; simp
  unfold countPulse
  dsimp only
  split
  · exact terminalCount_sound c h2
  · split
    · exact endPortion_sound h2 hc
    · exact h2

theorem pulseArrives_sound {s₀ s : State} (h : Sound s₀ s) :
    Sound s₀ (pulseArrives s) := by
  unfold pulseArrives
  split
  · split
    · exact settle_sound (countPulse_sound h ‹_›)
    · exact h
  · exact h

theorem faultChannel_sound (c : Chan) {s₀ s : State} (h : Sound s₀ s) :
    Sound s₀ (faultChannel c s) := by
  unfold faultChannel
  repeat' first
    | with_reducible exact h
    | with_reducible apply chan_sound
    | with_reducible apply settle_sound
    | with_reducible apply doseFaulted_sound
    | with_reducible apply endDose_sound
    | with_reducible apply enterFault_sound
    | rfl
    | split

theorem deriveBoiler_sound (counted : Bool) {s₀ s : State} (h : Sound s₀ s) :
    Sound s₀ (deriveBoiler counted s) := by
  unfold deriveBoiler
  with_reducible repeat' first | exact h | apply setBoiler_sound | split

theorem followBoiling_sound {s₀ s : State} (h : Sound s₀ s) :
    Sound s₀ (followBoiling s) := by
  unfold followBoiling
  with_reducible repeat' first | exact h | apply enterBoiler_sound | split

theorem checkDry_sound {s₀ s : State} (h : Sound s₀ s) :
    Sound s₀ (checkDry s) := by
  unfold checkDry
  dsimp only
  with_reducible repeat' first | exact h | apply enterDryFault_sound | apply enterFault_sound | split

theorem setMeas_sound (m : Measurement) {s₀ s : State} (h : Sound s₀ s) :
    Sound s₀ (setMeas m s) := h.with_meas

theorem followSensors_sound {s₀ s : State} (h : Sound s₀ s) :
    Sound s₀ (followSensors s) := by
  unfold followSensors
  dsimp only
  with_reducible repeat' first | exact h | apply followFault_sound

theorem raiseProbe_sound (was : Bool) {s₀ s : State} (h : Sound s₀ s) :
    Sound s₀ (raiseProbe was s) := by
  unfold raiseProbe
  with_reducible repeat' first | exact h | apply raiseEvent_sound | split

theorem beginCavityFault_sound (before : State) {s₀ s : State} (h : Sound s₀ s) :
    Sound s₀ (beginCavityFault before s) := by
  unfold beginCavityFault
  with_reducible repeat' first | exact h | apply postZeros_sound | split

theorem changeBoilerFault_sound (before : State) {s₀ s : State} (h : Sound s₀ s) :
    Sound s₀ (changeBoilerFault before s) := by
  unfold changeBoilerFault
  with_reducible repeat' first | exact h | apply postBoiler_sound | split

theorem testCore_sound {s₀ s : State} (h : Sound s₀ s) :
    Sound s₀ (testCore s) := by
  unfold testCore
  repeat' first
    | with_reducible exact h
    | with_reducible apply raiseEvent_sound
    | with_reducible apply setRun_sound
    | rfl
    | split

theorem afterReadings_sound (before : State) {s₀ s : State} (h : Sound s₀ s) :
    Sound s₀ (afterReadings before s) := by
  unfold afterReadings
  dsimp only
  with_reducible repeat' first
      | exact h | apply climateSample_sound | apply changeBoilerFault_sound | apply beginCavityFault_sound
      | apply checkDry_sound | apply followBoiling_sound | apply deriveBoiler_sound | apply checkStageEnd_sound
      | apply testCore_sound | apply followProbe_sound

theorem takePeriod_sound (raw : RawSamples) {s₀ s : State} (h : Sound s₀ s) :
    Sound s₀ (takePeriod raw s) := by
  unfold takePeriod
  with_reducible repeat' first | exact h | apply raiseProbe_sound | apply followSensors_sound | apply setMeas_sound

theorem setShare_sound (p : PowerShare) {s₀ s : State} (h : Sound s₀ s) :
    Sound s₀ (setShare p s) := h.with_share

theorem refuseClaim_sound (placed : Option Load) (claim : Option Load) {s₀ s : State} (h : Sound s₀ s) :
    Sound s₀ (refuseClaim placed claim s) := by
  unfold refuseClaim
  with_reducible repeat' first | exact h | apply removeForce_sound | split

theorem beginAllocation_sound {s₀ s : State} (h : Sound s₀ s) :
    Sound s₀ (beginAllocation s) := by
  unfold beginAllocation
  dsimp only
  with_reducible repeat' first | exact h | apply refuseClaim_sound | apply setShare_sound

theorem writeGrant_sound (a : Allocation) (l : Load) {s₀ s : State} (h : Sound s₀ s) :
    Sound s₀ (writeGrant a s l) := by
  unfold writeGrant
  dsimp only
  with_reducible repeat' first | exact h | exact h.with_out

theorem reportBoiler_sound (shortfall : Nat) (granted : Nat) {s₀ s : State} (h : Sound s₀ s) :
    Sound s₀ (reportBoiler shortfall granted s) := by
  unfold reportBoiler
  with_reducible repeat' first | exact h | apply setBoiler_sound

theorem endAllocation_sound (a : Allocation) {s₀ s : State} (h : Sound s₀ s) :
    Sound s₀ (endAllocation a s) := by
  have h1 : ∀ ls : List Load, ∀ t : State, Sound s₀ t → Sound s₀ (ls.foldl (writeGrant a) t) := fun ls => by
    induction ls with
    | nil => exact fun _ ht => ht
    | cons l ls ih => exact fun t ht => ih _ (writeGrant_sound a l ht)
  have h2 := h1 allLoads s h
  unfold endAllocation
  dsimp only
  generalize allLoads.foldl (writeGrant a) s = t at h2
  exact followFault_sound _ _ (reportBoiler_sound _ _ (setClimate_sound _ (Sound.with_out (setShare_sound _ h2))))

theorem finishAllocation_sound {s₀ s : State} (h : Sound s₀ s) :
    Sound s₀ (finishAllocation s) := by
  unfold finishAllocation
  with_reducible repeat' first | exact h | apply endAllocation_sound | split

theorem adoptWindow_sound {s₀ s : State} (h : Sound s₀ s) :
    Sound s₀ (adoptWindow s) := h.same rfl

theorem relayAtZeroCross_sound (c : Nat) {s₀ s : State} (h : Sound s₀ s) :
    Sound s₀ (relayAtZeroCross c s) := by
  unfold relayAtZeroCross
  with_reducible repeat' first | exact h | apply setRelay_sound | split

theorem fireHalfCycle_sound (c : Nat) {s₀ s : State} (h : Sound s₀ s) :
    Sound s₀ (fireHalfCycle c s) := by
  unfold fireHalfCycle
  with_reducible repeat' first | exact h | exact h.with_out

theorem takeReports_sound (r : ReachedReport) {s₀ s : State} (h : Sound s₀ s) :
    Sound s₀ (takeReports r s) := by
  unfold takeReports
  dsimp only
  repeat' first
    | with_reducible exact h
    | with_reducible apply raiseEvent_sound
    | with_reducible apply setRun_sound
    | with_reducible apply checkStageEnd_sound
    | rfl
    | split

theorem regulatorWindow_sound {s₀ s : State} (h : Sound s₀ s) : Sound s₀ (regulatorWindow s).1 := by
  unfold regulatorWindow testReached testMoisture
  dsimp only
  with_reducible repeat' first
      | exact h | apply postZeros_sound | apply runLoops_sound | apply requestModeVent_sound
      | apply setClimate_sound | split

theorem windowStart_sound {s₀ s : State} (h : Sound s₀ s) : Sound s₀ (windowStart s).1 := by
  have h1 := adoptWindow_sound (finishAllocation_sound h)
  unfold windowStart windowUnits
  generalize adoptWindow (finishAllocation s) = t at h1
  dsimp only
  with_reducible repeat' first
      | exact h1 | apply postBoiler_sound | apply beginAllocation_sound | apply regulatorWindow_sound | split

theorem handEdge_sound {s₀ s : State} (h : Sound s₀ s) :
    Sound s₀ (handEdge s) := by
  unfold handEdge
  dsimp only
  have h1 : Sound s₀ { s with out := { s.out with halfCycle := some (nextHalfCycle s) } } := h.with_out
  generalize ({ s with out := { s.out with halfCycle := some (nextHalfCycle s) } } : State) = t at h1
  apply settle_sound; apply takeReports_sound; apply fireHalfCycle_sound
  have h2 : Sound s₀ (if nextHalfCycle s = 0 then windowStart t else (t, ⟨false, false⟩)).1 := by
    split; exacts [windowStart_sound h1, h1]
  split; exacts [relayAtZeroCross_sound _ h2, h2]

theorem mainsReturns_sound {s₀ s : State} (h : Sound s₀ s) :
    Sound s₀ (mainsReturns s) := by
  unfold mainsReturns
  have h1 := leaveFault_sound .mainsLost (setMeas_sound { s.meas with mainsPresent := true } h)
  generalize leaveFault .mainsLost (setMeas { s.meas with mainsPresent := true } s) = t at h1
  have h2 : Sound s₀ { t with start := { t.start with outageTimer := 0 } } := h1.with_start
  dsimp only
  split; exacts [removeCause_sound _ h2, h2]

theorem undecidedEdge_sound {s₀ s : State} (h : Sound s₀ s) :
    Sound s₀ (undecidedEdge s) := by
  unfold undecidedEdge
  dsimp only
  with_reducible repeat' first
      | exact h | apply setMeas_sound | apply handEdge_sound | apply mainsReturns_sound | split

theorem decidedEdge_sound {s₀ s : State} (h : Sound s₀ s) :
    Sound s₀ (decidedEdge s) := by
  unfold decidedEdge
  dsimp only
  with_reducible repeat' first
      | exact h | apply setMeas_sound | apply handEdge_sound | apply mainsReturns_sound | split

theorem stopWindows_sound {s₀ s : State} (h : Sound s₀ s) :
    Sound s₀ (stopWindows s) := by
  unfold stopWindows
  exact Sound.with_out (cutAll_sound h)

theorem chargePath_sound {s₀ s : State} (h : Sound s₀ s) :
    Sound s₀ (chargePath s) := by
  unfold chargePath
  with_reducible repeat' first | exact h | apply passPulses_sound | split

theorem chargeRunning_sound {s₀ s : State} (h : Sound s₀ s) :
    Sound s₀ (chargeRunning s) := by
  unfold chargeRunning
  dsimp only
  with_reducible repeat' first | exact chargePath_sound h | apply passPulses_sound | split

theorem loseMains_sound {s₀ s : State} (h : Sound s₀ s) :
    Sound s₀ (loseMains s) := by
  have h1 := stopWindows_sound (enterFault_sound .mainsLost (setMeas_sound { s.meas with mainsPresent := false } h))
  have h2 := chargeRunning_sound (setShare_sound
    { (stopWindows (enterFault .mainsLost (setMeas { s.meas with mainsPresent := false } s))).share with
      currentGrants := .all 0, preparedGrants := .all 0, allocation := none } h1)
  exact askCommit_sound (Sound.with_start (ite_sound (addCause_sound .mains h2) h2))

theorem setProt_sound (p : Protection) {s₀ s : State} (h : Sound s₀ s) :
    Sound s₀ (setProt p s) := h.with_prot

theorem raiseLock_sound (input : Nat) {s₀ s : State} (h : Sound s₀ s) :
    Sound s₀ (raiseLock input s) := by
  unfold raiseLock
  with_reducible repeat' first | exact h | apply raiseEvent_sound

theorem withdrawRemote_sound {s₀ s : State} (h : Sound s₀ s) :
    Sound s₀ (withdrawRemote s) := by
  unfold withdrawRemote
  with_reducible repeat' first | exact h | apply raiseLock_sound | apply setProt_sound | split

theorem endServiceUnlock_sound {s₀ s : State} (h : Sound s₀ s) :
    Sound s₀ (endServiceUnlock s) := by
  unfold endServiceUnlock
  with_reducible repeat' first | exact h | apply raiseLock_sound | apply setProt_sound | split

theorem setPort_sound (l : Link) (p : Port) {s₀ s : State} (h : Sound s₀ s) :
    Sound s₀ (setPort l p s) := h.with_ports

theorem answer_sound (l : Link) (code : Byte) (r : Reply) {s₀ s : State} (h : Sound s₀ s) :
    Sound s₀ (answer l code r s) := by
  unfold answer
  with_reducible repeat' first | exact h | apply setPort_sound

theorem acceptFrame_sound (l : Link) {s₀ s : State} (h : Sound s₀ s) :
    Sound s₀ (acceptFrame l s) := by
  unfold acceptFrame
  dsimp only
  with_reducible repeat' first | exact h | apply setPort_sound | apply setProt_sound | split

theorem setInput_sound (i : Input) (x : InputLine) {s₀ s : State} (h : Sound s₀ s) :
    Sound s₀ (setInput i x s) := h.with_inputs

theorem doorOpens_sound {s₀ s : State} (h : Sound s₀ s) :
    Sound s₀ (doorOpens s) := by
  unfold doorOpens
  dsimp only
  with_reducible repeat' first
      | exact h | apply withdrawRemote_sound | apply raiseEvent_sound | apply removeForces_sound
      | apply holdFan_sound | apply cutCavity_sound | apply addDoor_sound | split

theorem requestDeferred_sound {s₀ s : State} (h : Sound s₀ s) :
    Sound s₀ (requestDeferred s) := by
  unfold requestDeferred
  with_reducible repeat' first
      | exact h | apply followWater_sound | apply requestBurst_sound | apply dropDeferred_sound | split

theorem dropDoor_sound {s₀ s : State} (h : Sound s₀ s) :
    Sound s₀ (dropDoor s) := by
  unfold dropDoor
  repeat' first
    | with_reducible exact h
    | with_reducible apply requestDeferred_sound
    | with_reducible apply unpauseClimate_sound
    | with_reducible apply removeCause_sound
    | with_reducible apply setRun_sound
    | rfl
    | split

theorem doorCloses_sound {s₀ s : State} (h : Sound s₀ s) :
    Sound s₀ (doorCloses s) := by
  unfold doorCloses
  dsimp only
  with_reducible repeat' first
      | exact h | apply startFan_sound | apply startLamp_sound | apply raiseEvent_sound | apply dropDoor_sound
      | split

theorem cutoutOpens_sound {s₀ s : State} (h : Sound s₀ s) :
    Sound s₀ (cutoutOpens s) := by
  unfold cutoutOpens
  with_reducible repeat' first | exact h | apply removeForces_sound | apply cutAll_sound | apply enterFault_sound

theorem followTray_sound {s₀ s : State} (h : Sound s₀ s) :
    Sound s₀ (followTray s) := by
  unfold followTray
  with_reducible repeat' first | exact h | apply followCondition_sound

theorem tankChanges_sound (before : State) {s₀ s : State} (h : Sound s₀ s) :
    Sound s₀ (tankChanges before s) := by
  unfold tankChanges
  with_reducible repeat' first | exact h | apply tryDescaleDrain_sound | apply followSource_sound

theorem endChanges_sound (e : VentEnd) (before : State) {s₀ s : State} (h : Sound s₀ s) :
    Sound s₀ (endChanges e before s) := by
  unfold endChanges
  with_reducible repeat' first | exact h | apply reachEnd_sound | split

theorem inputBecomes_sound (i : Input) (before : State) {s₀ s : State} (h : Sound s₀ s) :
    Sound s₀ (inputBecomes i before s) := by
  unfold inputBecomes
  with_reducible repeat' first
      | exact h | apply doorOpens_sound | apply doorCloses_sound | apply cutoutOpens_sound
      | apply tankChanges_sound | apply followTray_sound | apply postBoiler_sound | apply cutBoiler_sound
      | apply highBecomesCovered_sound | apply endChanges_sound | apply followSource_sound
      | apply endServiceUnlock_sound | split

theorem setQueue_sound (l : Link) {q : List Entry} {s₀ s : State} (h : Sound s₀ s)
    (hq : QueuesSound s → QueueSound q) : Sound s₀ (setQueue l q s) := by
  refine h.trans (Sound.events (fun hs l' => ?_) id)
  have e : (s.events.queues.set l q).get l' = if l' = l then q else s.events.queues.get l' := by
    cases l <;> cases l' <;> rfl
  show QueueSound ((s.events.queues.set l q).get l')
  rw [e]; split; exacts [hq hs, hs l']

theorem steer_sound (k : EventKind) (set : LinkSet) {s₀ s : State} (h : Sound s₀ s) :
    Sound s₀ (steer k set s) := by
  refine h.trans (Sound.events (fun hq => ?_) id)
  split
  · exact hq
  · exact fun l => placeInSet_sound hq l

theorem removeFaults_sound {s₀ s : State} (h : Sound s₀ s) :
    Sound s₀ (removeFaults s) := by
  unfold removeFaults
  generalize latchedFaults = fs
  induction fs generalizing s with
  | nil => exact h
  | cons f fs ih =>
    simp only [List.foldl_cons]
    exact ih (by split; exacts [leaveFault_sound _ h, h])

theorem afterRemovals_sound {s₀ s : State} (h : Sound s₀ s) :
    Sound s₀ (afterRemovals s) := by
  unfold afterRemovals
  with_reducible repeat' first
      | exact h | apply leaveDryFault_sound | apply startFan_sound | apply leaveClimateFault_sound

theorem writeLock_sound (input : Nat) (value : Bool) {s₀ s : State} (h : Sound s₀ s) :
    Sound s₀ (writeLock input value s) := by
  unfold writeLock
  dsimp only
  with_reducible repeat' first
      | exact h | apply askCommit_sound | apply raiseLock_sound | apply setProt_sound | exact h.with_settings
      | split

theorem beginDescale_sound {s₀ s : State} (h : Sound s₀ s) :
    Sound s₀ (beginDescale s) := by
  unfold beginDescale
  with_reducible repeat' first | exact h | apply enterPhase_sound | apply setStall_sound | apply setDescale_sound

theorem confirmStall_sound {s₀ s : State} (h : Sound s₀ s) :
    Sound s₀ (confirmStall s) := by
  unfold confirmStall
  with_reducible repeat' first | exact h | apply wantDose_sound | apply setStall_sound | apply wantDrain_sound | split

theorem cancelOwn_sound (c : Chan) {s₀ s : State} (h : Sound s₀ s) :
    Sound s₀ (cancelOwn c s) := by
  unfold cancelOwn
  with_reducible repeat' first | exact h | apply cancelDose_sound | split

theorem abortClean_sound {s₀ s : State} (h : Sound s₀ s) :
    Sound s₀ (abortClean s) := by
  unfold abortClean
  dsimp only
  with_reducible repeat' first
      | exact h | apply cancelOwn_sound | apply cancelDescaleFill_sound | apply setWork_sound
      | apply markDrain_sound | apply setStall_sound | apply withdrawSoakTarget_sound | apply raiseEvent_sound
      | apply setDescale_sound | apply enterPhase_sound | split

theorem waterTimesOut_sound {s₀ s : State} (h : Sound s₀ s) :
    Sound s₀ (waterTimesOut s) := by
  unfold waterTimesOut
  dsimp only
  repeat' first
    | with_reducible exact h
    | with_reducible apply removeCause_sound
    | with_reducible apply withholdSteam_sound
    | with_reducible apply setRun_sound
    | with_reducible apply checkStageEnd_sound
    | with_reducible apply degradeStage_sound
    | rfl

theorem setSlot_sound (n : Nat) (x : Slot) {s₀ s : State} (h : Sound s₀ s) :
    Sound s₀ (setSlot n x s) := by
  unfold setSlot
  with_reducible repeat' first | exact h | exact h.with_ret rfl rfl

theorem beginStage_sound {s₀ s : State} (h : Sound s₀ s) : Sound s₀ (enterFirst s) := by
  have h1 := enterStage_sound 0 true h
  unfold enterFirst
  split <;> (rename_i e; rw [e] at h1)
  · exact checkStageEnd_sound h1
  · exact h1

theorem enterFirst_sound {s₀ s : State} (h : Sound s₀ s) :
    Sound s₀ (enterFirst s) := beginStage_sound h

theorem beginRun_sound (slot : Nat) {s₀ s : State} (h : Sound s₀ s) :
    Sound s₀ (beginRun slot s) := by
  unfold beginRun
  dsimp only
  have h1 := setSlot_sound slot { s.ret.slots.get slot with state := .inUse } h
  generalize setSlot slot { s.ret.slots.get slot with state := .inUse } s = t at h1
  apply enterFirst_sound
  have h2 : Sound s₀ (setRun (t.ret.run.started slot (s.ret.slots.get slot).generation (steamFault t)) t) :=
    h1.newRun (r := t.ret.run.started slot (s.ret.slots.get slot).generation (steamFault t))
      (by simp [RunContext.started, Causes.none, Causes.isEmpty]) rfl rfl rfl
  have h3 := endForces_sound h2
  generalize endForces _ = u at h3
  have h4 : Sound s₀ { u with seq := { u.seq with waterCondition := false } } := h3.with_seq
  split; exacts [markDrain_sound _ h4, h4]

theorem storeAdjusted_sound (a : Adjustment) {s₀ s : State} (h : Sound s₀ s) :
    Sound s₀ (storeAdjusted a s) := by
  unfold storeAdjusted
  repeat' first | with_reducible exact h | with_reducible apply setRun_sound | rfl | split

theorem makeForce_sound (o : Output) (level : Bool) {s₀ s : State} (h : Sound s₀ s) :
    Sound s₀ (makeForce o level s) := by
  unfold makeForce
  dsimp only
  split
  · exact h.with_out
  · exact Sound.with_share (h.with_out (x := { s.out with forces := placeForce o level (startsAtEnd s o) s.out.forces }))

theorem afterWrite_sound (number : Nat) {s₀ s : State} (h : Sound s₀ s) :
    Sound s₀ (afterWrite number s) := by
  unfold afterWrite
  repeat' first
    | with_reducible exact h
    | with_reducible apply setRun_sound
    | with_reducible apply evaluateLevel_sound
    | with_reducible exact h.with_scale
    | rfl
    | split

theorem writeSetting_sound (number : Nat) (value : Int) {s₀ s : State} (h : Sound s₀ s) :
    Sound s₀ (writeSetting number value s) := by
  unfold writeSetting
  with_reducible repeat' first
      | exact h | apply askCommit_sound | apply raiseEvent_sound | apply afterWrite_sound | exact h.with_settings

theorem raiseAtReset_sound {s₀ s : State} (h : Sound s₀ s) :
    Sound s₀ (raiseAtReset s) := by
  unfold raiseAtReset
  dsimp only
  have h1 : Sound s₀ (if cutoutOpen s then enterFault .thermalCutout s else s) := by
    split; exacts [enterFault_sound _ h, h]
  have h2 := followPrompt_sound (followWaterConditions_sound (followLevel_sound (followTray_sound h1)))
  exact ite_sound (arriveVent_sound _ h2) h2

theorem nextWrite_sound {s₀ s : State} (h : Sound s₀ s) :
    Sound s₀ (nextWrite s) := by
  unfold nextWrite
  with_reducible repeat' first | exact h | exact h.with_store

theorem endWrite_sound (good : Bool) (record : StoreRecord) {s₀ s : State} (h : Sound s₀ s) :
    Sound s₀ (endWrite good record s) := by
  unfold endWrite
  with_reducible repeat' first
      | exact h | apply nextWrite_sound | apply leaveFault_sound | apply enterFault_sound | exact h.with_store
      | split

theorem settleLost_sound {s₀ s : State} (h : Sound s₀ s) :
    Sound s₀ (settleLost s) := by
  unfold settleLost
  repeat' first
    | with_reducible exact h
    | with_reducible apply askCommit_sound
    | with_reducible apply raiseEvent_sound
    | with_reducible exact h.with_ret rfl rfl
    | rfl
    | split

theorem raiseResumed_sound {s₀ s : State} (h : Sound s₀ s) :
    Sound s₀ (raiseResumed s) := by
  unfold raiseResumed
  dsimp only
  with_reducible repeat' first | exact h | apply raiseEvent_sound | split

theorem continueRun_sound (was : Causes) {s₀ s : State} (h : Sound s₀ s) :
    Sound s₀ (continueRun was s) := by
  have hw : ∀ (c : Causes) (r : RunContext),
      (r.withCauses was c).state = .paused ↔ (r.withCauses was c).causes.isEmpty = false :=
    fun c r => by unfold RunContext.withCauses; cases c.isEmpty <;> simp
  have h1 : Sound s₀ (setRun (s.ret.run.withCauses was (freshCauses s))
      { s with seq := { s.seq with waterCondition := (freshCauses s).water } }) :=
    h.newRun (hw (freshCauses s) s.ret.run) rfl rfl rfl
  unfold continueRun
  dsimp only
  generalize setRun (s.ret.run.withCauses was (freshCauses s))
    { s with seq := { s.seq with waterCondition := (freshCauses s).water } } = t at h1
  have h2 := withholdSteam_sound ((freshCauses s).water || t.ret.run.degraded)
    (resumeWrite_sound (stageRecord (currentStage t) t.ret.run) t.ret.run.tempReached t.ret.run.moistReached
      (freshCauses s).door h1)
  generalize withholdSteam ((freshCauses s).water || t.ret.run.degraded)
    (resumeWrite (stageRecord (currentStage t) t.ret.run) t.ret.run.tempReached t.ret.run.moistReached
      (freshCauses s).door t) = u at h2
  have h3 : Sound s₀ (if programUsesSteam (runStages u) then markDrain false u else u) := by
    split; exacts [markDrain_sound _ h2, h2]
  generalize (if programUsesSteam (runStages u) then markDrain false u else u) = v at h3
  have h4 : Sound s₀ (raiseResumed v) := raiseResumed_sound h3
  split; exacts [h4, requestDeferred_sound h4]

theorem resumeRun_sound {s₀ s : State} (h : Sound s₀ s) :
    Sound s₀ (resumeRun s) := by
  have h1 : Sound s₀ (setRun { s.ret.run with state := .running, causes := .none }
      { s with start := { s.start with resumed := true } }) :=
    (h.with_start (x := { s.start with resumed := true })).newRun
      (r := { s.ret.run with state := .running, causes := .none })
      (by simp [Causes.none, Causes.isEmpty]) rfl rfl rfl
  unfold resumeRun
  dsimp only
  generalize setRun { s.ret.run with state := .running, causes := .none }
    { s with start := { s.start with resumed := true } } = t at h1
  split
  · exact endRun_sound _ _ h1
  · split
    · exact checkStageEnd_sound (continueRun_sound _ (degradeStage_sound (setRun_sound h1 rfl rfl)))
    · exact continueRun_sound _ h1

theorem losePower_sound {s₀ s : State} (h : Sound s₀ s) :
    Sound s₀ (losePower s) := askCommit_sound (raiseEvent_sound _ _ (h.newRun (idle_sound s.ret.run) rfl rfl rfl))

theorem settleRun_sound {s₀ s : State} (h : Sound s₀ s) :
    Sound s₀ (settleRun s) := by
  unfold settleRun
  with_reducible repeat' first
      | exact h | apply settleLost_sound | apply resumeRun_sound | apply losePower_sound | split

theorem recoverAgent_sound {s₀ s : State} (h : Sound s₀ s) :
    Sound s₀ (recoverAgent s) := by
  unfold recoverAgent
  dsimp only
  with_reducible repeat' first
      | exact h | apply creditAbort_sound | apply setDescale_sound | apply enterDrainAgent_sound
      | apply setStall_sound | split

theorem recoverClean_sound {s₀ s : State} (h : Sound s₀ s) :
    Sound s₀ (recoverClean s) := by
  unfold recoverClean
  with_reducible repeat' first
      | exact h | apply enterPhase_sound | apply setStall_sound | apply setDescale_sound | split

theorem recoverDescale_sound {s₀ s : State} (h : Sound s₀ s) :
    Sound s₀ (recoverDescale s) := by
  unfold recoverDescale
  with_reducible repeat' first | exact h | apply recoverAgent_sound | apply recoverClean_sound | split

theorem endStarting_sound {s₀ s : State} (h : Sound s₀ s) :
    Sound s₀ (endStarting s) := by
  unfold endStarting
  with_reducible repeat' first | exact h | apply recoverDescale_sound | apply settleRun_sound | exact h.with_start

theorem passDrain_sound {s₀ s : State} (h : Sound s₀ s) :
    Sound s₀ (passDrain s) := by
  unfold passDrain
  have hw : ∀ n, Sound s₀ { s with water := { s.water with drainClock := n } } := fun n => h.trans (Sound.water id id)
  split
  · split
    · dsimp only
      split
      · exact hw 0
      · rename_i d hd
        refine setChan_same_sound (hw 0) (fun hs => ⟨fun _ => rfl, fun d' e => ?_⟩) (by simp)
        cases e
        obtain ⟨h1, h2⟩ := (hs .ch3).2 d hd
        unfold Dose.drainSecond; split
        · exact ⟨h1, h2⟩
        · constructor <;> simp only <;> omega
    · exact hw _
  · exact h

theorem advance_sound {s₀ s : State} (h : Sound s₀ s) :
    Sound s₀ (advance s) := by
  unfold advance
  dsimp only
  apply passDrain_sound
  have hp : (passPath s.meas.mainsPresent s.water).path = s.water.path := by unfold passPath; split <;> rfl
  have hc : (passPath s.meas.mainsPresent s.water).chans = s.water.chans := by unfold passPath; split <;> rfl
  refine h.trans ⟨id, id, fun hs => ?_, fun hs => ?_, id⟩
  · unfold PathSound chan at hs ⊢; simp only [hp, hc]; exact hs
  · unfold DosesSound chan at hs ⊢; simp only [hc]; exact hs

theorem tick_sound {s₀ s : State} (h : Sound s₀ s) :
    Sound s₀ (tick s) := (advance_sound h).with_pending

end Sys2Proof.Machine
end

