-- ==== Sys2Proof/Laws/Power.lean ====
section
/-! SUPPORT. Runs and the power of the loads that draw (R53, R55, R59): what the budget law is reckoned with. -/

namespace Sys2Proof.Machine

/-- The empty run covers no cycle. -/
@[simp] theorem Run.covers_empty (k : Nat) : Run.empty.covers k = false := by
  simp [Run.covers, Run.empty]

/-- A run of no length covers no cycle, wherever it starts. -/
theorem Run.covers_of_length_zero {r : Run} (h : r.length = 0) (k : Nat) : r.covers k = false := by
  unfold Run.covers; rw [h]; simp

/-- A run covers no cycle at or after its end. -/
theorem Run.covers_of_ended {r : Run} {k : Nat} (h : r.start + r.length ≤ k) : r.covers k = false := by
  unfold Run.covers; simp; omega

/-- One load's share is no less where more loads draw. -/
theorem share_mono {f g : Bool} {n : Nat} (h : f = true → g = true) : (if f then n else 0) ≤ (if g then n else 0) := by
  cases f <;> cases g <;> simp_all

/-- The power is no less where more loads draw. -/
theorem powerOf_mono {limits : Limits} {f g : Load → Bool} (h : ∀ l, f l = true → g l = true) :
    powerOf limits f ≤ powerOf limits g := by
  simp only [powerOf, allLoads, List.map, List.sum_cons, List.sum_nil]
  exact Nat.add_le_add (share_mono (h _)) (Nat.add_le_add (share_mono (h _)) (Nat.add_le_add (share_mono (h _))
    (Nat.add_le_add (share_mono (h _)) (Nat.add_le_add (share_mono (h _)) (Nat.le_refl 0)))))

/-- Under other limits of the same ratings the power is the same. -/
theorem powerOf_congr {x y : Limits} (h : x.ratings = y.ratings) (f : Load → Bool) : powerOf x f = powerOf y f := by
  unfold powerOf; rw [h]

/-- Where nothing draws the power is 0. -/
theorem powerOf_none (limits : Limits) : powerOf limits (fun _ => false) = 0 := by
  simp [powerOf, allLoads]

end Sys2Proof.Machine
end

