-- ==== Sys2Proof/Laws/Rows.lean ====
section
/-! SUPPORT. `Sound` through the meaning of every row: an outcome's next state keeps what was sound. -/

namespace Sys2Proof.Machine

/-- Every next state an outcome answers keeps what was sound. -/
def SoundNext (s₀ : State) (o : Host.Outcome State Fault Refusal) : Prop := ∀ t, o = .next t → Sound s₀ t

theorem soundNext {s₀ t : State} (h : Sound s₀ t) : SoundNext s₀ (.next t) := fun _ e => by cases e; exact h

theorem refuse_sound (st : Status) {s₀ s : State} (h : Sound s₀ s) : Sound s₀ (refuse st s).2 := h

theorem taken_sound (r : Reply) {s₀ s : State} (h : Sound s₀ s) : Sound s₀ (taken r s).2 := settle_sound h

theorem decideCommand_sound (sized reads : Bool) (early : Option Status) (lock : Bool) {own : State → Reply × State}
    {s₀ s : State} (h : Sound s₀ s) (ho : ∀ t, Sound s₀ t → Sound s₀ (own t).2) :
    Sound s₀ (decideCommand sized reads early lock own s).2 := by
  unfold decideCommand
  repeat' first | exact h | exact ho s h | split

theorem groupCommand_sound (g : Group) (l : Link) (sized : Bool) {own : State → Reply × State} {s₀ s : State}
    (h : Sound s₀ s) (ho : ∀ t, Sound s₀ t → Sound s₀ (own t).2) : Sound s₀ (groupCommand g l sized own s).2 :=
  decideCommand_sound _ _ _ _ h ho

theorem readCommand_sound (sized : Bool) (result : State → Reply) {s₀ s : State} (h : Sound s₀ s) :
    Sound s₀ (readCommand sized result s).2 := decideCommand_sound _ _ _ _ h fun _ ht => ht

theorem onFrame_sound (l : Link) (code : Byte) {own : State → Reply × State} {s₀ s : State} (h : Sound s₀ s)
    (ho : ∀ t, Sound s₀ t → Sound s₀ (own t).2) : SoundNext s₀ (onFrame l code own s) := by
  unfold onFrame
  split
  · exact soundNext (answer_sound _ _ _ (ho _ (acceptFrame_sound _ h)))
  · exact soundNext (setPort_sound _ _ h)

theorem execFlowPulse_sound {s₀ s : State} (h : Sound s₀ s) :
    SoundNext s₀ (execFlowPulse s) := by
  unfold execFlowPulse
  with_reducible repeat' first | apply soundNext | assumption | apply pulseArrives_sound | exact h.with_meas | split

theorem execSettleEnd_sound {s₀ s : State} (h : Sound s₀ s) : SoundNext s₀ (execSettleEnd s) := by
  unfold execSettleEnd
  split
  · rename_i hd
    have hp : s.water.path = .settling := by simp only [settleEndDue, Bool.and_eq_true, decide_eq_true_eq] at hd; exact hd.1
    refine soundNext (arbitrate_sound (h.trans (Sound.water (fun hs => ⟨fun c hc => ?_, by simp⟩) id)))
    have := hs.1 c hc
    rw [hp] at this
    show (chan s c).state = .running ↔ PathState.free = .granted c
    rw [this]; simp
  · exact soundNext h

theorem execNoFlow_sound {s₀ s : State} (h : Sound s₀ s) :
    SoundNext s₀ (execNoFlow s) := by
  unfold execNoFlow
  with_reducible repeat' first | apply soundNext | assumption | apply faultChannel_sound | split

theorem execDrainTerminalCount_sound {s₀ s : State} (h : Sound s₀ s) : SoundNext s₀ (execDrainTerminalCount s) := by
  unfold execDrainTerminalCount
  split
  · split
    · exact soundNext (settle_sound (endNoFlow_sound (drainEnded_sound _ (endDose_sound _ _ rfl h))))
    · exact soundNext h
  · exact soundNext h

theorem execBoilerFill_sound {s₀ s : State} (h : Sound s₀ s) :
    SoundNext s₀ (execBoilerFill s) := by
  unfold execBoilerFill
  dsimp only
  with_reducible repeat' first
      | apply soundNext | assumption | apply loadDose_sound | apply enterBoiler_sound | apply settle_sound
      | apply chan_sound | split

theorem execTopUp_sound {s₀ s : State} (h : Sound s₀ s) :
    SoundNext s₀ (execTopUp s) := by
  unfold execTopUp
  with_reducible repeat' first | apply soundNext | assumption | apply settle_sound | apply loadDose_sound | split

theorem execBoilerDrainStart_sound {s₀ s : State} (h : Sound s₀ s) :
    SoundNext s₀ (execBoilerDrainStart s) := by
  unfold execBoilerDrainStart
  with_reducible repeat' first | apply soundNext | assumption | apply settle_sound | apply loadDrain_sound | split

theorem execHeatUpCountExpiry_sound {s₀ s : State} (h : Sound s₀ s) :
    SoundNext s₀ (execHeatUpCountExpiry s) := by
  unfold execHeatUpCountExpiry
  with_reducible repeat' first
      | apply soundNext | assumption | apply settle_sound | apply enterDryFault_sound | apply enterFault_sound
      | split

theorem execSamplePeriod_sound (raw : RawSamples) {s₀ s : State} (h : Sound s₀ s) :
    SoundNext s₀ (execSamplePeriod raw s) := by
  unfold execSamplePeriod
  with_reducible repeat' first
      | apply soundNext | assumption | apply settle_sound | apply afterReadings_sound | apply takePeriod_sound
      | split

theorem execTachoEdge_sound {s₀ s : State} (h : Sound s₀ s) :
    SoundNext s₀ (execTachoEdge s) := by
  unfold execTachoEdge
  with_reducible repeat' first | apply soundNext | assumption | apply setMeas_sound | split

theorem execTachoTimeout_sound {s₀ s : State} (h : Sound s₀ s) :
    SoundNext s₀ (execTachoTimeout s) := by
  unfold execTachoTimeout
  with_reducible repeat' first | apply soundNext | assumption | apply setMeas_sound | split

theorem execZeroCrossGroupTimeout_sound {s₀ s : State} (h : Sound s₀ s) :
    SoundNext s₀ (execZeroCrossGroupTimeout s) := by
  unfold execZeroCrossGroupTimeout
  with_reducible repeat' first | apply soundNext | assumption | apply setMeas_sound | split

theorem execFrequencyTimeout_sound {s₀ s : State} (h : Sound s₀ s) :
    SoundNext s₀ (execFrequencyTimeout s) := by
  unfold execFrequencyTimeout
  with_reducible repeat' first | apply soundNext | assumption | apply enterFault_sound | apply setMeas_sound | split

theorem execAllocationEnd_sound {s₀ s : State} (h : Sound s₀ s) :
    SoundNext s₀ (execAllocationEnd s) := by
  unfold execAllocationEnd
  with_reducible repeat' first | apply soundNext | assumption | apply finishAllocation_sound

theorem execZeroCross_sound {s₀ s : State} (h : Sound s₀ s) :
    SoundNext s₀ (execZeroCross s) := by
  unfold execZeroCross
  with_reducible repeat' first
      | apply soundNext | assumption | apply undecidedEdge_sound | apply decidedEdge_sound | split

theorem execMainsLost_sound {s₀ s : State} (h : Sound s₀ s) :
    SoundNext s₀ (execMainsLost s) := by
  unfold execMainsLost
  with_reducible repeat' first | apply soundNext | assumption | apply settle_sound | apply loseMains_sound | split

theorem execRelayChangeStart_sound (r : RelayId) {s₀ s : State} (h : Sound s₀ s) :
    SoundNext s₀ (execRelayChangeStart r s) := by
  unfold execRelayChangeStart
  with_reducible repeat' first | apply soundNext | assumption | apply setRelay_sound | split

theorem execRelayContactEnd_sound (r : RelayId) {s₀ s : State} (h : Sound s₀ s) :
    SoundNext s₀ (execRelayContactEnd r s) := by
  unfold execRelayContactEnd
  dsimp only
  with_reducible repeat' first | apply soundNext | assumption | apply setRelay_sound | apply endReversal_sound | split

theorem execRelayRecoveryEnd_sound (r : RelayId) {s₀ s : State} (h : Sound s₀ s) :
    SoundNext s₀ (execRelayRecoveryEnd r s) := by
  unfold execRelayRecoveryEnd
  with_reducible repeat' first | apply soundNext | assumption | apply setRelay_sound | split

theorem execFanTick_sound {s₀ s : State} (h : Sound s₀ s) :
    SoundNext s₀ (execFanTick s) := by
  unfold execFanTick
  dsimp only
  with_reducible repeat' first | apply soundNext | assumption | apply setFan_sound | split

theorem execFanStall_sound {s₀ s : State} (h : Sound s₀ s) :
    SoundNext s₀ (execFanStall s) := by
  unfold execFanStall
  with_reducible repeat' first
      | apply soundNext | assumption | apply settle_sound | apply setFan_sound | apply enterFault_sound | split

theorem execReversalTimerExpiry_sound {s₀ s : State} (h : Sound s₀ s) :
    SoundNext s₀ (execReversalTimerExpiry s) := by
  unfold execReversalTimerExpiry
  with_reducible repeat' first
      | apply soundNext | assumption | apply beginReversal_sound | apply setClimate_sound | split

theorem execSlowTimerExpiry_sound {s₀ s : State} (h : Sound s₀ s) :
    SoundNext s₀ (execSlowTimerExpiry s) := by
  unfold execSlowTimerExpiry
  with_reducible repeat' first | apply soundNext | assumption | apply setRelay_sound | apply setFan_sound | split

theorem execVentStuck_sound {s₀ s : State} (h : Sound s₀ s) :
    SoundNext s₀ (execVentStuck s) := by
  unfold execVentStuck
  with_reducible repeat' first | apply soundNext | assumption | apply enterFault_sound | apply setVent_sound | split

theorem execLampOneShotExpiry_sound {s₀ s : State} (h : Sound s₀ s) :
    SoundNext s₀ (execLampOneShotExpiry s) := by
  unfold execLampOneShotExpiry
  with_reducible repeat' first | apply soundNext | assumption | apply stopLamp_sound | split

theorem execForceExpiry_sound (o : Output) {s₀ s : State} (h : Sound s₀ s) :
    SoundNext s₀ (execForceExpiry o s) := by
  unfold execForceExpiry
  with_reducible repeat' first | apply soundNext | assumption | apply settle_sound | apply removeForce_sound | split

theorem execPulseEnd_sound {s₀ s : State} (h : Sound s₀ s) :
    SoundNext s₀ (execPulseEnd s) := by
  unfold execPulseEnd
  with_reducible repeat' first | apply soundNext | assumption | apply settle_sound | apply endPulse_sound | split

theorem execFrameStart_sound (f : LineFrame) {s₀ s : State} (h : Sound s₀ s) :
    SoundNext s₀ (execFrameStart f s) := by
  unfold execFrameStart
  with_reducible repeat' first | apply soundNext | assumption | apply setPort_sound

theorem execFrameStartWhileBusy_sound (f : LineFrame) {s₀ s : State} (h : Sound s₀ s) :
    SoundNext s₀ (execFrameStartWhileBusy f s) := by
  unfold execFrameStartWhileBusy
  with_reducible repeat' first | apply soundNext | assumption | apply setPort_sound

theorem execBadFrame_sound (l : Link) (_defect : FrameDefect) {s₀ s : State} (h : Sound s₀ s) :
    SoundNext s₀ (execBadFrame l _defect s) := by
  unfold execBadFrame
  with_reducible repeat' first | apply soundNext | assumption | apply setPort_sound

theorem execFrameGapTimeout_sound (l : Link) {s₀ s : State} (h : Sound s₀ s) :
    SoundNext s₀ (execFrameGapTimeout l s) := by
  unfold execFrameGapTimeout
  with_reducible repeat' first | apply soundNext | assumption | apply setPort_sound | split

theorem execDiscardMarkClear_sound (l : Link) {s₀ s : State} (h : Sound s₀ s) :
    SoundNext s₀ (execDiscardMarkClear l s) := by
  unfold execDiscardMarkClear
  with_reducible repeat' first | apply soundNext | assumption | apply setPort_sound | split

theorem execReplySent_sound (l : Link) {s₀ s : State} (h : Sound s₀ s) :
    SoundNext s₀ (execReplySent l s) := by
  unfold execReplySent
  with_reducible repeat' first | apply soundNext | assumption | apply setPort_sound | split

theorem execUnknownCommand_sound (l : Link) (code : Byte) (_fields : List Byte) {s₀ s : State} (h : Sound s₀ s) :
    SoundNext s₀ (execUnknownCommand l code _fields s) := by
  unfold execUnknownCommand
  refine onFrame_sound _ _ h fun _ _ => ?_
  with_reducible repeat' first | assumption | apply refuse_sound

theorem execRawLevelChange_sound (i : Input) (level : Bool) {s₀ s : State} (h : Sound s₀ s) :
    SoundNext s₀ (execRawLevelChange i level s) := by
  unfold execRawLevelChange
  with_reducible repeat' first | apply soundNext | assumption | apply setInput_sound

theorem execInputChange_sound (i : Input) {s₀ s : State} (h : Sound s₀ s) :
    SoundNext s₀ (execInputChange i s) := by
  unfold execInputChange
  with_reducible repeat' first
      | apply soundNext | assumption | apply settle_sound | apply inputBecomes_sound | apply setInput_sound
      | split

theorem fetch_kinds (n : Nat) (q : List Entry) :
    ((fetch n q).2.map Entry.kind).Sublist (q.map Entry.kind) ∧ ∀ e ∈ (fetch n q).2, ∃ e' ∈ q, e.count = e'.count := by
  induction q generalizing n with
  | nil => cases n <;> simp [fetch]
  | cons e rest ih =>
    unfold fetch
    split
    · refine ⟨(ih n).1.cons_cons _, fun x hx => ?_⟩
      rcases List.mem_cons.1 hx with rfl | hx
      · exact ⟨_, List.mem_cons_self .., rfl⟩
      · obtain ⟨e', he, hc⟩ := (ih n).2 x hx
        exact ⟨e', List.mem_cons_of_mem _ he, hc⟩
    · split
      · exact ⟨List.Sublist.refl _, fun x hx => ⟨x, hx, rfl⟩⟩
      · rename_i m
        have hr : ∀ x ∈ (fetch m rest).2, ∃ e' ∈ e :: rest, x.count = e'.count := fun x hx => by
          obtain ⟨e', he, hc⟩ := (ih m).2 x hx
          exact ⟨e', List.mem_cons_of_mem _ he, hc⟩
        unfold Entry.afterReturn
        split
        · refine ⟨(ih m).1.cons_cons _, fun x hx => ?_⟩
          rcases List.mem_cons.1 hx with rfl | hx
          · exact ⟨e, List.mem_cons_self .., rfl⟩
          · exact hr x hx
        · exact ⟨(ih m).1.cons _, hr⟩

theorem fetch_sound (n : Nat) {q : List Entry} (h : QueueSound q) : QueueSound (fetch n q).2 := by
  refine ⟨(fetch_kinds n q).1.nodup h.1, fun e he => ?_⟩
  obtain ⟨e', he', hc⟩ := (fetch_kinds n q).2 e he
  rw [hc]; exact h.2 e' he'

theorem ownFetch_sound (l : Link) (maximum : Nat) {s₀ s : State} (h : Sound s₀ s) :
    Sound s₀ (ownFetch l maximum s).2 := by
  unfold ownFetch
  split
  · exact h
  · exact setQueue_sound l h fun hq => fetch_sound _ (hq l)

theorem execFetchEvents_sound (l : Link) (fields : List Byte) {s₀ s : State} (h : Sound s₀ s) :
    SoundNext s₀ (execFetchEvents l fields s) := by
  unfold execFetchEvents
  refine onFrame_sound _ _ h fun _ _ => ?_
  with_reducible repeat' first
      | assumption | apply decideCommand_sound | apply ownFetch_sound | apply refuse_sound | intro _ _ | split

theorem steerPairs_sound (ps : List (Nat × Nat)) {s₀ s : State} (h : Sound s₀ s) :
    Sound s₀ (steerPairs ps s) := by
  induction ps generalizing s with
  | nil => exact h
  | cons p ps ih =>
    unfold steerPairs
    split
    · exact ih h
    · exact ih (steer_sound _ _ h)

theorem ownSteering_sound (pairs : List (Nat × Nat)) {s₀ s : State} (h : Sound s₀ s) :
    Sound s₀ (ownSteering pairs s).2 := by
  unfold ownSteering
  split
  · exact h
  · exact steerPairs_sound pairs h

theorem execSetSteering_sound (l : Link) (fields : List Byte) {s₀ s : State} (h : Sound s₀ s) :
    SoundNext s₀ (execSetSteering l fields s) := by
  unfold execSetSteering
  refine onFrame_sound _ _ h fun _ _ => ?_
  with_reducible repeat' first
      | assumption | apply groupCommand_sound | apply refuse_sound | apply ownSteering_sound | intro _ _ | split

theorem ownClearFaults_sound {s₀ s : State} (h : Sound s₀ s) :
    Sound s₀ (ownClearFaults s).2 := by
  unfold ownClearFaults
  dsimp only
  with_reducible repeat' first | assumption | apply removeFaults_sound | apply taken_sound | apply afterRemovals_sound

theorem execClearFaults_sound (l : Link) (fields : List Byte) {s₀ s : State} (h : Sound s₀ s) :
    SoundNext s₀ (execClearFaults l fields s) := by
  unfold execClearFaults
  refine onFrame_sound _ _ h fun _ _ => ?_
  with_reducible repeat' first | assumption | apply groupCommand_sound | apply ownClearFaults_sound

theorem execServiceSilenceTimeout_sound {s₀ s : State} (h : Sound s₀ s) :
    SoundNext s₀ (execServiceSilenceTimeout s) := by
  unfold execServiceSilenceTimeout
  with_reducible repeat' first
      | apply soundNext | assumption | apply settle_sound | apply endServiceUnlock_sound | split

theorem ownSetLock_sound (input : Nat) (value : Nat) {s₀ s : State} (h : Sound s₀ s) :
    Sound s₀ (ownSetLock input value s).2 := by
  unfold ownSetLock
  dsimp only
  with_reducible repeat' first | assumption | apply refuse_sound | apply writeLock_sound | apply taken_sound | split

theorem execSetLock_sound (l : Link) (fields : List Byte) {s₀ s : State} (h : Sound s₀ s) :
    SoundNext s₀ (execSetLock l fields s) := by
  unfold execSetLock
  refine onFrame_sound _ _ h fun _ _ => ?_
  with_reducible repeat' first
      | assumption | apply decideCommand_sound | apply ownSetLock_sound | apply refuse_sound | intro _ _ | split

theorem ownUnlock_sound {s₀ s : State} (h : Sound s₀ s) :
    Sound s₀ (ownUnlock s).2 := by
  unfold ownUnlock
  with_reducible repeat' first
      | assumption | apply setProt_sound | apply refuse_sound | apply taken_sound | apply raiseLock_sound | split

theorem execServiceUnlock_sound (l : Link) (fields : List Byte) {s₀ s : State} (h : Sound s₀ s) :
    SoundNext s₀ (execServiceUnlock l fields s) := by
  unfold execServiceUnlock
  refine onFrame_sound _ _ h fun _ _ => ?_
  with_reducible repeat' first | assumption | apply decideCommand_sound | apply ownUnlock_sound

theorem execServiceLock_sound (l : Link) (fields : List Byte) {s₀ s : State} (h : Sound s₀ s) :
    SoundNext s₀ (execServiceLock l fields s) := by
  unfold execServiceLock
  refine onFrame_sound _ _ h fun _ _ => ?_
  with_reducible repeat' first
      | assumption | apply decideCommand_sound | apply taken_sound | apply endServiceUnlock_sound | intro _ _

theorem execSoakEnd_sound {s₀ s : State} (h : Sound s₀ s) :
    SoundNext s₀ (execSoakEnd s) := by
  unfold execSoakEnd
  with_reducible repeat' first
      | apply soundNext | assumption | apply settle_sound | apply enterDrainAgent_sound
      | apply withdrawSoakTarget_sound | split

theorem execDescaleDoseLoad_sound {s₀ s : State} (h : Sound s₀ s) :
    SoundNext s₀ (execDescaleDoseLoad s) := by
  unfold execDescaleDoseLoad
  with_reducible repeat' first
      | apply soundNext | assumption | apply settle_sound | apply tryDescaleDose_sound | split

theorem execDescaleDrainLoad_sound {s₀ s : State} (h : Sound s₀ s) :
    SoundNext s₀ (execDescaleDrainLoad s) := by
  unfold execDescaleDrainLoad
  with_reducible repeat' first
      | apply soundNext | assumption | apply settle_sound | apply tryDescaleDrain_sound | split

theorem ownDescaleStart_sound {s₀ s : State} (h : Sound s₀ s) :
    Sound s₀ (ownDescaleStart s).2 := by
  unfold ownDescaleStart
  with_reducible repeat' first
      | assumption | apply refuse_sound | apply taken_sound | apply beginDescale_sound | split

theorem execDescaleStart_sound (l : Link) (fields : List Byte) {s₀ s : State} (h : Sound s₀ s) :
    SoundNext s₀ (execDescaleStart l fields s) := by
  unfold execDescaleStart
  refine onFrame_sound _ _ h fun _ _ => ?_
  with_reducible repeat' first | assumption | apply groupCommand_sound | apply ownDescaleStart_sound

theorem ownDescaleConfirm_sound (phase : Nat) {s₀ s : State} (h : Sound s₀ s) :
    Sound s₀ (ownDescaleConfirm phase s).2 := by
  unfold ownDescaleConfirm
  dsimp only
  with_reducible repeat' first
      | assumption | apply refuse_sound | apply taken_sound | apply confirmStall_sound | apply enterDraw_sound
      | apply enterRinse_sound | split

theorem execDescaleConfirm_sound (l : Link) (fields : List Byte) {s₀ s : State} (h : Sound s₀ s) :
    SoundNext s₀ (execDescaleConfirm l fields s) := by
  unfold execDescaleConfirm
  refine onFrame_sound _ _ h fun _ _ => ?_
  with_reducible repeat' first
      | assumption | apply groupCommand_sound | apply ownDescaleConfirm_sound | apply refuse_sound | intro _ _
      | split

theorem ownDescaleAbort_sound {s₀ s : State} (h : Sound s₀ s) :
    Sound s₀ (ownDescaleAbort s).2 := by
  unfold ownDescaleAbort
  with_reducible repeat' first
      | assumption | apply refuse_sound | apply taken_sound | apply abortClean_sound | apply abortWithCredit_sound
      | split

theorem execDescaleAbort_sound (l : Link) (fields : List Byte) {s₀ s : State} (h : Sound s₀ s) :
    SoundNext s₀ (execDescaleAbort l fields s) := by
  unfold execDescaleAbort
  refine onFrame_sound _ _ h fun _ _ => ?_
  with_reducible repeat' first | assumption | apply groupCommand_sound | apply ownDescaleAbort_sound

theorem ownScaleReset_sound {s₀ s : State} (h : Sound s₀ s) :
    Sound s₀ (ownScaleReset s).2 := by
  unfold ownScaleReset
  with_reducible repeat' first | assumption | apply taken_sound | apply clearAccount_sound

theorem execScaleReset_sound (l : Link) (fields : List Byte) {s₀ s : State} (h : Sound s₀ s) :
    SoundNext s₀ (execScaleReset l fields s) := by
  unfold execScaleReset
  refine onFrame_sound _ _ h fun _ _ => ?_
  with_reducible repeat' first | assumption | apply groupCommand_sound | apply ownScaleReset_sound

theorem execReadScale_sound (l : Link) (fields : List Byte) {s₀ s : State} (h : Sound s₀ s) :
    SoundNext s₀ (execReadScale l fields s) := by
  unfold execReadScale
  refine onFrame_sound _ _ h fun _ _ => ?_
  with_reducible repeat' first | assumption | apply readCommand_sound

theorem execSequencerTick_sound {s₀ s : State} (h : Sound s₀ s) : SoundNext s₀ (execSequencerTick s) := by
  unfold execSequencerTick
  split
  · exact soundNext (ite_sound (setRun_sound h.with_seq rfl rfl) h.with_seq)
  · exact soundNext h

theorem execStageTimeEnd_sound {s₀ s : State} (h : Sound s₀ s) :
    SoundNext s₀ (execStageTimeEnd s) := by
  unfold execStageTimeEnd
  with_reducible repeat' first | apply soundNext | assumption | apply settle_sound | apply endStage_sound | split

theorem execDoorTimeout_sound {s₀ s : State} (h : Sound s₀ s) :
    SoundNext s₀ (execDoorTimeout s) := by
  unfold execDoorTimeout
  with_reducible repeat' first | apply soundNext | assumption | apply settle_sound | apply endRun_sound | split

theorem execWaterTimeout_sound {s₀ s : State} (h : Sound s₀ s) :
    SoundNext s₀ (execWaterTimeout s) := by
  unfold execWaterTimeout
  with_reducible repeat' first | apply soundNext | assumption | apply settle_sound | apply waterTimesOut_sound | split

theorem ownLoad_sound (l : Link) (p : SentProgram) {s₀ s : State} (h : Sound s₀ s) :
    Sound s₀ (ownLoad l p s).2 := by
  unfold ownLoad
  dsimp only
  with_reducible repeat' first | assumption | apply refuse_sound | apply setSlot_sound | split

theorem execLoadProgram_sound (l : Link) (fields : List Byte) {s₀ s : State} (h : Sound s₀ s) :
    SoundNext s₀ (execLoadProgram l fields s) := by
  unfold execLoadProgram
  refine onFrame_sound _ _ h fun _ _ => ?_
  with_reducible repeat' first
      | assumption | apply groupCommand_sound | apply refuse_sound | apply ownLoad_sound | intro _ _ | split

theorem ownClear_sound (n : Nat) {s₀ s : State} (h : Sound s₀ s) :
    Sound s₀ (ownClear n s).2 := by
  unfold ownClear
  with_reducible repeat' first | assumption | apply refuse_sound | apply setSlot_sound | split

theorem execClearSlot_sound (l : Link) (fields : List Byte) {s₀ s : State} (h : Sound s₀ s) :
    SoundNext s₀ (execClearSlot l fields s) := by
  unfold execClearSlot
  refine onFrame_sound _ _ h fun _ _ => ?_
  with_reducible repeat' first
      | assumption | apply groupCommand_sound | apply ownClear_sound | apply refuse_sound | intro _ _ | split

theorem execReadSlot_sound (l : Link) (fields : List Byte) {s₀ s : State} (h : Sound s₀ s) :
    SoundNext s₀ (execReadSlot l fields s) := by
  unfold execReadSlot
  refine onFrame_sound _ _ h fun _ _ => ?_
  with_reducible repeat' first | assumption | apply readCommand_sound | apply refuse_sound | intro _ _ | split

theorem ownStart_sound (slot : Nat) (generation : Nat) {s₀ s : State} (h : Sound s₀ s) :
    Sound s₀ (ownStart slot generation s).2 := by
  unfold ownStart
  dsimp only
  with_reducible repeat' first | assumption | apply refuse_sound | apply beginRun_sound | apply taken_sound | split

theorem execStart_sound (l : Link) (fields : List Byte) {s₀ s : State} (h : Sound s₀ s) :
    SoundNext s₀ (execStart l fields s) := by
  unfold execStart
  refine onFrame_sound _ _ h fun _ _ => ?_
  with_reducible repeat' first
      | assumption | apply decideCommand_sound | apply ownStart_sound | apply refuse_sound | intro _ _ | split

theorem ownStop_sound {s₀ s : State} (h : Sound s₀ s) :
    Sound s₀ (ownStop s).2 := by
  unfold ownStop
  with_reducible repeat' first | assumption | apply taken_sound | apply endRun_sound | apply refuse_sound | split

theorem execStop_sound (l : Link) (fields : List Byte) {s₀ s : State} (h : Sound s₀ s) :
    SoundNext s₀ (execStop l fields s) := by
  unfold execStop
  refine onFrame_sound _ _ h fun _ _ => ?_
  with_reducible repeat' first | assumption | apply groupCommand_sound | apply ownStop_sound

theorem onStage_sound (runId stage : Nat) {own : State → Reply × State} {s₀ s : State} (h : Sound s₀ s)
    (ho : ∀ t, Sound s₀ t → Sound s₀ (own t).2) : Sound s₀ (onStage runId stage own s).2 := by
  unfold onStage
  repeat' first | exact h | exact ho s h | split

theorem execSkipStage_sound (l : Link) (fields : List Byte) {s₀ s : State} (h : Sound s₀ s) :
    SoundNext s₀ (execSkipStage l fields s) := by
  unfold execSkipStage
  refine onFrame_sound _ _ h fun _ _ => ?_
  with_reducible repeat' first
      | assumption | apply onStage_sound | apply groupCommand_sound | apply taken_sound | apply endStage_sound
      | apply refuse_sound | intro _ _ | split

theorem ownConfirm_sound {s₀ s : State} (h : Sound s₀ s) :
    Sound s₀ (ownConfirm s).2 := by
  unfold ownConfirm
  with_reducible repeat' first | assumption | apply taken_sound | apply endStage_sound | apply refuse_sound | split

theorem execConfirm_sound (l : Link) (fields : List Byte) {s₀ s : State} (h : Sound s₀ s) :
    SoundNext s₀ (execConfirm l fields s) := by
  unfold execConfirm
  refine onFrame_sound _ _ h fun _ _ => ?_
  with_reducible repeat' first
      | assumption | apply onStage_sound | apply groupCommand_sound | apply ownConfirm_sound | apply refuse_sound
      | intro _ _ | split

theorem applyAdjustment_sound {a : Adjustment} {out : State × Bool} {s₀ s : State} (h : Sound s₀ s)
    (e : applyAdjustment a s = some out) : Sound s₀ out.1 := by
  have hd : ∀ t : State, Sound s₀ t → Sound s₀ (applyDelta a.delta t).1 := fun t ht => by
    unfold applyDelta
    split
    · exact setRun_sound ht rfl rfl
    · exact ht
  unfold applyAdjustment at e
  split at e
  · have h1 := adjustWrite_sound a.setpoint a.moisture h
    split at e
    · cases e
    · rename_i ha
      rw [ha] at h1; cases e
      exact hd _ (storeAdjusted_sound a h1)
  · cases e; exact hd s h

theorem ownAdjust_sound (a : Adjustment) {s₀ s : State} (h : Sound s₀ s) : Sound s₀ (ownAdjust a s).2 := by
  unfold ownAdjust
  repeat' first | exact h | exact taken_sound _ (applyAdjustment_sound h ‹_›) | split

theorem execAdjust_sound (l : Link) (fields : List Byte) {s₀ s : State} (h : Sound s₀ s) :
    SoundNext s₀ (execAdjust l fields s) := by
  unfold execAdjust
  refine onFrame_sound _ _ h fun _ _ => ?_
  with_reducible repeat' first
      | assumption | apply onStage_sound | apply groupCommand_sound | apply ownAdjust_sound | apply refuse_sound
      | intro _ _ | split

theorem ownInject_sound (ml : Nat) {s₀ s : State} (h : Sound s₀ s) :
    Sound s₀ (ownInject ml s).2 := by
  unfold ownInject
  with_reducible repeat' first
      | assumption | apply refuse_sound | apply taken_sound | apply requestBurst_sound | split

theorem execInject_sound (l : Link) (fields : List Byte) {s₀ s : State} (h : Sound s₀ s) :
    SoundNext s₀ (execInject l fields s) := by
  unfold execInject
  refine onFrame_sound _ _ h fun _ _ => ?_
  with_reducible repeat' first
      | assumption | apply onStage_sound | apply groupCommand_sound | apply ownInject_sound | apply refuse_sound
      | intro _ _ | split

theorem ownLastRun_sound {s₀ s : State} (h : Sound s₀ s) :
    Sound s₀ (ownLastRun s).2 := by
  unfold ownLastRun
  with_reducible repeat' first | assumption | exact h.with_draws | split

theorem execGetLastRun_sound (l : Link) (fields : List Byte) {s₀ s : State} (h : Sound s₀ s) :
    SoundNext s₀ (execGetLastRun l fields s) := by
  unfold execGetLastRun
  refine onFrame_sound _ _ h fun _ _ => ?_
  with_reducible repeat' first | assumption | apply decideCommand_sound | apply ownLastRun_sound

theorem ownLampCommand_sound (argument : Nat) {s₀ s : State} (h : Sound s₀ s) :
    Sound s₀ (ownLampCommand argument s).2 := by
  unfold ownLampCommand
  with_reducible repeat' first
      | assumption | apply stopLamp_sound | apply startLamp_sound | apply refuse_sound | split

theorem execLamp_sound (l : Link) (fields : List Byte) {s₀ s : State} (h : Sound s₀ s) :
    SoundNext s₀ (execLamp l fields s) := by
  unfold execLamp
  refine onFrame_sound _ _ h fun _ _ => ?_
  with_reducible repeat' first
      | assumption | apply groupCommand_sound | apply ownLampCommand_sound | apply refuse_sound | intro _ _
      | split

theorem forceTaken_sound {s₀ s : State} (h : Sound s₀ s) :
    Sound s₀ (forceTaken s).2 := by
  unfold forceTaken
  dsimp only
  with_reducible repeat' first | assumption | apply settle_sound

theorem ownRelease_sound (o : Option Output) {s₀ s : State} (h : Sound s₀ s) :
    Sound s₀ (ownRelease o s).2 := by
  unfold ownRelease
  with_reducible repeat' first | assumption | apply forceTaken_sound | apply removeForce_sound | split

theorem ownForceLevel_sound (o : Option Output) (level : Bool) {s₀ s : State} (h : Sound s₀ s) :
    Sound s₀ (ownForceLevel o level s).2 := by
  unfold ownForceLevel
  with_reducible repeat' first
      | assumption | apply refuse_sound | apply forceTaken_sound | apply makeForce_sound | split

theorem ownForce_sound (output : Nat) (level : Nat) {s₀ s : State} (h : Sound s₀ s) :
    Sound s₀ (ownForce output level s).2 := by
  unfold ownForce
  with_reducible repeat' first
      | assumption | apply refuse_sound | apply release_sound | apply ownRelease_sound | apply ownForceLevel_sound
      | split

theorem execForceOutput_sound (l : Link) (fields : List Byte) {s₀ s : State} (h : Sound s₀ s) :
    SoundNext s₀ (execForceOutput l fields s) := by
  unfold execForceOutput
  refine onFrame_sound _ _ h fun _ _ => ?_
  with_reducible repeat' first
      | assumption | apply groupCommand_sound | apply ownForce_sound | apply refuse_sound | intro _ _ | split

theorem ownPulse_sound (os : List Output) (ms : Nat) {s₀ s : State} (h : Sound s₀ s) :
    Sound s₀ (ownPulse os ms s).2 := by
  unfold ownPulse
  dsimp only
  with_reducible repeat' first | assumption | apply refuse_sound | apply taken_sound | exact h.with_out | split

theorem execPulseOutput_sound (l : Link) (fields : List Byte) {s₀ s : State} (h : Sound s₀ s) :
    SoundNext s₀ (execPulseOutput l fields s) := by
  unfold execPulseOutput
  refine onFrame_sound _ _ h fun _ _ => ?_
  with_reducible repeat' first
      | assumption | apply groupCommand_sound | apply ownPulse_sound | apply refuse_sound | intro _ _ | split

theorem execGetStatus_sound (l : Link) (fields : List Byte) {s₀ s : State} (h : Sound s₀ s) :
    SoundNext s₀ (execGetStatus l fields s) := by
  unfold execGetStatus
  refine onFrame_sound _ _ h fun _ _ => ?_
  with_reducible repeat' first | assumption | apply readCommand_sound

theorem execGetSnapshot_sound (l : Link) (fields : List Byte) {s₀ s : State} (h : Sound s₀ s) :
    SoundNext s₀ (execGetSnapshot l fields s) := by
  unfold execGetSnapshot
  refine onFrame_sound _ _ h fun _ _ => ?_
  with_reducible repeat' first | assumption | apply readCommand_sound

theorem execReadSetting_sound (l : Link) (fields : List Byte) {s₀ s : State} (h : Sound s₀ s) :
    SoundNext s₀ (execReadSetting l fields s) := by
  unfold execReadSetting
  refine onFrame_sound _ _ h fun _ _ => ?_
  with_reducible repeat' first | assumption | apply readCommand_sound | apply refuse_sound | intro _ _ | split

theorem ownWrite_sound (number : Nat) (value : Int) {s₀ s : State} (h : Sound s₀ s) :
    Sound s₀ (ownWrite number value s).2 := by
  unfold ownWrite
  dsimp only
  with_reducible repeat' first | assumption | apply taken_sound | apply writeSetting_sound

theorem execWriteSetting_sound (l : Link) (fields : List Byte) {s₀ s : State} (h : Sound s₀ s) :
    SoundNext s₀ (execWriteSetting l fields s) := by
  unfold execWriteSetting
  refine onFrame_sound _ _ h fun _ _ => ?_
  with_reducible repeat' first
      | assumption | apply decideCommand_sound | apply ownWrite_sound | apply refuse_sound | intro _ _ | split

theorem execReset_sound (cause : ResetCause) {s : State} : SoundNext s (execReset cause s) := by
  refine soundNext (raiseAtReset_sound ⟨fun _ l => ?_, fun _ => List.nodup_nil, fun _ => ?_, fun _ c => ?_, fun hr => ?_⟩)
  · have : (resetState cause s).events.queues.get l = [] := by cases l <;> rfl
    rw [this]; simp [QueueSound]
  · refine ⟨fun c _ => ?_, by simp [resetState, Water.initial]⟩
    have : (chan (resetState cause s) c).state = .idle := by cases c <;> rfl
    rw [this]; simp [resetState, Water.initial]
  · have : chan (resetState cause s) c = ⟨.idle, none⟩ := by cases c <;> rfl
    simp [this, ChanState.holds]
  · unfold RunSound resetState
    dsimp only
    split
    · exact hr
    · simp [Retained.initial, RunContext.initial, Causes.none, Causes.isEmpty]

theorem execCommitEnd_sound (good : Bool) {s₀ s : State} (h : Sound s₀ s) :
    SoundNext s₀ (execCommitEnd good s) := by
  unfold execCommitEnd
  with_reducible repeat' first | apply soundNext | assumption | apply endWrite_sound | split

theorem execStartingEnd_sound {s₀ s : State} (h : Sound s₀ s) :
    SoundNext s₀ (execStartingEnd s) := by
  unfold execStartingEnd
  with_reducible repeat' first | apply soundNext | assumption | apply settle_sound | apply endStarting_sound | split

end Sys2Proof.Machine
end

