-- ==== Sys2Proof/Laws/State.lean ====
section
/-! SUPPORT. The small lemmas of the updates of `State`: for each update, what every field reads afterwards, and the
reads of the fixed collections after a write. -/

namespace Sys2Proof.Machine

/-! ## setRun -/

@[simp] theorem setRun_now (r : RunContext) (s : State) : (setRun r s).now =
    s.now := rfl
@[simp] theorem setRun_pending (r : RunContext) (s : State) : (setRun r s).pending =
    s.pending := rfl
@[simp] theorem setRun_windows (r : RunContext) (s : State) : (setRun r s).windows =
    s.windows := rfl
@[simp] theorem setRun_draws (r : RunContext) (s : State) : (setRun r s).draws =
    s.draws := rfl
@[simp] theorem setRun_meas (r : RunContext) (s : State) : (setRun r s).meas =
    s.meas := rfl
@[simp] theorem setRun_climate (r : RunContext) (s : State) : (setRun r s).climate =
    s.climate := rfl
@[simp] theorem setRun_share (r : RunContext) (s : State) : (setRun r s).share =
    s.share := rfl
@[simp] theorem setRun_out (r : RunContext) (s : State) : (setRun r s).out =
    s.out := rfl
@[simp] theorem setRun_water (r : RunContext) (s : State) : (setRun r s).water =
    s.water := rfl
@[simp] theorem setRun_boiler (r : RunContext) (s : State) : (setRun r s).boiler =
    s.boiler := rfl
@[simp] theorem setRun_scale (r : RunContext) (s : State) : (setRun r s).scale =
    s.scale := rfl
@[simp] theorem setRun_work (r : RunContext) (s : State) : (setRun r s).work =
    s.work := rfl
@[simp] theorem setRun_marker (r : RunContext) (s : State) : (setRun r s).marker =
    s.marker := rfl
@[simp] theorem setRun_seq (r : RunContext) (s : State) : (setRun r s).seq =
    s.seq := rfl
@[simp] theorem setRun_ret (r : RunContext) (s : State) : (setRun r s).ret =
    { s.ret with run := r } := rfl
@[simp] theorem setRun_inputs (r : RunContext) (s : State) : (setRun r s).inputs =
    s.inputs := rfl
@[simp] theorem setRun_events (r : RunContext) (s : State) : (setRun r s).events =
    s.events := rfl
@[simp] theorem setRun_prot (r : RunContext) (s : State) : (setRun r s).prot =
    s.prot := rfl
@[simp] theorem setRun_ports (r : RunContext) (s : State) : (setRun r s).ports =
    s.ports := rfl
@[simp] theorem setRun_settings (r : RunContext) (s : State) : (setRun r s).settings =
    s.settings := rfl
@[simp] theorem setRun_store (r : RunContext) (s : State) : (setRun r s).store =
    s.store := rfl
@[simp] theorem setRun_start (r : RunContext) (s : State) : (setRun r s).start =
    s.start := rfl

/-! ## setDescale -/

@[simp] theorem setDescale_now (d : Descale) (s : State) : (setDescale d s).now =
    s.now := rfl
@[simp] theorem setDescale_pending (d : Descale) (s : State) : (setDescale d s).pending =
    s.pending := rfl
@[simp] theorem setDescale_windows (d : Descale) (s : State) : (setDescale d s).windows =
    s.windows := rfl
@[simp] theorem setDescale_draws (d : Descale) (s : State) : (setDescale d s).draws =
    s.draws := rfl
@[simp] theorem setDescale_meas (d : Descale) (s : State) : (setDescale d s).meas =
    s.meas := rfl
@[simp] theorem setDescale_climate (d : Descale) (s : State) : (setDescale d s).climate =
    s.climate := rfl
@[simp] theorem setDescale_share (d : Descale) (s : State) : (setDescale d s).share =
    s.share := rfl
@[simp] theorem setDescale_out (d : Descale) (s : State) : (setDescale d s).out =
    s.out := rfl
@[simp] theorem setDescale_water (d : Descale) (s : State) : (setDescale d s).water =
    s.water := rfl
@[simp] theorem setDescale_boiler (d : Descale) (s : State) : (setDescale d s).boiler =
    s.boiler := rfl
@[simp] theorem setDescale_scale (d : Descale) (s : State) : (setDescale d s).scale =
    s.scale := rfl
@[simp] theorem setDescale_work (d : Descale) (s : State) : (setDescale d s).work =
    s.work := rfl
@[simp] theorem setDescale_marker (d : Descale) (s : State) : (setDescale d s).marker =
    s.marker := rfl
@[simp] theorem setDescale_seq (d : Descale) (s : State) : (setDescale d s).seq =
    s.seq := rfl
@[simp] theorem setDescale_ret (d : Descale) (s : State) : (setDescale d s).ret =
    { s.ret with descale := d } := rfl
@[simp] theorem setDescale_inputs (d : Descale) (s : State) : (setDescale d s).inputs =
    s.inputs := rfl
@[simp] theorem setDescale_events (d : Descale) (s : State) : (setDescale d s).events =
    s.events := rfl
@[simp] theorem setDescale_prot (d : Descale) (s : State) : (setDescale d s).prot =
    s.prot := rfl
@[simp] theorem setDescale_ports (d : Descale) (s : State) : (setDescale d s).ports =
    s.ports := rfl
@[simp] theorem setDescale_settings (d : Descale) (s : State) : (setDescale d s).settings =
    s.settings := rfl
@[simp] theorem setDescale_store (d : Descale) (s : State) : (setDescale d s).store =
    s.store := rfl
@[simp] theorem setDescale_start (d : Descale) (s : State) : (setDescale d s).start =
    s.start := rfl

/-! ## setSlot -/

@[simp] theorem setSlot_now (n : Nat) (x : Slot) (s : State) : (setSlot n x s).now =
    s.now := rfl
@[simp] theorem setSlot_pending (n : Nat) (x : Slot) (s : State) : (setSlot n x s).pending =
    s.pending := rfl
@[simp] theorem setSlot_windows (n : Nat) (x : Slot) (s : State) : (setSlot n x s).windows =
    s.windows := rfl
@[simp] theorem setSlot_draws (n : Nat) (x : Slot) (s : State) : (setSlot n x s).draws =
    s.draws := rfl
@[simp] theorem setSlot_meas (n : Nat) (x : Slot) (s : State) : (setSlot n x s).meas =
    s.meas := rfl
@[simp] theorem setSlot_climate (n : Nat) (x : Slot) (s : State) : (setSlot n x s).climate =
    s.climate := rfl
@[simp] theorem setSlot_share (n : Nat) (x : Slot) (s : State) : (setSlot n x s).share =
    s.share := rfl
@[simp] theorem setSlot_out (n : Nat) (x : Slot) (s : State) : (setSlot n x s).out =
    s.out := rfl
@[simp] theorem setSlot_water (n : Nat) (x : Slot) (s : State) : (setSlot n x s).water =
    s.water := rfl
@[simp] theorem setSlot_boiler (n : Nat) (x : Slot) (s : State) : (setSlot n x s).boiler =
    s.boiler := rfl
@[simp] theorem setSlot_scale (n : Nat) (x : Slot) (s : State) : (setSlot n x s).scale =
    s.scale := rfl
@[simp] theorem setSlot_work (n : Nat) (x : Slot) (s : State) : (setSlot n x s).work =
    s.work := rfl
@[simp] theorem setSlot_marker (n : Nat) (x : Slot) (s : State) : (setSlot n x s).marker =
    s.marker := rfl
@[simp] theorem setSlot_seq (n : Nat) (x : Slot) (s : State) : (setSlot n x s).seq =
    s.seq := rfl
@[simp] theorem setSlot_ret (n : Nat) (x : Slot) (s : State) : (setSlot n x s).ret =
    { s.ret with slots := s.ret.slots.set n x } := rfl
@[simp] theorem setSlot_inputs (n : Nat) (x : Slot) (s : State) : (setSlot n x s).inputs =
    s.inputs := rfl
@[simp] theorem setSlot_events (n : Nat) (x : Slot) (s : State) : (setSlot n x s).events =
    s.events := rfl
@[simp] theorem setSlot_prot (n : Nat) (x : Slot) (s : State) : (setSlot n x s).prot =
    s.prot := rfl
@[simp] theorem setSlot_ports (n : Nat) (x : Slot) (s : State) : (setSlot n x s).ports =
    s.ports := rfl
@[simp] theorem setSlot_settings (n : Nat) (x : Slot) (s : State) : (setSlot n x s).settings =
    s.settings := rfl
@[simp] theorem setSlot_store (n : Nat) (x : Slot) (s : State) : (setSlot n x s).store =
    s.store := rfl
@[simp] theorem setSlot_start (n : Nat) (x : Slot) (s : State) : (setSlot n x s).start =
    s.start := rfl

/-! ## setChan -/

@[simp] theorem setChan_now (c : Chan) (x : Channel) (s : State) : (setChan c x s).now =
    s.now := rfl
@[simp] theorem setChan_pending (c : Chan) (x : Channel) (s : State) : (setChan c x s).pending =
    s.pending := rfl
@[simp] theorem setChan_windows (c : Chan) (x : Channel) (s : State) : (setChan c x s).windows =
    s.windows := rfl
@[simp] theorem setChan_draws (c : Chan) (x : Channel) (s : State) : (setChan c x s).draws =
    s.draws := rfl
@[simp] theorem setChan_meas (c : Chan) (x : Channel) (s : State) : (setChan c x s).meas =
    s.meas := rfl
@[simp] theorem setChan_climate (c : Chan) (x : Channel) (s : State) : (setChan c x s).climate =
    s.climate := rfl
@[simp] theorem setChan_share (c : Chan) (x : Channel) (s : State) : (setChan c x s).share =
    s.share := rfl
@[simp] theorem setChan_out (c : Chan) (x : Channel) (s : State) : (setChan c x s).out =
    s.out := rfl
@[simp] theorem setChan_water (c : Chan) (x : Channel) (s : State) : (setChan c x s).water =
    { s.water with chans := s.water.chans.set c x } := rfl
@[simp] theorem setChan_boiler (c : Chan) (x : Channel) (s : State) : (setChan c x s).boiler =
    s.boiler := rfl
@[simp] theorem setChan_scale (c : Chan) (x : Channel) (s : State) : (setChan c x s).scale =
    s.scale := rfl
@[simp] theorem setChan_work (c : Chan) (x : Channel) (s : State) : (setChan c x s).work =
    s.work := rfl
@[simp] theorem setChan_marker (c : Chan) (x : Channel) (s : State) : (setChan c x s).marker =
    s.marker := rfl
@[simp] theorem setChan_seq (c : Chan) (x : Channel) (s : State) : (setChan c x s).seq =
    s.seq := rfl
@[simp] theorem setChan_ret (c : Chan) (x : Channel) (s : State) : (setChan c x s).ret =
    s.ret := rfl
@[simp] theorem setChan_inputs (c : Chan) (x : Channel) (s : State) : (setChan c x s).inputs =
    s.inputs := rfl
@[simp] theorem setChan_events (c : Chan) (x : Channel) (s : State) : (setChan c x s).events =
    s.events := rfl
@[simp] theorem setChan_prot (c : Chan) (x : Channel) (s : State) : (setChan c x s).prot =
    s.prot := rfl
@[simp] theorem setChan_ports (c : Chan) (x : Channel) (s : State) : (setChan c x s).ports =
    s.ports := rfl
@[simp] theorem setChan_settings (c : Chan) (x : Channel) (s : State) : (setChan c x s).settings =
    s.settings := rfl
@[simp] theorem setChan_store (c : Chan) (x : Channel) (s : State) : (setChan c x s).store =
    s.store := rfl
@[simp] theorem setChan_start (c : Chan) (x : Channel) (s : State) : (setChan c x s).start =
    s.start := rfl

/-! ## setBoiler -/

@[simp] theorem setBoiler_now (b : Boiler) (s : State) : (setBoiler b s).now =
    s.now := rfl
@[simp] theorem setBoiler_pending (b : Boiler) (s : State) : (setBoiler b s).pending =
    s.pending := rfl
@[simp] theorem setBoiler_windows (b : Boiler) (s : State) : (setBoiler b s).windows =
    s.windows := rfl
@[simp] theorem setBoiler_draws (b : Boiler) (s : State) : (setBoiler b s).draws =
    s.draws := rfl
@[simp] theorem setBoiler_meas (b : Boiler) (s : State) : (setBoiler b s).meas =
    s.meas := rfl
@[simp] theorem setBoiler_climate (b : Boiler) (s : State) : (setBoiler b s).climate =
    s.climate := rfl
@[simp] theorem setBoiler_share (b : Boiler) (s : State) : (setBoiler b s).share =
    s.share := rfl
@[simp] theorem setBoiler_out (b : Boiler) (s : State) : (setBoiler b s).out =
    s.out := rfl
@[simp] theorem setBoiler_water (b : Boiler) (s : State) : (setBoiler b s).water =
    s.water := rfl
@[simp] theorem setBoiler_boiler (b : Boiler) (s : State) : (setBoiler b s).boiler =
    b := rfl
@[simp] theorem setBoiler_scale (b : Boiler) (s : State) : (setBoiler b s).scale =
    s.scale := rfl
@[simp] theorem setBoiler_work (b : Boiler) (s : State) : (setBoiler b s).work =
    s.work := rfl
@[simp] theorem setBoiler_marker (b : Boiler) (s : State) : (setBoiler b s).marker =
    s.marker := rfl
@[simp] theorem setBoiler_seq (b : Boiler) (s : State) : (setBoiler b s).seq =
    s.seq := rfl
@[simp] theorem setBoiler_ret (b : Boiler) (s : State) : (setBoiler b s).ret =
    s.ret := rfl
@[simp] theorem setBoiler_inputs (b : Boiler) (s : State) : (setBoiler b s).inputs =
    s.inputs := rfl
@[simp] theorem setBoiler_events (b : Boiler) (s : State) : (setBoiler b s).events =
    s.events := rfl
@[simp] theorem setBoiler_prot (b : Boiler) (s : State) : (setBoiler b s).prot =
    s.prot := rfl
@[simp] theorem setBoiler_ports (b : Boiler) (s : State) : (setBoiler b s).ports =
    s.ports := rfl
@[simp] theorem setBoiler_settings (b : Boiler) (s : State) : (setBoiler b s).settings =
    s.settings := rfl
@[simp] theorem setBoiler_store (b : Boiler) (s : State) : (setBoiler b s).store =
    s.store := rfl
@[simp] theorem setBoiler_start (b : Boiler) (s : State) : (setBoiler b s).start =
    s.start := rfl

/-! ## setClimate -/

@[simp] theorem setClimate_now (c : Climate) (s : State) : (setClimate c s).now =
    s.now := rfl
@[simp] theorem setClimate_pending (c : Climate) (s : State) : (setClimate c s).pending =
    s.pending := rfl
@[simp] theorem setClimate_windows (c : Climate) (s : State) : (setClimate c s).windows =
    s.windows := rfl
@[simp] theorem setClimate_draws (c : Climate) (s : State) : (setClimate c s).draws =
    s.draws := rfl
@[simp] theorem setClimate_meas (c : Climate) (s : State) : (setClimate c s).meas =
    s.meas := rfl
@[simp] theorem setClimate_climate (c : Climate) (s : State) : (setClimate c s).climate =
    c := rfl
@[simp] theorem setClimate_share (c : Climate) (s : State) : (setClimate c s).share =
    s.share := rfl
@[simp] theorem setClimate_out (c : Climate) (s : State) : (setClimate c s).out =
    s.out := rfl
@[simp] theorem setClimate_water (c : Climate) (s : State) : (setClimate c s).water =
    s.water := rfl
@[simp] theorem setClimate_boiler (c : Climate) (s : State) : (setClimate c s).boiler =
    s.boiler := rfl
@[simp] theorem setClimate_scale (c : Climate) (s : State) : (setClimate c s).scale =
    s.scale := rfl
@[simp] theorem setClimate_work (c : Climate) (s : State) : (setClimate c s).work =
    s.work := rfl
@[simp] theorem setClimate_marker (c : Climate) (s : State) : (setClimate c s).marker =
    s.marker := rfl
@[simp] theorem setClimate_seq (c : Climate) (s : State) : (setClimate c s).seq =
    s.seq := rfl
@[simp] theorem setClimate_ret (c : Climate) (s : State) : (setClimate c s).ret =
    s.ret := rfl
@[simp] theorem setClimate_inputs (c : Climate) (s : State) : (setClimate c s).inputs =
    s.inputs := rfl
@[simp] theorem setClimate_events (c : Climate) (s : State) : (setClimate c s).events =
    s.events := rfl
@[simp] theorem setClimate_prot (c : Climate) (s : State) : (setClimate c s).prot =
    s.prot := rfl
@[simp] theorem setClimate_ports (c : Climate) (s : State) : (setClimate c s).ports =
    s.ports := rfl
@[simp] theorem setClimate_settings (c : Climate) (s : State) : (setClimate c s).settings =
    s.settings := rfl
@[simp] theorem setClimate_store (c : Climate) (s : State) : (setClimate c s).store =
    s.store := rfl
@[simp] theorem setClimate_start (c : Climate) (s : State) : (setClimate c s).start =
    s.start := rfl

/-! ## setWork -/

@[simp] theorem setWork_now (w : DescaleWork) (s : State) : (setWork w s).now =
    s.now := rfl
@[simp] theorem setWork_pending (w : DescaleWork) (s : State) : (setWork w s).pending =
    s.pending := rfl
@[simp] theorem setWork_windows (w : DescaleWork) (s : State) : (setWork w s).windows =
    s.windows := rfl
@[simp] theorem setWork_draws (w : DescaleWork) (s : State) : (setWork w s).draws =
    s.draws := rfl
@[simp] theorem setWork_meas (w : DescaleWork) (s : State) : (setWork w s).meas =
    s.meas := rfl
@[simp] theorem setWork_climate (w : DescaleWork) (s : State) : (setWork w s).climate =
    s.climate := rfl
@[simp] theorem setWork_share (w : DescaleWork) (s : State) : (setWork w s).share =
    s.share := rfl
@[simp] theorem setWork_out (w : DescaleWork) (s : State) : (setWork w s).out =
    s.out := rfl
@[simp] theorem setWork_water (w : DescaleWork) (s : State) : (setWork w s).water =
    s.water := rfl
@[simp] theorem setWork_boiler (w : DescaleWork) (s : State) : (setWork w s).boiler =
    s.boiler := rfl
@[simp] theorem setWork_scale (w : DescaleWork) (s : State) : (setWork w s).scale =
    s.scale := rfl
@[simp] theorem setWork_work (w : DescaleWork) (s : State) : (setWork w s).work =
    w := rfl
@[simp] theorem setWork_marker (w : DescaleWork) (s : State) : (setWork w s).marker =
    s.marker := rfl
@[simp] theorem setWork_seq (w : DescaleWork) (s : State) : (setWork w s).seq =
    s.seq := rfl
@[simp] theorem setWork_ret (w : DescaleWork) (s : State) : (setWork w s).ret =
    s.ret := rfl
@[simp] theorem setWork_inputs (w : DescaleWork) (s : State) : (setWork w s).inputs =
    s.inputs := rfl
@[simp] theorem setWork_events (w : DescaleWork) (s : State) : (setWork w s).events =
    s.events := rfl
@[simp] theorem setWork_prot (w : DescaleWork) (s : State) : (setWork w s).prot =
    s.prot := rfl
@[simp] theorem setWork_ports (w : DescaleWork) (s : State) : (setWork w s).ports =
    s.ports := rfl
@[simp] theorem setWork_settings (w : DescaleWork) (s : State) : (setWork w s).settings =
    s.settings := rfl
@[simp] theorem setWork_store (w : DescaleWork) (s : State) : (setWork w s).store =
    s.store := rfl
@[simp] theorem setWork_start (w : DescaleWork) (s : State) : (setWork w s).start =
    s.start := rfl

/-! ## setMeas -/

@[simp] theorem setMeas_now (m : Measurement) (s : State) : (setMeas m s).now =
    s.now := rfl
@[simp] theorem setMeas_pending (m : Measurement) (s : State) : (setMeas m s).pending =
    s.pending := rfl
@[simp] theorem setMeas_windows (m : Measurement) (s : State) : (setMeas m s).windows =
    s.windows := rfl
@[simp] theorem setMeas_draws (m : Measurement) (s : State) : (setMeas m s).draws =
    s.draws := rfl
@[simp] theorem setMeas_meas (m : Measurement) (s : State) : (setMeas m s).meas =
    m := rfl
@[simp] theorem setMeas_climate (m : Measurement) (s : State) : (setMeas m s).climate =
    s.climate := rfl
@[simp] theorem setMeas_share (m : Measurement) (s : State) : (setMeas m s).share =
    s.share := rfl
@[simp] theorem setMeas_out (m : Measurement) (s : State) : (setMeas m s).out =
    s.out := rfl
@[simp] theorem setMeas_water (m : Measurement) (s : State) : (setMeas m s).water =
    s.water := rfl
@[simp] theorem setMeas_boiler (m : Measurement) (s : State) : (setMeas m s).boiler =
    s.boiler := rfl
@[simp] theorem setMeas_scale (m : Measurement) (s : State) : (setMeas m s).scale =
    s.scale := rfl
@[simp] theorem setMeas_work (m : Measurement) (s : State) : (setMeas m s).work =
    s.work := rfl
@[simp] theorem setMeas_marker (m : Measurement) (s : State) : (setMeas m s).marker =
    s.marker := rfl
@[simp] theorem setMeas_seq (m : Measurement) (s : State) : (setMeas m s).seq =
    s.seq := rfl
@[simp] theorem setMeas_ret (m : Measurement) (s : State) : (setMeas m s).ret =
    s.ret := rfl
@[simp] theorem setMeas_inputs (m : Measurement) (s : State) : (setMeas m s).inputs =
    s.inputs := rfl
@[simp] theorem setMeas_events (m : Measurement) (s : State) : (setMeas m s).events =
    s.events := rfl
@[simp] theorem setMeas_prot (m : Measurement) (s : State) : (setMeas m s).prot =
    s.prot := rfl
@[simp] theorem setMeas_ports (m : Measurement) (s : State) : (setMeas m s).ports =
    s.ports := rfl
@[simp] theorem setMeas_settings (m : Measurement) (s : State) : (setMeas m s).settings =
    s.settings := rfl
@[simp] theorem setMeas_store (m : Measurement) (s : State) : (setMeas m s).store =
    s.store := rfl
@[simp] theorem setMeas_start (m : Measurement) (s : State) : (setMeas m s).start =
    s.start := rfl

/-! ## setShare -/

@[simp] theorem setShare_now (p : PowerShare) (s : State) : (setShare p s).now =
    s.now := rfl
@[simp] theorem setShare_pending (p : PowerShare) (s : State) : (setShare p s).pending =
    s.pending := rfl
@[simp] theorem setShare_windows (p : PowerShare) (s : State) : (setShare p s).windows =
    s.windows := rfl
@[simp] theorem setShare_draws (p : PowerShare) (s : State) : (setShare p s).draws =
    s.draws := rfl
@[simp] theorem setShare_meas (p : PowerShare) (s : State) : (setShare p s).meas =
    s.meas := rfl
@[simp] theorem setShare_climate (p : PowerShare) (s : State) : (setShare p s).climate =
    s.climate := rfl
@[simp] theorem setShare_share (p : PowerShare) (s : State) : (setShare p s).share =
    p := rfl
@[simp] theorem setShare_out (p : PowerShare) (s : State) : (setShare p s).out =
    s.out := rfl
@[simp] theorem setShare_water (p : PowerShare) (s : State) : (setShare p s).water =
    s.water := rfl
@[simp] theorem setShare_boiler (p : PowerShare) (s : State) : (setShare p s).boiler =
    s.boiler := rfl
@[simp] theorem setShare_scale (p : PowerShare) (s : State) : (setShare p s).scale =
    s.scale := rfl
@[simp] theorem setShare_work (p : PowerShare) (s : State) : (setShare p s).work =
    s.work := rfl
@[simp] theorem setShare_marker (p : PowerShare) (s : State) : (setShare p s).marker =
    s.marker := rfl
@[simp] theorem setShare_seq (p : PowerShare) (s : State) : (setShare p s).seq =
    s.seq := rfl
@[simp] theorem setShare_ret (p : PowerShare) (s : State) : (setShare p s).ret =
    s.ret := rfl
@[simp] theorem setShare_inputs (p : PowerShare) (s : State) : (setShare p s).inputs =
    s.inputs := rfl
@[simp] theorem setShare_events (p : PowerShare) (s : State) : (setShare p s).events =
    s.events := rfl
@[simp] theorem setShare_prot (p : PowerShare) (s : State) : (setShare p s).prot =
    s.prot := rfl
@[simp] theorem setShare_ports (p : PowerShare) (s : State) : (setShare p s).ports =
    s.ports := rfl
@[simp] theorem setShare_settings (p : PowerShare) (s : State) : (setShare p s).settings =
    s.settings := rfl
@[simp] theorem setShare_store (p : PowerShare) (s : State) : (setShare p s).store =
    s.store := rfl
@[simp] theorem setShare_start (p : PowerShare) (s : State) : (setShare p s).start =
    s.start := rfl

/-! ## setFan -/

@[simp] theorem setFan_now (f : FanDrive) (s : State) : (setFan f s).now =
    s.now := rfl
@[simp] theorem setFan_pending (f : FanDrive) (s : State) : (setFan f s).pending =
    s.pending := rfl
@[simp] theorem setFan_windows (f : FanDrive) (s : State) : (setFan f s).windows =
    s.windows := rfl
@[simp] theorem setFan_draws (f : FanDrive) (s : State) : (setFan f s).draws =
    s.draws := rfl
@[simp] theorem setFan_meas (f : FanDrive) (s : State) : (setFan f s).meas =
    s.meas := rfl
@[simp] theorem setFan_climate (f : FanDrive) (s : State) : (setFan f s).climate =
    s.climate := rfl
@[simp] theorem setFan_share (f : FanDrive) (s : State) : (setFan f s).share =
    s.share := rfl
@[simp] theorem setFan_out (f : FanDrive) (s : State) : (setFan f s).out =
    { s.out with fan := f } := rfl
@[simp] theorem setFan_water (f : FanDrive) (s : State) : (setFan f s).water =
    s.water := rfl
@[simp] theorem setFan_boiler (f : FanDrive) (s : State) : (setFan f s).boiler =
    s.boiler := rfl
@[simp] theorem setFan_scale (f : FanDrive) (s : State) : (setFan f s).scale =
    s.scale := rfl
@[simp] theorem setFan_work (f : FanDrive) (s : State) : (setFan f s).work =
    s.work := rfl
@[simp] theorem setFan_marker (f : FanDrive) (s : State) : (setFan f s).marker =
    s.marker := rfl
@[simp] theorem setFan_seq (f : FanDrive) (s : State) : (setFan f s).seq =
    s.seq := rfl
@[simp] theorem setFan_ret (f : FanDrive) (s : State) : (setFan f s).ret =
    s.ret := rfl
@[simp] theorem setFan_inputs (f : FanDrive) (s : State) : (setFan f s).inputs =
    s.inputs := rfl
@[simp] theorem setFan_events (f : FanDrive) (s : State) : (setFan f s).events =
    s.events := rfl
@[simp] theorem setFan_prot (f : FanDrive) (s : State) : (setFan f s).prot =
    s.prot := rfl
@[simp] theorem setFan_ports (f : FanDrive) (s : State) : (setFan f s).ports =
    s.ports := rfl
@[simp] theorem setFan_settings (f : FanDrive) (s : State) : (setFan f s).settings =
    s.settings := rfl
@[simp] theorem setFan_store (f : FanDrive) (s : State) : (setFan f s).store =
    s.store := rfl
@[simp] theorem setFan_start (f : FanDrive) (s : State) : (setFan f s).start =
    s.start := rfl

/-! ## setVent -/

@[simp] theorem setVent_now (v : VentFlap) (s : State) : (setVent v s).now =
    s.now := rfl
@[simp] theorem setVent_pending (v : VentFlap) (s : State) : (setVent v s).pending =
    s.pending := rfl
@[simp] theorem setVent_windows (v : VentFlap) (s : State) : (setVent v s).windows =
    s.windows := rfl
@[simp] theorem setVent_draws (v : VentFlap) (s : State) : (setVent v s).draws =
    s.draws := rfl
@[simp] theorem setVent_meas (v : VentFlap) (s : State) : (setVent v s).meas =
    s.meas := rfl
@[simp] theorem setVent_climate (v : VentFlap) (s : State) : (setVent v s).climate =
    s.climate := rfl
@[simp] theorem setVent_share (v : VentFlap) (s : State) : (setVent v s).share =
    s.share := rfl
@[simp] theorem setVent_out (v : VentFlap) (s : State) : (setVent v s).out =
    { s.out with vent := v } := rfl
@[simp] theorem setVent_water (v : VentFlap) (s : State) : (setVent v s).water =
    s.water := rfl
@[simp] theorem setVent_boiler (v : VentFlap) (s : State) : (setVent v s).boiler =
    s.boiler := rfl
@[simp] theorem setVent_scale (v : VentFlap) (s : State) : (setVent v s).scale =
    s.scale := rfl
@[simp] theorem setVent_work (v : VentFlap) (s : State) : (setVent v s).work =
    s.work := rfl
@[simp] theorem setVent_marker (v : VentFlap) (s : State) : (setVent v s).marker =
    s.marker := rfl
@[simp] theorem setVent_seq (v : VentFlap) (s : State) : (setVent v s).seq =
    s.seq := rfl
@[simp] theorem setVent_ret (v : VentFlap) (s : State) : (setVent v s).ret =
    s.ret := rfl
@[simp] theorem setVent_inputs (v : VentFlap) (s : State) : (setVent v s).inputs =
    s.inputs := rfl
@[simp] theorem setVent_events (v : VentFlap) (s : State) : (setVent v s).events =
    s.events := rfl
@[simp] theorem setVent_prot (v : VentFlap) (s : State) : (setVent v s).prot =
    s.prot := rfl
@[simp] theorem setVent_ports (v : VentFlap) (s : State) : (setVent v s).ports =
    s.ports := rfl
@[simp] theorem setVent_settings (v : VentFlap) (s : State) : (setVent v s).settings =
    s.settings := rfl
@[simp] theorem setVent_store (v : VentFlap) (s : State) : (setVent v s).store =
    s.store := rfl
@[simp] theorem setVent_start (v : VentFlap) (s : State) : (setVent v s).start =
    s.start := rfl

/-! ## setProt -/

@[simp] theorem setProt_now (p : Protection) (s : State) : (setProt p s).now =
    s.now := rfl
@[simp] theorem setProt_pending (p : Protection) (s : State) : (setProt p s).pending =
    s.pending := rfl
@[simp] theorem setProt_windows (p : Protection) (s : State) : (setProt p s).windows =
    s.windows := rfl
@[simp] theorem setProt_draws (p : Protection) (s : State) : (setProt p s).draws =
    s.draws := rfl
@[simp] theorem setProt_meas (p : Protection) (s : State) : (setProt p s).meas =
    s.meas := rfl
@[simp] theorem setProt_climate (p : Protection) (s : State) : (setProt p s).climate =
    s.climate := rfl
@[simp] theorem setProt_share (p : Protection) (s : State) : (setProt p s).share =
    s.share := rfl
@[simp] theorem setProt_out (p : Protection) (s : State) : (setProt p s).out =
    s.out := rfl
@[simp] theorem setProt_water (p : Protection) (s : State) : (setProt p s).water =
    s.water := rfl
@[simp] theorem setProt_boiler (p : Protection) (s : State) : (setProt p s).boiler =
    s.boiler := rfl
@[simp] theorem setProt_scale (p : Protection) (s : State) : (setProt p s).scale =
    s.scale := rfl
@[simp] theorem setProt_work (p : Protection) (s : State) : (setProt p s).work =
    s.work := rfl
@[simp] theorem setProt_marker (p : Protection) (s : State) : (setProt p s).marker =
    s.marker := rfl
@[simp] theorem setProt_seq (p : Protection) (s : State) : (setProt p s).seq =
    s.seq := rfl
@[simp] theorem setProt_ret (p : Protection) (s : State) : (setProt p s).ret =
    s.ret := rfl
@[simp] theorem setProt_inputs (p : Protection) (s : State) : (setProt p s).inputs =
    s.inputs := rfl
@[simp] theorem setProt_events (p : Protection) (s : State) : (setProt p s).events =
    s.events := rfl
@[simp] theorem setProt_prot (p : Protection) (s : State) : (setProt p s).prot =
    p := rfl
@[simp] theorem setProt_ports (p : Protection) (s : State) : (setProt p s).ports =
    s.ports := rfl
@[simp] theorem setProt_settings (p : Protection) (s : State) : (setProt p s).settings =
    s.settings := rfl
@[simp] theorem setProt_store (p : Protection) (s : State) : (setProt p s).store =
    s.store := rfl
@[simp] theorem setProt_start (p : Protection) (s : State) : (setProt p s).start =
    s.start := rfl

/-! ## setPort -/

@[simp] theorem setPort_now (l : Link) (p : Port) (s : State) : (setPort l p s).now =
    s.now := rfl
@[simp] theorem setPort_pending (l : Link) (p : Port) (s : State) : (setPort l p s).pending =
    s.pending := rfl
@[simp] theorem setPort_windows (l : Link) (p : Port) (s : State) : (setPort l p s).windows =
    s.windows := rfl
@[simp] theorem setPort_draws (l : Link) (p : Port) (s : State) : (setPort l p s).draws =
    s.draws := rfl
@[simp] theorem setPort_meas (l : Link) (p : Port) (s : State) : (setPort l p s).meas =
    s.meas := rfl
@[simp] theorem setPort_climate (l : Link) (p : Port) (s : State) : (setPort l p s).climate =
    s.climate := rfl
@[simp] theorem setPort_share (l : Link) (p : Port) (s : State) : (setPort l p s).share =
    s.share := rfl
@[simp] theorem setPort_out (l : Link) (p : Port) (s : State) : (setPort l p s).out =
    s.out := rfl
@[simp] theorem setPort_water (l : Link) (p : Port) (s : State) : (setPort l p s).water =
    s.water := rfl
@[simp] theorem setPort_boiler (l : Link) (p : Port) (s : State) : (setPort l p s).boiler =
    s.boiler := rfl
@[simp] theorem setPort_scale (l : Link) (p : Port) (s : State) : (setPort l p s).scale =
    s.scale := rfl
@[simp] theorem setPort_work (l : Link) (p : Port) (s : State) : (setPort l p s).work =
    s.work := rfl
@[simp] theorem setPort_marker (l : Link) (p : Port) (s : State) : (setPort l p s).marker =
    s.marker := rfl
@[simp] theorem setPort_seq (l : Link) (p : Port) (s : State) : (setPort l p s).seq =
    s.seq := rfl
@[simp] theorem setPort_ret (l : Link) (p : Port) (s : State) : (setPort l p s).ret =
    s.ret := rfl
@[simp] theorem setPort_inputs (l : Link) (p : Port) (s : State) : (setPort l p s).inputs =
    s.inputs := rfl
@[simp] theorem setPort_events (l : Link) (p : Port) (s : State) : (setPort l p s).events =
    s.events := rfl
@[simp] theorem setPort_prot (l : Link) (p : Port) (s : State) : (setPort l p s).prot =
    s.prot := rfl
@[simp] theorem setPort_ports (l : Link) (p : Port) (s : State) : (setPort l p s).ports =
    s.ports.set l p := rfl
@[simp] theorem setPort_settings (l : Link) (p : Port) (s : State) : (setPort l p s).settings =
    s.settings := rfl
@[simp] theorem setPort_store (l : Link) (p : Port) (s : State) : (setPort l p s).store =
    s.store := rfl
@[simp] theorem setPort_start (l : Link) (p : Port) (s : State) : (setPort l p s).start =
    s.start := rfl

/-! ## setInput -/

@[simp] theorem setInput_now (i : Input) (x : InputLine) (s : State) : (setInput i x s).now =
    s.now := rfl
@[simp] theorem setInput_pending (i : Input) (x : InputLine) (s : State) : (setInput i x s).pending =
    s.pending := rfl
@[simp] theorem setInput_windows (i : Input) (x : InputLine) (s : State) : (setInput i x s).windows =
    s.windows := rfl
@[simp] theorem setInput_draws (i : Input) (x : InputLine) (s : State) : (setInput i x s).draws =
    s.draws := rfl
@[simp] theorem setInput_meas (i : Input) (x : InputLine) (s : State) : (setInput i x s).meas =
    s.meas := rfl
@[simp] theorem setInput_climate (i : Input) (x : InputLine) (s : State) : (setInput i x s).climate =
    s.climate := rfl
@[simp] theorem setInput_share (i : Input) (x : InputLine) (s : State) : (setInput i x s).share =
    s.share := rfl
@[simp] theorem setInput_out (i : Input) (x : InputLine) (s : State) : (setInput i x s).out =
    s.out := rfl
@[simp] theorem setInput_water (i : Input) (x : InputLine) (s : State) : (setInput i x s).water =
    s.water := rfl
@[simp] theorem setInput_boiler (i : Input) (x : InputLine) (s : State) : (setInput i x s).boiler =
    s.boiler := rfl
@[simp] theorem setInput_scale (i : Input) (x : InputLine) (s : State) : (setInput i x s).scale =
    s.scale := rfl
@[simp] theorem setInput_work (i : Input) (x : InputLine) (s : State) : (setInput i x s).work =
    s.work := rfl
@[simp] theorem setInput_marker (i : Input) (x : InputLine) (s : State) : (setInput i x s).marker =
    s.marker := rfl
@[simp] theorem setInput_seq (i : Input) (x : InputLine) (s : State) : (setInput i x s).seq =
    s.seq := rfl
@[simp] theorem setInput_ret (i : Input) (x : InputLine) (s : State) : (setInput i x s).ret =
    s.ret := rfl
@[simp] theorem setInput_inputs (i : Input) (x : InputLine) (s : State) : (setInput i x s).inputs =
    s.inputs.set i x := rfl
@[simp] theorem setInput_events (i : Input) (x : InputLine) (s : State) : (setInput i x s).events =
    s.events := rfl
@[simp] theorem setInput_prot (i : Input) (x : InputLine) (s : State) : (setInput i x s).prot =
    s.prot := rfl
@[simp] theorem setInput_ports (i : Input) (x : InputLine) (s : State) : (setInput i x s).ports =
    s.ports := rfl
@[simp] theorem setInput_settings (i : Input) (x : InputLine) (s : State) : (setInput i x s).settings =
    s.settings := rfl
@[simp] theorem setInput_store (i : Input) (x : InputLine) (s : State) : (setInput i x s).store =
    s.store := rfl
@[simp] theorem setInput_start (i : Input) (x : InputLine) (s : State) : (setInput i x s).start =
    s.start := rfl

/-! ## setQueue -/

@[simp] theorem setQueue_now (l : Link) (q : List Entry) (s : State) : (setQueue l q s).now =
    s.now := rfl
@[simp] theorem setQueue_pending (l : Link) (q : List Entry) (s : State) : (setQueue l q s).pending =
    s.pending := rfl
@[simp] theorem setQueue_windows (l : Link) (q : List Entry) (s : State) : (setQueue l q s).windows =
    s.windows := rfl
@[simp] theorem setQueue_draws (l : Link) (q : List Entry) (s : State) : (setQueue l q s).draws =
    s.draws := rfl
@[simp] theorem setQueue_meas (l : Link) (q : List Entry) (s : State) : (setQueue l q s).meas =
    s.meas := rfl
@[simp] theorem setQueue_climate (l : Link) (q : List Entry) (s : State) : (setQueue l q s).climate =
    s.climate := rfl
@[simp] theorem setQueue_share (l : Link) (q : List Entry) (s : State) : (setQueue l q s).share =
    s.share := rfl
@[simp] theorem setQueue_out (l : Link) (q : List Entry) (s : State) : (setQueue l q s).out =
    s.out := rfl
@[simp] theorem setQueue_water (l : Link) (q : List Entry) (s : State) : (setQueue l q s).water =
    s.water := rfl
@[simp] theorem setQueue_boiler (l : Link) (q : List Entry) (s : State) : (setQueue l q s).boiler =
    s.boiler := rfl
@[simp] theorem setQueue_scale (l : Link) (q : List Entry) (s : State) : (setQueue l q s).scale =
    s.scale := rfl
@[simp] theorem setQueue_work (l : Link) (q : List Entry) (s : State) : (setQueue l q s).work =
    s.work := rfl
@[simp] theorem setQueue_marker (l : Link) (q : List Entry) (s : State) : (setQueue l q s).marker =
    s.marker := rfl
@[simp] theorem setQueue_seq (l : Link) (q : List Entry) (s : State) : (setQueue l q s).seq =
    s.seq := rfl
@[simp] theorem setQueue_ret (l : Link) (q : List Entry) (s : State) : (setQueue l q s).ret =
    s.ret := rfl
@[simp] theorem setQueue_inputs (l : Link) (q : List Entry) (s : State) : (setQueue l q s).inputs =
    s.inputs := rfl
@[simp] theorem setQueue_events (l : Link) (q : List Entry) (s : State) : (setQueue l q s).events =
    { s.events with queues := s.events.queues.set l q } := rfl
@[simp] theorem setQueue_prot (l : Link) (q : List Entry) (s : State) : (setQueue l q s).prot =
    s.prot := rfl
@[simp] theorem setQueue_ports (l : Link) (q : List Entry) (s : State) : (setQueue l q s).ports =
    s.ports := rfl
@[simp] theorem setQueue_settings (l : Link) (q : List Entry) (s : State) : (setQueue l q s).settings =
    s.settings := rfl
@[simp] theorem setQueue_store (l : Link) (q : List Entry) (s : State) : (setQueue l q s).store =
    s.store := rfl
@[simp] theorem setQueue_start (l : Link) (q : List Entry) (s : State) : (setQueue l q s).start =
    s.start := rfl

/-! ## askCommit -/

@[simp] theorem askCommit_now (s : State) : (askCommit s).now =
    s.now := rfl
@[simp] theorem askCommit_pending (s : State) : (askCommit s).pending =
    s.pending := rfl
@[simp] theorem askCommit_windows (s : State) : (askCommit s).windows =
    s.windows := rfl
@[simp] theorem askCommit_draws (s : State) : (askCommit s).draws =
    s.draws := rfl
@[simp] theorem askCommit_meas (s : State) : (askCommit s).meas =
    s.meas := rfl
@[simp] theorem askCommit_climate (s : State) : (askCommit s).climate =
    s.climate := rfl
@[simp] theorem askCommit_share (s : State) : (askCommit s).share =
    s.share := rfl
@[simp] theorem askCommit_out (s : State) : (askCommit s).out =
    s.out := rfl
@[simp] theorem askCommit_water (s : State) : (askCommit s).water =
    s.water := rfl
@[simp] theorem askCommit_boiler (s : State) : (askCommit s).boiler =
    s.boiler := rfl
@[simp] theorem askCommit_scale (s : State) : (askCommit s).scale =
    s.scale := rfl
@[simp] theorem askCommit_work (s : State) : (askCommit s).work =
    s.work := rfl
@[simp] theorem askCommit_marker (s : State) : (askCommit s).marker =
    s.marker := rfl
@[simp] theorem askCommit_seq (s : State) : (askCommit s).seq =
    s.seq := rfl
@[simp] theorem askCommit_ret (s : State) : (askCommit s).ret =
    s.ret := rfl
@[simp] theorem askCommit_inputs (s : State) : (askCommit s).inputs =
    s.inputs := rfl
@[simp] theorem askCommit_events (s : State) : (askCommit s).events =
    s.events := rfl
@[simp] theorem askCommit_prot (s : State) : (askCommit s).prot =
    s.prot := rfl
@[simp] theorem askCommit_ports (s : State) : (askCommit s).ports =
    s.ports := rfl
@[simp] theorem askCommit_settings (s : State) : (askCommit s).settings =
    s.settings := rfl
@[simp] theorem askCommit_store (s : State) : (askCommit s).store =
    { s.store with asked := true } := rfl
@[simp] theorem askCommit_start (s : State) : (askCommit s).start =
    s.start := rfl

/-! ## dropClaim -/

@[simp] theorem dropClaim_now (s : State) : (dropClaim s).now =
    s.now := rfl
@[simp] theorem dropClaim_pending (s : State) : (dropClaim s).pending =
    s.pending := rfl
@[simp] theorem dropClaim_windows (s : State) : (dropClaim s).windows =
    s.windows := rfl
@[simp] theorem dropClaim_draws (s : State) : (dropClaim s).draws =
    s.draws := rfl
@[simp] theorem dropClaim_meas (s : State) : (dropClaim s).meas =
    s.meas := rfl
@[simp] theorem dropClaim_climate (s : State) : (dropClaim s).climate =
    s.climate := rfl
@[simp] theorem dropClaim_share (s : State) : (dropClaim s).share =
    { s.share with claim := none, allocation := s.share.allocation.map (fun a => { a with placed := none }) } := rfl
@[simp] theorem dropClaim_out (s : State) : (dropClaim s).out =
    s.out := rfl
@[simp] theorem dropClaim_water (s : State) : (dropClaim s).water =
    s.water := rfl
@[simp] theorem dropClaim_boiler (s : State) : (dropClaim s).boiler =
    s.boiler := rfl
@[simp] theorem dropClaim_scale (s : State) : (dropClaim s).scale =
    s.scale := rfl
@[simp] theorem dropClaim_work (s : State) : (dropClaim s).work =
    s.work := rfl
@[simp] theorem dropClaim_marker (s : State) : (dropClaim s).marker =
    s.marker := rfl
@[simp] theorem dropClaim_seq (s : State) : (dropClaim s).seq =
    s.seq := rfl
@[simp] theorem dropClaim_ret (s : State) : (dropClaim s).ret =
    s.ret := rfl
@[simp] theorem dropClaim_inputs (s : State) : (dropClaim s).inputs =
    s.inputs := rfl
@[simp] theorem dropClaim_events (s : State) : (dropClaim s).events =
    s.events := rfl
@[simp] theorem dropClaim_prot (s : State) : (dropClaim s).prot =
    s.prot := rfl
@[simp] theorem dropClaim_ports (s : State) : (dropClaim s).ports =
    s.ports := rfl
@[simp] theorem dropClaim_settings (s : State) : (dropClaim s).settings =
    s.settings := rfl
@[simp] theorem dropClaim_store (s : State) : (dropClaim s).store =
    s.store := rfl
@[simp] theorem dropClaim_start (s : State) : (dropClaim s).start =
    s.start := rfl

/-! ## endDrive -/

@[simp] theorem endDrive_now (e : VentEnd) (s : State) : (endDrive e s).now =
    s.now := rfl
@[simp] theorem endDrive_pending (e : VentEnd) (s : State) : (endDrive e s).pending =
    s.pending := rfl
@[simp] theorem endDrive_windows (e : VentEnd) (s : State) : (endDrive e s).windows =
    s.windows := rfl
@[simp] theorem endDrive_draws (e : VentEnd) (s : State) : (endDrive e s).draws =
    s.draws := rfl
@[simp] theorem endDrive_meas (e : VentEnd) (s : State) : (endDrive e s).meas =
    s.meas := rfl
@[simp] theorem endDrive_climate (e : VentEnd) (s : State) : (endDrive e s).climate =
    s.climate := rfl
@[simp] theorem endDrive_share (e : VentEnd) (s : State) : (endDrive e s).share =
    s.share := rfl
@[simp] theorem endDrive_out (e : VentEnd) (s : State) : (endDrive e s).out =
    { s.out with
      forces := s.out.forces.map (fun x => if x.output = ventDrive e then { x with ended := true } else x)
      pulse := s.out.pulse.map (fun p => if ventDrive e ∈ p.outputs then { p with ended := true } else p) } := rfl
@[simp] theorem endDrive_water (e : VentEnd) (s : State) : (endDrive e s).water =
    s.water := rfl
@[simp] theorem endDrive_boiler (e : VentEnd) (s : State) : (endDrive e s).boiler =
    s.boiler := rfl
@[simp] theorem endDrive_scale (e : VentEnd) (s : State) : (endDrive e s).scale =
    s.scale := rfl
@[simp] theorem endDrive_work (e : VentEnd) (s : State) : (endDrive e s).work =
    s.work := rfl
@[simp] theorem endDrive_marker (e : VentEnd) (s : State) : (endDrive e s).marker =
    s.marker := rfl
@[simp] theorem endDrive_seq (e : VentEnd) (s : State) : (endDrive e s).seq =
    s.seq := rfl
@[simp] theorem endDrive_ret (e : VentEnd) (s : State) : (endDrive e s).ret =
    s.ret := rfl
@[simp] theorem endDrive_inputs (e : VentEnd) (s : State) : (endDrive e s).inputs =
    s.inputs := rfl
@[simp] theorem endDrive_events (e : VentEnd) (s : State) : (endDrive e s).events =
    s.events := rfl
@[simp] theorem endDrive_prot (e : VentEnd) (s : State) : (endDrive e s).prot =
    s.prot := rfl
@[simp] theorem endDrive_ports (e : VentEnd) (s : State) : (endDrive e s).ports =
    s.ports := rfl
@[simp] theorem endDrive_settings (e : VentEnd) (s : State) : (endDrive e s).settings =
    s.settings := rfl
@[simp] theorem endDrive_store (e : VentEnd) (s : State) : (endDrive e s).store =
    s.store := rfl
@[simp] theorem endDrive_start (e : VentEnd) (s : State) : (endDrive e s).start =
    s.start := rfl

/-! ## Raising an event -/

@[simp] theorem raiseEvent_now (k : EventKind) (a : Option Byte) (s : State) :
    (raiseEvent k a s).now = s.now := rfl
@[simp] theorem raiseEvent_pending (k : EventKind) (a : Option Byte) (s : State) :
    (raiseEvent k a s).pending = s.pending := rfl
@[simp] theorem raiseEvent_windows (k : EventKind) (a : Option Byte) (s : State) :
    (raiseEvent k a s).windows = s.windows := rfl
@[simp] theorem raiseEvent_draws (k : EventKind) (a : Option Byte) (s : State) :
    (raiseEvent k a s).draws = s.draws := rfl
@[simp] theorem raiseEvent_meas (k : EventKind) (a : Option Byte) (s : State) :
    (raiseEvent k a s).meas = s.meas := rfl
@[simp] theorem raiseEvent_climate (k : EventKind) (a : Option Byte) (s : State) :
    (raiseEvent k a s).climate = s.climate := rfl
@[simp] theorem raiseEvent_share (k : EventKind) (a : Option Byte) (s : State) :
    (raiseEvent k a s).share = s.share := rfl
@[simp] theorem raiseEvent_out (k : EventKind) (a : Option Byte) (s : State) :
    (raiseEvent k a s).out = s.out := rfl
@[simp] theorem raiseEvent_water (k : EventKind) (a : Option Byte) (s : State) :
    (raiseEvent k a s).water = s.water := rfl
@[simp] theorem raiseEvent_boiler (k : EventKind) (a : Option Byte) (s : State) :
    (raiseEvent k a s).boiler = s.boiler := rfl
@[simp] theorem raiseEvent_scale (k : EventKind) (a : Option Byte) (s : State) :
    (raiseEvent k a s).scale = s.scale := rfl
@[simp] theorem raiseEvent_work (k : EventKind) (a : Option Byte) (s : State) :
    (raiseEvent k a s).work = s.work := rfl
@[simp] theorem raiseEvent_marker (k : EventKind) (a : Option Byte) (s : State) :
    (raiseEvent k a s).marker = s.marker := rfl
@[simp] theorem raiseEvent_seq (k : EventKind) (a : Option Byte) (s : State) :
    (raiseEvent k a s).seq = s.seq := rfl
@[simp] theorem raiseEvent_ret (k : EventKind) (a : Option Byte) (s : State) :
    (raiseEvent k a s).ret = s.ret := rfl
@[simp] theorem raiseEvent_inputs (k : EventKind) (a : Option Byte) (s : State) :
    (raiseEvent k a s).inputs = s.inputs := rfl
@[simp] theorem raiseEvent_prot (k : EventKind) (a : Option Byte) (s : State) :
    (raiseEvent k a s).prot = s.prot := rfl
@[simp] theorem raiseEvent_ports (k : EventKind) (a : Option Byte) (s : State) :
    (raiseEvent k a s).ports = s.ports := rfl
@[simp] theorem raiseEvent_settings (k : EventKind) (a : Option Byte) (s : State) :
    (raiseEvent k a s).settings = s.settings := rfl
@[simp] theorem raiseEvent_store (k : EventKind) (a : Option Byte) (s : State) :
    (raiseEvent k a s).store = s.store := rfl
@[simp] theorem raiseEvent_start (k : EventKind) (a : Option Byte) (s : State) :
    (raiseEvent k a s).start = s.start := rfl
@[simp] theorem raiseEvent_faults (k : EventKind) (a : Option Byte) (s : State) :
    (raiseEvent k a s).events.faults = s.events.faults := rfl
@[simp] theorem raiseEvent_steering (k : EventKind) (a : Option Byte) (s : State) :
    (raiseEvent k a s).events.steering = s.events.steering := rfl

/-! ## The end of a condition -/

@[simp] theorem endCondition_now (k : EventKind) (s : State) : (endCondition k s).now = s.now := rfl
@[simp] theorem endCondition_pending (k : EventKind) (s : State) : (endCondition k s).pending = s.pending := rfl
@[simp] theorem endCondition_windows (k : EventKind) (s : State) : (endCondition k s).windows = s.windows := rfl
@[simp] theorem endCondition_draws (k : EventKind) (s : State) : (endCondition k s).draws = s.draws := rfl
@[simp] theorem endCondition_meas (k : EventKind) (s : State) : (endCondition k s).meas = s.meas := rfl
@[simp] theorem endCondition_climate (k : EventKind) (s : State) : (endCondition k s).climate = s.climate := rfl
@[simp] theorem endCondition_share (k : EventKind) (s : State) : (endCondition k s).share = s.share := rfl
@[simp] theorem endCondition_out (k : EventKind) (s : State) : (endCondition k s).out = s.out := rfl
@[simp] theorem endCondition_water (k : EventKind) (s : State) : (endCondition k s).water = s.water := rfl
@[simp] theorem endCondition_boiler (k : EventKind) (s : State) : (endCondition k s).boiler = s.boiler := rfl
@[simp] theorem endCondition_scale (k : EventKind) (s : State) : (endCondition k s).scale = s.scale := rfl
@[simp] theorem endCondition_work (k : EventKind) (s : State) : (endCondition k s).work = s.work := rfl
@[simp] theorem endCondition_marker (k : EventKind) (s : State) : (endCondition k s).marker = s.marker := rfl
@[simp] theorem endCondition_seq (k : EventKind) (s : State) : (endCondition k s).seq = s.seq := rfl
@[simp] theorem endCondition_ret (k : EventKind) (s : State) : (endCondition k s).ret = s.ret := rfl
@[simp] theorem endCondition_inputs (k : EventKind) (s : State) : (endCondition k s).inputs = s.inputs := rfl
@[simp] theorem endCondition_prot (k : EventKind) (s : State) : (endCondition k s).prot = s.prot := rfl
@[simp] theorem endCondition_ports (k : EventKind) (s : State) : (endCondition k s).ports = s.ports := rfl
@[simp] theorem endCondition_settings (k : EventKind) (s : State) : (endCondition k s).settings = s.settings := rfl
@[simp] theorem endCondition_store (k : EventKind) (s : State) : (endCondition k s).store = s.store := rfl
@[simp] theorem endCondition_start (k : EventKind) (s : State) : (endCondition k s).start = s.start := rfl
@[simp] theorem endCondition_faults (k : EventKind) (s : State) :
    (endCondition k s).events.faults = s.events.faults := rfl

/-! ## enterFault -/

theorem enterFault_only (g : FaultKind) (s : State) :
    enterFault g s = { s with events := (enterFault g s).events } := by
  unfold enterFault
  split <;> rfl

@[simp] theorem enterFault_now (g : FaultKind) (s : State) :
    (enterFault g s).now = s.now := by rw [enterFault_only]
@[simp] theorem enterFault_pending (g : FaultKind) (s : State) :
    (enterFault g s).pending = s.pending := by rw [enterFault_only]
@[simp] theorem enterFault_windows (g : FaultKind) (s : State) :
    (enterFault g s).windows = s.windows := by rw [enterFault_only]
@[simp] theorem enterFault_draws (g : FaultKind) (s : State) :
    (enterFault g s).draws = s.draws := by rw [enterFault_only]
@[simp] theorem enterFault_meas (g : FaultKind) (s : State) :
    (enterFault g s).meas = s.meas := by rw [enterFault_only]
@[simp] theorem enterFault_climate (g : FaultKind) (s : State) :
    (enterFault g s).climate = s.climate := by rw [enterFault_only]
@[simp] theorem enterFault_share (g : FaultKind) (s : State) :
    (enterFault g s).share = s.share := by rw [enterFault_only]
@[simp] theorem enterFault_out (g : FaultKind) (s : State) :
    (enterFault g s).out = s.out := by rw [enterFault_only]
@[simp] theorem enterFault_water (g : FaultKind) (s : State) :
    (enterFault g s).water = s.water := by rw [enterFault_only]
@[simp] theorem enterFault_boiler (g : FaultKind) (s : State) :
    (enterFault g s).boiler = s.boiler := by rw [enterFault_only]
@[simp] theorem enterFault_scale (g : FaultKind) (s : State) :
    (enterFault g s).scale = s.scale := by rw [enterFault_only]
@[simp] theorem enterFault_work (g : FaultKind) (s : State) :
    (enterFault g s).work = s.work := by rw [enterFault_only]
@[simp] theorem enterFault_marker (g : FaultKind) (s : State) :
    (enterFault g s).marker = s.marker := by rw [enterFault_only]
@[simp] theorem enterFault_seq (g : FaultKind) (s : State) :
    (enterFault g s).seq = s.seq := by rw [enterFault_only]
@[simp] theorem enterFault_ret (g : FaultKind) (s : State) :
    (enterFault g s).ret = s.ret := by rw [enterFault_only]
@[simp] theorem enterFault_inputs (g : FaultKind) (s : State) :
    (enterFault g s).inputs = s.inputs := by rw [enterFault_only]
@[simp] theorem enterFault_prot (g : FaultKind) (s : State) :
    (enterFault g s).prot = s.prot := by rw [enterFault_only]
@[simp] theorem enterFault_ports (g : FaultKind) (s : State) :
    (enterFault g s).ports = s.ports := by rw [enterFault_only]
@[simp] theorem enterFault_settings (g : FaultKind) (s : State) :
    (enterFault g s).settings = s.settings := by rw [enterFault_only]
@[simp] theorem enterFault_store (g : FaultKind) (s : State) :
    (enterFault g s).store = s.store := by rw [enterFault_only]
@[simp] theorem enterFault_start (g : FaultKind) (s : State) :
    (enterFault g s).start = s.start := by rw [enterFault_only]

/-! ## leaveFault -/

theorem leaveFault_only (g : FaultKind) (s : State) :
    leaveFault g s = { s with events := (leaveFault g s).events } := by
  unfold leaveFault
  dsimp only; split
  · split <;> rfl
  · rfl

@[simp] theorem leaveFault_now (g : FaultKind) (s : State) :
    (leaveFault g s).now = s.now := by rw [leaveFault_only]
@[simp] theorem leaveFault_pending (g : FaultKind) (s : State) :
    (leaveFault g s).pending = s.pending := by rw [leaveFault_only]
@[simp] theorem leaveFault_windows (g : FaultKind) (s : State) :
    (leaveFault g s).windows = s.windows := by rw [leaveFault_only]
@[simp] theorem leaveFault_draws (g : FaultKind) (s : State) :
    (leaveFault g s).draws = s.draws := by rw [leaveFault_only]
@[simp] theorem leaveFault_meas (g : FaultKind) (s : State) :
    (leaveFault g s).meas = s.meas := by rw [leaveFault_only]
@[simp] theorem leaveFault_climate (g : FaultKind) (s : State) :
    (leaveFault g s).climate = s.climate := by rw [leaveFault_only]
@[simp] theorem leaveFault_share (g : FaultKind) (s : State) :
    (leaveFault g s).share = s.share := by rw [leaveFault_only]
@[simp] theorem leaveFault_out (g : FaultKind) (s : State) :
    (leaveFault g s).out = s.out := by rw [leaveFault_only]
@[simp] theorem leaveFault_water (g : FaultKind) (s : State) :
    (leaveFault g s).water = s.water := by rw [leaveFault_only]
@[simp] theorem leaveFault_boiler (g : FaultKind) (s : State) :
    (leaveFault g s).boiler = s.boiler := by rw [leaveFault_only]
@[simp] theorem leaveFault_scale (g : FaultKind) (s : State) :
    (leaveFault g s).scale = s.scale := by rw [leaveFault_only]
@[simp] theorem leaveFault_work (g : FaultKind) (s : State) :
    (leaveFault g s).work = s.work := by rw [leaveFault_only]
@[simp] theorem leaveFault_marker (g : FaultKind) (s : State) :
    (leaveFault g s).marker = s.marker := by rw [leaveFault_only]
@[simp] theorem leaveFault_seq (g : FaultKind) (s : State) :
    (leaveFault g s).seq = s.seq := by rw [leaveFault_only]
@[simp] theorem leaveFault_ret (g : FaultKind) (s : State) :
    (leaveFault g s).ret = s.ret := by rw [leaveFault_only]
@[simp] theorem leaveFault_inputs (g : FaultKind) (s : State) :
    (leaveFault g s).inputs = s.inputs := by rw [leaveFault_only]
@[simp] theorem leaveFault_prot (g : FaultKind) (s : State) :
    (leaveFault g s).prot = s.prot := by rw [leaveFault_only]
@[simp] theorem leaveFault_ports (g : FaultKind) (s : State) :
    (leaveFault g s).ports = s.ports := by rw [leaveFault_only]
@[simp] theorem leaveFault_settings (g : FaultKind) (s : State) :
    (leaveFault g s).settings = s.settings := by rw [leaveFault_only]
@[simp] theorem leaveFault_store (g : FaultKind) (s : State) :
    (leaveFault g s).store = s.store := by rw [leaveFault_only]
@[simp] theorem leaveFault_start (g : FaultKind) (s : State) :
    (leaveFault g s).start = s.start := by rw [leaveFault_only]

/-! ## followCondition -/

theorem followCondition_only (k : EventKind) (a : Option Byte) (b : Bool) (s : State) :
    followCondition k a b s = { s with events := (followCondition k a b s).events } := by
  unfold followCondition
  split
  · rfl
  · split <;> rfl

@[simp] theorem followCondition_now (k : EventKind) (a : Option Byte) (b : Bool) (s : State) :
    (followCondition k a b s).now = s.now := by rw [followCondition_only]
@[simp] theorem followCondition_pending (k : EventKind) (a : Option Byte) (b : Bool) (s : State) :
    (followCondition k a b s).pending = s.pending := by rw [followCondition_only]
@[simp] theorem followCondition_windows (k : EventKind) (a : Option Byte) (b : Bool) (s : State) :
    (followCondition k a b s).windows = s.windows := by rw [followCondition_only]
@[simp] theorem followCondition_draws (k : EventKind) (a : Option Byte) (b : Bool) (s : State) :
    (followCondition k a b s).draws = s.draws := by rw [followCondition_only]
@[simp] theorem followCondition_meas (k : EventKind) (a : Option Byte) (b : Bool) (s : State) :
    (followCondition k a b s).meas = s.meas := by rw [followCondition_only]
@[simp] theorem followCondition_climate (k : EventKind) (a : Option Byte) (b : Bool) (s : State) :
    (followCondition k a b s).climate = s.climate := by rw [followCondition_only]
@[simp] theorem followCondition_share (k : EventKind) (a : Option Byte) (b : Bool) (s : State) :
    (followCondition k a b s).share = s.share := by rw [followCondition_only]
@[simp] theorem followCondition_out (k : EventKind) (a : Option Byte) (b : Bool) (s : State) :
    (followCondition k a b s).out = s.out := by rw [followCondition_only]
@[simp] theorem followCondition_water (k : EventKind) (a : Option Byte) (b : Bool) (s : State) :
    (followCondition k a b s).water = s.water := by rw [followCondition_only]
@[simp] theorem followCondition_boiler (k : EventKind) (a : Option Byte) (b : Bool) (s : State) :
    (followCondition k a b s).boiler = s.boiler := by rw [followCondition_only]
@[simp] theorem followCondition_scale (k : EventKind) (a : Option Byte) (b : Bool) (s : State) :
    (followCondition k a b s).scale = s.scale := by rw [followCondition_only]
@[simp] theorem followCondition_work (k : EventKind) (a : Option Byte) (b : Bool) (s : State) :
    (followCondition k a b s).work = s.work := by rw [followCondition_only]
@[simp] theorem followCondition_marker (k : EventKind) (a : Option Byte) (b : Bool) (s : State) :
    (followCondition k a b s).marker = s.marker := by rw [followCondition_only]
@[simp] theorem followCondition_seq (k : EventKind) (a : Option Byte) (b : Bool) (s : State) :
    (followCondition k a b s).seq = s.seq := by rw [followCondition_only]
@[simp] theorem followCondition_ret (k : EventKind) (a : Option Byte) (b : Bool) (s : State) :
    (followCondition k a b s).ret = s.ret := by rw [followCondition_only]
@[simp] theorem followCondition_inputs (k : EventKind) (a : Option Byte) (b : Bool) (s : State) :
    (followCondition k a b s).inputs = s.inputs := by rw [followCondition_only]
@[simp] theorem followCondition_prot (k : EventKind) (a : Option Byte) (b : Bool) (s : State) :
    (followCondition k a b s).prot = s.prot := by rw [followCondition_only]
@[simp] theorem followCondition_ports (k : EventKind) (a : Option Byte) (b : Bool) (s : State) :
    (followCondition k a b s).ports = s.ports := by rw [followCondition_only]
@[simp] theorem followCondition_settings (k : EventKind) (a : Option Byte) (b : Bool) (s : State) :
    (followCondition k a b s).settings = s.settings := by rw [followCondition_only]
@[simp] theorem followCondition_store (k : EventKind) (a : Option Byte) (b : Bool) (s : State) :
    (followCondition k a b s).store = s.store := by rw [followCondition_only]
@[simp] theorem followCondition_start (k : EventKind) (a : Option Byte) (b : Bool) (s : State) :
    (followCondition k a b s).start = s.start := by rw [followCondition_only]

/-! ## Collections -/

@[simp] theorem PerLink.get_set {α : Type} (p : PerLink α) (l m : Link) (a : α) :
    (p.set l a).get m = if m = l then a else p.get m := by
  cases l <;> cases m <;> rfl

@[simp] theorem PerLoad.get_set {α : Type} (p : PerLoad α) (l m : Load) (a : α) :
    (p.set l a).get m = if m = l then a else p.get m := by
  cases l <;> cases m <;> rfl

@[simp] theorem PerLoad.get_map {α β : Type} (f : α → β) (p : PerLoad α) (l : Load) :
    (p.map f).get l = f (p.get l) := by
  cases l <;> rfl

@[simp] theorem PerLoad.get_all {α : Type} (a : α) (l : Load) : (PerLoad.all a).get l = a := by
  cases l <;> rfl

@[simp] theorem Inputs.get_set (p : Inputs) (i j : Input) (x : InputLine) :
    (p.set i x).get j = if j = i then x else p.get j := by
  cases i <;> cases j <;> rfl

@[simp] theorem Inputs.get_map (f : InputLine → InputLine) (p : Inputs) (i : Input) :
    (p.map f).get i = f (p.get i) := by
  cases i <;> rfl

theorem PerSlot.get_set {α : Type} (p : PerSlot α) (m n : Nat) (a : α) :
    (p.set m a).get n = if min n 3 = min m 3 then a else p.get n := by
  rcases m with _ | _ | _ | m <;> rcases n with _ | _ | _ | n <;>
    simp [PerSlot.set, PerSlot.get]

/-! ## The bytes on a port's line -/

@[simp] theorem laterBytes_nil (t : Nat) : laterBytes t [] = [] := rfl

/-- A byte that has ended by then is gone. -/
theorem laterBytes_ended {t g : Nat} (h : g ≤ t) (rest : List Nat) : laterBytes t (g :: rest) = laterBytes (t - g) rest := by
  rw [laterBytes, if_pos h]

/-- A byte that has not ended by then comes that much sooner. -/
theorem laterBytes_coming {t g : Nat} (h : t < g) (rest : List Nat) : laterBytes t (g :: rest) = (g - t) :: rest := by
  rw [laterBytes, if_neg (Nat.not_le.mpr h)]

/-- No time, no byte ended, unless one ends at once. -/
@[simp] theorem laterBytes_zero_pos (g : Nat) (rest : List Nat) : laterBytes 0 ((g + 1) :: rest) = (g + 1) :: rest :=
  laterBytes_coming (Nat.succ_pos g) rest

end Sys2Proof.Machine
end

