-- ==== Sys2Proof/Tests/Slice0.lean ====
section
/-! SUPPORT. Tests: the well-formedness smoke, frames written out byte by byte, the worked figures of the reference,
one or two steps per group of rows, and for every statement with hypotheses a witness that its hypotheses can be met.
The source of each expected value stands in the comment above it. -/

namespace Sys2Proof.Tests

open Sys2Proof Sys2Proof.Machine

/-! ## Well-formedness -/

/-- R182: a body has at most 250 bytes, the code byte included. -/
theorem test_wellFormed_refuses_long_body : WellFormed (.getStatus .panel (List.replicate 250 0)) = false := by decide +kernel
theorem test_wellFormed_longest_body : WellFormed (.getStatus .panel (List.replicate 249 0)) = true := by decide +kernel

/-- R183: 0x13 is in the catalogue, so it is no unknown command. -/
theorem test_wellFormed_refuses_known_code : WellFormed (.unknownCommand .panel 0x13 []) = false := by decide

/-- R193: an exhausted hold-up supply needs a fall of the supply. -/
theorem test_wellFormed_refuses_cause :
    WellFormed (.reset ⟨false, true, true, 0, initialStraps⟩) = false := by decide

/-! ## Frames (10_link_ports.md) -/

/-- GET_STATUS is A5 01 01 FE on the line: 1 + 1 + 0xFE = 0x100. -/
theorem test_frame_getStatus : decodeFrame .panel [0x01, 0x01, 0xFE] = some (.getStatus .panel []) := by decide

/-- A body 03 04 has the check byte F7: 2 + 3 + 4 + 0xF7 = 0x100. -/
theorem test_frame_fetchEvents : decodeFrame .network [0x02, 0x03, 0x04, 0xF7] = some (.fetchEvents .network [4]) := by
  decide
theorem test_frame_encoded : encodeFrame (.fetchEvents .network [4]) = [0xA5, 0x02, 0x03, 0x04, 0xF7] := by decide
theorem test_frame_badCheck : decodeFrame .panel [0x01, 0x01, 0xFD] = some (.badFrame .panel .badCheck) := by decide
theorem test_frame_badLength : decodeFrame .panel [0xFB, 0x01] = some (.badFrame .panel .badLength) := by decide

/-- No row of the table has bits. -/
theorem test_no_row_has_bits : decodeTableWord 8 0x13 = none := rfl

/-! ## Worked figures: measurement (01_measurement.md) -/

/-- R2: 2480 on type R, 1900 on type N and 2000 on type M. -/
theorem test_interpolate : interpolate tableR 2480 = 1882 ∧ interpolate tableN 1900 = 759 ∧ interpolate tableM 2000 = 500 := by
  decide

/-- R3: offsets of +8 and −12 on the sample 1882. -/
theorem test_offset : convertR 8 2480 = .inRange 1890 ∧ convertR (-12) 2480 = .inRange 1870 := by decide

/-- R4: four samples of 1882 on a filter at 1800 give 1820, 1835, 1846 and 1855. -/
theorem test_filter :
    filterStep 1882 1800 true = 1820 ∧ filterStep 1882 1820 true = 1835 ∧ filterStep 1882 1835 true = 1846 ∧
      filterStep 1882 1846 true = 1855 := by decide

/-- A sample channel at 1855, as in the example of a sensor that drops out. -/
def upper : SampleChannel := { SampleChannel.initial (-400) with value := 1855, loaded := true }

/-- The example: two OPEN and one SHORT sample fault the channel, ten good ones of 1882 bring it back at 1882. -/
theorem test_dropout :
    let f := ((upper.take .opened).take .opened).take .shorted
    let g := (List.range 10).foldl (fun c _ => SampleChannel.take (.inRange 1882) c) f
    f.state = .faulted ∧ f.value = 1855 ∧ g.state = .ok ∧ g.value = 1882 := by decide

/-- The same example: the cavity reading while the upper channel is OK and while it is FAULTED. -/
theorem test_cavity_reading :
    cavityReading upper { upper with value := 1830 } 0 = 1842 ∧
      cavityReading { upper with state := .faulted } { upper with value := 1830 } 0 = 1830 := by decide

/-! ## Worked figures: climate, power share, scale -/

/-- The window of TOP_BOTTOM at readings 1780, 1650, 1500 and 1830, and the demands that follow R34. -/
theorem test_loop :
    let loop := fun e : Int => temperatureLoop (modeRow .topBottom) e 120000 (PerCavity.all 0)
    loop 20 = (220, 120333) ∧ loop 150 = (870, 122500) ∧ loop 300 = (1000, 120000) ∧ loop (-30) = (0, 120000) := by
  decide
theorem test_demands :
    loadDemand 220 100 50 = 11 ∧ loadDemand 220 80 50 = 9 ∧ loadDemand 870 100 50 = 44 ∧ loadDemand 870 80 50 = 35 ∧
      loadDemand 1000 80 50 = 40 := by decide

/-- The integral held while the ring is starved, window 2. -/
theorem test_starved_loop :
    temperatureLoop (modeRow .combi) 110 200000 { PerCavity.all 0 with ring := 14 } = (933, 200000) := by decide

/-- The two policies on boiler 30 and ring 40 cycles under a headroom of 3530. -/
theorem test_steam_first :
    (allocate 50 resetLimits { PerLoad.all 0 with ring := 40, boiler := 30 } .steamFirst none).result.runs =
      { PerLoad.all Run.empty with ring := ⟨30, 20⟩, boiler := ⟨0, 30⟩ } := by decide
theorem test_heat_first :
    (allocate 50 resetLimits { PerLoad.all 0 with ring := 40, boiler := 30 } .heatFirst none).result.runs =
      { PerLoad.all Run.empty with ring := ⟨0, 40⟩, boiler := ⟨40, 10⟩ } := by decide

/-- Three loads on a stepped profile. -/
theorem test_stepped_profile :
    (allocate 50 resetLimits { PerLoad.all 0 with top := 44, bottom := 35, boiler := 50 } .heatFirst none).result.runs =
      { PerLoad.all Run.empty with top := ⟨0, 44⟩, bottom := ⟨0, 35⟩, boiler := ⟨35, 15⟩ } := by decide +kernel

/-- A load over budget, and a forced load beside the boiler. -/
theorem test_over_budget :
    let a := (allocate 50 { resetLimits with headroom := 1350 } { PerLoad.all 0 with ring := 30 } .heatFirst none).result
    a.marks.ring = true ∧ a.shortfalls.ring = 30 ∧ a.granted.ring = 0 := by decide
theorem test_forced_claim :
    let a := (allocate 50 { resetLimits with headroom := 2840 } { PerLoad.all 0 with boiler := 50 } .steamFirst
      (some .top)).result
    a.granted.top = 50 ∧ a.granted.boiler = 0 ∧ a.shortfalls.boiler = 50 ∧ a.marks.boiler = false := by decide +kernel

/-- A boiler fill of 650 ml is 1300 pulses and raises S by 117; a burst of 150 ml leaves a carry of 400,000. -/
theorem test_charges :
    (chargeAccount 1300 .boiler State.reset).scale = { deposit := 117, carry := 0, level := .normal } ∧
      (chargeAccount 300 .nozzle State.reset).scale = { deposit := 16, carry := 400000, level := .normal } := by decide +kernel

/-- R120: 1260 s of soak at the default hardness, and the ends of the range. -/
theorem test_soak_total : soakTotal 180 = 1260 ∧ soakTotal 0 = 900 ∧ soakTotal 600 = 2100 := by decide

/-! ## Steps on small states -/

/-- Straps and cause of a COLD reset. -/
def coldCause : ResetCause := ⟨true, true, false, 0, initialStraps⟩

/-- The state that a step leaves satisfies a test. -/
def leaves (o : Host.Outcome State Fault Refusal) (p : State → Bool) : Bool :=
  match o with
  | .next t => p t
  | _ => false

/-- `State.reset` is what a COLD reset leaves of itself. -/
theorem test_reset_fixed : exec (.reset coldCause) State.reset = .next State.reset := rfl

/-- A DIP reset reports its outage and keeps retained memory (R193, R194). -/
theorem test_reset_dip :
    leaves
      (exec (.reset ⟨true, false, true, 1500000, initialStraps⟩)
        { State.reset with
          start := { State.reset.start with outageTimer := 600000 }
          ret := { State.reset.ret with descale := { Descale.initial with phase := .soak } } })
      (fun t => decide (t.start.kind = .dip) && decide (t.start.outage = 2) &&
        decide (t.ret.descale.phase = .soak)) = true := by decide

/-- The state of a part that is READY, its ports receiving, the mains PRESENT at 50 Hz. -/
def up : State :=
  { State.reset with
    start := { State.reset.start with ready := true }
    ports := .all { Port.initial with state := .receiving }
    meas := { Measurement.initial with frequency := .hz50, mainsPresent := true, frequencyWaitOver := true } }

/-- A stage in STEAM that ends on CONFIRM, with a duration. -/
def steamStage : Stage :=
  { mode := .steam, setpoint := 1000, moisture := none, fanCode := none, ending := .confirm, duration := some 600
    core := none, burst := none, policy := none, timerStart := none }

/-- A slot with one such stage. -/
def steamSlot (st : SlotState) : Slot :=
  { state := st, generation := 1, link := some .panel, label := [], stages := [steamStage] }

/-- `up` with the slot loaded. -/
def loaded : State := { up with ret := { up.ret with slots := { up.ret.slots with s0 := steamSlot .loaded } } }

/-- `up` in the first second of a run of the slot, the regulator in PREHEAT. -/
def inRun : State :=
  { loaded with
    ret :=
      { loaded.ret with
        slots := { loaded.ret.slots with s0 := steamSlot .inUse }
        run := { RunContext.initial 1 with state := .running, known := true, generation := 1, duration := some 600 } }
    climate :=
      { Climate.initial with
        state := .preheat, relayAsk := true
        record := some { mode := .steam, setpoint := 1000, moisture := none, fanCode := 6, policy := .steamFirst } } }

/-- `up` with a descale phase. -/
def atPhase (p : DescalePhase) (s : State) : State :=
  { s with ret := { s.ret with descale := { s.ret.descale with phase := p, total := 1260 } } }

/-- A state with service unlock and the service connector. -/
def inService : State :=
  { up with
    prot := { up.prot with serviceUnlock := true }
    inputs := { up.inputs with servicePresent := .at true } }

/-- A state with a fault in the set. -/
def withFault (f : FaultKind) (s : State) : State := { s with events := { s.events with faults := [f] } }

/-- A dose of the boiler controller, of `n` pulses, on the point of its last. -/
def dose (m : DoseMode) (r : Requester) (n : Nat) : Dose :=
  { mode := m, destination := .boiler, source := some .tank, base := 650, remaining := n, delivered := 650 - n
    charged := 0, reload := false, requester := r, portion := 50, portionLeft := n }

/-- The path granted to a channel with a dose. -/
def flowing (c : Chan) (d : Dose) (s : State) : State :=
  { s with water := { s.water with path := .granted c, chans := s.water.chans.set c ⟨.running, some d⟩ } }

/-- An input whose settling timer has run out against its reading. -/
def settled (i : Input) (level : Bool) (s : State) : State :=
  { s with inputs := s.inputs.set i ⟨level, !level, debounceTime i⟩ }

/-- R13: a period of 12,500 µs is 2400 rpm. -/
theorem test_tacho :
    leaves (exec .tachoEdge { up with meas := { up.meas with tachoSeen := true, tachoAge := 12500 } })
      (fun t => decide (t.meas.speed = 2400)) = true := by decide

/-- R184, R186, R189: the first bytes of the reply to GET_STATUS before the part is READY. -/
theorem test_getStatus :
    leaves (exec (.getStatus .panel []) { State.reset with ports := up.ports })
      (fun t => decide ((port t .panel).reply.take 8 = [0xA5, 18, 0x01, 0, 0, 0, 0, 0])) = true := by decide

/-- R198: START before the part is READY is REFUSED with reason 8; R176: LOCKED with child lock. -/
theorem test_starting :
    leaves (exec (.start .panel [0, 0, 1]) { State.reset with ports := up.ports })
      (fun t => decide ((port t .panel).reply.take 6 = [0xA5, 4, 0x12, 8, 0, 8])) = true := by decide
theorem test_locked :
    leaves (exec (.start .panel [0, 0, 1]) { loaded with settings := { loaded.settings with childLock := true } })
      (fun t => decide ((port t .panel).reply.take 6 = [0xA5, 4, 0x12, 4, 0, 0])) = true := by decide

/-- R136, R137: START takes the slot of its generation and answers the run id; a wrong generation is NO_PROGRAM. -/
theorem test_start :
    leaves (exec (.start .panel [0, 0, 1]) loaded)
      (fun t =>
        decide (t.ret.run.state = .running) && decide (t.ret.slots.s0.state = .inUse) &&
          decide (t.climate.state = .preheat) && decide (((port t .panel).reply.drop 3).take 1 = [0])) = true := by
  decide +kernel
theorem test_start_stale :
    leaves (exec (.start .panel [0, 0, 2]) loaded)
      (fun t => decide ((port t .panel).reply.take 6 = [0xA5, 4, 0x12, 8, 0, 2])) = true := by decide

/-- R156, R157: STOP ends the run and releases its slot. -/
theorem test_stop :
    leaves (exec (.stop .network []) inRun)
      (fun t =>
        decide (t.ret.run.state = .idle) && decide (t.ret.slots.s0.state = .loaded) &&
          decide (t.ret.lastRun.map LastRun.result = some .userStop)) = true := by decide

/-- R145, R66: the door's opening pauses the run and the regulator. -/
theorem test_door :
    leaves (exec (.inputChange .door) (settled .door true inRun))
      (fun t =>
        decide (t.ret.run.state = .paused) && decide (t.climate.state = .paused) && t.ret.run.causes.door) = true := by
  decide

/-- R87, R91: the last pulse of a dose ends it and releases the path. -/
theorem test_last_pulse :
    leaves (exec .flowPulse (flowing .ch0 (dose .demand .boilerControl 1) up))
      (fun t => decide ((chan t .ch0).state = .done) && decide (t.water.path = .settling)) = true := by decide

/-- R196: the commit that a setting's write asks for begins when its step ends. -/
theorem test_write_setting :
    leaves (exec (.writeSetting .panel [3, 0, 0, 0, 1]) up)
      (fun t => decide (t.settings.scaleLimit = 5000) && decide (t.store.writing.isSome)) = true := by decide

/-- R72: a fan at code 13, 2400 rpm asked, with 2000 measured, moves its duty of 400 by a quarter of 400. -/
theorem test_fan_tick :
    leaves
      (exec .fanTick
        { up with
          meas := { up.meas with speed := 2000 }
          out := { up.out with fan := { up.out.fan with code := 13, duty := 400, phase := .running, tickClock := 200000 } } })
      (fun t => decide (t.out.fan.duty = 500)) = true := by decide

/-- The timebase: a microsecond passes on an empty queue. -/
theorem test_idle : leaves (step { up with pending := [] }) (fun t => decide (t.now = 1)) = true := by decide

/-! ## Witnesses: the hypotheses of the statements can be met -/

/-- A waiting dose entry of a queue. -/
def entry (k : EventKind) (reported : Bool) : Entry :=
  { kind := k, count := 255, time := 1, reported := reported, argument := none, standing := .holding }

/-- `up` with a command waiting and an entry in the panel's queue. -/
def queued : State :=
  { up with
    pending := [.settleEnd]
    events := { up.events with queues := { up.events.queues with panel := [entry .trayFull true] } } }

theorem witness_IdleStepPassesAMicrosecond : up.pending = [] := rfl

theorem witness_DecodeOfEncodedFrame :
    linkCommand (.start .panel [0, 0, 1]) = some (.panel, 0x12, [0, 0, 1]) ∧
      WellFormed (.start .panel [0, 0, 1]) = true ∧ WellFormed (.unknownCommand .panel 0xFF []) = true := by decide

theorem witness_BadFramesAreDiscarded :
    (0 : Byte).toNat = 0 ∧ 250 < (251 : Byte).toNat ∧
      BitVec.ofNat 8 ([1] : List Byte).length + byteSum [1] + 0xFD ≠ 0 := by decide

theorem witness_QueuesAndFaultsStaySound :
    QueuesSound queued ∧ FaultsSound (withFault .noFlow queued) ∧ step queued = .next { queued with pending := [] } ∧
      step (withFault .noFlow queued) = .next { withFault .noFlow queued with pending := [] } := by
  refine ⟨fun l => ?_, ?_, rfl, rfl⟩
  · cases l <;> unfold QueueSound <;> decide
  · unfold FaultsSound; decide

/-- A step of a state whose path is granted. -/
theorem witness_PathAndDosesStaySound :
    PathSound (flowing .ch0 (dose .block .descale 5) queued) ∧ DosesSound (flowing .ch0 (dose .block .descale 5) queued) ∧
      step (flowing .ch0 (dose .block .descale 5) queued) =
        .next { flowing .ch0 (dose .block .descale 5) queued with pending := [] } := by
  refine ⟨⟨fun c _ => ?_, by decide⟩, fun c => ?_, rfl⟩
  · cases c <;> decide
  · cases c <;> refine ⟨by decide, fun d h => ?_⟩
    · cases h; unfold DoseSound; decide
    all_goals cases h

theorem witness_RunStaysSound :
    RunSound inRun ∧ step { inRun with pending := [.settleEnd] } = .next inRun := by
  refine ⟨?_, rfl⟩
  unfold RunSound; decide

theorem witness_StoreStaysSound : StoreSound queued ∧ step queued = .next { queued with pending := [] } := by
  refine ⟨?_, rfl⟩
  unfold StoreSound
  refine ⟨?_, by decide, fun r h => ?_, fun r h => ?_⟩
  · constructor <;> first
      | decide
      | (intro l; cases l <;> unfold RatingSound <;> decide)
      | (unfold OffsetSound; decide)
  · have none : queued.store.verified = Option.none := by decide
    simp [none] at h
  · have none : queued.store.writing = Option.none := by decide
    simp [none] at h

theorem witness_RaisesAndEndsReachAQueue :
    (([entry .trayFull true, entry .doorOpened false] : List Entry).map Entry.kind).Nodup ∧
      EventKind.trayFull ∈ [entry .trayFull true].map Entry.kind ∧
      EventKind.doorClosed ∉ [entry .trayFull true].map Entry.kind := by decide

theorem witness_FaultsRaiseTheirEvent :
    FaultKind.noFlow ∈ (withFault .noFlow up).events.faults ∧ FaultKind.noFlow ∉ up.events.faults := by decide

theorem witness_ChargesAreConserved :
    0 < up.settings.flowConstant ∧ 9999999 < 9999999 + (0 + 12 * up.settings.hardness * 1000) / (2000 * 1000) ∧
      runActive inRun = true ∧ runActive up = false := by decide

/-- A channel that requests with a dose. -/
def requesting (c : Chan) (d : Dose) (s : State) : State :=
  { s with water := { s.water with chans := s.water.chans.set c ⟨.requesting, some d⟩ } }

/-- A drain pump held by a force. -/
def heldWater : State :=
  { inService with out := { inService.out with forces := [{ output := .drainPump, level := true, age := 0, phase := .placing, ended := false }] } }

theorem witness_PathGoesByPriority :
    (serviceHold up = false ∧ up.water.path = .free) ∧
      (chan (requesting .ch2 (dose .flush .prime 5) up) .ch2).state = .requesting ∧
      ((chan (requesting .ch0 (dose .block .descale 5) up) .ch0).state = .requesting ∧
        (chan (requesting .ch0 (dose .block .descale 5) up) .ch2).state ≠ .requesting) ∧
      ((chan (requesting .ch1 (dose .block .program 5) up) .ch1).state = .requesting ∧
        (chan (requesting .ch1 (dose .block .program 5) up) .ch0).state ≠ .requesting) ∧
      (flowing .ch1 (dose .block .program 5) up).water.path ≠ .free ∧ serviceHold heldWater = true := by decide

theorem witness_QuietStepsOnlyCommit : quiet up = true ∧ quiet inService = true := by decide

theorem witness_RunFaultsActAtTheEndOfAStep :
    (runActive inRun = true ∧ fatalFault (withFault .thermalCutout inRun) = some .thermalCutout ∧
      fatalFault (withFault .fanStall inRun) = some .fanStall) ∧
      fatalFault (withFault .noFlow inRun) = none ∧ hasFault .noFlow (withFault .noFlow inRun) = true := by decide

theorem witness_RawValuesAreConverted :
    4000 ≤ (4000 : BitVec 12).toNat ∧ (60 : BitVec 12).toNat ≤ 60 ∧ 61 ≤ (61 : BitVec 12).toNat ∧
      (3999 : BitVec 12).toNat ≤ 3999 ∧ ((61, (-400 : Int)), (1000, (500 : Int))) ∈ tableR.zip tableR.tail := by decide

theorem witness_SamplesMoveFiltersAndSensorStates :
    upper.state = .ok ∧ { upper with bad := 1 }.bad < 2 ∧ { upper with bad := 2 }.bad = 2 ∧
      { upper with state := .faulted, good := 8 }.good < 9 ∧ { upper with state := .faulted, good := 9 }.good = 9 := by
  decide

theorem witness_SamplePeriodMeasures :
    samplePeriodDue up = true ∧ samplePeriodDue { up with meas := { up.meas with sampleClock := 99999 } } = false := by
  decide

/-- The core points in range after one period: all three, and none. -/
theorem witness_CoreProbeIsMeasured :
    let u := measure true Settings.defaults.offsets ⟨0, 0, 0, 61, 3999, 800, 0⟩ Measurement.initial
    let v := measure true Settings.defaults.offsets ⟨0, 0, 0, 4000, 60, 0, 0⟩ Measurement.initial
    (u.chans.coreA.loaded = true ∧ 0 < u.runsA.inRange ∧ u.chans.coreA.state = .ok) ∧
      v.runsA.inRange = 0 ∧ v.runsB.inRange = 0 ∧ v.runsC.inRange = 0 := by decide

/-- `up` with a tacho edge behind it. -/
def tacho (age : Nat) : State := { up with meas := { up.meas with tachoSeen := true, tachoAge := age } }

theorem witness_TachoEdgesGiveTheFanSpeed :
    up.meas.tachoSeen = false ∧ (tacho 999).meas.tachoAge < 1000 ∧ 1000 ≤ (tacho 1000).meas.tachoAge ∧
      (tacho 1000000).meas.tachoAge ≤ 1000000 ∧ 1000000 < (tacho 1000001).meas.tachoAge ∧
      500000 ≤ (tacho 500000).meas.tachoAge ∧ (tacho 499999).meas.tachoAge < 500000 := by decide

/-- The mains monitor while the frequency is NONE, an edge of age `age` behind it. -/
def undecided (age count sum : Nat) (m : Bool) : State :=
  { up with
    meas :=
      { Measurement.initial with
        edgeSeen := true, edgeMeasures := m, edgeAge := age, groupCount := count, groupSum := sum } }

theorem witness_FrequencyIsDecided :
    (undecided 4999 0 0 true).meas.edgeAge < 5000 ∧ edgeAccepted (undecided 5000 0 0 false).meas = true ∧
      edgeAccepted (undecided 10000 14 0 true).meas = true ∧
      (let a := fun s : State => (s.meas.groupSum + s.meas.edgeAge) / 16
       a (undecided 5000 15 114999 true) < 7500 ∧ 11000 < a (undecided 11016 15 165000 true) ∧
         7500 ≤ a (undecided 7500 15 112500 true) ∧ a (undecided 11000 15 165000 true) ≤ 11000) ∧
      groupTimeoutDue (undecided 30000 3 0 true) = true ∧
      (let s := { undecided 0 0 0 true with now := 2000000 }
       s.meas.frequencyWaitOver = false ∧ 2000000 ≤ s.now) := by decide

theorem witness_BudgetLaw : 49 < 50 := by decide

theorem witness_GrantsRunsAndMarks :
    (allocate 50 resetLimits (PerLoad.all 50) .heatFirst (some .top)).result.placed = some .top ∧
      (allocate 50 resetLimits (PerLoad.all 50) .heatFirst none).result.placed ≠ some .top ∧
      0 < (searchRun [1800, 0, 0] 1730 3).length ∧ (searchRun [1800] 1730 1).length = 0 := by decide +kernel

/-- `up` with an allocation in progress that grants the boiler. -/
def allocating : State :=
  { up with
    share :=
      { up.share with
        allocation := some
          (allocate 50 resetLimits { PerLoad.all 0 with boiler := 50 } .steamFirst none).result } }

theorem witness_AllocationEndHandsOnItsResults :
    up.share.allocation = none ∧ allocating.share.allocation.isSome = true := by decide

/-- A decided mains monitor with an edge of age `age`, in half-cycle `h`. -/
def edge (age h : Nat) : State :=
  { up with meas := { up.meas with edgeSeen := true, edgeAge := age }, out := { up.out with halfCycle := some h } }

theorem witness_ZeroCrossBeginsAHalfCycle :
    up.meas.frequency ≠ .undecided ∧ (edge 4999 0).meas.edgeAge < 5000 ∧ 5000 ≤ (edge 5000 98).meas.edgeAge ∧
      up.meas.edgeSeen = false ∧ nextHalfCycle (edge 10000 98) = 99 ∧ nextHalfCycle (edge 10000 99) = 0 ∧
      (edge 10000 99).share.allocation = none := by decide

theorem witness_MainsLostStopsWindows :
    mainsLostDue (edge 29999 0) = false ∧ (edge 30000 0).meas.mainsPresent = true ∧
      30000 ≤ (edge 30000 0).meas.edgeAge ∧ (flowing .ch0 (dose .block .descale 5) (edge 30000 0)).water.path = .granted .ch0 ∧
      runActive inRun = true ∧ inRun.ret.run.causes.isEmpty = true := by decide

/-- A relay in a state, requested a position, with a timer. -/
def aRelay (st : RelayState) (ask : Bool) (timer : Nat) (recovering : Bool) : Relay := ⟨st, ask, timer, recovering⟩

/-- The mains LOST with the heater supply relay so. -/
def lostWith (x : Relay) : State :=
  { up with meas := { up.meas with mainsPresent := false }, out := { up.out with heaterRelay := x, fanRelay := x } }

theorem witness_RelaysChange :
    (let s := lostWith (aRelay .opened true 0 false)
     (relay s .heaterSupply).mayChange = true ∧ s.meas.mainsPresent = false ∧ (relay s .fanDirection).mayChange = true ∧
       s.out.fan.duty = 0) ∧
      (relay (lostWith (aRelay .closed false 0 false)) .heaterSupply).mayChange = true ∧
      (relay (lostWith (aRelay .closing true 30000 true)) .fanDirection).state = .closing ∧
      (relay (lostWith (aRelay .opening false 30000 true)) .heaterSupply).state = .opening ∧
      2000000 ≤ (relay (lostWith (aRelay .closed true 2000000 true)) .heaterSupply).timer := by decide

/-- A fan drive in a phase. -/
def fanIn (p : FanPhase) (stall slow tick : Nat) (s : State) : State :=
  { s with
    out := { s.out with fan := { code := 13, duty := 400, phase := p, stallTimer := stall, slowTimer := slow, tickClock := tick } } }

/-- A regulator in HOLD in CONVECTION whose reversal timer has run out. -/
def reversing : State :=
  { up with
    climate :=
      { Climate.initial with
        state := .hold, reversal := 120000000
        record := some { mode := .convection, setpoint := 1800, moisture := none, fanCode := 10, policy := .heatFirst } } }

theorem witness_FanDriveRuns :
    (200000 ≤ (fanIn .running 0 0 200000 up).out.fan.tickClock ∧ (fanIn .running 0 0 200000 up).out.fan.phase = .running) ∧
      (fanIn .braking 0 0 200000 up).out.fan.phase ≠ .running ∧
      2000000 ≤ (fanIn .running 2000000 0 0 up).out.fan.stallTimer ∧ reversalDue reversing = true ∧
      1000000 ≤ (fanIn .braking 0 1000000 0 up).out.fan.slowTimer := by decide

/-- A flap on its way with its travel timer at the limit. -/
def travelling : State := { up with out := { up.out with vent := ⟨.opening, .opened, 5000000⟩ } }

theorem witness_VentStuckAndLamp :
    (travelling.out.vent.state = .opening ∧ 5000000 ≤ travelling.out.vent.travel) ∧ ventStuckDue up = false ∧
      up.out.lampShot = none ∧ Reaches .panel 0x36 [0] up ∧ Reaches .panel 0x36 [1] up ∧ Reaches .panel 0x36 [2] up := by
  decide

/-- A forced top element, 30 s old. -/
def forcedTop : State :=
  { inService with
    out := { inService.out with forces := [{ output := .top, level := true, age := 30000000, phase := .firing, ended := false }] }
    share := { inService.share with claim := some .top } }

/-- A pulse of the lamp whose time is up. -/
def pulsed : State := { inService with out := { inService.out with pulse := some ⟨[.lamp], 0, false⟩ } }

theorem witness_ForcesAndPulsesEnd :
    forceDue .top forcedTop = true ∧ forceDue .top up = false ∧ pulsed.out.pulse = some ⟨[.lamp], 0, false⟩ ∧
      (forceEntry .top forcedTop).isSome = true ∧ (forceEntry .drainPump heldWater).isSome = true ∧
      (outputLoad .drainPump).isSome = false ∧ ([Output.lamp].any isVentDrive) = false ∧
      (settle inService).out.forces = [] ∧ (settle forcedTop).out.forces ≠ [] := by decide

/-- Both clauses of a removed vent drive: the target's end not reached, and reached. -/
theorem witness_ForcesAndPulsesEnd_vent :
    let s : State := { inService with out := { inService.out with forces := placeForce .ventOpenDrive true false [] } }
    let t := setInput .ventClosedEnd (InputLine.at true) s
    (forceEntry .ventOpenDrive s).isSome = true ∧ endReached s.out.vent.target s = false ∧
      (forceEntry .ventOpenDrive t).isSome = true ∧ endReached t.out.vent.target t = true := by decide

theorem witness_ForceOutputIsDecidedInOrder :
    (Reaches .service 0x41 [0, 1] inService ∧ Reaches .service 0x41 [15, 3] inService ∧
      Reaches .service 0x41 [16, 2] inService) ∧ outputOfNumber 15 = some .ventCloseDrive ∧ outputOfNumber 16 = none ∧
      Reaches .service 0x41 [0, 1] (atPhase .prepare inService) ∧
      (let s : State := { inService with climate := { inService.climate with state := .cooldown } }
       Reaches .service 0x41 [0, 1] s ∧ s.ret.run.state = .idle ∧ s.climate.state ≠ .off) ∧
      (let s : State := { inService with settings := { inService.settings with ratings := PerLoad.all 3000, budgetOverride := 1500 } }
       (limitsOf s.start.straps s.settings).headroom < (limitsOf s.start.straps s.settings).ratings.get .top) ∧
      otherHeatForced .bottom forcedTop = true ∧ otherHeatForced .top inService = false ∧
      inPulse .lamp pulsed = true ∧ inPulse .lamp inService = false := by decide

theorem witness_PulseOutputIsDecidedInOrder :
    Reaches .service 0x42 [0x10, 0, 0, 10] inService ∧ badSet (outputsOfMask 0) = true ∧ badSet (outputsOfMask 1) = true ∧
      badSet (outputsOfMask 0xC000) = true ∧ badSet (outputsOfMask 0x1000) = false ∧ pulsed.out.pulse.isSome = true ∧
      pulseBusy (outputsOfMask 0x1000) inService = false := by decide

theorem witness_FlowPulsesCount :
    (let s := { up with meas := { up.meas with pulseSeen := true, pulseAge := 1999 } }
     s.meas.pulseSeen = true ∧ s.meas.pulseAge < 2000) ∧ up.meas.pulseSeen = false ∧ up.water.path = .free ∧
      (flowing .ch0 (dose .block .descale 2) up).water.path = .granted .ch0 ∧
      (chan (flowing .ch0 (dose .block .descale 2) up) .ch0).dose = some (dose .block .descale 2) ∧
      1 < (dose .block .descale 2).remaining ∧ (dose .block .descale 2).mode ≠ .single ∧
      ({ dose .single .boilerControl 2 with portionLeft := 1 }).portionLeft = 1 ∧
      (dose .demand .boilerControl 1).remaining = 1 := by decide

/-- SETTLING with its time up, and a RUNNING channel without flow. -/
def settling (t : Nat) : State := { up with water := { up.water with path := .settling, settleTimer := t } }
def dryFlow (d : Dose) : State :=
  let s := flowing .ch0 d up
  { s with water := { s.water with noFlowTimer := 4000000 } }

theorem witness_SettleEndAndNoFlow :
    (settling 500000).water.path = .settling ∧ (settling 499999).water.settleTimer < 500000 ∧ noFlowDue up = false ∧
      (dryFlow (dose .demand .boilerControl 9)).water.path = .granted .ch0 ∧
      4000000 ≤ (dryFlow (dose .demand .boilerControl 9)).water.noFlowTimer ∧
      (dose .single .boilerControl 9).mode ≠ .demand ∧ (dose .block .descale 9).requester = .descale := by decide

/-- A drain at its end. -/
def drained (r : Requester) (s : State) : State :=
  { s with
    water :=
      { s.water with
        chans := s.water.chans.set .ch3
          ⟨.running,
            some
              { mode := .block, destination := .out, source := none, base := 45, remaining := 0, delivered := 45
                charged := 0, reload := false, requester := r, portion := 0, portionLeft := 0 }⟩ } }

theorem witness_DrainsEnd :
    drainCountDue up = false ∧ drainCountDue (drained .descale up) = true ∧
      (∀ d, (chan (drained .descale up) .ch3).dose = some d → d.remaining = 0 ∧ d.effective = .out) ∧
      lowCovered (settled .boilerLow false up) = true ∧ lowCovered up = false ∧
      (atPhase .rinse2 up).ret.descale.phase = .rinse2 ∧ (atPhase .prepare up).ret.descale.phase = .prepare ∧
      holdsDose up .ch0 = false := by
  refine ⟨by decide, by decide, fun d h => ?_, by decide, by decide, by decide, by decide, by decide⟩
  cases h; decide

/-- The boiler in a state, in or out of need. -/
def boilerIn (st : BoilerState) (pending : Bool) (s : State) : State :=
  { s with
    boiler := { s.boiler with state := st, derived := true, drainPending := pending, heatUp := 24000 }
    meas := { s.meas with boiler := 799 } }

theorem witness_BoilerWork :
    boilerFillDue inRun = true ∧ topUpDue (boilerIn .heating false up) = true ∧
      boilerDrainDue (boilerIn .ready true up) = true ∧
      descaleDrainDue { up with work := { up.work with drain := true } } = true ∧ boilerFillDue up = false ∧
      topUpDue up = false ∧ boilerDrainDue up = false ∧ descaleDrainDue up = false ∧ heatUpDue up = false ∧
      (boilerIn .heating false up).boiler.state = .heating ∧
      480 * cycles (boilerIn .heating false up) ≤ (boilerIn .heating false up).boiler.heatUp := by decide

/-- The regulator PAUSED from HOLD. -/
def pausedClimate : State :=
  { inRun with climate := { inRun.climate with state := .paused, returnState := some .hold } }

theorem witness_ClimateFollowsTheRun :
    (modeRow .combi).low ≤ 1000 ∧ (1000 : Int) ≤ (modeRow .combi).high ∧ (modeRow .steam).moisture = none ∧
      (modeRow .combi).moisture = some (20, 90) ∧ up.climate.state ≠ .fault ∧
      ({ up with climate := { up.climate with state := .fault } } : State).climate.state = .fault ∧ working inRun = true ∧
      pausedClimate.climate.state = .paused ∧ pausedClimate.climate.returnState = some .hold ∧
      up.climate.state = .off ∧
      ({ up with climate := { up.climate with state := .cooldown } } : State).climate.state = .cooldown := by decide

theorem witness_LoopAndDemand :
    (0 : Int) < (modeRow .topBottom).ti ∧ (modeRow .grill).ti ≤ 0 ∧ up.climate.record = none ∧ 1000 ≤ 1000 ∧
      100 ≤ 100 := by decide

/-- A fill or a flush that waits for its channel. -/
def waiting (c : Chan) (s : State) : State := { s with work := { s.work with dose := some (c, .millilitres 500) } }

/-- The rinse's fill while the boiler is dry. -/
def dryRinse : State :=
  let s := boilerIn .dryFault false (atPhase .rinse1 (waiting .ch0 up))
  { s with ret := { s.ret with descale := { s.ret.descale with step := some .fill } } }

/-- A soak at its end. -/
def soaked : State :=
  let s := atPhase .soak up
  { s with ret := { s.ret with descale := { s.ret.descale with elapsed := 1260 } } }

theorem witness_DescaleAdvances :
    soakEndDue up = false ∧ soaked.ret.descale.total ≤ soaked.ret.descale.elapsed ∧ descaleDoseDue up = false ∧
      dryRinse.ret.descale.step = some .fill ∧ dryRinse.boiler.state = .dryFault ∧
      (waiting .ch0 up).work.dose = some (.ch0, .millilitres 500) ∧ holdsDose (waiting .ch0 up) .ch0 = false ∧
      (waiting .ch2 up).work.dose = some (.ch2, .millilitres 500) ∧ holdsDose (waiting .ch2 up) .ch2 = false ∧
      (atPhase .draw up).ret.descale.phase = .draw ∧ lowCovered (settled .boilerLow false (atPhase .draw up)) = true ∧
      (atPhase .draw up).boiler.state ≠ .dryFault := by decide

/-- A descale phase with a stall. -/
def stalled (p : DescalePhase) (x : Stall) : State :=
  let s := atPhase p up
  { s with ret := { s.ret with descale := { s.ret.descale with stall := x } } }

theorem witness_DescaleCommands :
    (Reaches .panel 0x20 [] up ∧ up.ret.descale.phase = .idle ∧ up.meas.cavity < 600 ∧ up.meas.boiler < 600) ∧
      Reaches .panel 0x20 [] inRun ∧ (withFault .fanStall up).events.faults.any FaultKind.latched = true ∧
      600 ≤ ({ up.meas with cavity := 600 } : Measurement).cavity ∧
      (Reaches .panel 0x21 [2] (atPhase .awaitAgent up) ∧ (atPhase .awaitAgent up).ret.descale.phase.number = 2 ∧
        tankPresent (atPhase .awaitAgent up) = true) ∧ (atPhase .awaitRinse up).ret.descale.phase.number = 6 ∧
      (stalled .prepare .level).ret.descale.stall = .level ∧ (stalled .rinse1 .dry).ret.descale.stall = .dry ∧
      Reaches .panel 0x22 [] (atPhase .soak up) ∧ (atPhase .soak up).marker = false ∧
      ({ atPhase .soak up with marker := true } : State).marker = true ∧ holdsDose (atPhase .soak up) .ch0 = false := by
  decide

/-- `inRun` on a tick of the sequencer. -/
def onTick (s : State) (n : Nat) : State := { s with seq := { s.seq with tickClock := n } }

theorem witness_SequencerTicks :
    (onTick inRun 999999).seq.tickClock < 1000000 ∧ 1000000 ≤ (onTick up 1000000).seq.tickClock ∧
      runActive (onTick up 1000000) = false ∧ runActive (onTick inRun 1000000) = true := by decide

/-- `inRun` after `n` seconds of its stage. -/
def afterSeconds (n : Nat) : State := { inRun with ret := { inRun.ret with run := { inRun.ret.run with elapsed := n } } }

theorem witness_StagesEnd :
    stageTimeDue (afterSeconds 599) = false ∧ (afterSeconds 600).ret.run.duration = some 600 ∧
      runActive (afterSeconds 600) = true ∧ Reaches .panel 0x15 [0, 1, 0] inRun ∧
      number2 0 1 = inRun.ret.run.runId ∧ (0 : Byte).toNat = inRun.ret.run.stageIndex ∧
      Reaches .panel 0x16 [0, 1, 0] inRun ∧ (currentStage inRun).ending = .confirm ∧
      (runStages inRun).length ≤ inRun.ret.run.stageIndex + 1 ∧
      fatalFault (setRun (inRun.ret.run.atStage 0 (stageAt inRun 0)) inRun) = none ∧ inRun.climate.state ≠ .fault ∧
      Reaches .panel 0x15 [0, 1, 0] up ∧ runActive up = false := by decide

theorem witness_StopEndsTheRun :
    portOpen inRun .service ∧ inRun.start.ready = true ∧ inRun.ret.run.state ≠ .idle ∧ portOpen up .panel ∧
      up.ret.run.state = .idle := by decide

/-- `inRun` paused by a cause, its timer at `n`. -/
def pausedRun (c : Causes) (n : Nat) : State :=
  { inRun with
    ret := { inRun.ret with run := { inRun.ret.run with state := .paused, causes := c, doorTimer := n, waterTimer := n } } }

theorem witness_RunsEnd :
    doorTimeoutDue (pausedRun ⟨true, false, false, false⟩ 599) = false ∧
      600 ≤ (pausedRun ⟨true, false, false, false⟩ 600).ret.run.doorTimer ∧
      runActive (pausedRun ⟨true, false, false, false⟩ 600) = true ∧ inRun.ret.run.slot ≤ 3 ∧
      (inRun.ret.slots.get inRun.ret.run.slot).state = .inUse ∧ working inRun = true ∧
      programUsesSteam ((runStages inRun).take 1) = true := by decide

theorem witness_WaterTimesOut :
    waterTimeoutDue (pausedRun ⟨false, true, false, false⟩ 299) = false ∧
      300 ≤ (pausedRun ⟨false, true, false, false⟩ 300).ret.run.waterTimer ∧
      (currentStage (pausedRun ⟨false, true, false, false⟩ 300)).usesSteam = true ∧
      (pausedRun ⟨false, true, false, false⟩ 300).ret.run.degraded = false := by decide

/-- A LOAD_PROGRAM of slot 3 with one stage in CONVECTION at 1800 for 600 s, and one without stages. -/
def oneStage : List Byte :=
  [3, 0, 1, 0, 0x07, 0x08, 0xFF, 0xFF, 0, 0, 0, 0x02, 0x58, 0x80, 0, 0xFF, 0xFF, 0xFF, 0xFF, 0, 0]

theorem witness_SlotsAreLoadedAndCleared :
    Reaches .panel 0x10 oneStage up ∧
      (match parseProgram oneStage with
        | some p => decide (p.slot = 3) && decide (p.label = []) && decide (p.stages.length = 1) &&
            (firstBad true p.stages).isNone
        | none => false) = true ∧
      (parseProgram [4, 0, 0]).isSome = true ∧ (parseProgram [0, 0, 0]).isSome = true ∧
      Reaches .panel 0x11 [3] up ∧ Reaches .panel 0x11 [0] loaded ∧ (loaded.ret.slots.get 0).state = .loaded ∧
      (inRun.ret.slots.get 0).state = .inUse ∧ (up.ret.slots.get 3).state = .empty := by decide

theorem witness_StartBeginsARun :
    Reaches .panel 0x12 [0, 0, 1] loaded ∧ Reaches .panel 0x12 [3, 0, 0] up ∧
      startBarred (loaded.ret.slots.get 0).stages loaded = false ∧
      startBarred (loaded.ret.slots.get 0).stages (withFault .boilerDry loaded) = true ∧
      (loaded.ret.slots.get 0).generation = number2 0 1 ∧ loaded.scale.level ≠ .blocked ∧ runActive inRun = true ∧
      programUsesSteam (loaded.ret.slots.get 0).stages = true := by decide

/-- `inRun` with a hot cavity. -/
def hotRun : State := { inRun with meas := { inRun.meas with cavity := 1500 } }

theorem witness_AdjustAndInject :
    Reaches .panel 0x14 [0, 1, 0, 7, 0x03, 0xE8, 0, 0, 0, 60, 50] inRun ∧ inRun.ret.run.duration ≠ none ∧
      inRun.climate.record.isSome = true ∧ working inRun = true ∧ Reaches .panel 0x17 [0, 1, 0, 0, 10] hotRun ∧
      (1500 : Int) ≤ hotRun.meas.cavity ∧ inRun.meas.cavity < 1500 ∧ holdsDose hotRun .ch1 = false ∧
      hotRun.ret.run.causes.door = false ∧ hotRun.ret.run.degraded = false ∧ hotRun.scale.level ≠ .blocked := by decide

theorem witness_InputsChange :
    inputChangeDue .door up = false ∧ watched up .door = true ∧ inputChangeDue .door (settled .door true inRun) = true ∧
      debounceTime .door ≤ ((settled .door true up).inputs.get .door).timer ∧
      inputChangeDue .door (settled .door false inRun) = true ∧
      inputChangeDue .thermalCutout (settled .thermalCutout true up) = true ∧
      (let s := settled .boilerHigh true (flowing .ch0 (dose .demand .boilerControl 9) up)
       holdsFor s .ch0 .boilerControl = true ∧ modeIs .demand (chan s .ch0) = true) ∧
      motorToward .closed (settled .ventOpenEnd true travelling) = false ∧
      (let s := settled .tankFloat true (flowing .ch0 (dose .block .descale 9) up)
       sourceLow .tank { s with inputs := { s.inputs with tankFloat := .at false } } = false ∧
         sourceIs .tank (chan s .ch0) = true ∧ s.work.drain = false) ∧
      watched { up with start := { up.start with straps := { up.start.straps with supply := .plumbed } } } .inletPressure
        = true := by decide

theorem witness_LocksChange :
    silenceDue up = false ∧ inService.prot.serviceUnlock = true ∧ Reaches .panel 0x31 [0, 1] up ∧
      Reaches .panel 0x31 [1, 1] up ∧ Reaches .panel 0x31 [2, 1] up ∧ Reaches .panel 0x31 [1, 2] up ∧
      Reaches .service 0x32 [] inService ∧ Reaches .service 0x32 [] up ∧ up.inputs.servicePresent.reading = false ∧
      Reaches .service 0x33 [] inService := by decide

/-- A port in a state. -/
def portIn (st : PortState) (discard : Bool) (quiet : Nat) : State :=
  { up with ports := .all { Port.initial with state := st, discard := discard, quiet := quiet, reply := [1], sending := 174 } }

theorem witness_PortsReceiveAndReply :
    ((port (portIn .idle false 0) .panel).state = .idle ∧ (port (portIn .idle false 0) .panel).discard = false) ∧
      (port (portIn .idle true 0) .panel).discard = true ∧ (port (portIn .receiving false 0) .panel).state = .receiving ∧
      (port (portIn .executing false 0) .panel).state = .executing ∧ 20000 < (port (portIn .receiving true 20001) .panel).quiet ∧
      (port (portIn .receiving true 20000) .panel).quiet ≤ 20000 ∧
      (let p := port (portIn .replying false 0) .panel
       p.state = .replying ∧ p.reply.length * 10 * 1000000 ≤ p.sending * 57600) := by decide

theorem witness_CommandsAreDecidedInOrder :
    linkCommand (.stop .panel [1]) = some (.panel, 0x13, [1]) ∧ WellFormed (.stop .panel [1]) = true ∧
      ¬portOpen (portIn .idle true 0) .panel ∧ portOpen up .panel ∧ (0xFF : Byte) ∉ catalogue ∧ (0x13 : Byte) ∈ catalogue ∧
      layoutFits 0x13 [1] = false ∧ layoutFits 0x13 [] = true ∧ readCode 0x13 = false ∧ State.reset.start.ready = false ∧
      earlyFault 0x30 [20, 0, 0, 0, 0] = true ∧ earlyFault 0x30 [19, 0, 0, 0, 0] = false ∧
      earlyFault 0x12 [4, 0, 0] = true ∧ earlyFault 0x12 [3, 0, 0] = false ∧
      commandLocked 0x12 [0, 0, 1] .network up = true := by decide

theorem witness_ReadCommandsReply :
    portOpen up .panel ∧ up.ret.lastRun = none ∧ settingValue up.settings 20 = some 0 ∧ settingValue up.settings 1 = some 180 ∧
      (3 : Byte).toNat ≤ 3 ∧ 3 < (4 : Byte).toNat ∧ 20 < (21 : Byte).toNat := by decide

theorem witness_EventCommands :
    portOpen queued .panel ∧ 0 < (1 : Byte).toNat ∧ parsePairs 1 [24, 7] = some [(24, 7)] ∧
      Reaches .panel 0x34 [1, 24, 7] up ∧ badPair (24, 7) = false ∧ badPair (25, 7) = true ∧ badPair (24, 8) = true ∧
      namedTwice [(1, 1), (1, 2)] = true ∧ up.events.steering.length = 24 ∧ Reaches .panel 0x35 [] up := by decide

theorem witness_SettingsAreWritten :
    Reaches .panel 0x30 [1, 0, 0, 0, 1] up ∧ Reaches .service 0x30 [19, 0, 0, 0, 1] inService ∧
      Reaches .service 0x30 [5, 0, 0, 0, 0] inService ∧ Reaches .service 0x40 [] inService := by decide

/-- A write in progress. -/
def writing : State := { up with store := { up.store with writing := some (recordOf up) } }

theorem witness_CommitsAreServedAndEnd :
    (askCommit up).store.asked = true ∧ (askCommit up).store.writing = none ∧
      (askCommit writing).store.writing = some (recordOf up) ∧ up.store.asked = false ∧ up.store.writing = none := by decide

/-- A part in STARTING whose three conditions hold. -/
def starting : State :=
  { State.reset with
    meas :=
      { Measurement.initial with
        frequencyWaitOver := true
        chans := ⟨{ upper with count := 10 }, { upper with count := 10 }, { upper with count := 10 },
          { upper with count := 10 }, { upper with count := 10 }, { upper with count := 10 }, { upper with count := 10 }⟩ }
    boiler := { Boiler.initial with derived := true } }

/-- The same with a retained run that may resume, and with the agent marker set in a retained soak. -/
def startingRun : State :=
  { starting with
    ret := inRun.ret, start := { starting.start with retentionValid := true, outage := 120, kind := .dip } }
def startingAgent : State :=
  let s := atPhase .soak starting
  { s with marker := true, start := { s.start with retentionValid := true } }

theorem witness_StartingEnds :
    startingEndDue up = false ∧ startingEndDue starting = true ∧ holdsDose starting .ch0 = false ∧
      (startingEndDue startingRun = true ∧ mayResume startingRun = true ∧ startingRun.ret.run.state ≠ .idle) ∧
      mayResume { startingRun with start := { startingRun.start with outage := 121 } } = false ∧
      (startingEndDue startingAgent = true ∧ startingAgent.ret.descale.phase = .soak) := by decide

/-! ## Witnesses, clause by clause -/

/-- A drain of `n` more seconds, `clock` microseconds into one of them. -/
def drainingFor (clock n : Nat) : State :=
  { up with
    water :=
      { up.water with
        drainClock := clock
        chans := up.water.chans.set .ch3
          ⟨.running,
            some
              { mode := .block, destination := .out, source := none, base := 45, remaining := n, delivered := 45 - n
                charged := 0, reload := false, requester := .descale, portion := 0, portionLeft := 0 }⟩ } }

/-- A port's line with a byte to come `g` microseconds after the latest one, which is `quiet` microseconds old. -/
def hearing (g quiet : Nat) : State :=
  { up with ports := .all { Port.initial with state := .receiving, line := [g, 300], quiet := quiet } }

/-- The drain inside a second and at its end, with seconds left and without; CH3 idle; mains LOST. -/
theorem witness_IdleStepPassesAMicrosecond_drain :
    (chan (drainingFor 999998 3) .ch3).state = .running ∧ (drainingFor 999998 3).meas.mainsPresent = true ∧
      (drainingFor 999998 3).water.drainClock < 999999 ∧ 999999 ≤ (drainingFor 999999 1).water.drainClock ∧
      (∀ d, (chan (drainingFor 999999 1) .ch3).dose = some d → 0 < d.remaining) ∧
      (∀ d, (chan (drainingFor 999999 0) .ch3).dose = some d → d.remaining = 0) ∧ (chan up .ch3).state ≠ .running := by
  refine ⟨rfl, rfl, by decide, by decide, fun d h => ?_, fun d h => ?_, by decide⟩ <;> cases h <;> decide

/-- The path in its three states, a byte that comes and one that does not yet, the soak's second, the reversal timer. -/
theorem witness_IdleStepPassesAMicrosecond_timers :
    (flowing .ch0 (dose .block .descale 5) up).water.path = .granted .ch0 ∧ (settling 0).water.path = .settling ∧
      up.water.path = .free ∧ (port (hearing 173 173) .panel).line.headD 0 ≤ (port (hearing 173 173) .panel).quiet ∧
      (port (hearing 173 172) .panel).quiet < (port (hearing 173 172) .panel).line.headD 0 ∧
      (port up .panel).line = [] ∧ ({ up with now := 999999 } : State).now % 1000000 = 999999 ∧
      (∃ r, reversing.climate.record = some r ∧ reversing.climate.state = .hold ∧ 0 < (modeRow r.mode).reversal ∧
        0 < r.fanCode ∧ reversing.out.fan.phase ≠ .braking) := by
  refine ⟨rfl, rfl, rfl, by decide, by decide, rfl, rfl, _, rfl, rfl, by decide, by decide, by decide⟩

/-- A channel that has its ten samples. -/
def ten (c : SampleChannel) : SampleChannel := { c with count := 10 }

/-- The measurement of one period from channels that have ten samples each and core points nine samples in range. -/
def measured (cavity boiler core : BitVec 12) : Measurement :=
  let m := Measurement.initial
  let c := m.chans
  Machine.measure true Settings.defaults.offsets ⟨cavity, cavity, boiler, core, core, core, 700⟩
    { m with
      chans := ⟨ten c.cavityUpper, ten c.cavityLower, ten c.boiler, ten c.coreA, ten c.coreB, ten c.coreC, ten c.moisture⟩
      runsA := ⟨9, 0⟩, runsB := ⟨9, 0⟩, runsC := ⟨9, 0⟩ }

/-- The readings that meet the clauses: a runaway limit, the end of COOLDOWN, the derivation, 980, below 950, a dry boiler,
an inserted probe, a core target of 600. -/
theorem witness_SamplePeriodMeasures_readings :
    3000 < (measured 3900 2000 1000).cavity ∧ (measured 999 2000 1000).cavity < 500 ∧
      allCounted { up with meas := measured 999 2000 1000 } = true ∧ up.boiler.derived = false ∧
      980 ≤ (measured 999 1506 1000).boiler ∧ (measured 999 1473 1000).boiler < 950 ∧
      1300 < (measured 999 2000 1000).boiler ∧ hasFault .sensorBoiler up = false ∧
      (measured 999 2000 1000).probePresent = true ∧ Measurement.initial.probePresent = false ∧
      600 ≤ (measured 999 2000 1000).core ∧ Measurement.initial.sampleClock = 100000 := by decide

/-- `inRun` with a stage that ends on a core target of 600. -/
def coreRun : State :=
  { inRun with
    ret :=
      { inRun.ret with
        slots :=
          { inRun.ret.slots with
            s0 := { steamSlot .inUse with stages := [{ steamStage with ending := .core, core := some 600 }] } } } }

theorem witness_SamplePeriodMeasures_units :
    (runActive coreRun = true ∧ (currentStage coreRun).ending = .core ∧ coreRun.ret.run.coreReached = false ∧
      (currentStage coreRun).core = some 600 ∧ coreRun.meas.probePresent = false) ∧
      60000 ≤ ({ up.climate with runaway := 60000 } : Climate).runaway ∧ working inRun = true ∧
      hasFault .sensorCavity inRun = false ∧
      ((List.range 3).foldl (fun c _ => SampleChannel.take .opened c) upper).state = .faulted ∧
      (boilerIn .ready false up).boiler.state = .ready ∧ (steeringOf up.events.steering .coreReached).panel = true ∧
      (steeringOf up.events.steering .probeInserted).panel = true ∧
      (steeringOf up.events.steering .cooldownEnded).panel = true := by decide

/-- The core channels of the last clauses. -/
theorem witness_CoreProbeIsMeasured_channels :
    upper.state = .ok ∧ { upper with state := .faulted, good := 8 }.good < 9 ∧
      { upper with state := .faulted, good := 9 }.good = 9 ∧ (measured 999 2000 1000).runsA.inRange = 10 := by decide

/-- A forced top element that fires beside a boiler run, and a step that it waits for. -/
def budgeted : State :=
  { forcedTop with
    pending := [.settleEnd]
    out := { forcedTop.out with heat := { forcedTop.out.heat with boiler := ⟨⟨0, 30⟩, ⟨10, 40⟩, true⟩ } } }

/-- The top element and the boiler together stay within the headroom. -/
theorem top_and_boiler (f : Load → Bool) (h : ∀ l, f l = true → l = .top ∨ l = .boiler) : powerOf resetLimits f ≤ 3530 :=
  Nat.le_trans (powerOf_mono (g := fun l => decide (l = .top ∨ l = .boiler)) fun l hl => decide_eq_true (h l hl)) (by decide)

theorem witness_BudgetLaw_step :
    StoreSound budgeted ∧ BudgetSound budgeted ∧ step budgeted = .next { budgeted with pending := [] } := by
  refine ⟨⟨?_, by decide, fun r h => ?_, fun r h => ?_⟩, ⟨rfl, rfl, by decide, fun k => ?_, fun e he l h => ?_, fun _ k => ?_,
    fun a h => ?_⟩, rfl⟩
  · constructor <;> first
      | decide
      | (intro l; cases l <;> unfold RatingSound <;> decide)
      | (unfold OffsetSound; decide)
  · cases h
  · cases h
  · refine top_and_boiler _ fun l h => ?_
    cases l
    · exact .inl rfl
    · cases (Run.covers_empty k).symm.trans h
    · cases (Run.covers_empty k).symm.trans h
    · cases (Run.covers_empty k).symm.trans h
    · exact .inr rfl
  · cases he with
    | head => cases h; rfl
    | tail _ he => cases he
  · refine top_and_boiler _ fun l h => ?_
    cases l
    · exact .inl rfl
    · cases (Run.covers_empty k).symm.trans h
    · cases (Run.covers_empty k).symm.trans h
    · cases (Run.covers_empty k).symm.trans h
    · exact .inr rfl
  · cases h

/-- A load in the middle of each policy's order, with and without a demand, and one whose rating exceeds the headroom. -/
theorem witness_GrantsRunsAndMarks_order :
    grantOrder .heatFirst = [.ring, .top] ++ .bottom :: [.grill, .boiler] ∧
      grantOrder .steamFirst = [] ++ .boiler :: [.ring, .top, .bottom, .grill] ∧
      0 < (PerLoad.all 50).get .bottom ∧ resetLimits.ratings.get .bottom ≤ resetLimits.headroom ∧
      (PerLoad.all 0).get .bottom = 0 ∧ ({ resetLimits with headroom := 999 } : Limits).headroom < resetLimits.ratings.get .bottom := by
  decide

/-- A heater supply relay, and the runs of the top element, at the zero-crossing after half-cycle `h`. -/
def relayEdge (x : Relay) (active pending : Run) (h : Nat) : State :=
  let s := edge 10000 h
  { s with out := { s.out with heaterRelay := x, heat := { s.out.heat with top := ⟨active, pending, false⟩ } } }

/-- RELAY_CHANGE_START, RELAY_CONTACT_END and RELAY_RECOVERY_END that are not due: recovering, moving, in the position asked
for, the load condition failing, before their times. -/
theorem witness_RelaysChange_not_due :
    (relay (lostWith (aRelay .opened true 0 true)) .heaterSupply).recovering = true ∧
      (relay (lostWith (aRelay .closing true 0 false)) .heaterSupply).state = .closing ∧
      ((relay (lostWith (aRelay .opened false 0 false)) .heaterSupply).state = .opened ∧
        (relay (lostWith (aRelay .opened false 0 false)) .heaterSupply).askClosed = false) ∧
      (relay (lostWith (aRelay .closed true 0 false)) .fanDirection).askClosed = true ∧
      (edge 0 0).meas.mainsPresent = true ∧ (fanIn .braking 0 0 0 up).out.fan.duty ≠ 0 ∧
      (relay (lostWith (aRelay .closing true 29999 false)) .fanDirection).timer < 30000 ∧
      (relay (lostWith (aRelay .closed true 1999999 true)) .fanDirection).timer < 2000000 ∧
      (relay (lostWith (aRelay .closed true 2000000 false)) .fanDirection).recovering = false := by decide

/-- The direction relay's new state ends a reversal with a fan called for, and with none. -/
theorem witness_RelaysChange_reversal :
    (let s := fanIn .switching 0 0 0 up
     s.out.fan.phase = .switching ∧ 0 < s.out.fan.code ∧ fanHeld s = false) ∧
      (let s := fanIn .switching 0 0 0 (settled .door false up)
       s.out.fan.phase = .switching ∧ fanHeld s = true) := by decide

/-- The heater supply relay at zero-crossings: the first of a cycle and the second, a window start, a cavity run that covers
the cycle and a forced cavity load. -/
theorem witness_RelaysChange_zeroCross :
    let none := Machine.Run.empty
    (nextHalfCycle (relayEdge (aRelay .opened true 0 false) none none 9) = 10 ∧
      nextHalfCycle (relayEdge (aRelay .opened true 0 false) none none 10) = 11 ∧
      nextHalfCycle (relayEdge (aRelay .opened true 0 false) none none 99) = 0) ∧
      (relayEdge (aRelay .closed false 0 false) none none 99).share.allocation = Option.none ∧
      (relayEdge (aRelay .closed false 0 false) none none 99).share.claim = Option.none ∧
      cavityCalled 5 (relayEdge (aRelay .closed false 0 false) ⟨5, 1⟩ none 9) = true ∧
      cavityCalled 5 (relayEdge (aRelay .closed false 0 false) ⟨6, 1⟩ none 9) = false ∧
      (Machine.Run.mk 0 1).covers 0 = true ∧ forcedCavity forcedTop = true ∧ forcedCavity up = false := by decide

/-- A one-shot of the lamp at its 120 s, and a lamp that was asked for. -/
theorem witness_VentStuckAndLamp_oneShot :
    let s : State := { up with out := { up.out with lampShot := some 120000000 } }
    s.out.lampShot = some 120000000 ∧ lampShotDue s = true ∧
      lampShotDue { up with out := { up.out with lampShot := some 119999999 } } = false := by decide

/-- A vent drive with an entry, without one under a pulse, at its end and not. -/
theorem witness_ForcesAndPulsesEnd_motor :
    let s : State := { inService with out := { inService.out with forces := placeForce .ventOpenDrive true false [] } }
    let t : State := { inService with out := { inService.out with pulse := some ⟨[.ventCloseDrive], 1000, false⟩ } }
    (forceEntry (ventDrive .opened) s).isSome = true ∧ motorToward .opened s = true ∧
      forceEntry (ventDrive .closed) t = none ∧ ventDrive .closed ∈ [Output.ventCloseDrive] ∧ motorToward .closed t = true ∧
      motorToward .opened (reachEnd .opened s s) = false ∧ motorToward .closed (reachEnd .closed t t) = false := by decide

/-- The cases of FORCE_OUTPUT that concern the output: a cavity load with the door open, the other vent drive, a busy path,
and an entry that is replaced. -/
theorem witness_ForceOutputIsDecidedInOrder_outputs :
    let vent : State := { inService with out := { inService.out with forces := placeForce .ventOpenDrive true false [] } }
    doorOpen (settled .door false inService) = true ∧ doorOpen inService = false ∧ Load.top.isCavity = true ∧
      otherVentForced .ventCloseDrive vent = true ∧ otherVentForced .ventOpenDrive vent = false ∧
      outputIsWater .drainPump = true ∧ waterBusy (flowing .ch0 (dose .block .descale 5) inService) = true ∧
      waterBusy inService = false ∧ outputLoad .lamp = none ∧ outputLoad .top = some .top ∧
      (vent.out.forces.map ForceEntry.output).Nodup ∧ Output.ventOpenDrive ∈ vent.out.forces.map ForceEntry.output ∧
      (∀ e ∈ vent.out.forces, e.output ≠ .lamp) := by decide

/-- A priming dose on CH2 on the point of its last pulse, CH0 waiting for the tank. -/
def priming : State :=
  let d := { dose .flush .prime 1 with destination := .drainLine }
  let s := flowing .ch2 d up
  { s with water := { s.water with chans := s.water.chans.set .ch0 ⟨.suspended, some (dose .block .descale 9)⟩ } }

theorem witness_FlowPulsesCount_priming :
    priming.water.path = .granted .ch2 ∧
      (∀ d, (chan priming .ch2).dose = some d → d.remaining = 1 ∧ d.requester = .prime ∧ d.source = some .tank ∧
        d.reload = false) ∧
      sourceIs .tank (chan priming .ch0) = true ∧ (chan priming .ch0).state = .suspended ∧
      leaves (exec .flowPulse priming) (fun t => decide ((chan t .ch0).state = .requesting)) = true := by
  refine ⟨rfl, fun d h => ?_, by decide, by decide, by decide⟩
  cases h; decide

/-- R125: the count that a descale dose had left at its fault is kept for the confirm. -/
theorem witness_SettleEndAndNoFlow_descale :
    let s := dryFlow (dose .block .descale 9)
    s.water.path = .granted .ch0 ∧ 4000000 ≤ s.water.noFlowTimer ∧
      leaves (exec .noFlow s) (fun t => decide (t.work.faulted = 9) && decide (t.ret.descale.stall = .flow)) = true ∧
      leaves (exec .noFlow (boilerIn .dryFault false s)) (fun t => decide (t.boiler.state = .dryFault)) = true := by decide

/-- A regulator in a state, with a record in a mode at readings of cavity and moisture. -/
def regulating (st : ClimateState) (m : Mode) (cavity moisture : Int) (s : State) : State :=
  { s with
    climate :=
      { s.climate with
        state := st
        record := some { mode := m, setpoint := 1000, moisture := some 50, fanCode := 6, policy := .steamFirst } }
    meas := { s.meas with cavity := cavity, moisture := moisture }
    out := { s.out with heaterRelay := ⟨.closed, true, 0, false⟩ } }

/-- The reached tests at the edges of their bands, with and without a record, blind and not. -/
theorem witness_LoopAndDemand_reached :
    (let s := regulating .preheat .combi 950 45 up
     s.climate.state = .preheat ∧ hasFault .sensorCavity s = false ∧ s.climate.direction = .up ∧
       1000 - 50 ≤ s.meas.cavity ∧ 50 - 5 ≤ s.meas.moisture ∧ s.climate.moistReached = false ∧
       (regulatorWindow s).1.climate.state = .hold ∧ (regulatorWindow s).2.temp = true ∧ (regulatorWindow s).2.moist = true) ∧
      (let s := regulating .preheat .combi 949 44 up
       (regulatorWindow s).1.climate.state = .preheat ∧ (regulatorWindow s).2.moist = false) ∧
      hasFault .sensorCavity (withFault .sensorCavity (regulating .hold .combi 949 44 up)) = true := by decide

/-- The posts: a loop that runs, one under a closing relay, BRAKING, the moisture loop with its vent, and the modes. -/
theorem witness_LoopAndDemand_posts :
    (let s := regulating .hold .combi 900 60 up
     s.out.heaterRelay.state = .closed ∧ (50 : Int) - s.meas.moisture < -3 ∧ hasFault .ventStuck s = false ∧
       (regulatorWindow s).1.out.vent.state.isFor .opened = true) ∧
      (regulating .hold .combi 1101 50 up).meas.cavity > 1000 + 100 ∧
      ((0 : Int) < 50 - (regulating .hold .combi 900 40 up).meas.moisture ∧
        (50 : Int) - (regulating .hold .combi 900 53 up).meas.moisture = -3) ∧
      hasFault .moistureSensor (withFault .moistureSensor (regulating .hold .proof 900 40 up)) = true ∧
      (fanIn .braking 0 0 0 (regulating .hold .combi 900 40 up)).out.fan.phase = .braking ∧
      (regulating .paused .steam 900 40 up).climate.state ≠ .hold ∧
      (regulating .hold .steam 900 40 up).climate.steamWithheld = false := by decide

/-- A soak with its target given, at the edges of the band that holds the post. -/
def soaking (boiler : Int) : State :=
  let s := boilerIn .heating false (settled .boilerLow false (atPhase .soak up))
  { s with boiler := { s.boiler with soakTarget := true }, meas := { s.meas with boiler := boiler } }

/-- The boiler's demand: barred, outside a descale, in a descale without a target, and in the soak's three bands. -/
theorem witness_LoopAndDemand_boiler :
    up.start.ready = true ∧ lowCovered up = false ∧
      (let s := boilerIn .ready false (settled .boilerLow false up)
       lowCovered s = true ∧ hasFault .sensorBoiler s = false ∧ s.boiler.drainPending = false ∧
         s.ret.descale.phase = .idle) ∧
      (soaking 570).boiler.soakTarget = true ∧ (soaking 570).ret.descale.phase ≠ .idle ∧ lowCovered (soaking 570) = true ∧
      (soaking 569).meas.boiler < 570 ∧ 630 < (soaking 631).meas.boiler ∧
      (regulatorWindow (soaking 569)).1.share.demands.boiler = 50 ∧
      (regulatorWindow (soaking 631)).1.share.demands.boiler = 0 := by decide

/-- What the sequencer makes of reports, and the window start that brings them. -/
theorem witness_LoopAndDemand_window :
    runActive up = false ∧ runActive inRun = true ∧ (steeringOf inRun.events.steering .tempReached).panel = true ∧
      (edge 10000 99).out.halfCycle = some 99 ∧ 2 * cycles (edge 10000 99) ≤ 99 + 1 ∧ up.out.halfCycle = none ∧
      up.meas.edgeSeen = false ∧ (edge 10000 99).share.allocation = none := by decide

/-- A rinse at a step. -/
def rinsing (p : DescalePhase) (step : RinseStep) : State :=
  let s := atPhase p up
  { s with ret := { s.ret with descale := { s.ret.descale with step := some step } } }

/-- A draw loaded in DRY_FAULT, the end of a fill by its last pulse, and both rinses' fills. -/
theorem witness_DescaleAdvances_fills :
    (let s := boilerIn .dryFault false (waiting .ch0 (atPhase .draw up))
     s.work.dose = some (.ch0, .millilitres 500) ∧ s.ret.descale.step = none ∧ holdsDose s .ch0 = false ∧
       leaves (exec .descaleDoseLoad s) (fun t => decide (t.boiler.state = .dryFault) && holdsDose t .ch0) = true) ∧
      (let s := flowing .ch0 (dose .block .descale 1) (atPhase .draw up)
       s.water.path = .granted .ch0 ∧ s.meas.pulseSeen = false ∧ (dose .block .descale 1).reload = false ∧
         leaves (exec .flowPulse s) (fun t => decide (t.ret.descale.phase = .drainAgent)) = true) ∧
      (rinsing .rinse1 .fill).ret.descale.step = some .fill ∧ (rinsing .rinse2 .fill).ret.descale.phase = .rinse2 ∧
      lowCovered (settled .boilerLow false (rinsing .rinse1 .fill)) = true ∧ lowCovered (rinsing .rinse1 .fill) = false ∧
      (boilerIn .dryFault false (rinsing .rinse1 .fill)).boiler.state = .dryFault ∧
      (descaleFillEnded (settled .boilerLow false (rinsing .rinse1 .fill))).work.drain = false ∧
      (descaleFillEnded (drained .boilerControl (settled .boilerLow false (rinsing .rinse1 .fill)))).work.drain = true := by
  decide

/-- The confirms of a FLOW and of a DRY stall, their channel free and held; an awaiting phase's refusals. -/
theorem witness_DescaleCommands_confirm :
    (let s := stalled .rinse1 .flow
     let t : State := { s with ret := { s.ret with descale := { s.ret.descale with step := some .flush } } }
     Reaches .panel 0x21 [7] t ∧ t.ret.descale.stall = .flow ∧ holdsDose t .ch2 = false ∧
       holdsDose (requesting .ch2 (dose .flush .prime 5) t) .ch2 = true) ∧
      ((stalled .rinse1 .dry).boiler.state ≠ .dryFault ∧ (stalled .rinse1 .dry).ret.descale.phase.number = 7 ∧
        holdsDose (stalled .rinse1 .dry) .ch0 = false) ∧
      (boilerIn .dryFault false (stalled .rinse1 .dry)).boiler.state = .dryFault ∧
      (stalled .draw .flow).ret.descale.step = none ∧ (atPhase .soak up).ret.descale.phase.number ≠ 2 ∧
      tankPresent (settled .tankPresent true (atPhase .awaitAgent up)) = false := by decide

/-- Aborts after DRAW and SOAK with the marker set, and the refusals of an abort. -/
theorem witness_DescaleCommands_abort :
    let marked := fun p => ({ atPhase p up with marker := true } : State)
    Reaches .panel 0x22 [] (marked .draw) ∧ (marked .draw).ret.descale.phase = .draw ∧ (marked .soak).marker = true ∧
      Reaches .panel 0x22 [] (marked .soak) ∧ holdsDose (marked .soak) .ch0 = false ∧
      leaves (exec (.descaleAbort .panel []) (marked .soak))
        (fun t => decide (t.ret.descale.phase = .drainAgent) && t.ret.descale.aborted && t.marker) = true ∧
      Reaches .panel 0x22 [] (marked .drainAgent) ∧ (marked .drainAgent).ret.descale.phase ≠ .soak ∧
      up.ret.descale.phase = .idle ∧ lowCovered (settled .boilerLow false (atPhase .prepare up)) = true := by decide

/-- `inRun` in a program of stages. -/
def inProgram (stages : List Stage) : State :=
  { inRun with ret := { inRun.ret with slots := { inRun.ret.slots with s0 := { steamSlot .inUse with stages := stages } } } }

/-- A stage that is at its end as soon as it is entered degraded. -/
def reachedStage : Stage := { steamStage with ending := .reached, duration := none }

/-- A following stage: one that stays, one that ends at its entry as the last and with a third behind it, and one that a
fatal fault ends. -/
theorem witness_StagesEnd_following :
    (let s := inProgram [steamStage, steamStage]
     let entry := enterStage 1 false (closeStage s)
     s.ret.run.stageIndex + 1 < (runStages s).length ∧ entry.2 = true ∧ stageEndMet entry.1 = false ∧
       (endStage s).ret.run.stageIndex = 1) ∧
      (let s := withFault .boilerDry (inProgram [steamStage, reachedStage])
       let s : State := { s with ret := { s.ret with run := { s.ret.run with steamLost := true } } }
       let entry := enterStage 1 false (closeStage s)
       entry.2 = true ∧ stageEndMet entry.1 = true ∧ (runStages s).length ≤ s.ret.run.stageIndex + 2 ∧
         (endStage s).ret.run.state = .idle) ∧
      (let s := withFault .boilerDry (inProgram [steamStage, reachedStage, steamStage])
       let s : State := { s with ret := { s.ret with run := { s.ret.run with steamLost := true } } }
       s.ret.run.stageIndex + 2 < (runStages s).length ∧ (endStage s).ret.run.stageIndex = 2) ∧
      (let s := withFault .thermalCutout (inProgram [steamStage, steamStage])
       (enterStage 1 false (closeStage s)).2 = false ∧ (endStage s).ret.run.state = .idle) := by decide +kernel

/-- The bytes of a stage in COMBI at 1800 with moisture 95, fan code 16, a core end and a burst of 300. -/
def clampedStage : List Byte :=
  [3, 0x07, 0x08, 95, 16, 1, 0x80, 0, 0, 0, 0x01, 0x2C, 0x01, 0x2C, 0, 1, 0, 0]

/-- What a stage keeps of its fields, and the stages that are bad. -/
theorem witness_SlotsAreLoadedAndCleared_stages :
    (match parseStage clampedStage with
      | some st => st.mode.isSome && decide (st.setpoint = some 1800) && decide (st.ending = some .core) &&
          !st.bad true && st.bad false && st.store.2
      | none => false) = true ∧
      (parseStage (clampedStage.set 0 8)).any SentStage.badName = true ∧
      (parseStage (clampedStage.set 0 255)).any (fun st => st.mode.isNone && !st.badName) = true ∧
      (parseStage (clampedStage.set 5 4)).any SentStage.badName = true ∧
      (modeRow .convection).moisture = none ∧ (modeRow .combi).moisture = some (20, 90) ∧
      (match parseProgram [3, 0, 1, 8, 0x07, 0x08, 0xFF, 0xFF, 0, 0, 0, 0x02, 0x58, 0x80, 0, 0xFF, 0xFF, 0xFF, 0xFF, 0, 0] with
        | some p => decide (firstBad true p.stages = some 0)
        | none => false) = true := by decide

/-- The cases of START one after the other, with nothing forced and with a force and a pulse. -/
theorem witness_StartBeginsARun_cases :
    (loaded.ret.slots.get 0).state ≠ .empty ∧ (up.ret.slots.get 0).state = .empty ∧
      (atPhase .prepare loaded).ret.descale.phase ≠ .idle ∧ ({ loaded with marker := true } : State).marker = true ∧
      ({ loaded with scale := { loaded.scale with level := .blocked } } : State).scale.level = .blocked ∧
      loaded.out.forces = [] ∧ loaded.out.pulse = none ∧ forcedTop.out.forces ≠ [] ∧ pulsed.out.pulse ≠ none ∧
      ((enterStage 0 true inRun).2 = true ∧ (enterStage 0 true (withFault .thermalCutout inRun)).2 = false) := by decide

/-- The refusals of ADJUST: not running, another stage, an absent encoding, no duration, the regulator not in use. -/
theorem witness_AdjustAndInject_adjust :
    Reaches .panel 0x14 [0, 1, 0, 1, 0x80, 0, 0, 0, 0, 0, 0xFF] up ∧ runActive up = false ∧
      number2 0 2 ≠ inRun.ret.run.runId ∧ (1 : Byte).toNat ≠ inRun.ret.run.stageIndex ∧
      ((1 : Byte).toNat.testBit 0 = true ∧ number2 0x80 0 = 0x8000) ∧ ((4 : Byte).toNat.testBit 2 = true ∧ (0xFF : Byte).toNat = 0xFF) ∧
      ((2 : Byte).toNat.testBit 1 = true ∧
        ({ inRun.ret.run with duration := none } : RunContext).duration = none) ∧
      ({ inRun with climate := { inRun.climate with state := .cooldown } } : State).climate.state = .cooldown ∧
      pausedClimate.climate.state = .paused := by decide

/-- The refusals of INJECT: the door, steam lost, a degraded stage, BLOCKED, a cool cavity, a burst on CH1. -/
theorem witness_AdjustAndInject_inject :
    (Reaches .panel 0x17 [0, 1, 0, 0, 10] up ∧ runActive up = false) ∧
      (pausedRun ⟨true, false, false, false⟩ 0).ret.run.causes.door = true ∧
      ({ hotRun.ret.run with steamLost := true } : RunContext).steamLost = true ∧
      ({ hotRun.ret.run with degraded := true } : RunContext).degraded = true ∧
      ({ hotRun with scale := { hotRun.scale with level := .blocked } } : State).scale.level = .blocked ∧
      ({ hotRun with meas := { hotRun.meas with cavity := 1499 } } : State).meas.cavity < 1500 ∧
      holdsDose (requesting .ch1 (dose .block .program 5) hotRun) .ch1 = true ∧
      (max 10 (min (number2 0 9) 200) = 10 ∧ max 10 (min (number2 0 201) 200) = 200) := by decide

/-- A source that stops being low: with CH2 free, with its own priming dose waiting there, and with another's dose. -/
theorem witness_InputsChange_priming :
    let s := settled .tankFloat false (requesting .ch0 (dose .block .descale 9) up)
    let t : State := { s with water := { s.water with chans := s.water.chans.set .ch0 ⟨.suspended, some (dose .block .descale 9)⟩ } }
    let p : State := { t with water := { t.water with chans := t.water.chans.set .ch2 ⟨.suspended, some (dose .flush .prime 9)⟩ } }
    sourceLow .tank t = true ∧ tankInUse t = true ∧ t.work.drain = false ∧ holdsDose t .ch2 = false ∧
      inputChangeDue .tankFloat t = true ∧
      leaves (exec (.inputChange .tankFloat) t) (fun u => requesterIs .prime (chan u .ch2)) = true ∧
      (holdsDose p .ch2 = true ∧ requesterIs .prime (chan p .ch2) = true ∧ sourceIs .tank (chan p .ch2) = true ∧
        (chan p .ch2).state = .suspended) ∧
      (let o := requesting .ch2 (dose .flush .descale 9) t
       holdsDose o .ch2 = true ∧ requesterIs .prime (chan o .ch2) = false ∧ (chan o .ch0).state = .suspended) := by decide

/-- A busy port's frame start, an IDLE port under a discard mark, a frame that has not been silent for more than 20 ms. -/
theorem witness_PortsReceiveAndReply_gaps :
    (port (portIn .replying false 0) .panel).state = .replying ∧
      ((port (portIn .idle true 5) .panel).state = .idle ∧ (port (portIn .idle true 5) .panel).discard = true) ∧
      (port (portIn .receiving false 20000) .panel).quiet ≤ 20000 ∧
      (let p := { port (portIn .replying false 0) .panel with sending := 173 }
       p.sending * 57600 < p.reply.length * 10 * 1000000) ∧
      leaves (exec (.frameStartWhileBusy ⟨.panel, [200, 200]⟩) (portIn .executing false 0))
        (fun t => (port t .panel).overrun && (port t .panel).discard && decide ((port t .panel).line = [200, 200])) = true := by
  decide

/-- R182: a frame whose bytes have been silent for more than 20 ms is not taken, one at 20 ms is; R185: a busy port. -/
theorem witness_CommandsAreDecidedInOrder_ports :
    ¬portOpen (portIn .receiving false 20001) .panel ∧ portOpen (portIn .receiving false 20000) .panel ∧
      portOpen (portIn .idle false 50000) .panel ∧ ¬portOpen (portIn .executing false 0) .panel ∧
      ¬portOpen (portIn .replying false 0) .panel := by decide

theorem witness_ReadCommandsReply_lastRun :
    ∃ r, (endRun .userStop none inRun).ret.lastRun = some r ∧ r.result = .userStop := ⟨_, rfl, rfl⟩

/-- FETCH_EVENTS above 8, with an unreported and a holding entry. -/
theorem witness_EventCommands_fetch :
    8 < (9 : Byte).toNat ∧
      (let s : State := { up with events := { up.events with queues := { up.events.queues with panel := [entry .trayFull false] } } }
       (unreported (s.events.queues.get .panel)).length = 1 ∧ (entry .trayFull false).standing = .holding) ∧
      (entry .trayFull true).reported = true := by decide

theorem witness_SettingsAreWritten_values :
    (steeringOf up.events.steering .settingsChanged).panel = true ∧ 1 ≤ (19 : Byte).toNat ∧ (19 : Byte).toNat ≤ 19 ∧
      ((5 : Byte).toNat = 5 ∧ signed4 (number4 0 0 0 0) = 0) := by decide

/-- R192: of the bytes to come on a line, those that end during a reset are gone and the next one comes that much sooner. -/
theorem witness_ResetSetsThePart_line :
    laterBytes 500 [200, 200, 200] = [100] ∧ laterBytes 200 [200] = [] ∧ (199 < 200) ∧
      ({ coldCause with straps := { initialStraps with supply := .plumbed } }).straps.supply = .plumbed := by decide

/-- A resume that meets a fatal fault, one that meets a steam fault, one with steam lost before, and a lost retention. -/
theorem witness_StartingEnds_faults :
    (fatalFault (withFault .thermalCutout startingRun) = some .thermalCutout ∧
      leaves (exec .startingEnd (withFault .thermalCutout startingRun))
        (fun t => decide (t.ret.run.state = .idle) && t.start.resumed) = true) ∧
      (fatalFault (withFault .boilerDry startingRun) = none ∧ steamFault (withFault .boilerDry startingRun) = true ∧
        startingRun.ret.run.steamLost = false ∧ steamFault startingRun = false ∧
        (currentStage startingRun).usesSteam = true) ∧
      starting.start.retentionValid = false ∧
      ({ starting.start.summary with opened := some ⟨0, 1, 0, 5, 0, false⟩ } : RunSummary).opened.isSome = true ∧
      (let s := atPhase .rinse1 startingAgent
       s.marker = true ∧ s.start.retentionValid = true ∧ s.ret.descale.phase = .rinse1) ∧
      ({ startingAgent with marker := false } : State).ret.descale.phase ≠ .idle := by decide

/-- A drain that waits, with and without a service hold; the water outputs of a granted dose, of a drain, of mains LOST and
under a force. -/
theorem witness_PathGoesByPriority_outputs :
    (let s := requesting .ch3 (dose .block .descale 45) up
     let held := requesting .ch3 (dose .block .descale 45) heldWater
     serviceHold (settle s) = false ∧ (chan (arbitrate s) .ch3).state = .running ∧ serviceHold held = true ∧
       (chan (arbitrate held) .ch3).state = .requesting) ∧
      (let s := flowing .ch0 (dose .block .descale 5) up
       s.water.path = .granted .ch0 ∧ (chan s .ch0).dose = some (dose .block .descale 5) ∧
         (dose .block .descale 5).source = some .tank ∧ s.meas.mainsPresent = true ∧
         waterLevel .supplyPump s = true ∧ waterLevel .inletValve s = false ∧ waterLevel .boilerValve s = true) ∧
      (lostWith (aRelay .opened true 0 false)).meas.mainsPresent = false ∧ waterLevel .drainPump (drainingFor 0 3) = true ∧
      (∃ x, forceEntry .drainPump heldWater = some x ∧ x.level = true) ∧
      (forceEntry .drainValve heldWater = none ∧ inPulse .drainValve heldWater = false) ∧ inPulse .lamp pulsed = true := by
  refine ⟨by decide, by decide, by decide, by decide, ⟨_, rfl, rfl⟩, by decide, by decide⟩

/-- WATER_EMPTY and TANK_MISSING where a settling step begins them and where it ends them. -/
theorem witness_SettleChangesNoMore_water :
    (let s : State := { up with water := { up.water with chans := up.water.chans.set .ch0 ⟨.suspended, some (dose .block .descale 9)⟩ } }
     conditionHolds .waterEmpty s = false ∧ (steeringOf s.events.steering .waterEmpty).panel = true ∧
       conditionHolds .waterEmpty (settle s) = true ∧ (chan (settle s) .ch0).state = .suspended) ∧
      (let s := settled .tankPresent true up
       conditionHolds .tankMissing s = false ∧ (steeringOf s.events.steering .tankMissing).panel = true ∧
         conditionHolds .tankMissing (settle s) = true) ∧
      (let s : State := { up with events := { up.events with conditions := [⟨.tankMissing, none⟩] } }
       conditionHolds .tankMissing s = true ∧ conditionHolds .tankMissing (settle s) = false) := by decide

/-- A top-up cancelled by BOILER_HIGH and by a descale; PREPARE in each case of the boiler. -/
theorem witness_QuietStepsOnlyCommit_descale :
    (let s := flowing .ch0 (dose .single .boilerControl 5) (settled .boilerHigh false up)
     holdsFor s .ch0 .boilerControl = true ∧ modeIs .single (chan s .ch0) = true ∧ highCovered s = true ∧
       (chan (settle s) .ch0).state = .idle ∧ (settle s).water.path = .settling) ∧
      (let s := requesting .ch0 (dose .single .boilerControl 5) (atPhase .soak up)
       holdsFor s .ch0 .boilerControl = true ∧ s.ret.descale.phase ≠ .idle ∧ (chan (settle s) .ch0).state = .idle) ∧
      (let s := boilerIn .empty false (atPhase .prepare up)
       s.start.ready = true ∧ s.ret.descale.stall = .none ∧ (settle s).ret.descale.phase = .awaitAgent) ∧
      (let s := boilerIn .heating false (atPhase .prepare up)
       holdsDose s .ch3 = false ∧ tankPresent s = true ∧ (settle s).boiler.state = .draining) ∧
      (let s := boilerIn .ready false (settled .tankPresent true (atPhase .prepare up))
       s.start.straps.supply = .tank ∧ tankPresent s = false ∧ (settle s).work.drain = true) ∧
      (boilerIn .dryFault false (atPhase .prepare up)).boiler.state = .dryFault ∧
      (stalled .prepare .level).ret.descale.stall ≠ .none := by decide

/-- WATER at its beginning and at its end, with another cause and without; a condition that stands. -/
theorem witness_QuietStepsOnlyCommit_water :
    (let s := settled .tankFloat false inRun
     runActive s = true ∧ fatalFault s = none ∧ steamFault s = false ∧ (currentStage s).mode.isSteam = true ∧
       sourceLow .tank s = true ∧ s.seq.waterCondition = false ∧ (settle s).ret.run.causes.water = true ∧
       (settle s).ret.run.state = .paused) ∧
      (let ended := fun c : Causes => ({ pausedRun c 9 with seq := { inRun.seq with waterCondition := true } } : State)
       sourceLow .tank (ended ⟨false, true, false, false⟩) = false ∧
         (settle (ended ⟨false, true, false, false⟩)).ret.run.state = .running ∧
         (settle (ended ⟨true, true, false, false⟩)).ret.run.state = .paused ∧
         (settle (ended ⟨true, true, false, false⟩)).ret.run.causes.water = false ∧
         (ended ⟨true, false, false, false⟩).ret.run.causes.water = false) := by decide

/-- Each fatal fault first of the set, and FAN_STALL outside a fan mode. -/
theorem witness_RunFaultsActAtTheEndOfAStep_fatal :
    fatalFault (withFault .heatRunaway inRun) = some .heatRunaway ∧
      fatalFault (withFault .sensorCavity inRun) = some .sensorCavity ∧
      fatalFault (withFault .fanStall (inProgram [{ steamStage with mode := .grill }])) = none := by decide

/-- A boiler above 1300 before the derivation and after it, and a derivation in STARTING. -/
theorem witness_SamplePeriodMeasures_underived :
    let s : State := { State.reset with meas := measured 999 2000 1000 }
    s.boiler.derived = false ∧ 1300 < s.meas.boiler ∧ s.boiler.state = .empty ∧ hasFault .sensorBoiler s = false ∧
      s.start.ready = false ∧ { boilerIn .ready false up with meas := measured 999 2000 1000 }.boiler.derived = true := by decide

/-- A drain under way when mains is LOST. -/
theorem witness_MainsLostStopsWindows_drain :
    let s := drained .descale (edge 30000 0)
    mainsLostDue s = true ∧ (chan s .ch3).state = .running ∧ s.water.path = .free ∧
      (∀ d, (chan s .ch3).dose = some d → d.effective = .out ∧ d.charged ≠ d.delivered) := by
  refine ⟨rfl, rfl, rfl, fun d h => ?_⟩
  cases h; decide

/-- A lamp and a cooling fan under a force and under a pulse, and the lamp's own reasons. -/
theorem witness_VentStuckAndLamp_levels :
    let force := fun o : Output => ({ inService with out := { inService.out with forces := placeForce o false false [] } } : State)
    (∃ x, forceEntry .lamp (force .lamp) = some x ∧ x.level = false) ∧
      (∃ x, forceEntry .coolingFan (force .coolingFan) = some x ∧ x.level = false) ∧
      forceEntry .lamp pulsed = none ∧ lampLit pulsed = true ∧ lampLit up = false ∧ lampLit inRun = true ∧
      lampLit (settled .door false up) = true ∧ coolingFanOn up = false ∧
      coolingFanOn { up with climate := { up.climate with coolingFan := true } } = true := by
  refine ⟨⟨_, rfl, rfl⟩, ⟨_, rfl, rfl⟩, ?_⟩; decide

/-- A FLOW stall of a rinse's fill while the boiler is dry. -/
theorem witness_DescaleCommands_dryFlow :
    let s := boilerIn .dryFault false (stalled .rinse1 .flow)
    let t : State := { s with ret := { s.ret with descale := { s.ret.descale with step := some .fill } } }
    Reaches .panel 0x21 [7] t ∧ t.ret.descale.stall = .flow ∧ t.boiler.state = .dryFault ∧
      leaves (exec (.descaleConfirm .panel [7]) t) (fun u => decide (u.ret.descale.stall = .dry)) = true := by decide

/-- The ends of a stage: by time, core, and reached, degraded and not, in a moisture mode and in another. -/
theorem witness_StagesEnd_met :
    stageEndMet inRun = false ∧
      (let run := fun (st : Stage) (f : RunContext → RunContext) =>
        let s := inProgram [st]
        ({ s with ret := { s.ret with run := f s.ret.run } } : State)
       let core := { steamStage with ending := StageEnd.core }
       let reached := fun m => { steamStage with ending := StageEnd.reached, mode := m }
       stageEndMet (run core id) = false ∧ stageEndMet (run core fun r => { r with coreReached := true }) = true ∧
         stageEndMet (run (reached .steam) fun r => { r with degraded := true }) = true ∧
         stageEndMet (run (reached .combi) fun r => { r with degraded := true }) = false ∧
         stageEndMet (run (reached .combi) fun r => { r with tempReached := true }) = false ∧
         stageEndMet (run (reached .proof) fun r => { r with tempReached := true, moistReached := true }) = true ∧
         stageEndMet (run (reached .grill) fun r => { r with tempReached := true }) = true) := by decide

/-- What follows a removal: the regulator leaves FAULT, a stopped fan with a code starts, the boiler leaves DRY_FAULT; and
each where the fault still stands. -/
theorem witness_EventCommands_removals :
    let out : State := { fanIn .running 0 0 0 up with climate := { up.climate with state := .fault } }
    let fan := fanIn .stopped 0 0 0 up
    let dry := boilerIn .dryFault false up
    (out.climate.state = .fault ∧ hasFault .heatRunaway out = false ∧ (leaveClimateFault out).climate.state = .off) ∧
      hasFault .heatRunaway (withFault .heatRunaway out) = true ∧
      (fan.out.fan.phase = .stopped ∧ 0 < fan.out.fan.code ∧ doorOpen fan = false ∧ hasFault .fanStall fan = false) ∧
      (dry.boiler.state = .dryFault ∧ hasFault .boilerDry dry = false ∧ hasFault .levelSense dry = false ∧
        lowCovered dry = false ∧ lowCovered (settled .boilerLow false dry) = true) ∧
      hasFault .boilerDry (withFault .boilerDry dry) = true := by decide

/-- R85 on the states of the tests: a granted path with its RUNNING channel. -/
theorem pathSound_flowing (c : Chan) (d : Dose) (h : c ≠ .ch3) : PathSound (flowing c d up) := by
  refine ⟨fun c' hc => ?_, fun e => ?_⟩
  · cases c <;> cases c' <;> first
      | exact absurd rfl h
      | exact absurd rfl hc
      | exact ⟨fun _ => rfl, fun _ => rfl⟩
      | exact ⟨fun e => (by cases e), fun e => (by cases e)⟩
  · cases e; exact h rfl

/-- A dose that runs and one that waits; a top-up of which a part is not yet charged. -/
theorem witness_ChargesAreConserved_cancelled :
    (let s := flowing .ch0 (dose .single .boilerControl 5) up
     (chan s .ch0).state = .running ∧ s.water.path = .granted .ch0 ∧ (cancelDose .ch0 s).water.path = .settling ∧
       (dose .single .boilerControl 5).charged ≠ (dose .single .boilerControl 5).delivered ∧
       (cancelDose .ch0 s).scale.deposit = 58) ∧
      (chan (requesting .ch0 (dose .single .boilerControl 5) up) .ch0).state ≠ .running := by decide +kernel

/-- The rows of a tick that is due, and of one that is not. -/
theorem witness_IdleStepPassesAMicrosecond_due :
    Instr.settleEnd ∈ due (settling 500000) ∧ Instr.settleEnd ∉ due (settling 499999) ∧
      Instr.flowPulse ∉ due (settling 500000) := by decide +kernel

/-- A water fault in a stage that uses steam and goes on. -/
theorem witness_RunFaultsActAtTheEndOfAStep_degraded :
    let s := withFault .boilerDry inRun
    runActive s = true ∧ fatalFault s = none ∧ hasFault .boilerDry s = true ∧ s.ret.run.steamLost = false ∧
      (currentStage s).usesSteam = true ∧ s.ret.run.degraded = false ∧
      (settle s).ret.run.stageIndex = s.ret.run.stageIndex ∧ (settle s).ret.run.state ≠ .idle ∧
      (settle s).ret.run.degraded = true := by decide

/-- The raw samples of a period whose boiler sensor is open. -/
def openBoiler : RawSamples := ⟨2000, 2000, 4095, 2000, 2000, 2000, 700⟩

/-- SENSOR_BOILER begins in a period, READY and in STARTING. -/
theorem witness_SamplePeriodMeasures_boiler :
    let s : State := { up with meas := { up.meas with chans := { up.meas.chans with boiler := { upper with bad := 2 } } } }
    samplePeriodDue s = true ∧ hasFault .sensorBoiler s = false ∧ s.start.ready = true ∧
      leaves (exec (.samplePeriod openBoiler) s) (fun t => hasFault .sensorBoiler t) = true ∧
      State.reset.start.ready = false := by decide +kernel

/-- The path granted and free at a loss, without a drain and with one. -/
theorem witness_MainsLostStopsWindows_charges :
    (let s := flowing .ch0 (dose .block .descale 5) (edge 30000 0)
     (chan s .ch3).state ≠ .running ∧ s.water.path = .granted .ch0 ∧
       (chan s .ch0).dose = some (dose .block .descale 5) ∧
       leaves (exec .mainsLost s) (fun t => decide (t.scale.deposit = 58)) = true) ∧
      (edge 30000 0).water.path = .free ∧
      (∀ d, (chan (drained .descale (edge 30000 0)) .ch3).dose = some d → d.effective = .out) := by
  refine ⟨by decide +kernel, rfl, fun d h => ?_⟩
  cases h; rfl

/-- The last pulse of the boiler's fill, BOILER_HIGH covered and not, and of a top-up. -/
theorem witness_FlowPulsesCount_fill :
    (let s := flowing .ch0 (dose .demand .boilerControl 1) up
     (dose .demand .boilerControl 1).remaining = 1 ∧ highCovered s = false ∧ s.ret.descale.phase = .idle ∧
       leaves (exec .flowPulse s) (fun t => decide (t.boiler.state = .dryFault) && hasFault .levelSense t) = true ∧
       highCovered (settled .boilerHigh false s) = true ∧
       leaves (exec .flowPulse (settled .boilerHigh false s)) (fun t => decide (t.boiler.state = .heating)) = true) ∧
      (dose .single .boilerControl 1).mode ≠ .demand := by decide +kernel

/-- The last pulse of a rinse's flush: CH0 free, CH0 held, the boiler dry. -/
theorem witness_FlowPulsesCount_flush :
    let s := flowing .ch2 (dose .flush .descale 1) (rinsing .rinse1 .flush)
    (dose .flush .descale 1).reload = false ∧ (chan s .ch0).state ≠ .running ∧ s.ret.descale.step = some .flush ∧ holdsDose s .ch0 = false ∧
      s.boiler.state ≠ .dryFault ∧
      leaves (exec .flowPulse s)
        (fun t => decide (t.ret.descale.step = some .fill) && decide (t.boiler.state = .filling)) = true ∧
      (let h := requesting .ch0 (dose .demand .boilerControl 9) s
       holdsDose h .ch0 = true ∧ modeIs .single (chan h .ch0) = false) ∧
      leaves (exec .flowPulse (boilerIn .dryFault false s)) (fun t => decide (t.ret.descale.stall = .dry)) = true := by
  decide +kernel

/-- The flap at the change from PREHEAT to HOLD: a mode with a fixed rule, its end reached or not or the flap's already, and
a cavity that is not at its setpoint. -/
theorem witness_LoopAndDemand_vent :
    let s := regulating .preheat .convection 950 45 up
    (modeRow .convection).vent = some .opened ∧ s.climate.state = .preheat ∧ s.climate.direction = .up ∧
      s.out.vent.state.isFor .opened = false ∧ endReached .opened s = false ∧
      (regulatorWindow s).1.out.vent = { state := .opening, target := .opened, travel := 0 } ∧
      (regulatorWindow (setInput .ventOpenEnd (InputLine.at true) s)).1.out.vent.state = .opened ∧
      (regulatorWindow (regulating .preheat .convection 949 45 up)).1.out.vent = up.out.vent ∧
      (regulating .preheat .steam 950 45 up).out.vent.state.isFor .closed = true := by decide

/-- The LEVEL stall of DRAIN_AGENT and of a rinse's step DRAIN, and a drain of the boiler's own, which stalls nothing. -/
theorem witness_DrainsEnd_stalls :
    let covered := setInput .boilerLow (InputLine.at true)
    let ends := fun (r : Requester) (s : State) (p : State → Bool) =>
      leaves (exec .drainTerminalCount (drained r (covered s))) p
    lowCovered (covered up) = true ∧
      ends .descale (atPhase .drainAgent up) (fun t => decide (t.ret.descale.stall = .level)) = true ∧
      ends .descale (rinsing .rinse2 .drain) (fun t => decide (t.ret.descale.stall = .level)) = true ∧
      ends .boilerControl (atPhase .drainAgent up) (fun t => decide (t.ret.descale.stall = .none)) = true ∧
      ends .descale (boilerIn .dryFault true (rinsing .rinse1 .drain)) (fun t => t.boiler.drainPending) = true := by
  decide

/-- A pulse of a vent drive: the flap's target not reached, and reached. -/
theorem witness_ForcesAndPulsesEnd_ventPulse :
    let s : State := { inService with out := { inService.out with pulse := some ⟨[.ventOpenDrive], 0, false⟩ } }
    [Output.ventOpenDrive].any isVentDrive = true ∧ endReached s.out.vent.target s = false ∧
      (endPulse s).out.vent.state = .closing ∧
      (let t := setInput .ventClosedEnd (InputLine.at true) s
       endReached t.out.vent.target t = true ∧ (endPulse t).out.vent.state = .closed) := by decide

/-- A link that joins the set of a kind whose condition holds, with and without an entry of the kind, and one that joins
the set of a kind whose condition does not hold. -/
theorem witness_EventCommands_joins :
    let s : State :=
      { up with
        events :=
          { up.events with
            conditions := [⟨.trayFull, some 3⟩]
            queues := { up.events.queues with service := [entry .stageStarted false] } } }
    let sets := fun s : State => exec (.setSteering .panel [1, BitVec.ofNat 8 EventKind.trayFull.number, 7]) s
    conditionHolds .trayFull s = true ∧ (steeringOf s.events.steering .trayFull).service = false ∧
      leaves (sets s) (fun t => decide (t.events.queues.service =
        [entry .stageStarted false, { entry .trayFull false with count := 1, time := seconds s, argument := some 3 }])) =
          true ∧
      leaves (sets { s with events := { s.events with queues := { s.events.queues with service := [entry .trayFull true] } } })
        (fun t => decide (t.events.queues.service =
          [{ entry .trayFull false with time := seconds s, argument := some 3 }])) = true ∧
      conditionHolds .trayFull up = false ∧ leaves (sets up) (fun t => decide (t.events.queues = up.events.queues)) = true :=
  by decide

/-- R172: what the first readings and the loaded record raise at a reset, and the queues that are empty otherwise. -/
theorem witness_ResetSetsThePart_queues :
    let s : State :=
      { atPhase .awaitAgent queued with
        inputs := { up.inputs with trayFull := ⟨true, false, 0⟩, thermalCutout := ⟨true, false, 0⟩, tankPresent := ⟨false, true, 0⟩ } }
    let line : ResetCause := ⟨false, false, true, 0, initialStraps⟩
    s.start.latch = true ∧
      leaves (exec (.reset line) s)
        (fun t => decide (t.events.queues.panel.map Entry.kind = [.faultActive, .trayFull, .tankMissing, .descalePrompt]) &&
          decide (t.events.queues.service.map Entry.kind = [.faultActive])) = true ∧
      leaves (exec (.reset line) queued) (fun t => decide (t.events.queues = .all [])) = true := by decide

/-- An abort before the first pulse of a draw that has stalled FLOW, and one with a fill that is held. -/
theorem witness_DescaleCommands_clean :
    let held := requesting .ch0 (dose .block .descale 9) (atPhase .draw up)
    let faulted : State :=
      { held with water := { held.water with chans := held.water.chans.set .ch0 ⟨.fault, some (dose .block .descale 9)⟩ } }
    Reaches .panel 0x22 [] faulted ∧ faulted.marker = false ∧ requesterIs .descale (chan faulted .ch0) = true ∧
      leaves (exec (.descaleAbort .panel []) faulted) (fun t => decide ((chan t .ch0).state = .fault)) = true ∧
      holdsFor held .ch0 .descale = true ∧
      leaves (exec (.descaleAbort .panel []) held) (fun t => decide ((chan t .ch0).state = .idle)) = true := by decide

/-- A RUNNING channel without flow on a sound path. -/
theorem witness_SettleEndAndNoFlow_charges :
    PathSound (dryFlow (dose .demand .boilerControl 9)) ∧
      leaves (exec .noFlow (dryFlow (dose .demand .boilerControl 9))) (fun t => decide (t.scale.deposit = 57)) = true :=
  ⟨pathSound_flowing .ch0 _ (by decide), by decide +kernel⟩

/-- A burst that runs at the end of its stage and of its run, and the raises of an entry and of an end. -/
theorem witness_StagesEnd_burst :
    let s := flowing .ch1 { dose .block .program 5 with destination := .nozzle } (inProgram [steamStage])
    (chan s .ch1).state = .running ∧ (closeStage s).ret.run.steamUsed = 322 ∧ (chan inRun .ch1).state ≠ .running ∧
      (stageAt inRun 0).ending = .confirm ∧ (steeringOf inRun.events.steering .stageStarted).panel = true ∧
      (steeringOf inRun.events.steering .confirmAwaited).panel = true ∧
      (steeringOf inRun.events.steering .programEnded).panel = true := by decide +kernel

theorem witness_RunsEnd_burst :
    PathSound (flowing .ch1 (dose .block .program 5) up) ∧
      (endRun .userStop none (flowing .ch1 (dose .block .program 5) inRun)).ret.run.steamUsed = 322 :=
  ⟨pathSound_flowing .ch1 _ (by decide), by decide +kernel⟩

/-- The entry of stage 0 with the door open and the mains LOST. -/
theorem witness_StartBeginsARun_causes :
    let s := settled .door false { inRun with meas := { inRun.meas with mainsPresent := false } }
    (enterStage 0 true s).2 = true ∧ doorOpen s = true ∧ s.meas.mainsPresent = false := by decide

/-- ADJUST of a reached run: a setpoint that is taken, one that is clamped, in the band and outside it; a delta that is
limited; HOLD and PAUSED. -/
theorem witness_AdjustAndInject_marks :
    let s : State := { inRun with climate := { inRun.climate with state := .hold, tempReached := true } }
    Reaches .panel 0x14 [0, 1, 0, 1, 0x03, 0xE8, 0, 0, 0, 0, 0] s ∧ adoptSetpoint .steam 1000 = 1000 ∧
      adoptSetpoint .steam 2000 ≠ 2000 ∧ adoptMoisture .combi (some 95) ≠ some 95 ∧
      (s.climate.tempReached = true ∧ s.meas.cavity < 1000 - 50) ∧
      leaves (exec (.adjust .panel [0, 1, 0, 1, 0x03, 0xE8, 0, 0, 0, 0, 0]) s)
        (fun t => decide (t.climate.state = .preheat)) = true ∧
      (let h : State := { s with meas := { s.meas with cavity := 1000 } }
       ¬(h.meas.cavity < 1000 - 50 ∨ (1000 : Int) + 50 < h.meas.cavity)) ∧
      min ((600 : Int) + max (-(600 - 0 - 1)) (min 5000 3600)) 86400 ≠ 600 + 5000 := by decide

/-- The door opening on a working and on an idle regulator, and closing on a run that only DOOR pauses. -/
theorem witness_InputsChange_door :
    (let s := settled .door true inRun
     (s.inputs.get .door).raw = true ∧ runActive s = true ∧ s.ret.run.causes.isEmpty = true ∧ working s = true ∧
       (steeringOf s.events.steering .doorOpened).panel = true) ∧
      working (settled .door true up) = false ∧
      (let s := settled .door false (pausedRun ⟨true, false, false, false⟩ 9)
       let s : State := { s with climate := { s.climate with state := .paused, returnState := some .hold } }
       (s.inputs.get .door).raw = false ∧ runActive s = true ∧ s.ret.run.causes = ⟨true, false, false, false⟩ ∧
         s.ret.run.deferredBurst = none ∧ s.climate.state = .paused ∧ s.climate.returnState = some .hold ∧
         leaves (exec (.inputChange .door) s)
           (fun t => decide (t.climate.state = .hold) && decide (t.ret.run.state = .running)) = true) ∧
      (settled .door false inRun).climate.state ≠ .paused ∧ (settled .door false inRun).ret.run.causes.door = false := by
  decide

/-- BOILER_HIGH over a descale's fill and a top-up, and a low source over a RUNNING dose and over none. -/
theorem witness_InputsChange_charges :
    (let s := settled .boilerHigh true (flowing .ch0 (dose .block .descale 9) (atPhase .draw up))
     holdsFor s .ch0 .descale = true ∧ (chan s .ch0).state ≠ .suspended ∧ s.water.path = .granted .ch0) ∧
      (let s := settled .boilerHigh true (flowing .ch0 (dose .single .boilerControl 9) up)
       holdsFor s .ch0 .boilerControl = true ∧ modeIs .single (chan s .ch0) = true) ∧
      (let s := settled .tankFloat true (flowing .ch0 (dose .block .descale 9) up)
       s.water.path = .granted .ch0 ∧ (dose .block .descale 9).source = some .tank ∧ sourceLow .tank s = false ∧
         leaves (exec (.inputChange .tankFloat) s)
           (fun t => decide (t.scale.deposit = 57) && decide (t.water.path = .settling)) = true) ∧
      up.water.path ≠ .granted .ch0 := by decide +kernel

theorem witness_InputsChange_path :
    PathSound (settled .tankFloat true (flowing .ch0 (dose .block .descale 9) up)) :=
  pathSound_flowing .ch0 _ (by decide)

/-- A run that resumes: the regulator OFF, the door closed and open, the temperature reached and not. -/
theorem witness_StartingEnds_climate :
    startingRun.climate.state = .off ∧ doorOpen startingRun = false ∧ doorOpen (settled .door false startingRun) = true ∧
      startingRun.ret.run.tempReached = false ∧
      leaves (exec .startingEnd startingRun) (fun t => decide (t.climate.state = .preheat)) = true ∧
      leaves
        (exec .startingEnd
          { startingRun with ret := { startingRun.ret with run := { startingRun.ret.run with tempReached := true } } })
        (fun t => decide (t.climate.state = .hold)) = true := by decide

/-! ## Witnesses of due rows, requests and records -/

/-- The group and the frequency wait that are not due, and a run while the frequency decides. -/
theorem witness_FrequencyIsDecided_due :
    groupTimeoutDue up = false ∧ frequencyTimeoutDue up = false ∧
      (let s : State := { undecided 10000 15 150000 true with ret := (pausedRun ⟨false, false, false, true⟩ 0).ret }
       runActive s = true ∧ s.ret.run.causes.mains = true ∧ edgeAccepted s.meas = true) := by decide

/-- The return of the mains in a run that MAINS alone pauses, in one that DOOR pauses too, and without a run. -/
theorem witness_ZeroCrossBeginsAHalfCycle_mains :
    let back := fun s : State =>
      { s with
        meas := { (edge 10000 0).meas with mainsPresent := false }, out := (edge 10000 0).out
        start := { s.start with outageTimer := 7 } }
    let s := back (pausedRun ⟨false, false, false, true⟩ 0)
    let d := back (pausedRun ⟨true, false, false, true⟩ 0)
    runActive s = true ∧
      leaves (exec .zeroCross s) (fun t => decide (t.ret.run.state = .running) && decide (t.start.outageTimer = 0)) = true ∧
      runActive d = true ∧ d.ret.run.causes ≠ ⟨false, false, false, true⟩ ∧
      leaves (exec .zeroCross d) (fun t => decide (t.ret.run.causes = ⟨true, false, false, false⟩)) = true ∧
      runActive (back up) = false := by decide +kernel

/-- Rows of the fan drive and of the flap that are not due, and the one entry of a forced output. -/
theorem witness_FanDriveRuns_notDue :
    (fanIn .running 1999999 0 199999 up).out.fan.tickClock < 200000 ∧
      (fanIn .running 1999999 0 199999 up).out.fan.stallTimer < 2000000 ∧ reversalDue up = false ∧
      (fanIn .braking 0 999999 0 up).out.fan.slowTimer < 1000000 := by decide
theorem witness_VentStuckAndLamp_notDue : up.out.vent.travel < 5000000 := by decide
theorem witness_ForcesAndPulsesEnd_entry :
    (forcedTop.out.forces.map ForceEntry.output).Nodup ∧
      forceEntry .top forcedTop = some { output := .top, level := true, age := 30000000, phase := .firing, ended := false } := by
  decide

/-- A drain that leaves the boiler uncovered: HEATING before it, and the drains of both rinses, CH2 free and held. -/
theorem witness_DrainsEnd_goesOn :
    let ends := fun (s : State) (p : State → Bool) => leaves (exec .drainTerminalCount (drained .descale s)) p
    lowCovered (boilerIn .draining true up) = false ∧
      ends (boilerIn .draining true up) (fun t => !t.boiler.drainPending) = true ∧
      holdsDose (drained .descale (rinsing .rinse1 .drain)) .ch2 = false ∧
      ends (rinsing .rinse1 .drain) (fun t => decide (t.ret.descale.phase = .rinse2) && holdsDose t .ch2) = true ∧
      (let h := requesting .ch2 (dose .flush .prime 9) (rinsing .rinse1 .drain)
       holdsDose (drained .descale h) .ch2 = true ∧
         ends h (fun t => decide (t.work.dose = some (.ch2, .millilitres 150))) = true) ∧
      (steeringOf up.events.steering .descaleEnded).panel = true ∧
      ends (rinsing .rinse2 .drain) (fun t => decide (t.ret.descale.phase = .idle)) = true := by decide +kernel

/-- A paused regulator with a record, and an end of the climate in a hot cavity and in a cool one. -/
theorem witness_ClimateFollowsTheRun_requests :
    pausedClimate.climate.record.isSome = true ∧ (600 : Int) ≤ hotRun.meas.cavity ∧ inRun.meas.cavity < 600 ∧
      (endClimate hotRun).out.vent.state.isFor .opened = true := by decide

/-- The confirms of the awaiting phases: CH0 free, with a top-up and with a fill, CH2 held. -/
theorem witness_DescaleCommands_requests :
    let agent := atPhase .awaitAgent up
    let fill := requesting .ch0 (dose .demand .boilerControl 9) agent
    let rinse := requesting .ch2 (dose .flush .prime 9) (atPhase .awaitRinse up)
    holdsDose agent .ch0 = false ∧
      leaves (exec (.descaleConfirm .panel [2]) agent) (fun t => holdsFor t .ch0 .descale) = true ∧
      (let s := requesting .ch0 (dose .single .boilerControl 9) agent
       holdsFor s .ch0 .boilerControl = true ∧ modeIs .single (chan s .ch0) = true) ∧
      (holdsDose fill .ch0 = true ∧ modeIs .single (chan fill .ch0) = false ∧ Reaches .panel 0x21 [2] fill ∧
        leaves (exec (.descaleConfirm .panel [2]) fill)
          (fun t => decide (t.work.dose = some (.ch0, .millilitres 500))) = true) ∧
      holdsDose rinse .ch2 = true ∧ Reaches .panel 0x21 [6] rinse ∧
      leaves (exec (.descaleConfirm .panel [6]) rinse)
        (fun t => decide (t.work.dose = some (.ch2, .millilitres 150))) = true := by decide +kernel

/-- A stage with a burst. -/
def burstStage : Stage := { steamStage with burst := some 60 }

/-- The entry of a stage in a run: its burst taken in a hot cavity, refused in a cold one and waiting for the door; a
degraded stage; a CORE stage without the probe; a stage that meets an empty tank. -/
theorem witness_StagesEnd_takesUp :
    let s : State := { inProgram [steamStage, burstStage] with meas := hotRun.meas }
    let cold := inProgram [steamStage, burstStage]
    let door : State := { s with ret := { s.ret with run := { s.ret.run with causes := ⟨true, false, false, false⟩ } } }
    let lost : State := { s with ret := { s.ret with run := { s.ret.run with steamLost := true } } }
    let enter := fun s : State => (enterStage 1 false s).1
    runActive s = true ∧ (stageAt s 1).burst = some 60 ∧ holdsDose (enter s) .ch1 = true ∧
      holdsDose (enter cold) .ch1 = false ∧ (steeringOf cold.events.steering .steamDegraded).panel = true ∧
      (enter door).ret.run.deferredBurst = some 60 ∧ (enter lost).ret.run.degraded = true ∧
      (enter (inProgram [steamStage, { steamStage with ending := .core, core := some 600 }])).ret.run.causes.probe = true ∧
      (enter { s with inputs := { s.inputs with tankFloat := .at true } }).ret.run.causes.water = true := by decide +kernel

/-- Stage 0 of a START in an active run, and the faults that bar a program by its modes. -/
theorem witness_StartBeginsARun_takesUp :
    (enterStage 0 true inRun).2 = true ∧ runActive inRun = true ∧
      startBarred [steamStage] (withFault .fanStall up) = true ∧
      startBarred [{ steamStage with mode := .grill }] (withFault .fanStall up) = false ∧
      startBarred [{ steamStage with mode := .grill }] (withFault .levelSense up) = false ∧
      startBarred [] (withFault .sensorCavity up) = true := by decide

/-- An ADJUST without fields, and one of the moisture alone, in a mode with a range and in one without. -/
theorem witness_AdjustAndInject_fields :
    Reaches .panel 0x14 [0, 1, 0, 0, 0, 0, 0, 0, 0, 0, 0] inRun ∧ (0 : Byte).toNat.testBit 0 = false ∧
      Reaches .panel 0x14 [0, 1, 0, 4, 0, 0, 0, 0, 0, 0, 50] inRun ∧ (4 : Byte).toNat.testBit 2 = true ∧
      (modeRow .steam).moisture = none ∧ (modeRow .combi).moisture = some (20, 90) ∧
      adoptMoisture .combi (some 95) = some 90 := by decide

/-- The door opening under remote permission, closing on a deferred burst and on a record, and the service connector's
removal under service unlock. -/
theorem witness_InputsChange_requests :
    (let s : State := settled .door true { inRun with prot := { inRun.prot with remotePermission := true } }
     s.prot.remotePermission = true ∧ inputChangeDue .door s = true ∧
       (steeringOf s.events.steering .lockChanged).panel = true ∧
       leaves (exec (.inputChange .door) s)
         (fun t => t.events.queues.panel.any (fun e => decide (e.kind = .lockChanged))) = true) ∧
      (let p := pausedRun ⟨true, false, false, false⟩ 9
       let s : State :=
         settled .door false
           { p with
             climate := pausedClimate.climate, meas := hotRun.meas
             ret := { p.ret with run := { p.ret.run with deferredBurst := some 60 } } }
       s.ret.run.deferredBurst = some 60 ∧ s.climate.record.isSome = true ∧ s.climate.returnState = some .hold ∧
         leaves (exec (.inputChange .door) s) (fun t => holdsDose t .ch1 && decide (t.out.fan.code = 6)) = true) ∧
      (let s := settled .servicePresent false inService
       inputChangeDue .servicePresent s = true ∧ s.prot.serviceUnlock = true ∧
         leaves (exec (.inputChange .servicePresent) s)
           (fun t => t.events.queues.panel.any (fun e => decide (e.kind = .lockChanged))) = true) := by decide +kernel

/-- A code of each group, and a setting of each. -/
theorem witness_CommandsAreDecidedInOrder_groups :
    up.start.ready = true ∧ commandLocked 0x13 [] .network up = false ∧ commandLocked 0x22 [] .network up = true ∧
      commandLocked 0x36 [1] .panel up = false ∧ commandLocked 0x30 [4, 0, 0, 0, 0] .panel up = false ∧
      commandLocked 0x30 [19, 0, 0, 0, 0] .panel up = true ∧ commandLocked 0x30 [2, 0, 0, 0, 0] .service inService = false ∧
      commandLocked 0x42 [] .service inService = false ∧ commandLocked 0x31 [] .panel up = false ∧
      commandLocked 0x33 [] .service up = false := by decide

theorem witness_ReadCommandsReply_numbers : 20 < 21 ∧ settingValue up.settings 21 = none := by decide

/-- R168: of two entries asked for, the edge entry leaves the queue, the holding one stays in its place, reported, and what
follows them is as it was. -/
theorem witness_EventCommands_left :
    let edges : Entry := { entry .doorOpened false with standing := .edge }
    let ended : Entry := { entry .tankMissing false with standing := .ended }
    let q := [entry .trayFull true, edges, entry .waterEmpty false, ended]
    let s : State := { up with events := { up.events with queues := { up.events.queues with panel := q } } }
    portOpen s .panel ∧
      leaves (exec (.fetchEvents .panel [2]) s)
        (fun t => decide (t.events.queues.panel = [entry .trayFull true, entry .waterEmpty true, ended])) = true ∧
      leaves (exec (.fetchEvents .panel [3]) s)
        (fun t => decide (t.events.queues.panel = [entry .trayFull true, entry .waterEmpty true])) = true := by decide

/-- R191: the numbers next to the range of the settings. -/
theorem witness_SettingsAreWritten_numbers :
    portOpen up .network ∧ up.start.ready = true ∧ (0 : Byte).toNat = 0 ∧ 19 < (20 : Byte).toNat := by decide

/-- Resumes: a run with a cause that stays and one that is new, a CONFIRM stage of a program that uses steam, a deferred
burst with the door closed and open; a lost run, and a lost run of the summary. -/
theorem witness_StartingEnds_settled :
    let retained := fun r : RunContext => { startingRun with ret := { startingRun.ret with run := r } }
    let r := startingRun.ret.run
    let waits : State := retained { r with deferredBurst := some 60, causes := ⟨true, false, false, false⟩, doorTimer := 9 }
    (fatalFault startingRun = none ∧ steamFault startingRun = false ∧ startingRun.meas.mainsPresent = false ∧
      (currentStage startingRun).ending = .confirm ∧ programUsesSteam (runStages startingRun) = true ∧
      leaves (exec .startingEnd startingRun)
        (fun t => t.ret.run.causes.mains && decide (t.ret.run.state = .paused) && !t.boiler.drainPending &&
          t.events.queues.panel.any (fun e => decide (e.kind = .resumedAfterDip))) = true) ∧
      (startingEndDue waits = true ∧ doorOpen waits = false ∧
        leaves (exec .startingEnd waits)
          (fun t => decide (t.ret.run.deferredBurst = none) && decide (t.ret.run.doorTimer = 0)) = true) ∧
      (doorOpen (settled .door false waits) = true ∧
        leaves (exec .startingEnd (settled .door false waits))
          (fun t => decide (t.ret.run.deferredBurst = some 60) && decide (t.ret.run.doorTimer = 9)) = true) ∧
      (let s : State := { startingRun with start := { startingRun.start with outage := 121 } }
       mayResume s = false ∧ (s.ret.slots.get s.ret.run.slot).state = .inUse ∧
         leaves (exec .startingEnd s)
           (fun t => decide ((t.ret.slots.get 0).state = .loaded) &&
             t.events.queues.panel.any (fun e => decide (e.kind = .programEnded))) = true) ∧
      (let s : State :=
         { starting with start := { starting.start with summary := ⟨7, some ⟨0, 1, 2, 30, 0, false⟩⟩ } }
       s.start.retentionValid = false ∧
         leaves (exec .startingEnd s)
           (fun t => t.events.queues.panel.any (fun e => decide (e.kind = .programEnded))) = true) := by decide +kernel

/-- Holds that are released: by a fill's and a drain's terminal count with NO_FLOW in the fault set, and by a boiler that is
needed again; and a hold that stays while the boiler is needed on. -/
theorem witness_BoilerWork_releases :
    let held := fun (needed : Bool) (s : State) =>
      ({ s with boiler := { s.boiler with fillHeld := true, topUpHeld := true, wasNeeded := needed } } : State)
    let faulted := held false (withFault .noFlow up)
    (let s := flowing .ch1 (dose .block .program 1) faulted
     s.water.path = .granted .ch1 ∧ hasFault .noFlow s = true ∧ s.meas.pulseSeen = false ∧
       leaves (exec .flowPulse s) (fun t => !t.boiler.fillHeld && !t.boiler.topUpHeld) = true) ∧
      (let s := drained .boilerControl faulted
       drainCountDue s = true ∧
         leaves (exec .drainTerminalCount s) (fun t => !t.boiler.fillHeld && !t.boiler.topUpHeld) = true) ∧
      hasFault .noFlow (held false up) = false ∧ (settle (held false up)).boiler.fillHeld = true ∧
      boilerNeeded inRun = true ∧ (settle (held false inRun)).boiler.fillHeld = false ∧
      (settle (held true inRun)).boiler.topUpHeld = true := by decide +kernel

/-- The marked abort: a RUNNING draw, whose 641 pulses are charged before the credit; none, with CH3 held, with the tank
away and over a boiler in DRY_FAULT; and the reference's 27,490 mg at 840 of 1260 s. -/
theorem witness_DescaleCommands_marked :
    let marked := fun (elapsed : Nat) (s : State) =>
      ({ s with
         marker := true, scale := { s.scale with deposit := 27490 }
         ret := { s.ret with descale := { s.ret.descale with elapsed := elapsed } } } : State)
    let aborts := fun (s : State) (p : State → Bool) => leaves (exec (.descaleAbort .panel []) s) p
    (let s := marked 0 (flowing .ch0 (dose .block .descale 9) (atPhase .draw up))
     Reaches .panel 0x22 [] s ∧ holdsFor s .ch0 .descale = true ∧ (chan s .ch0).state = .running ∧
       (dose .block .descale 9).mode ≠ .flush ∧ (dose .block .descale 9).destination = .boiler ∧
       aborts s (fun t => decide (t.scale.deposit = 27547) && decide ((chan t .ch0).state = .idle) &&
         decide (t.water.path = .settling) && decide (t.boiler.state = .draining) && holdsFor t .ch3 .descale) = true) ∧
      (let s := marked 840 (atPhase .soak up)
       holdsDose s .ch0 = false ∧ holdsDose s .ch3 = false ∧ tankPresent s = true ∧
         aborts s (fun t => decide (t.scale.deposit = 9164) && holdsFor t .ch3 .descale) = true ∧
         holdsDose (drained .boilerControl s) .ch3 = true ∧
         aborts (drained .boilerControl s) (fun t => t.work.drain) = true ∧
         aborts (boilerIn .dryFault false s) (fun t => decide (t.boiler.state = .dryFault)) = true ∧
         aborts { s with inputs := { s.inputs with tankPresent := .at false } } (fun t => t.work.drain) = true) ∧
      (let s := marked 0 (requesting .ch0 (dose .block .descale 9) (atPhase .draw up))
       holdsFor s .ch0 .descale = true ∧ (chan s .ch0).state ≠ .running ∧
         aborts s (fun t => decide (t.scale.deposit = 27490)) = true) := by decide +kernel

/-- The tank put back while the descale controller's drain waits, and away still; a low tank that is refilled then, with a
top-up on CH0 that the drain's load ends. -/
theorem witness_InputsChange_drain :
    let waits := fun s : State => ({ s with work := { s.work with drain := true } } : State)
    let back := settled .tankPresent true (waits (atPhase .drainAgent up))
    (inputChangeDue .tankPresent back = true ∧ holdsDose back .ch3 = false ∧ sourceLow .tank back = true ∧
      tankInUse back = true ∧
      leaves (exec (.inputChange .tankPresent) back)
        (fun t => !t.work.drain && holdsFor t .ch3 .descale && decide (t.boiler.state = .draining)) = true) ∧
      (let s := settled .tankPresent false (waits (atPhase .drainAgent up))
       inputChangeDue .tankPresent s = true ∧ leaves (exec (.inputChange .tankPresent) s) (fun t => t.work.drain) = true) ∧
      (let s := settled .tankFloat true (waits (boilerIn .heating false (flowing .ch0 (dose .single .boilerControl 9) up)))
       sourceLow .tank s = false ∧ holdsFor s .ch0 .boilerControl = true ∧ modeIs .single (chan s .ch0) = true ∧
         s.boiler.state = .heating ∧
         leaves (exec (.inputChange .tankFloat) s)
           (fun t => decide (chan t .ch0 = ⟨.idle, none⟩) && decide (t.scale.deposit = 57)) = true) := by decide +kernel

/-- R129: the rows of the recovery with the marker set and clear, with the tank in its bay and away. -/
theorem witness_StartingEnds_recovery :
    let marked := fun (valid : Bool) (p : DescalePhase) =>
      (let s := atPhase p startingAgent
       { s with
         scale := { s.scale with deposit := 27490 }, start := { s.start with retentionValid := valid }
         ret := { s.ret with descale := { s.ret.descale with elapsed := 840 } } } : State)
    let ends := fun (s : State) (p : State → Bool) => leaves (exec .startingEnd s) p
    (startingEndDue (marked true .soak) = true ∧
      ends (marked true .soak) (fun t => decide (t.scale.deposit = 9164) && t.ret.descale.aborted) = true) ∧
      ends (marked true .rinse2) (fun t => decide (t.scale.deposit = 27490) && !t.ret.descale.aborted) = true ∧
      ends (marked false .soak) (fun t => decide (t.scale.deposit = 27490) && t.ret.descale.aborted) = true ∧
      ends (marked true .awaitAgent) (fun t => decide (t.scale.deposit = 27490) && t.ret.descale.aborted) = true ∧
      (tankPresent (marked true .soak) = true ∧
        ends (marked true .soak) (fun t => !t.work.drain && holdsFor t .ch3 .descale) = true) ∧
      (let s := marked true .soak
       ends { s with inputs := { s.inputs with tankPresent := .at false } } (fun t => t.work.drain) = true) ∧
      (let s : State := { marked true .prepare with marker := false }
       s.ret.descale.phase ≠ .idle ∧
         ends s (fun t => decide (t.ret.descale.result = .aborted) && decide (t.scale.deposit = 27490)) = true) := by
  decide +kernel

/-! ## Steps that need the states above -/

/-- R96: a RUNNING drain reaches its charging point when mains becomes LOST, and hands nothing on. -/
theorem test_drain_charged :
    leaves (exec .mainsLost (drained .descale (edge 30000 0)))
      (fun t =>
        (match (chan t .ch3).dose with
          | some d => decide (d.charged = 45) && decide (d.remaining = 0)
          | none => false) && decide (t.scale = up.scale)) = true := by decide

/-- R105, R190: before the derivation a boiler above 1300 raises BOILER_DRY and its state stays EMPTY. -/
theorem test_hot_before_derivation :
    let s : State := { State.reset with meas := measured 999 2000 1000 }
    let t := checkDry s
    t.boiler.state = .empty ∧ t.events.faults = [.boilerDry] ∧ (checkDry t).events = t.events ∧
      (checkDry { t with boiler := { t.boiler with derived := true } }).boiler.state = .dryFault := by decide

/-- R52: a force made anew while the allocation that placed the one before it is still in progress is not marked by it. -/
theorem test_new_force_waits :
    let a := (allocate 50 resetLimits (PerLoad.all 0) .steamFirst (some .top)).result
    let s : State := { forcedTop with share := { forcedTop.share with allocation := some a } }
    leaves (exec .allocationEnd (makeForce .top true (removeForce .top s)))
        (fun t => t.out.forces.all (fun e => decide (e.phase = .placing))) = true := by decide

/-- R182: the byte that ends on the line begins a new 20 ms. -/
theorem test_byte_comes :
    leaves (step { up with ports := .all { Port.initial with state := .receiving, line := [173, 300], quiet := 173 } })
      (fun t => decide ((port t .panel).quiet = 1) && decide ((port t .panel).line = [300])) = true := by decide

/-- R79: a forced vent drive stays stopped once its end switch has read reached, also when the switch opens again. -/
theorem test_vent_stays_stopped :
    let s : State := { inService with out := { inService.out with forces := placeForce .ventOpenDrive true false [] } }
    leaves (exec (.inputChange .ventOpenEnd) (settled .ventOpenEnd true s))
      (fun t => !motorToward .opened (setInput .ventOpenEnd (InputLine.at false) t)) = true := by decide

end Sys2Proof.Tests
end

section
/-! SUPPORT. The conversion of raw values (R2, R3). -/

namespace Sys2Proof.Machine

/-- From its second breakpoint on, a table gives what the table without its first breakpoint gives. -/
theorem interpolate_tail {a b : Nat} {x y : Int} {rest : List (Nat × Int)} {raw : Nat} (hab : a < b) (hb : b ≤ raw) :
    interpolate ((a, x) :: (b, y) :: rest) raw = interpolate ((b, y) :: rest) raw := by
  rw [interpolate, if_neg (by omega)]
  split
  · next hle =>
    obtain rfl : raw = b := Nat.le_antisymm hle hb
    have hd : ((raw : Int) - a) ≠ 0 := by omega
    have hy : interpolate ((raw, y) :: rest) raw = y := by
      cases rest with
      | nil => rfl
      | cons p rest => rw [interpolate, if_pos (Nat.le_refl raw)]
    rw [hy, truncDiv, Int.mul_tdiv_cancel_left _ hd]
    omega
  · rfl

/-- Between two consecutive breakpoints of an ascending table the result lies on the line through them (R2). -/
theorem interpolate_between {table : List (Nat × Int)} (asc : table.Pairwise (fun p q => p.1 < q.1))
    {p : (Nat × Int) × (Nat × Int)} (hp : p ∈ table.zip table.tail) {raw : Nat} (lo : p.1.1 ≤ raw) (hi : raw ≤ p.2.1) :
    interpolate table raw =
      p.1.2 + Int.tdiv (((raw : Int) - p.1.1) * (p.2.2 - p.1.2)) ((p.2.1 : Int) - p.1.1) := by
  induction table with
  | nil => simp at hp
  | cons first rest ih =>
    obtain ⟨a, x⟩ := first
    cases rest with
    | nil => simp at hp
    | cons second rest =>
      obtain ⟨b, y⟩ := second
      obtain ⟨hfirst, hrest⟩ := List.pairwise_cons.mp asc
      have hab : a < b := hfirst (b, y) List.mem_cons_self
      rw [List.tail_cons, List.zip_cons_cons] at hp
      rcases List.mem_cons.mp hp with rfl | hp
      · by_cases hle : raw ≤ a
        · obtain rfl : raw = a := Nat.le_antisymm hle lo
          simp [interpolate]
        · rw [interpolate, if_neg hle, if_pos hi]
          rfl
      · have hb : b ≤ p.1.1 := by
          rcases List.mem_cons.mp (List.of_mem_zip hp).1 with e | hmem
          · rw [e]
          · exact Nat.le_of_lt ((List.pairwise_cons.mp hrest).1 _ hmem)
        rw [interpolate_tail hab (hb.trans lo)]
        exact ih hrest hp

/-- The three breakpoint tables ascend. -/
theorem tables_ascend {table : List (Nat × Int)} (h : table ∈ [tableR, tableN, tableM]) :
    table.Pairwise (fun p q => p.1 < q.1) := by
  fin_cases h <;> decide

/-- A raw value's class (R2). -/
theorem convert_classes (table : List (Nat × Int)) (lo hi offset : Int) (raw : BitVec 12) :
    (convert table lo hi offset raw = .opened ↔ 4000 ≤ raw.toNat) ∧
    (convert table lo hi offset raw = .shorted ↔ raw.toNat ≤ 60) ∧
    (61 ≤ raw.toNat → raw.toNat ≤ 3999 →
      convert table lo hi offset raw = .inRange (max lo (min (interpolate table raw.toNat + offset) hi))) := by
  unfold convert clampInt
  split
  · next h => exact ⟨by simp [h], by simp; omega, by omega⟩
  · next h =>
    split
    · next h' => exact ⟨by simp; omega, by simp [h'], by omega⟩
    · next h' => exact ⟨by simp; omega, by simp; omega, fun _ _ => rfl⟩

/-- Beyond the ends of type M the result is the end's value (R2). -/
theorem interpolate_tableM_beyond {raw : Nat} :
    (raw < 200 → interpolate tableM raw = 0) ∧ (3800 < raw → interpolate tableM raw = 1000) := by
  unfold tableM
  refine ⟨fun h => ?_, fun h => ?_⟩
  · rw [interpolate, if_pos (by omega)]
  · rw [interpolate, if_neg (by omega), if_neg (by omega), interpolate]

/-- Settles O18: the class by cases of the raw value, the line between two breakpoints by induction on the table. -/
theorem rawValuesAreConverted : Obligations.RawValuesAreConverted := by
  unfold Obligations.RawValuesAreConverted
  exact ⟨rfl, rfl, rfl, convert_classes, fun _ ht _ hp _ => interpolate_between (tables_ascend ht) hp,
    fun _ _ => rfl, fun _ _ => rfl, fun _ _ => rfl,
    fun _ => interpolate_tableM_beyond.1, fun _ => interpolate_tableM_beyond.2⟩

end Sys2Proof.Machine
end

section
/-! SUPPORT. What the shared operations make of the fault set, the event queues, the vent flap, the fan drive and the
posted demands: one equation per operation, used by the statements about SAMPLE_PERIOD and the regulator. -/

namespace Sys2Proof.Machine

/-! ## The fault set (R170) -/

theorem hasFault_iff {f : FaultKind} {s : State} : hasFault f s = true ↔ f ∈ s.events.faults := by
  simp [hasFault]

theorem hasFault_congr {s t : State} (h : t.events.faults = s.events.faults) (f : FaultKind) :
    hasFault f t = hasFault f s := by
  unfold hasFault
  rw [h]

/-- A member that no shared operation raises stands in the fault set as before. -/
theorem Kept.hasFault_eq {s t : State} (h : Kept s t) {f : FaultKind} (hf : f.shared = false) :
    hasFault f t = hasFault f s := by
  unfold hasFault
  exact decide_eq_decide.mpr (h.faults f hf)

theorem hasFault_enterFault (f g : FaultKind) (s : State) :
    hasFault g (enterFault f s) = (hasFault g s || decide (g = f)) := by
  unfold enterFault
  split
  · next h =>
    by_cases e : g = f
    · subst e; simp [h]
    · simp [e]
  · by_cases e : g = f <;> simp [hasFault, e]

/-- What is left of the event block when a member leaves depends on the event block alone. -/
theorem leaveFault_events {f : FaultKind} {s t : State} (h : t.events = s.events) :
    (leaveFault f t).events = (leaveFault f s).events := by
  unfold leaveFault hasFault endCondition
  dsimp only
  rw [h]
  split
  · split <;> rfl
  · exact h

theorem hasFault_leaveFault (f g : FaultKind) (s : State) :
    hasFault g (leaveFault f s) = (hasFault g s && decide (g ≠ f)) := by
  unfold leaveFault
  dsimp only
  split
  · split <;> simp [hasFault]
  · next h =>
    by_cases e : g = f
    · subst e; simp [h]
    · simp [e]

/-- The followed member stands as its condition does, and every other one as before (R170). -/
theorem hasFault_followFault (f g : FaultKind) (b : Bool) (s : State) :
    hasFault g (followFault f b s) = if g = f then b else hasFault g s := by
  unfold followFault
  cases b <;> by_cases e : g = f <;> simp [hasFault_enterFault, hasFault_leaveFault, e]

theorem followFault_only (f : FaultKind) (b : Bool) (s : State) :
    followFault f b s = { s with events := (followFault f b s).events } := by
  unfold followFault
  split
  · exact enterFault_only f s
  · exact leaveFault_only f s

/-! ## The event queues (R166 to R168) -/

/-- A link's queue holds an entry of the kind that FETCH_EVENTS has not returned. -/
def Unread (k : EventKind) (l : Link) (s : State) : Prop :=
  ∃ e ∈ s.events.queues.get l, e.kind = k ∧ e.reported = false

/-- The steering table is as before, and no entry that FETCH_EVENTS has not returned is gone. -/
structure EventsKept (s t : State) : Prop where
  steering : t.events.steering = s.events.steering
  unread : ∀ (k : EventKind) (l : Link), Unread k l s → Unread k l t

theorem EventsKept.refl (s : State) : EventsKept s s := ⟨rfl, fun _ _ => id⟩

/-- A move of the fault set's members alone. -/
theorem EventsKept.moved {s : State} {fs : List FaultKind} :
    EventsKept s { s with events := { s.events with faults := fs } } := ⟨rfl, fun _ _ => id⟩

theorem EventsKept.trans {s t u : State} (h : EventsKept s t) (k : EventsKept t u) : EventsKept s u :=
  ⟨k.steering.trans h.steering, fun x l => k.unread x l ∘ h.unread x l⟩

/-- A kind that was raised to its links in `s` is unread in every state that keeps the events. -/
theorem EventsKept.raised {s t u : State} {k : EventKind} {a : Option Byte} (h : EventsKept t u)
    (raised : RaisedTo k a s t) {l : Link} (hl : (steeringOf s.events.steering k).get l = true) : Unread k l u :=
  h.unread k l ((raised l hl).imp fun _ he => ⟨he.1, he.2.1, he.2.2.1⟩)

/-- A raised entry is in the queue, unread, with the raise's argument. -/
theorem placeEntry_raised (k : EventKind) (a : Option Byte) (t : Nat) (q : List Entry) :
    ∃ e ∈ placeEntry k a t q, e.kind = k ∧ e.reported = false ∧ e.argument = a := by
  induction q with
  | nil => exact ⟨_, List.mem_singleton_self _, rfl, rfl, rfl⟩
  | cons x rest ih =>
    unfold placeEntry
    split
    · next hk => exact ⟨_, List.mem_cons_self, hk, rfl, rfl⟩
    · obtain ⟨e, he, h⟩ := ih
      exact ⟨e, List.mem_cons_of_mem _ he, h⟩

/-- A raise takes no unread entry away. -/
theorem placeEntry_unread {k k' : EventKind} (a : Option Byte) (t : Nat) {q : List Entry}
    (h : ∃ e ∈ q, e.kind = k ∧ e.reported = false) : ∃ e ∈ placeEntry k' a t q, e.kind = k ∧ e.reported = false := by
  induction q with
  | nil => simp at h
  | cons x rest ih =>
    obtain ⟨e, he, hk⟩ := h
    unfold placeEntry
    split
    · rcases List.mem_cons.mp he with rfl | he
      · exact ⟨_, List.mem_cons_self, hk.1, rfl⟩
      · exact ⟨e, List.mem_cons_of_mem _ he, hk⟩
    · rcases List.mem_cons.mp he with rfl | he
      · exact ⟨e, List.mem_cons_self, hk⟩
      · obtain ⟨e', he', hk'⟩ := ih ⟨e, he, hk⟩
        exact ⟨e', List.mem_cons_of_mem _ he', hk'⟩

/-- The end of a condition takes no unread entry away (R167). -/
theorem endEntry_unread {k k' : EventKind} {q : List Entry}
    (h : ∃ e ∈ q, e.kind = k ∧ e.reported = false) : ∃ e ∈ endEntry k' q, e.kind = k ∧ e.reported = false := by
  induction q with
  | nil => simp at h
  | cons x rest ih =>
    obtain ⟨e, he, hk⟩ := h
    unfold endEntry
    rcases List.mem_cons.mp he with rfl | he
    · split
      · rw [if_neg (by rw [hk.2]; decide)]
        exact ⟨_, List.mem_cons_self, hk⟩
      · exact ⟨e, List.mem_cons_self, hk⟩
    · split
      · split
        · exact ⟨e, he, hk⟩
        · exact ⟨e, List.mem_cons_of_mem _ he, hk⟩
      · obtain ⟨e', he', hk'⟩ := ih ⟨e, he, hk⟩
        exact ⟨e', List.mem_cons_of_mem _ he', hk'⟩

/-- A raise reaches the queues of its kind's links and no other (R165, R166). -/
theorem raiseEvent_queue (k : EventKind) (a : Option Byte) (s : State) (l : Link) :
    (raiseEvent k a s).events.queues.get l =
      if (steeringOf s.events.steering k).get l then placeEntry k a (seconds s) (s.events.queues.get l)
      else s.events.queues.get l := by
  cases l <;> rfl

theorem raiseEvent_raised (k : EventKind) (a : Option Byte) (s : State) : RaisedTo k a s (raiseEvent k a s) := by
  intro l hl
  rw [raiseEvent_queue, if_pos hl]
  exact placeEntry_raised k a _ _

theorem raiseEvent_eventsKept (k : EventKind) (a : Option Byte) (s : State) : EventsKept s (raiseEvent k a s) := by
  refine ⟨rfl, fun k' l h => ?_⟩
  unfold Unread
  rw [raiseEvent_queue]
  split
  · exact placeEntry_unread a _ h
  · exact h

theorem endCondition_eventsKept (k : EventKind) (s : State) : EventsKept s (endCondition k s) := by
  refine ⟨rfl, fun k' l h => ?_⟩
  have hq : (endCondition k s).events.queues.get l = endEntry k (s.events.queues.get l) := by cases l <;> rfl
  unfold Unread
  rw [hq]
  exact endEntry_unread h

theorem followCondition_eventsKept (k : EventKind) (a : Option Byte) (b : Bool) (s : State) :
    EventsKept s (followCondition k a b s) := by
  unfold followCondition
  split
  · exact .refl s
  · split
    · exact raiseEvent_eventsKept k a s
    · exact endCondition_eventsKept k s

theorem enterFault_eventsKept (f : FaultKind) (s : State) : EventsKept s (enterFault f s) := by
  unfold enterFault
  split
  · exact .refl s
  · exact EventsKept.moved.trans (raiseEvent_eventsKept _ _ _)

theorem leaveFault_eventsKept (f : FaultKind) (s : State) : EventsKept s (leaveFault f s) := by
  unfold leaveFault
  dsimp only
  split
  · split
    · exact EventsKept.moved.trans (endCondition_eventsKept _ _)
    · exact .moved
  · exact .refl s

theorem followFault_eventsKept (f : FaultKind) (b : Bool) (s : State) : EventsKept s (followFault f b s) := by
  unfold followFault
  split
  · exact enterFault_eventsKept f s
  · exact leaveFault_eventsKept f s

/-- Following a condition moves no member of the fault set. -/
theorem followCondition_faults (k : EventKind) (a : Option Byte) (b : Bool) (s : State) :
    (followCondition k a b s).events.faults = s.events.faults := by
  unfold followCondition
  split
  · rfl
  · split <;> rfl

/-! ## The vent flap (R76) -/

/-- The flap after a vent request. -/
def ventAfter (e : VentEnd) (s : State) : VentFlap :=
  if s.out.vent.state.isFor e then s.out.vent
  else
    { state :=
        if endReached e s then (match e with | .opened => VentState.opened | .closed => .closed)
        else (match e with | .opened => VentState.opening | .closed => .closing)
      target := e, travel := 0 }

theorem leaveFault_setVent (f : FaultKind) (v : VentFlap) (s : State) :
    leaveFault f (setVent v s) =
      { s with out := { s.out with vent := v }, events := (leaveFault f s).events } := by
  have same : (leaveFault f (setVent v s)).events = (leaveFault f s).events := leaveFault_events rfl
  rw [leaveFault_only, same]
  rfl

/-- A vent request moves the flap, and takes VENT_STUCK away where the flap arrives at once. -/
theorem requestVent_eq (e : VentEnd) (s : State) :
    requestVent e s =
      { s with
        out := { s.out with vent := ventAfter e s }
        events :=
          if s.out.vent.state.isFor e = false ∧ endReached e s = true then (leaveFault .ventStuck s).events
          else s.events } := by
  unfold requestVent ventAfter
  cases hf : s.out.vent.state.isFor e
  · unfold travelVent arriveVent
    cases he : endReached e s
    · exact rfl
    · simp only [if_true, Bool.false_eq_true, if_false, and_self]
      rw [leaveFault_setVent, leaveFault_setVent]
      rfl
  · simp

@[simp] theorem requestVent_climate (e : VentEnd) (s : State) : (requestVent e s).climate = s.climate := by
  rw [requestVent_eq]
@[simp] theorem requestVent_share (e : VentEnd) (s : State) : (requestVent e s).share = s.share := by
  rw [requestVent_eq]
@[simp] theorem requestVent_boiler (e : VentEnd) (s : State) : (requestVent e s).boiler = s.boiler := by
  rw [requestVent_eq]
@[simp] theorem requestVent_meas (e : VentEnd) (s : State) : (requestVent e s).meas = s.meas := by
  rw [requestVent_eq]
@[simp] theorem requestVent_inputs (e : VentEnd) (s : State) : (requestVent e s).inputs = s.inputs := by
  rw [requestVent_eq]
@[simp] theorem requestVent_ret (e : VentEnd) (s : State) : (requestVent e s).ret = s.ret := by
  rw [requestVent_eq]
@[simp] theorem requestVent_start (e : VentEnd) (s : State) : (requestVent e s).start = s.start := by
  rw [requestVent_eq]
@[simp] theorem requestVent_out (e : VentEnd) (s : State) :
    (requestVent e s).out = { s.out with vent := ventAfter e s } := by
  rw [requestVent_eq]

/-- Of the fault set a vent request moves VENT_STUCK alone. -/
theorem requestVent_hasFault (e : VentEnd) {f : FaultKind} (hf : f ≠ .ventStuck) (s : State) :
    hasFault f (requestVent e s) = hasFault f s := by
  have h := hasFault_leaveFault .ventStuck f s
  simp only [hf, ne_eq, not_false_iff, decide_true, Bool.and_true] at h
  rw [requestVent_eq]
  split
  · exact h
  · rfl

theorem requestVent_eventsKept (e : VentEnd) (s : State) : EventsKept s (requestVent e s) := by
  rw [requestVent_eq]
  split
  · exact ⟨(leaveFault_eventsKept .ventStuck s).steering, (leaveFault_eventsKept .ventStuck s).unread⟩
  · exact ⟨rfl, fun _ _ => id⟩

/-- A flap that has taken a request is at the end asked for or on its way to it. -/
theorem ventAfter_isFor (e : VentEnd) (s : State) : (ventAfter e s).state.isFor e = true := by
  unfold ventAfter
  split
  · next h => exact h
  · cases e <;> dsimp only <;> split <;> rfl

/-- A request for the end the flap is at, or on its way to, changes nothing. -/
theorem ventAfter_same {e : VentEnd} {s : State} (h : s.out.vent.state.isFor e = true) : ventAfter e s = s.out.vent := by
  unfold ventAfter
  rw [if_pos h]

theorem VentState.isFor_iff (v : VentState) :
    (v.isFor .opened = true ↔ v = .opened ∨ v = .opening) ∧ (v.isFor .closed = true ↔ v = .closed ∨ v = .closing) := by
  cases v <;> decide

/-- The flap of `t` is the one a request made in `s` leaves. -/
theorem ventAsked_iff (e : VentEnd) (s t : State) : VentAsked e s t ↔ t.out.vent = ventAfter e s := by
  obtain ⟨ho, hc⟩ := VentState.isFor_iff s.out.vent.state
  unfold VentAsked ventAfter endReached
  cases e
  · simp only [ho]
  · simp only [hc]

/-! ## The relay's request and the fan code (R70, R72) -/

theorem issueFan_eq (code : Nat) (s : State) :
    issueFan code s = { s with out := { s.out with fan := (issueFan code s).out.fan } } := by
  unfold issueFan startFan
  dsimp only
  split
  · split <;> rfl
  · split <;> rfl

/-- The fan code in force is the one issued last. -/
theorem issueFan_code (code : Nat) (s : State) : (issueFan code s).out.fan.code = code := by
  unfold issueFan startFan
  dsimp only
  split
  · split <;> rfl
  · split <;> rfl

/-- What the states that do not work call for (R38, R44, R47): relay open, fan code 0 and the vent request `e`. -/
def restOutputs (e : VentEnd) (s : State) : State := requestVent e (issueFan 0 (askRelay false s))

theorem restOutputs_climate (e : VentEnd) (s : State) :
    (restOutputs e s).climate = { s.climate with relayAsk := false } := by
  unfold restOutputs
  rw [requestVent_climate, issueFan_eq]
  rfl

theorem restOutputs_fanCode (e : VentEnd) (s : State) : (restOutputs e s).out.fan.code = 0 := by
  unfold restOutputs
  rw [requestVent_out]
  exact issueFan_code 0 _

theorem restOutputs_vent (e : VentEnd) (s : State) : (restOutputs e s).out.vent = ventAfter e s := by
  unfold restOutputs
  rw [requestVent_out, issueFan_eq]
  rfl

theorem restOutputs_hasFault (e : VentEnd) {f : FaultKind} (hf : f ≠ .ventStuck) (s : State) :
    hasFault f (restOutputs e s) = hasFault f s := by
  unfold restOutputs
  rw [requestVent_hasFault e hf, issueFan_eq]
  rfl

theorem restOutputs_eventsKept (e : VentEnd) (s : State) : EventsKept s (restOutputs e s) := by
  unfold restOutputs
  refine EventsKept.trans ?_ (requestVent_eventsKept e _)
  rw [issueFan_eq]
  exact ⟨rfl, fun _ _ => id⟩

theorem restOutputs_units (e : VentEnd) (s : State) :
    (restOutputs e s).share = s.share ∧ (restOutputs e s).boiler = s.boiler ∧ (restOutputs e s).ret = s.ret := by
  unfold restOutputs
  rw [requestVent_share, requestVent_boiler, requestVent_ret, issueFan_eq]
  exact ⟨rfl, rfl, rfl⟩

theorem issueOutputs_off {s : State} (h : s.climate.state = .off) : issueOutputs s = restOutputs .closed s := by
  unfold issueOutputs
  rw [h]
  rfl

theorem issueOutputs_fault {s : State} (h : s.climate.state = .fault) : issueOutputs s = restOutputs .opened s := by
  unfold issueOutputs
  rw [h]
  rfl

/-! ## The posted demands (R34, R103) -/

/-- The boiler's demand that stands after a post; until the STARTING state ends none is posted (R103, R198). -/
def postedDemand (s : State) : Nat :=
  if s.start.ready then boilerDemand s s.share.demands.boiler else s.share.demands.boiler

theorem postBoiler_eq (s : State) :
    postBoiler s = { s with share := { s.share with demands := { s.share.demands with boiler := postedDemand s } } } := by
  unfold postBoiler postBoilerAs postedDemand
  split <;> rfl

/-- The boiler controller with another steam request. -/
def withSteam (n : Nat) (s : State) : State := setBoiler { s.boiler with steamRequest := n } s

theorem handSteamRequest_eq (n : Nat) (s : State) :
    handSteamRequest n s =
      { s with
        boiler := { s.boiler with steamRequest := n }
        share := { s.share with demands := { s.share.demands with boiler := postedDemand (withSteam n s) } } } := by
  unfold handSteamRequest
  rw [postBoiler_eq]
  rfl

theorem postZeros_eq (s : State) :
    postZeros s =
      { s with
        boiler := { s.boiler with steamRequest := 0 }
        share := { s.share with demands := ⟨0, 0, 0, 0, postedDemand (withSteam 0 s)⟩ } } := by
  unfold postZeros
  rw [handSteamRequest_eq]
  rfl

theorem postedDemand_starting {s : State} (h : s.start.ready = false) : postedDemand s = s.share.demands.boiler := by
  rw [postedDemand, h]
  rfl

/-- With SENSOR_BOILER active the boiler's demand is 0 (R8, R103). -/
theorem boilerDemand_blind {s : State} (h : hasFault .sensorBoiler s = true) (last : Nat) : boilerDemand s last = 0 := by
  unfold boilerDemand
  rw [if_pos h]
  exact ite_self 0

/-- A post with SENSOR_BOILER active leaves no demand but one that stands from before the STARTING state's end. -/
theorem postedDemand_blind {s : State} (h : hasFault .sensorBoiler s = true)
    (hr : s.start.ready = true ∨ s.share.demands.boiler = 0) : postedDemand s = 0 := by
  unfold postedDemand
  split
  · exact boilerDemand_blind h _
  · next hn => exact hr.resolve_left hn

end Sys2Proof.Machine
end

section
/-! SUPPORT. `Reacts s t` and `BoilerReacts s t`: what the units' reactions to new readings leave alone, one lemma per
shared operation of the boiler and descale controllers. -/

namespace Sys2Proof.Machine

/-- What a reaction of the units to new readings leaves true: the events are kept, of the run only the count of steam
moves, and the boiler's posts obey SENSOR_BOILER and the STARTING state (R8, R103, R198). Zeros that are posted stay. -/
structure Reacts (s t : State) : Prop where
  kept : Kept s t
  events : EventsKept s t
  slots : t.ret.slots = s.ret.slots
  run : ∃ n r, t.ret.run = { s.ret.run with steamUsed := n, steamRemainder := r }
  starting : s.start.ready = false → t.share.demands.boiler = s.share.demands.boiler
  blind : hasFault .sensorBoiler s = true → s.share.demands.boiler = 0 → t.share.demands.boiler = 0
  zeroCavity : s.share.demands.cavity = .all 0 → t.share.demands.cavity = .all 0
  zeroSteam : s.boiler.steamRequest = 0 → t.boiler.steamRequest = 0

/-- What the boiler and descale controllers' reactions leave alone besides. -/
structure BoilerReacts (s t : State) : Prop extends Reacts s t where
  climate : t.climate = s.climate
  out : t.out = s.out
  faults : t.events.faults = s.events.faults
  cavity : t.share.demands.cavity = s.share.demands.cavity
  steam : t.boiler.steamRequest = s.boiler.steamRequest
  derived : t.boiler.derived = s.boiler.derived

theorem Reacts.refl (s : State) : Reacts s s :=
  ⟨.refl s, .refl s, rfl, ⟨_, _, rfl⟩, fun _ => rfl, fun _ => id, id, id⟩

theorem Reacts.trans {s t u : State} (h : Reacts s t) (k : Reacts t u) : Reacts s u where
  kept := h.kept.trans k.kept
  events := h.events.trans k.events
  slots := k.slots.trans h.slots
  run := by
    obtain ⟨n, r, hr⟩ := h.run
    obtain ⟨n', r', kr⟩ := k.run
    exact ⟨n', r', by rw [kr, hr]⟩
  starting hs := (k.starting (by rw [h.kept.start]; exact hs)).trans (h.starting hs)
  blind hb hz := k.blind (by rw [h.kept.hasFault_eq rfl]; exact hb) (h.blind hb hz)
  zeroCavity := k.zeroCavity ∘ h.zeroCavity
  zeroSteam := k.zeroSteam ∘ h.zeroSteam

theorem BoilerReacts.refl (s : State) : BoilerReacts s s := ⟨.refl s, rfl, rfl, rfl, rfl, rfl, rfl⟩

theorem BoilerReacts.trans {s t u : State} (h : BoilerReacts s t) (k : BoilerReacts t u) : BoilerReacts s u where
  toReacts := h.toReacts.trans k.toReacts
  climate := k.climate.trans h.climate
  out := k.out.trans h.out
  faults := k.faults.trans h.faults
  cavity := k.cavity.trans h.cavity
  steam := k.steam.trans h.steam
  derived := k.derived.trans h.derived

theorem BoilerReacts.ite {b : Prop} [Decidable b] {s₀ t u : State} (ht : BoilerReacts s₀ t) (hu : BoilerReacts s₀ u) :
    BoilerReacts s₀ (if b then t else u) := by
  split
  · exact ht
  · exact hu

/-! ## Basic updates -/

/-- An update of the controllers' own records and of the count of steam. -/
theorem BoilerReacts.within {s : State} {w : Water} {b : Boiler} {a : ScaleAccount} {k : DescaleWork} {c : Bool}
    {d : Descale} {n r : Nat} (hs : b.steamRequest = s.boiler.steamRequest) (hd : b.derived = s.boiler.derived) :
    BoilerReacts s
      { s with
        water := w, boiler := b, scale := a, work := k, store := { s.store with asked := c }
        ret := { s.ret with descale := d, run := { s.ret.run with steamUsed := n, steamRemainder := r } } } where
  kept := ⟨rfl, rfl, rfl, rfl, rfl, rfl, rfl, rfl, rfl, rfl, rfl, rfl, rfl, fun _ _ => .rfl, .inl rfl⟩
  events := ⟨rfl, fun _ _ => id⟩
  slots := rfl
  run := ⟨n, r, rfl⟩
  starting _ := rfl
  blind _ := id
  zeroCavity := id
  zeroSteam h := hs.trans h
  climate := rfl
  out := rfl
  faults := rfl
  cavity := rfl
  steam := hs
  derived := hd

/-- A post of the boiler's demand, 0 while SENSOR_BOILER is active. -/
theorem postBoilerAs_reacts (d : Nat) {s₀ s : State} (h : BoilerReacts s₀ s)
    (hd : hasFault .sensorBoiler s = true → d = 0) : BoilerReacts s₀ (postBoilerAs d s) := by
  refine h.trans ?_
  have kept : Kept s (postBoilerAs d s) := postBoilerAs_kept d (.refl s)
  unfold postBoilerAs at kept ⊢
  split at kept
  · next hr =>
    rw [if_pos hr]
    exact
      { kept := kept, events := ⟨rfl, fun _ _ => id⟩, slots := rfl, run := ⟨_, _, rfl⟩
        starting := fun hn => absurd hr (by rw [hn]; decide)
        blind := fun hb _ => hd hb
        zeroCavity := id, zeroSteam := id
        climate := rfl, out := rfl, faults := rfl, cavity := rfl, steam := rfl, derived := rfl }
  · next hr =>
    rw [if_neg hr]
    exact .refl s

theorem postBoiler_reacts {s₀ s : State} (h : BoilerReacts s₀ s) : BoilerReacts s₀ (postBoiler s) :=
  postBoilerAs_reacts _ h fun hb => boilerDemand_blind hb _

theorem followCondition_reacts (k : EventKind) (a : Option Byte) (b : Bool) {s₀ s : State} (h : BoilerReacts s₀ s) :
    BoilerReacts s₀ (followCondition k a b s) := by
  refine h.trans ?_
  have kept : Kept s (followCondition k a b s) := followCondition_kept k a b (.refl s)
  have events := followCondition_eventsKept k a b s
  have faults := followCondition_faults k a b s
  have only := followCondition_only k a b s
  generalize followCondition k a b s = t at kept events faults only ⊢
  rw [only] at kept events ⊢
  exact
    { kept := kept, events := events, slots := rfl, run := ⟨_, _, rfl⟩, starting := fun _ => rfl
      blind := fun _ => id, zeroCavity := id, zeroSteam := id, climate := rfl, out := rfl, faults := faults
      cavity := rfl, steam := rfl, derived := rfl }

theorem setBoiler_reacts {b : Boiler} {s₀ s : State} (h : BoilerReacts s₀ s)
    (hs : b.steamRequest = s.boiler.steamRequest) (hd : b.derived = s.boiler.derived) :
    BoilerReacts s₀ (setBoiler b s) := h.trans (.within hs hd)

theorem setChan_reacts (c : Chan) (x : Channel) {s₀ s : State} (h : BoilerReacts s₀ s) :
    BoilerReacts s₀ (setChan c x s) := h.trans (.within rfl rfl)

theorem setWork_reacts (w : DescaleWork) {s₀ s : State} (h : BoilerReacts s₀ s) :
    BoilerReacts s₀ (setWork w s) := h.trans (.within rfl rfl)

theorem setDescale_reacts (d : Descale) {s₀ s : State} (h : BoilerReacts s₀ s) :
    BoilerReacts s₀ (setDescale d s) := h.trans (.within rfl rfl)

theorem askCommit_reacts {s₀ s : State} (h : BoilerReacts s₀ s) : BoilerReacts s₀ (askCommit s) :=
  h.trans (.within rfl rfl)

/-! ## The account and the channels -/

theorem followLevel_reacts {s₀ s : State} (h : BoilerReacts s₀ s) : BoilerReacts s₀ (followLevel s) :=
  followCondition_reacts _ _ _ (followCondition_reacts _ _ _ h)

theorem evaluateLevel_reacts {s₀ s : State} (h : BoilerReacts s₀ s) : BoilerReacts s₀ (evaluateLevel s) := by
  unfold evaluateLevel
  exact .ite h (askCommit_reacts (followLevel_reacts (h.trans (.within rfl rfl))))

theorem chargeAccount_reacts (p : Nat) (d : Destination) {s₀ s : State} (h : BoilerReacts s₀ s) :
    BoilerReacts s₀ (chargeAccount p d s) :=
  evaluateLevel_reacts (h.trans (.within rfl rfl))

theorem countSteam_reacts (p : Nat) {s₀ s : State} (h : BoilerReacts s₀ s) : BoilerReacts s₀ (countSteam p s) := by
  unfold countSteam
  exact .ite (h.trans (.within rfl rfl)) h

theorem passPulses_reacts (c : Chan) {s₀ s : State} (h : BoilerReacts s₀ s) : BoilerReacts s₀ (passPulses c s) := by
  unfold passPulses
  split
  · exact h
  · exact .ite (countSteam_reacts _ (chargeAccount_reacts _ _ (setChan_reacts _ _ h))) (setChan_reacts _ _ h)

theorem releasePath_reacts (c : Chan) {s₀ s : State} (h : BoilerReacts s₀ s) : BoilerReacts s₀ (releasePath c s) := by
  unfold releasePath
  exact .ite (h.trans (.within rfl rfl)) h

theorem cancelDose_reacts (c : Chan) {s₀ s : State} (h : BoilerReacts s₀ s) : BoilerReacts s₀ (cancelDose c s) := by
  unfold cancelDose
  exact .ite h (setChan_reacts _ _ (.ite (releasePath_reacts _ (passPulses_reacts _ h)) h))

/-! ## The boiler controller -/

theorem cancelTopUp_reacts {s₀ s : State} (h : BoilerReacts s₀ s) : BoilerReacts s₀ (cancelTopUp s) := by
  unfold cancelTopUp
  exact .ite (cancelDose_reacts _ h) h

theorem enterBoiler_reacts (st : BoilerState) {s₀ s : State} (h : BoilerReacts s₀ s) :
    BoilerReacts s₀ (enterBoiler st s) := by
  unfold enterBoiler
  have set := setBoiler_reacts
    (b := { s.boiler with
      state := st, heatUp := if st = .heating then 0 else s.boiler.heatUp
      drainPending := s.boiler.drainPending && decide (st ≠ .empty) }) h rfl rfl
  exact .ite h (postBoiler_reacts (.ite set (cancelTopUp_reacts set)))

theorem markDrain_reacts (b : Bool) {s₀ s : State} (h : BoilerReacts s₀ s) : BoilerReacts s₀ (markDrain b s) := by
  unfold markDrain
  have set := setBoiler_reacts (b := { s.boiler with drainPending := b }) h rfl rfl
  exact postBoiler_reacts (.ite (cancelTopUp_reacts set) set)

theorem followTopUp_reacts {s₀ s : State} (h : BoilerReacts s₀ s) : BoilerReacts s₀ (followTopUp s) := by
  unfold followTopUp
  exact .ite (cancelTopUp_reacts h) h

theorem loadDrain_reacts (r : Requester) {s₀ s : State} (h : BoilerReacts s₀ s) : BoilerReacts s₀ (loadDrain r s) := by
  unfold loadDrain
  have drain : ∀ t : State, BoilerReacts s₀ t →
      BoilerReacts s₀ (if t.boiler.state = .dryFault then t else enterBoiler .draining t) :=
    fun t ht => .ite ht (enterBoiler_reacts _ ht)
  exact .ite h (drain _ (markDrain_reacts _ ((setChan_reacts _ _ h).trans (.within rfl rfl))))

theorem followBoiling_reacts {s₀ s : State} (h : BoilerReacts s₀ s) : BoilerReacts s₀ (followBoiling s) := by
  unfold followBoiling
  exact .ite (enterBoiler_reacts _ h) (.ite (enterBoiler_reacts _ h) h)

/-! ## The descale controller -/

theorem followPrompt_reacts {s₀ s : State} (h : BoilerReacts s₀ s) : BoilerReacts s₀ (followPrompt s) :=
  followCondition_reacts _ _ _ h

theorem enterPhase_reacts (p : DescalePhase) (step : Option RinseStep) {s₀ s : State} (h : BoilerReacts s₀ s) :
    BoilerReacts s₀ (enterPhase p step s) :=
  postBoiler_reacts (followTopUp_reacts (followPrompt_reacts (setDescale_reacts _ h)))

theorem setStall_reacts (x : Stall) {s₀ s : State} (h : BoilerReacts s₀ s) : BoilerReacts s₀ (setStall x s) :=
  followPrompt_reacts (setDescale_reacts _ h)

theorem withdrawSoakTarget_reacts {s₀ s : State} (h : BoilerReacts s₀ s) : BoilerReacts s₀ (withdrawSoakTarget s) :=
  postBoiler_reacts (setBoiler_reacts h rfl rfl)

theorem tryDescaleDrain_reacts {s₀ s : State} (h : BoilerReacts s₀ s) : BoilerReacts s₀ (tryDescaleDrain s) := by
  unfold tryDescaleDrain
  exact .ite (loadDrain_reacts _ (setWork_reacts _ h)) h

theorem enterDrainAgent_reacts {s₀ s : State} (h : BoilerReacts s₀ s) : BoilerReacts s₀ (enterDrainAgent s) :=
  tryDescaleDrain_reacts (setWork_reacts _ (enterPhase_reacts _ _ h))

theorem boilerAfterFill_reacts {s₀ s : State} (h : BoilerReacts s₀ s) : BoilerReacts s₀ (boilerAfterFill s) := by
  unfold boilerAfterFill
  exact .ite h (enterBoiler_reacts _ h)

theorem cancelDescaleFill_reacts {s₀ s : State} (h : BoilerReacts s₀ s) : BoilerReacts s₀ (cancelDescaleFill s) := by
  unfold cancelDescaleFill
  exact .ite (boilerAfterFill_reacts (cancelDose_reacts _ h)) h

theorem creditAbort_reacts {s₀ s : State} (h : BoilerReacts s₀ s) : BoilerReacts s₀ (creditAbort s) :=
  askCommit_reacts (evaluateLevel_reacts (h.trans (.within rfl rfl)))

theorem abortWithCredit_reacts {s₀ s : State} (h : BoilerReacts s₀ s) : BoilerReacts s₀ (abortWithCredit s) :=
  enterDrainAgent_reacts (setStall_reacts _ (setDescale_reacts _
    (creditAbort_reacts (withdrawSoakTarget_reacts (cancelDescaleFill_reacts (setWork_reacts _ h))))))

theorem enterDryFault_reacts {s₀ s : State} (h : BoilerReacts s₀ s) : BoilerReacts s₀ (enterDryFault s) := by
  unfold enterDryFault
  have entered := enterBoiler_reacts .dryFault h
  have cancelled := BoilerReacts.ite (b := holdsFor (enterBoiler .dryFault s) .ch0 .boilerControl = true)
    (cancelDose_reacts .ch0 entered) entered
  exact .ite h (.ite (abortWithCredit_reacts cancelled) cancelled)

end Sys2Proof.Machine
end

section
/-! SUPPORT. SAMPLE_PERIOD unit by unit: the readings with their faults and events, the regulator, the boiler
controller, the sequencer. -/

namespace Sys2Proof.Machine

/-! ## The readings of a period (R1 to R12) -/

/-- The readings `m` of a period, with the faults and probe events they raise. -/
def takeReadings (m : Measurement) (s : State) : State :=
  raiseProbe s.meas.probePresent (followSensors (setMeas m s))

theorem takePeriod_eq (raw : RawSamples) (s : State) :
    takePeriod raw s = takeReadings (measure s.start.straps.probeFitted s.settings.offsets raw s.meas) s := rfl

/-- Two updates of the event block are one. -/
theorem onlyEvents_trans {s t u : State} (h : t = { s with events := t.events })
    (k : u = { t with events := u.events }) : u = { s with events := u.events } :=
  k.trans (by rw [h])

theorem followSensors_only (s : State) : followSensors s = { s with events := (followSensors s).events } := by
  unfold followSensors
  rw [followFault_only .moistureSensor, followFault_only .sensorBoiler, followFault_only .sensorCavity]

theorem followSensors_eventsKept (s : State) : EventsKept s (followSensors s) :=
  ((followFault_eventsKept _ _ s).trans (followFault_eventsKept _ _ _)).trans (followFault_eventsKept _ _ _)

theorem raiseProbe_only (was : Bool) (s : State) : raiseProbe was s = { s with events := (raiseProbe was s).events } := by
  unfold raiseProbe
  split
  · rfl
  · split <;> rfl

theorem raiseProbe_faults (was : Bool) (s : State) : (raiseProbe was s).events.faults = s.events.faults := by
  unfold raiseProbe
  split
  · rfl
  · split <;> rfl

theorem raiseProbe_eventsKept (was : Bool) (s : State) : EventsKept s (raiseProbe was s) := by
  unfold raiseProbe
  split
  · exact .refl s
  · split
    · exact raiseEvent_eventsKept _ _ s
    · exact raiseEvent_eventsKept _ _ s

/-- The probe state's change is raised as what it has become (R11). -/
theorem raiseProbe_raised {was : Bool} {s : State} (h : s.meas.probePresent ≠ was) :
    RaisedTo (if s.meas.probePresent then .probeInserted else .probeRemoved) none s (raiseProbe was s) := by
  unfold raiseProbe
  rw [if_neg (Ne.symm h)]
  split
  · exact raiseEvent_raised _ _ s
  · exact raiseEvent_raised _ _ s

theorem takeReadings_eq (m : Measurement) (s : State) :
    takeReadings m s = { s with meas := m, events := (takeReadings m s).events } :=
   onlyEvents_trans (followSensors_only (setMeas m s)) (raiseProbe_only s.meas.probePresent _)

theorem takeReadings_eventsKept (m : Measurement) (s : State) : EventsKept s (takeReadings m s) := by
  have h := (followSensors_eventsKept (setMeas m s)).trans (raiseProbe_eventsKept s.meas.probePresent _)
  exact ⟨h.steering, h.unread⟩

theorem takeReadings_probe {m : Measurement} {s : State} (h : m.probePresent ≠ s.meas.probePresent) :
    RaisedTo (if m.probePresent then .probeInserted else .probeRemoved) none s (takeReadings m s) := by
  have seen : (followSensors (setMeas m s)).meas = m := by rw [followSensors_only]; rfl
  have raised := raiseProbe_raised (was := s.meas.probePresent) (s := followSensors (setMeas m s))
    (by rw [seen]; exact h)
  rw [seen] at raised
  intro l hl
  refine raised l ?_
  rw [(followSensors_eventsKept _).steering]
  exact hl

/-- The three sensor faults follow the sensor states; every other member stands as before (R7 to R9). -/
theorem takeReadings_hasFault (m : Measurement) (s : State) (f : FaultKind) :
    hasFault f (takeReadings m s) =
      if f = .moistureSensor then m.chans.moisture.isFaulted
      else if f = .sensorBoiler then m.chans.boiler.isFaulted
      else if f = .sensorCavity then m.chans.cavityUpper.isFaulted && m.chans.cavityLower.isFaulted
      else hasFault f s := by
  unfold takeReadings
  rw [hasFault_congr (raiseProbe_faults _ _)]
  unfold followSensors
  simp only [hasFault_followFault]
  rfl

/-! ## Reactions outside the boiler controller -/

/-- A reaction that leaves the posts, the boiler controller and the run alone. -/
theorem Reacts.of_units {s t : State} (kept : Kept s t) (events : EventsKept s t) (share : t.share = s.share)
    (boiler : t.boiler.steamRequest = s.boiler.steamRequest) (ret : t.ret = s.ret) : Reacts s t where
  kept := kept
  events := events
  slots := by rw [ret]
  run := ⟨_, _, by rw [ret]⟩
  starting _ := by rw [share]
  blind _ h := by rw [share]; exact h
  zeroCavity h := by rw [share]; exact h
  zeroSteam h := by rw [boiler]; exact h

theorem Reacts.climate {s : State} {c : Climate} : Reacts s (setClimate c s) :=
  .of_units (setClimate_kept c (.refl s)) ⟨rfl, fun _ _ => id⟩ rfl rfl rfl

theorem raiseEvent_reacts (k : EventKind) (a : Option Byte) (s : State) : Reacts s (raiseEvent k a s) :=
  .of_units (raiseEvent_kept k a (.refl s)) (raiseEvent_eventsKept k a s) rfl rfl rfl

theorem enterFault_reacts {f : FaultKind} (hf : f.shared = true) (s : State) : Reacts s (enterFault f s) :=
  .of_units (enterFault_kept f hf (.refl s)) (enterFault_eventsKept f s) (by simp) (by simp) (by simp)

theorem restOutputs_reacts (e : VentEnd) (s : State) : Reacts s (restOutputs e s) := by
  obtain ⟨share, boiler, ret⟩ := restOutputs_units e s
  exact .of_units (requestVent_kept e (issueFan_kept 0 (askRelay_kept false (.refl s)))) (restOutputs_eventsKept e s)
    share (by rw [boiler]) ret

/-- Zeros leave the boiler no other demand than its own post gives (R26, R29, R42). -/
theorem postZeros_reacts (s : State) : Reacts s (postZeros s) := by
  have kept : Kept s (postZeros s) := postZeros_kept (.refl s)
  rw [postZeros_eq] at kept ⊢
  exact
    { kept := kept, events := ⟨rfl, fun _ _ => id⟩, slots := rfl, run := ⟨_, _, rfl⟩
      starting := fun h => postedDemand_starting h
      blind := fun hb hz => postedDemand_blind hb (.inr hz)
      zeroCavity := fun _ => rfl, zeroSteam := fun _ => rfl }

/-! ## The beginnings of SENSOR_CAVITY and SENSOR_BOILER (R29, R103) -/

theorem beginCavityFault_cases (before s : State) :
    beginCavityFault before s = postZeros s ∨ beginCavityFault before s = s := by
  unfold beginCavityFault
  split
  · exact .inl rfl
  · exact .inr rfl

theorem changeBoilerFault_reacts (before s : State) : BoilerReacts s (changeBoilerFault before s) := by
  unfold changeBoilerFault
  exact .ite (.refl s) (postBoiler_reacts (.refl s))

/-- The state the regulator's share of the period begins in: readings taken, the sensor faults' beginnings answered. -/
def prepared (m : Measurement) (s : State) : State :=
  changeBoilerFault s (beginCavityFault s (takeReadings m s))

theorem prepared_reacts (m : Measurement) (s : State) : Reacts (takeReadings m s) (prepared m s) := by
  refine Reacts.trans ?_ (changeBoilerFault_reacts s _).toReacts
  rcases beginCavityFault_cases s (takeReadings m s) with h | h <;> rw [h]
  · exact postZeros_reacts _
  · exact .refl _

/-- The regulator, the outputs and the run are as the period has found them, and so is the boiler controller but for
its steam request. -/
theorem prepared_units (m : Measurement) (s : State) :
    (prepared m s).climate = s.climate ∧ (prepared m s).out = s.out ∧ (prepared m s).ret = s.ret ∧
      (prepared m s).boiler = { s.boiler with steamRequest := (prepared m s).boiler.steamRequest } := by
  have begun : ∀ t : State, (beginCavityFault t (takeReadings m s)).climate = s.climate ∧
      (beginCavityFault t (takeReadings m s)).out = s.out ∧ (beginCavityFault t (takeReadings m s)).ret = s.ret ∧
      ∃ n, (beginCavityFault t (takeReadings m s)).boiler = { s.boiler with steamRequest := n } := by
    intro t
    rcases beginCavityFault_cases t (takeReadings m s) with h | h <;> rw [h, takeReadings_eq]
    · rw [postZeros_eq]
      exact ⟨rfl, rfl, rfl, 0, rfl⟩
    · exact ⟨rfl, rfl, rfl, s.boiler.steamRequest, rfl⟩
  obtain ⟨hc, ho, hr, n, hb⟩ := begun s
  unfold prepared changeBoilerFault
  split
  · exact ⟨hc, ho, hr, by rw [hb]⟩
  · rw [postBoiler_eq]
    exact ⟨hc, ho, hr, by rw [hb]⟩

theorem prepared_faults (m : Measurement) (s : State) :
    (prepared m s).events.faults = (takeReadings m s).events.faults := by
  unfold prepared
  rw [(changeBoilerFault_reacts s _).faults]
  rcases beginCavityFault_cases s (takeReadings m s) with h | h <;> rw [h]
  rw [postZeros_eq]

theorem prepared_meas (m : Measurement) (s : State) : (prepared m s).meas = m := by
  rw [(prepared_reacts m s).kept.meas, takeReadings_eq]

/-- A beginning SENSOR_CAVITY posts the regulator's zeros (R29). -/
theorem prepared_zeros {m : Measurement} {s : State} (was : hasFault .sensorCavity s = false)
    (now : hasFault .sensorCavity (takeReadings m s) = true) (hw : working s = true ∨ s.climate.state = .paused) :
    (prepared m s).share.demands.cavity = .all 0 ∧ (prepared m s).boiler.steamRequest = 0 := by
  have same : working (takeReadings m s) = working s ∧ (takeReadings m s).climate = s.climate := by
    rw [takeReadings_eq]
    exact ⟨rfl, rfl⟩
  have begun : beginCavityFault s (takeReadings m s) = postZeros (takeReadings m s) := by
    unfold beginCavityFault
    rw [if_pos (by rw [was, now, same.1, same.2]; simpa using hw)]
  have react := changeBoilerFault_reacts s (postZeros (takeReadings m s))
  unfold prepared
  rw [begun]
  exact ⟨react.zeroCavity (by rw [postZeros_eq]; rfl), react.zeroSteam (by rw [postZeros_eq])⟩

/-- A beginning SENSOR_BOILER posts a boiler demand of 0, but in the STARTING state (R8, R103, R198). -/
theorem prepared_boilerDemand {m : Measurement} {s : State} (was : hasFault .sensorBoiler s = false)
    (now : hasFault .sensorBoiler (takeReadings m s) = true) (ready : s.start.ready = true) :
    (prepared m s).share.demands.boiler = 0 := by
  have hbegun : Reacts (takeReadings m s) (beginCavityFault s (takeReadings m s)) := by
    rcases beginCavityFault_cases s (takeReadings m s) with h | h <;> rw [h]
    · exact postZeros_reacts _
    · exact .refl _
  have blind : hasFault .sensorBoiler (beginCavityFault s (takeReadings m s)) = true := by
    rw [hbegun.kept.hasFault_eq rfl]
    exact now
  unfold prepared changeBoilerFault
  rw [if_neg (by rw [was, blind]; decide), postBoiler_eq]
  exact postedDemand_blind blind (.inl (by rw [hbegun.kept.start, takeReadings_eq]; exact ready))

/-! ## The regulator (R28, R41, R42, R46) -/

/-- The runaway timer of a regulator after a period, with SENSOR_CAVITY active or not and a cavity reading (R41). -/
def runawayOn (c : Climate) (blind : Bool) (cavity : Int) : Nat :=
  match c.record with
  | none => c.runaway
  | some r =>
    if c.runawayArmed = true ∧ blind = false then (if r.setpoint + 400 < cavity then c.runaway + 100 else 0)
    else c.runaway

/-- The runaway timer after the period. -/
def runawayAfter (s : State) : Nat := runawayOn s.climate (hasFault .sensorCavity s) s.meas.cavity

/-- The cooling fan after the period (R46). -/
def coolingFanAfter (s : State) : Bool :=
  if s.climate.state = .off ∨ s.climate.state = .fault then
    if 600 ≤ s.meas.cavity then true else if s.meas.cavity < 500 then false else s.climate.coolingFan
  else true

/-- The cooling fan decided and the runaway timer counted. -/
def countedSample (s : State) : State :=
  setClimate { s.climate with coolingFan := coolingFanAfter s, runaway := runawayAfter s } s

theorem decideCoolingFan_eq (s : State) :
    decideCoolingFan s = setClimate { s.climate with coolingFan := coolingFanAfter s } s := by
  unfold decideCoolingFan coolingFanAfter
  cases h : s.climate.state <;> rfl

theorem countRunaway_eq (s : State) :
    countRunaway s = setClimate { s.climate with runaway := runawayAfter s } s := by
  unfold countRunaway runawayAfter runawayOn cavityFaulted
  cases h : s.climate.record with
  | none => rfl
  | some r =>
    dsimp only
    by_cases hr : s.climate.runawayArmed = true ∧ hasFault .sensorCavity s = false
    · rw [if_pos hr, if_pos (by rw [hr.1, hr.2]; rfl)]
    · rw [if_neg hr, if_neg (by simpa using hr)]
      rfl

theorem countRunaway_decideCoolingFan (s : State) : countRunaway (decideCoolingFan s) = countedSample s := by
  rw [decideCoolingFan_eq, countRunaway_eq]
  rfl

/-- The runaway limits are met (R42). -/
def overrun (s : State) : Prop := s.climate.state ≠ .fault ∧ (60000 ≤ runawayAfter s ∨ 3000 < s.meas.cavity)

/-- COOLDOWN has come to its end (R28). -/
def cooled (s : State) : Prop := s.climate.state = .cooldown ∧ s.meas.cavity < 500

theorem overrun_iff (s : State) :
    overrun s ↔ (countedSample s).climate.state ≠ .fault ∧
      (60000 ≤ (countedSample s).climate.runaway ∨ 3000 < (countedSample s).meas.cavity) := .rfl

theorem cooled_iff (s : State) :
    cooled s ↔ (countedSample s).climate.state = .cooldown ∧ (countedSample s).meas.cavity < 500 := .rfl

/-- The regulator's FAULT with its zeros, the record given up, before the outputs that it calls for (R42). -/
def faultZeros (s : State) : State :=
  postZeros (setClimate (s.climate.discard .fault) (enterFault .heatRunaway s))

/-- A regulator that meets the runaway limits ends the period in FAULT. -/
theorem climateSample_overrun {s : State} (h : overrun s) :
    climateSample s = restOutputs .opened (faultZeros (countedSample s)) := by
  have enter : enterClimateFault (countedSample s) = restOutputs .opened (faultZeros (countedSample s)) := by
    have state : (faultZeros (countedSample s)).climate.state = .fault := by
      unfold faultZeros
      rw [postZeros_eq]
      rfl
    exact issueOutputs_fault state
  have state : (restOutputs .opened (faultZeros (countedSample s))).climate.state = .fault := by
    rw [restOutputs_climate]
    unfold faultZeros
    rw [postZeros_eq]
    rfl
  unfold climateSample
  rw [countRunaway_decideCoolingFan]
  unfold checkRunaway
  rw [if_pos ((overrun_iff s).mp h), enter]
  unfold checkCooldown
  rw [if_neg (by rw [state]; simp)]

/-- A regulator whose COOLDOWN is over ends the period in OFF. -/
theorem climateSample_cooled {s : State} (hn : ¬overrun s) (h : cooled s) :
    climateSample s =
      raiseEvent .cooldownEnded none
        (restOutputs .closed (setClimate { (countedSample s).climate with state := .off } (countedSample s))) := by
  unfold climateSample
  rw [countRunaway_decideCoolingFan]
  unfold checkRunaway
  rw [if_neg (mt (overrun_iff s).mpr hn)]
  unfold checkCooldown
  rw [if_pos ((cooled_iff s).mp h), issueOutputs_off rfl]

/-- Otherwise the regulator only decides the cooling fan and counts. -/
theorem climateSample_counts {s : State} (hn : ¬overrun s) (h : ¬cooled s) : climateSample s = countedSample s := by
  unfold climateSample
  rw [countRunaway_decideCoolingFan]
  unfold checkRunaway
  rw [if_neg (mt (overrun_iff s).mpr hn)]
  unfold checkCooldown
  rw [if_neg (mt (cooled_iff s).mpr h)]

/-- The regulator's share of a period, by cases of R42 and R28. -/
theorem climateSample_cases {P : State → Prop} (s : State)
    (runs : overrun s → P (restOutputs .opened (faultZeros (countedSample s))))
    (cools : ¬overrun s → cooled s → P (raiseEvent .cooldownEnded none
      (restOutputs .closed (setClimate { (countedSample s).climate with state := .off } (countedSample s)))))
    (counts : ¬overrun s → ¬cooled s → P (countedSample s)) : P (climateSample s) := by
  by_cases h : overrun s
  · rw [climateSample_overrun h]
    exact runs h
  · by_cases hc : cooled s
    · rw [climateSample_cooled h hc]
      exact cools h hc
    · rw [climateSample_counts h hc]
      exact counts h hc

theorem faultZeros_reacts (s : State) : Reacts s (faultZeros s) :=
  ((enterFault_reacts rfl s).trans .climate).trans (postZeros_reacts _)

theorem climateSample_reacts (s : State) : Reacts s (climateSample s) := by
  refine climateSample_cases s (fun _ => ?_) (fun _ _ => ?_) fun _ _ => .climate
  · exact (Reacts.climate.trans (faultZeros_reacts _)).trans (restOutputs_reacts _ _)
  · exact ((Reacts.climate.trans .climate).trans (restOutputs_reacts _ _)).trans (raiseEvent_reacts _ _ _)

/-- The regulator's share decides the cooling fan and nothing changes it after (R46). -/
theorem climateSample_coolingFan (s : State) : (climateSample s).climate.coolingFan = coolingFanAfter s := by
  refine climateSample_cases (P := fun t => t.climate.coolingFan = coolingFanAfter s) s (fun _ => ?_) (fun _ _ => ?_) fun _ _ => rfl
  · rw [restOutputs_climate]
    unfold faultZeros
    rw [postZeros_eq]
    rfl
  · rw [raiseEvent_climate, restOutputs_climate]
    rfl

/-- The boiler controller keeps all but its steam request. -/
theorem climateSample_boiler (s : State) :
    (climateSample s).boiler = { s.boiler with steamRequest := (climateSample s).boiler.steamRequest } := by
  refine climateSample_cases (P := fun t => t.boiler = { s.boiler with steamRequest := t.boiler.steamRequest }) s
    (fun _ => ?_) (fun _ _ => ?_) fun _ _ => rfl
  · obtain ⟨-, boiler, -⟩ := restOutputs_units .opened (faultZeros (countedSample s))
    rw [boiler]
    unfold faultZeros
    rw [postZeros_eq]
    simp [countedSample]
  · obtain ⟨-, boiler, -⟩ := restOutputs_units .closed
      (setClimate { (countedSample s).climate with state := .off } (countedSample s))
    rw [raiseEvent_boiler, boiler]
    rfl

/-- Of the fault set the regulator's share moves HEAT_RUNAWAY and VENT_STUCK alone. -/
theorem climateSample_hasFault {f : FaultKind} (hr : f ≠ .heatRunaway) (hv : f ≠ .ventStuck) (s : State) :
    hasFault f (climateSample s) = hasFault f s := by
  refine climateSample_cases (P := fun t => hasFault f t = hasFault f s) s (fun _ => ?_) (fun _ _ => ?_) fun _ _ => rfl
  · have entered : hasFault f (faultZeros (countedSample s)) = hasFault f (enterFault .heatRunaway (countedSample s)) := by
      unfold faultZeros
      rw [postZeros_eq]
      rfl
    rw [restOutputs_hasFault _ hv, entered, hasFault_enterFault]
    simp only [hr, decide_false, Bool.or_false]
    rfl
  · exact restOutputs_hasFault _ hv _

end Sys2Proof.Machine
end

section
/-! SUPPORT. The boiler controller and the sequencer at the end of a sample period. -/

namespace Sys2Proof.Machine

/-! ## What leaves the boiler controller's record as it is -/

@[simp] theorem evaluateLevel_boiler (s : State) : (evaluateLevel s).boiler = s.boiler := by
  obtain ⟨e, st, h⟩ := evaluateLevel_eq s
  rw [h]

@[simp] theorem passPulses_boiler (c : Chan) (s : State) : (passPulses c s).boiler = s.boiler := by
  unfold passPulses
  split
  · rfl
  · dsimp only
    split
    · unfold chargeDelivered
      rw [countSteam_eq]
      exact evaluateLevel_boiler _
    · rfl

@[simp] theorem cancelDose_boiler (c : Chan) (s : State) : (cancelDose c s).boiler = s.boiler := by
  unfold cancelDose releasePath
  dsimp only
  split
  · rfl
  · split
    · split
      · exact passPulses_boiler c s
      · exact passPulses_boiler c s
    · rfl

@[simp] theorem cancelTopUp_boiler (s : State) : (cancelTopUp s).boiler = s.boiler := by
  unfold cancelTopUp
  split
  · exact cancelDose_boiler _ s
  · rfl

@[simp] theorem postBoiler_boiler (s : State) : (postBoiler s).boiler = s.boiler := by
  rw [postBoiler_eq]

@[simp] theorem followTopUp_boiler (s : State) : (followTopUp s).boiler = s.boiler := by
  unfold followTopUp
  split
  · exact cancelTopUp_boiler s
  · rfl

/-! ## Changes of the boiler's state (R99, R105) -/

theorem enterBoiler_boiler (st : BoilerState) {s : State} (h : s.boiler.state ≠ st) :
    (enterBoiler st s).boiler =
      { s.boiler with
        state := st, heatUp := if st = .heating then 0 else s.boiler.heatUp
        drainPending := s.boiler.drainPending && decide (st ≠ .empty) } := by
  unfold enterBoiler
  rw [if_neg h, postBoiler_boiler]
  split
  · rfl
  · exact cancelTopUp_boiler _

theorem enterBoiler_state (st : BoilerState) (s : State) : (enterBoiler st s).boiler.state = st := by
  by_cases h : s.boiler.state = st
  · unfold enterBoiler
    rw [if_pos h]
    exact h
  · rw [enterBoiler_boiler st h]

/-- Only EMPTY clears drain-pending (R106). -/
theorem enterBoiler_drainPending {st : BoilerState} (hst : st ≠ .empty) (s : State) :
    (enterBoiler st s).boiler.drainPending = s.boiler.drainPending := by
  by_cases h : s.boiler.state = st
  · unfold enterBoiler
    rw [if_pos h]
  · rw [enterBoiler_boiler st h]
    simp [hst]

theorem cancelDescaleFill_dryFault {s : State} (h : s.boiler.state = .dryFault) :
    (cancelDescaleFill s).boiler = s.boiler := by
  unfold cancelDescaleFill boilerAfterFill
  split
  · rw [if_pos (by rw [cancelDose_boiler]; exact h)]
    exact cancelDose_boiler _ s
  · rfl

/-- A drain that is loaded in DRY_FAULT leaves the controller there (R121). -/
theorem loadDrain_dryFault (r : Requester) {s : State} (h : s.boiler.state = .dryFault) :
    (loadDrain r s).boiler.state = .dryFault := by
  have stays : ∀ t : State, t.boiler = s.boiler →
      (if (markDrain false t).boiler.state = .dryFault then markDrain false t
        else enterBoiler .draining (markDrain false t)).boiler.state = .dryFault := by
    intro t ht
    have marked : (markDrain false t).boiler.state = .dryFault := by
      unfold markDrain
      rw [postBoiler_boiler]
      exact (congrArg Boiler.state ht).trans h
    rw [if_pos marked]
    exact marked
  unfold loadDrain
  split
  · exact h
  · exact stays _ rfl

theorem enterDrainAgent_dryFault {s : State} (h : s.boiler.state = .dryFault) :
    (enterDrainAgent s).boiler.state = .dryFault := by
  have entered : (enterPhase .drainAgent none s).boiler = s.boiler := by
    unfold enterPhase followPrompt
    simp
  unfold enterDrainAgent wantDrain tryDescaleDrain
  split
  · exact loadDrain_dryFault _ ((congrArg Boiler.state entered).trans h)
  · exact (congrArg Boiler.state entered).trans h

/-- An abort leaves a controller in DRY_FAULT there (R127). -/
theorem abortWithCredit_dryFault {s : State} (h : s.boiler.state = .dryFault) :
    (abortWithCredit s).boiler.state = .dryFault := by
  have cancelled := cancelDescaleFill_dryFault (s := setWork { s.work with dose := none } s) h
  unfold abortWithCredit
  refine enterDrainAgent_dryFault ?_
  unfold setStall followPrompt creditAbort withdrawSoakTarget
  simpa [cancelled] using h

/-- The entry of DRY_FAULT up to the abort of a descale: the state entered and the own doses on CH0 cancelled. -/
def dryFaultEntered (s : State) : State :=
  if holdsFor (enterBoiler .dryFault s) .ch0 .boilerControl then cancelDose .ch0 (enterBoiler .dryFault s)
  else enterBoiler .dryFault s

theorem enterDryFault_eq (s : State) :
    enterDryFault s =
      if s.boiler.state = .dryFault then s
      else if (dryFaultEntered s).start.ready && (decide ((dryFaultEntered s).ret.descale.phase = .draw) ||
          decide ((dryFaultEntered s).ret.descale.phase = .soak)) then abortWithCredit (dryFaultEntered s)
      else dryFaultEntered s := rfl

theorem dryFaultEntered_boiler (s : State) : (dryFaultEntered s).boiler = (enterBoiler .dryFault s).boiler := by
  unfold dryFaultEntered
  split
  · exact cancelDose_boiler _ _
  · rfl

theorem dryFaultEntered_kept (s : State) : Kept s (dryFaultEntered s) :=
  kept_ite (cancelDose_kept _ (enterBoiler_kept _ (.refl s))) (enterBoiler_kept _ (.refl s))

theorem enterDryFault_state (s : State) : (enterDryFault s).boiler.state = .dryFault := by
  have entered : (dryFaultEntered s).boiler.state = .dryFault := by
    rw [dryFaultEntered_boiler]
    exact enterBoiler_state _ s
  rw [enterDryFault_eq]
  split
  · next h => exact h
  · split
    · exact abortWithCredit_dryFault entered
    · exact entered

/-- In the STARTING state no descale is aborted, and drain-pending stands. -/
theorem enterDryFault_starting {s : State} (h : s.start.ready = false) :
    (enterDryFault s).boiler.drainPending = s.boiler.drainPending := by
  rw [enterDryFault_eq, (dryFaultEntered_kept s).start, h]
  split
  · rfl
  · rw [Bool.false_and, if_neg (by decide), dryFaultEntered_boiler]
    exact enterBoiler_drainPending (by decide) s

/-! ## The boiler at the end of a sample period (R99, R105, R108) -/

/-- The boiler state with the derivation made, before the reading is looked at (R108, R198). -/
def boilerBefore (counted : Bool) (s : State) : BoilerState :=
  if counted = true ∧ s.boiler.derived = false then boilerByLevel s else s.boiler.state

/-- READY and HEATING by the reading (R99). -/
def boilsAfter (st : BoilerState) (reading : Int) : BoilerState :=
  if st = .heating ∧ 980 ≤ reading then .ready else if st = .ready ∧ reading < 950 then .heating else st

/-- The reading says that the boiler is dry (R105). -/
abbrev driesOut (s : State) : Prop :=
  1300 < s.meas.boiler ∧ hasFault .sensorBoiler s = false ∧ s.boiler.state ≠ .dryFault

theorem deriveBoiler_eq (counted : Bool) (s : State) :
    deriveBoiler counted s = setBoiler (deriveBoiler counted s).boiler s := by
  unfold deriveBoiler
  split <;> rfl

theorem deriveBoiler_state (counted : Bool) (s : State) :
    (deriveBoiler counted s).boiler.state = boilerBefore counted s := by
  unfold deriveBoiler boilerBefore
  by_cases h : counted = true ∧ s.boiler.derived = false
  · rw [if_pos h, if_pos (by rw [h.1, h.2]; rfl)]
    rfl
  · rw [if_neg h, if_neg (by simpa using h)]

theorem deriveBoiler_derived (counted : Bool) (s : State) :
    (deriveBoiler counted s).boiler.derived = (s.boiler.derived || counted) := by
  unfold deriveBoiler
  cases hc : counted <;> cases hd : s.boiler.derived <;> simp [hd]

theorem deriveBoiler_steam (counted : Bool) (s : State) :
    (deriveBoiler counted s).boiler.steamRequest = s.boiler.steamRequest := by
  unfold deriveBoiler
  split <;> rfl

theorem deriveBoiler_drainPending {s : State} (h : s.boiler.derived = false) :
    (deriveBoiler true s).boiler.drainPending = lowCovered s := by
  unfold deriveBoiler
  rw [h]
  rfl

theorem deriveBoiler_reacts (counted : Bool) (s : State) : Reacts s (deriveBoiler counted s) := by
  refine .of_units (deriveBoiler_kept counted (.refl s)) ?_ ?_ (deriveBoiler_steam counted s) ?_ <;> rw [deriveBoiler_eq]
  · exact ⟨rfl, fun _ _ => id⟩
  · rfl
  · rfl

theorem followBoiling_state (s : State) :
    (followBoiling s).boiler.state = boilsAfter s.boiler.state s.meas.boiler := by
  unfold followBoiling boilsAfter
  split
  · exact enterBoiler_state _ s
  · split
    · exact enterBoiler_state _ s
    · rfl

theorem followBoiling_drainPending (s : State) :
    (followBoiling s).boiler.drainPending = s.boiler.drainPending := by
  unfold followBoiling
  split
  · exact enterBoiler_drainPending (by decide) s
  · split
    · exact enterBoiler_drainPending (by decide) s
    · rfl

/-- BOILER_DRY raised where the boiler is dry, before the controller's state follows. -/
def raiseDry (s : State) : State := if driesOut s then enterFault .boilerDry s else s

theorem raiseDry_only (s : State) : raiseDry s = { s with events := (raiseDry s).events } := by
  unfold raiseDry
  split
  · exact enterFault_only _ s
  · rfl

theorem raiseDry_reacts (s : State) : Reacts s (raiseDry s) := by
  unfold raiseDry
  split
  · exact enterFault_reacts rfl s
  · exact .refl s

theorem raiseDry_hasFault (f : FaultKind) (s : State) :
    hasFault f (raiseDry s) = true ↔ hasFault f s = true ∨ (f = .boilerDry ∧ driesOut s) := by
  unfold raiseDry
  by_cases h : driesOut s
  · rw [if_pos h, hasFault_enterFault, Bool.or_eq_true, decide_eq_true_iff]
    exact or_congr_right (iff_self_and.mpr fun _ => h)
  · rw [if_neg h]
    exact (or_iff_left fun x => h x.2).symm

theorem checkDry_eq (s : State) :
    (driesOut s ∧ s.boiler.derived = true → checkDry s = enterDryFault (raiseDry s)) ∧
      (¬(driesOut s ∧ s.boiler.derived = true) → checkDry s = raiseDry s) := by
  unfold checkDry raiseDry
  dsimp only
  by_cases h : driesOut s
  · rw [if_pos h, if_pos h, enterFault_boiler]
    refine ⟨fun x => if_pos x.2, fun x => if_neg fun hd => x ⟨h, hd⟩⟩
  · rw [if_neg h, if_neg h]
    exact ⟨fun x => absurd x.1 h, fun _ => rfl⟩

theorem checkDry_reacts (s : State) : BoilerReacts (raiseDry s) (checkDry s) := by
  by_cases h : driesOut s ∧ s.boiler.derived = true
  · rw [(checkDry_eq s).1 h]
    exact enterDryFault_reacts (.refl _)
  · rw [(checkDry_eq s).2 h]
    exact .refl _

/-- DRY_FAULT waits for the derivation (R105, R108). -/
theorem checkDry_state (s : State) :
    (driesOut s ∧ s.boiler.derived = true → (checkDry s).boiler.state = .dryFault) ∧
      (¬(driesOut s ∧ s.boiler.derived = true) → (checkDry s).boiler.state = s.boiler.state) := by
  obtain ⟨enters, stays⟩ := checkDry_eq s
  refine ⟨fun h => ?_, fun h => ?_⟩
  · rw [enters h]
    exact enterDryFault_state _
  · rw [stays h, raiseDry_only]

theorem checkDry_drainPending {s : State} (h : ¬driesOut s ∨ s.start.ready = false) :
    (checkDry s).boiler.drainPending = s.boiler.drainPending := by
  obtain ⟨enters, stays⟩ := checkDry_eq s
  by_cases hd : driesOut s ∧ s.boiler.derived = true
  · rw [enters hd, enterDryFault_starting (by rw [raiseDry_only]; exact h.resolve_left fun x => x hd.1), raiseDry_only]
  · rw [stays hd, raiseDry_only]

/-- The boiler controller's share of a period. -/
def boiled (s : State) : State := checkDry (followBoiling (deriveBoiler (allCounted s) s))

/-- The boiler controller's share up to BOILER_DRY, which leaves the regulator's part alone as the rest does. -/
def boilingRaised (s : State) : State := raiseDry (followBoiling (deriveBoiler (allCounted s) s))

theorem boilingRaised_reacts (s : State) : Reacts s (boilingRaised s) :=
  ((deriveBoiler_reacts _ s).trans (followBoiling_reacts (.refl _)).toReacts).trans (raiseDry_reacts _)

theorem boiled_reacts (s : State) : Reacts s (boiled s) :=
  (boilingRaised_reacts s).trans (checkDry_reacts _).toReacts

/-- The regulator and the outputs are no part of it. -/
theorem boiled_units (s : State) :
    (boiled s).climate = s.climate ∧ (boiled s).out = s.out := by
  have dry := checkDry_reacts (followBoiling (deriveBoiler (allCounted s) s))
  have boils := followBoiling_reacts (.refl (deriveBoiler (allCounted s) s))
  unfold boiled
  rw [dry.climate, dry.out, raiseDry_only]
  refine ⟨boils.climate.trans ?_, boils.out.trans ?_⟩ <;> rw [deriveBoiler_eq] <;> rfl

/-- The state in which the boiler reading is looked at: the derivation made and READY followed. -/
theorem followBoiling_facts (s : State) :
    let t := followBoiling (deriveBoiler (allCounted s) s)
    t.boiler.state = boilsAfter (boilerBefore (allCounted s) s) s.meas.boiler ∧
      t.boiler.derived = (s.boiler.derived || allCounted s) ∧ t.meas = s.meas ∧ t.start = s.start ∧
      ∀ f : FaultKind, hasFault f t = hasFault f s := by
  have boils := followBoiling_reacts (.refl (deriveBoiler (allCounted s) s))
  have kept := (deriveBoiler_reacts (allCounted s) s).kept
  refine ⟨?_, ?_, ?_, ?_, fun f => ?_⟩
  · rw [followBoiling_state, deriveBoiler_state, kept.meas]
  · rw [boils.derived, deriveBoiler_derived]
  · rw [boils.kept.meas, kept.meas]
  · rw [boils.kept.start, kept.start]
  · rw [hasFault_congr boils.faults, deriveBoiler_eq]
    rfl

/-- The boiler is dry by the reading that the period has taken, in the state that the reading has given it (R105). -/
def readsDry (s : State) : Prop :=
  1300 < s.meas.boiler ∧ hasFault .sensorBoiler s = false ∧
    boilsAfter (boilerBefore (allCounted s) s) s.meas.boiler ≠ .dryFault

theorem driesOut_iff (s : State) : driesOut (followBoiling (deriveBoiler (allCounted s) s)) ↔ readsDry s := by
  obtain ⟨state, -, meas, -, faults⟩ := followBoiling_facts s
  unfold driesOut readsDry
  rw [state, meas, faults]

theorem boiled_derived (s : State) : (boiled s).boiler.derived = (s.boiler.derived || allCounted s) := by
  unfold boiled
  rw [(checkDry_reacts _).derived, raiseDry_only]
  exact (followBoiling_facts s).2.1

/-- BOILER_DRY is raised where the boiler reads dry, and no other member moves. -/
theorem boiled_hasFault (f : FaultKind) (s : State) :
    hasFault f (boiled s) = true ↔ hasFault f s = true ∨ (f = .boilerDry ∧ readsDry s) := by
  obtain ⟨-, -, -, -, faults⟩ := followBoiling_facts s
  unfold boiled
  rw [hasFault_congr (checkDry_reacts _).faults, raiseDry_hasFault, driesOut_iff, faults]

theorem boiled_state (s : State) :
    (readsDry s ∧ (boiled s).boiler.derived = true → (boiled s).boiler.state = .dryFault) ∧
      (¬(readsDry s ∧ (boiled s).boiler.derived = true) →
        (boiled s).boiler.state = boilsAfter (boilerBefore (allCounted s) s) s.meas.boiler) := by
  obtain ⟨state, derived, -⟩ := followBoiling_facts s
  obtain ⟨enters, stays⟩ := checkDry_state (followBoiling (deriveBoiler (allCounted s) s))
  rw [driesOut_iff, derived] at enters stays
  rw [boiled_derived]
  exact ⟨enters, fun h => (stays h).trans state⟩

theorem boiled_drainPending {s : State} (hc : allCounted s = true) (hd : s.boiler.derived = false)
    (h : ¬readsDry s ∨ s.start.ready = false) : (boiled s).boiler.drainPending = lowCovered s := by
  obtain ⟨-, -, -, start, -⟩ := followBoiling_facts s
  have pending := checkDry_drainPending (s := followBoiling (deriveBoiler (allCounted s) s))
    (by rw [driesOut_iff, start]; exact h)
  unfold boiled
  rw [pending, followBoiling_drainPending, hc, deriveBoiler_drainPending hd]

end Sys2Proof.Machine
end

section
/-! SUPPORT. The sequencer at the end of a sample period, and SAMPLE_PERIOD as a whole. -/

namespace Sys2Proof.Machine

/-! ## Updates of the run and the events -/

/-- What the sequencer's share of a period changes: the run context and the events, no member of the fault set. -/
structure RunOnly (s t : State) : Prop where
  only : t = { s with ret := { s.ret with run := t.ret.run }, events := t.events }
  faults : t.events.faults = s.events.faults
  events : EventsKept s t

theorem RunOnly.refl (s : State) : RunOnly s s := ⟨rfl, rfl, .refl s⟩

theorem RunOnly.trans {s t u : State} (h : RunOnly s t) (k : RunOnly t u) : RunOnly s u :=
  ⟨k.only.trans (by rw [h.only]), k.faults.trans h.faults, h.events.trans k.events⟩

theorem setRun_runOnly (r : RunContext) (s : State) : RunOnly s (setRun r s) := ⟨rfl, rfl, rfl, fun _ _ => id⟩

theorem raiseEvent_runOnly (k : EventKind) (a : Option Byte) (s : State) : RunOnly s (raiseEvent k a s) :=
  ⟨rfl, rfl, raiseEvent_eventsKept k a s⟩

theorem addCause_runOnly (p : PauseCause) (s : State) : RunOnly s (addCause p s) := by
  unfold addCause
  split
  · exact .refl s
  · dsimp only
    split
    · exact ((setRun_runOnly _ s).trans (setRun_runOnly _ _)).trans (raiseEvent_runOnly _ _ _)
    · exact setRun_runOnly _ s

theorem removeCause_runOnly (p : PauseCause) (s : State) : RunOnly s (removeCause p s) := by
  unfold removeCause
  split
  · dsimp only
    split
    · exact ((setRun_runOnly _ s).trans (setRun_runOnly _ _)).trans (raiseEvent_runOnly _ _ _)
    · exact setRun_runOnly _ s
  · exact .refl s

/-! ## Pause causes (R144) -/

/-- The run context once a cause is present: PAUSED where it is the first (R144). -/
theorem addCause_context (p : PauseCause) (s : State) :
    (addCause p s).ret.run =
      if s.ret.run.causes.has p then s.ret.run
      else
        { s.ret.run with
          causes := s.ret.run.causes.put p true
          state := if s.ret.run.causes.isEmpty then .paused else s.ret.run.state } := by
  unfold addCause
  split
  · rfl
  · dsimp only
    split <;> rfl

/-- The run context once a cause is absent: RUNNING where it was the last (R144). -/
theorem removeCause_context (p : PauseCause) (s : State) :
    (removeCause p s).ret.run =
      if s.ret.run.causes.has p then
        { s.ret.run with
          causes := s.ret.run.causes.put p false
          state := if (s.ret.run.causes.put p false).isEmpty then .running else s.ret.run.state }
      else s.ret.run := by
  unfold removeCause
  split
  · cases he : (s.ret.run.causes.put p false).isEmpty
    · simp only [setRun_ret, he, Bool.false_eq_true, if_false]
    · simp only [setRun_ret, he, if_true, raiseEvent_ret]
  · rfl

/-! ## PROBE and CORE_REACHED (R141, R147) -/

theorem followProbe_runOnly (s : State) : RunOnly s (followProbe s) := by
  unfold followProbe
  split
  · split
    · exact addCause_runOnly _ s
    · exact removeCause_runOnly _ s
  · exact .refl s

theorem followProbe_idle {s : State} (h : runActive s = false) : followProbe s = s := by
  unfold followProbe
  rw [h]
  rfl

/-- During a run PROBE is present exactly while a CORE stage has no probe, and the run goes on as it is (R147). -/
theorem followProbe_context {s : State} (h : runActive s = true) :
    ∃ x st, (followProbe s).ret.run = { s.ret.run with causes := x, state := st } ∧ st ≠ .idle ∧
      x.probe = (decide ((currentStage s).ending = .core) && !s.meas.probePresent) := by
  have active : s.ret.run.state ≠ .idle := by
    unfold runActive at h
    simp only [Bool.and_eq_true, decide_eq_true_iff] at h
    exact h.2
  unfold followProbe
  rw [if_pos h]
  split
  · next hp =>
    rw [hp, addCause_context]
    split
    · next has => exact ⟨_, _, rfl, active, has⟩
    · refine ⟨_, _, rfl, ?_, rfl⟩
      split
      · decide
      · exact active
  · next hp =>
    rw [Bool.eq_false_iff.mpr hp, removeCause_context]
    split
    · refine ⟨_, _, rfl, ?_, rfl⟩
      split
      · decide
      · exact active
    · next has => exact ⟨_, _, rfl, active, Bool.eq_false_iff.mpr has⟩

/-- The core reading meets the target of a CORE stage for the first time (R141). -/
def coreReaches (s : State) : Prop :=
  runActive s = true ∧ (currentStage s).ending = .core ∧ s.meas.probePresent = true ∧
    s.ret.run.coreReached = false ∧ ∃ target, (currentStage s).core = some target ∧ target ≤ s.meas.core

theorem testCore_reaches {s : State} (h : coreReaches s) :
    testCore s = raiseEvent .coreReached (stageArg s) (setRun { s.ret.run with coreReached := true } s) := by
  obtain ⟨active, ending, probe, fresh, target, core, met⟩ := h
  unfold testCore
  rw [core]
  dsimp only
  rw [active, ending, probe, fresh, decide_eq_true met]
  rfl

theorem testCore_waits {s : State} (h : ¬coreReaches s) : testCore s = s := by
  unfold testCore
  split
  · rfl
  · next target core =>
    refine if_neg fun x => h ?_
    simp only [Bool.and_eq_true, decide_eq_true_iff, Bool.not_eq_true'] at x
    obtain ⟨⟨⟨⟨active, ending⟩, probe⟩, fresh⟩, met⟩ := x
    exact ⟨active, ending, probe, fresh, target, core, met⟩

theorem testCore_runOnly (s : State) : RunOnly s (testCore s) := by
  by_cases h : coreReaches s
  · rw [testCore_reaches h]
    exact (setRun_runOnly _ s).trans (raiseEvent_runOnly _ _ _)
  · rw [testCore_waits h]
    exact .refl s

/-- The sequencer's share of a period. -/
def sequenced (s : State) : State := testCore (followProbe s)

theorem sequenced_runOnly (s : State) : RunOnly s (sequenced s) := (followProbe_runOnly s).trans (testCore_runOnly _)

/-- The core reading is tested with the run as the period finds it: PROBE's change does not touch what the test reads. -/
theorem coreReaches_followProbe (s : State) : coreReaches (followProbe s) ↔ coreReaches s := by
  by_cases h : runActive s = true
  · obtain ⟨x, st, run, active, -⟩ := followProbe_context h
    have only := (followProbe_runOnly s).only
    rw [run] at only
    rw [only]
    have ready : s.start.ready = true := by
      unfold runActive at h
      simp only [Bool.and_eq_true] at h
      exact h.1
    unfold coreReaches
    refine and_congr_left fun _ => ?_
    rw [h]
    unfold runActive
    simp [ready, active]
  · rw [followProbe_idle (Bool.eq_false_iff.mpr h)]

theorem sequenced_probe {s : State} (h : runActive s = true) :
    (sequenced s).ret.run.causes.probe = true ↔ (currentStage s).ending = .core ∧ s.meas.probePresent = false := by
  obtain ⟨x, st, run, -, probe⟩ := followProbe_context h
  have causes : (sequenced s).ret.run.causes = (followProbe s).ret.run.causes := by
    unfold sequenced
    by_cases hc : coreReaches (followProbe s)
    · rw [testCore_reaches hc]
      rfl
    · rw [testCore_waits hc]
  rw [causes, run, probe]
  simp

theorem followProbe_stage (s : State) :
    (followProbe s).ret.run.stageIndex = s.ret.run.stageIndex ∧
      (followProbe s).ret.run.coreReached = s.ret.run.coreReached := by
  by_cases h : runActive s = true
  · obtain ⟨x, st, run, -⟩ := followProbe_context h
    rw [run]
    exact ⟨rfl, rfl⟩
  · rw [followProbe_idle (Bool.eq_false_iff.mpr h)]
    exact ⟨rfl, rfl⟩

/-- CORE_REACHED is raised with the stage where the core reading meets its target, and nowhere else (R141). -/
theorem sequenced_core (s : State) :
    (coreReaches s → (sequenced s).ret.run.coreReached = true ∧
      RaisedTo .coreReached (some (BitVec.ofNat 8 s.ret.run.stageIndex)) s (sequenced s)) ∧
    (¬coreReaches s → (sequenced s).ret.run.coreReached = s.ret.run.coreReached) := by
  obtain ⟨stage, core⟩ := followProbe_stage s
  rw [← coreReaches_followProbe s]
  unfold sequenced
  refine ⟨fun h => ?_, fun h => ?_⟩
  · rw [testCore_reaches h]
    refine ⟨rfl, fun l hl => ?_⟩
    rw [← stage]
    refine raiseEvent_raised .coreReached _ (setRun { (followProbe s).ret.run with coreReached := true } (followProbe s))
      l ?_
    rw [setRun_events, (followProbe_runOnly s).events.steering]
    exact hl
  · rw [testCore_waits h]
    exact core

end Sys2Proof.Machine
end

section
/-! SUPPORT. The electronics cooling fan is decided in the sample period alone (R46): the end of a stage, with all that it
makes the regulator do, leaves the decision as it is. -/

namespace Sys2Proof.Machine

theorem RunOnly.climate {s t : State} (h : RunOnly s t) : t.climate = s.climate := by rw [h.only]

@[simp] theorem issueFan_climate (code : Nat) (s : State) : (issueFan code s).climate = s.climate := by
  rw [issueFan_eq]

@[simp] theorem requestModeVent_climate (s : State) : (requestModeVent s).climate = s.climate := by
  unfold requestModeVent
  split
  · rfl
  · split
    · rfl
    · exact requestVent_climate _ s

@[simp] theorem handSteamRequest_climate (n : Nat) (s : State) : (handSteamRequest n s).climate = s.climate := by
  rw [handSteamRequest_eq]

@[simp] theorem postZeros_climate (s : State) : (postZeros s).climate = s.climate := by
  rw [postZeros_eq]

@[simp] theorem cancelBurst_climate (s : State) : (cancelBurst s).climate = s.climate :=
  (BoilerReacts.ite (cancelDose_reacts .ch1 (.refl s)) (.refl s)).climate

@[simp] theorem requestBurst_climate (ml : Nat) (s : State) : (requestBurst ml s).climate = s.climate := by
  unfold requestBurst loadDose
  split
  · rfl
  · split <;> rfl

@[simp] theorem issueOutputs_coolingFan (s : State) :
    (issueOutputs s).climate.coolingFan = s.climate.coolingFan := by
  unfold issueOutputs askRelay renewHeaterRequest
  split <;> simp

@[simp] theorem withholdSteam_coolingFan (b : Bool) (s : State) :
    (withholdSteam b s).climate.coolingFan = s.climate.coolingFan := by
  unfold withholdSteam
  dsimp only
  split <;> simp

@[simp] theorem stageEntry_coolingFan (sent : SentRecord) (s : State) :
    (stageEntry sent s).1.climate.coolingFan = s.climate.coolingFan := by
  unfold stageEntry
  split
  · rfl
  · dsimp only
    split <;> simp

@[simp] theorem endClimate_coolingFan (s : State) : (endClimate s).climate.coolingFan = s.climate.coolingFan := by
  unfold endClimate Climate.discard
  split <;> simp

@[simp] theorem addCause_climate (p : PauseCause) (s : State) : (addCause p s).climate = s.climate :=
  (addCause_runOnly p s).climate

@[simp] theorem removeCause_climate (p : PauseCause) (s : State) : (removeCause p s).climate = s.climate :=
  (removeCause_runOnly p s).climate

@[simp] theorem followProbe_climate (s : State) : (followProbe s).climate = s.climate := (followProbe_runOnly s).climate

@[simp] theorem followWater_coolingFan (s : State) : (followWater s).climate.coolingFan = s.climate.coolingFan := by
  unfold followWater
  dsimp only
  split
  · rfl
  · split
    · simp
    · split <;> simp

@[simp] theorem degradeStage_coolingFan (s : State) : (degradeStage s).climate.coolingFan = s.climate.coolingFan := by
  unfold degradeStage dropDeferred
  split <;> simp

@[simp] theorem endRun_coolingFan (result : RunResult) (fault : Option FaultKind) (s : State) :
    (endRun result fault s).climate.coolingFan = s.climate.coolingFan := by
  have marked : ∀ t : State, (markDrain true t).climate = t.climate := fun t => (markDrain_reacts true (.refl t)).climate
  unfold endRun dropDeferred askCommit
  dsimp only
  split <;> simp [marked]

@[simp] theorem enterBurst_coolingFan (s : State) : (enterBurst s).climate.coolingFan = s.climate.coolingFan := by
  unfold enterBurst
  split
  · rfl
  · split
    · rfl
    · split <;> simp

@[simp] theorem enterCauses_coolingFan (s : State) :
    (enterCauses false s).climate.coolingFan = s.climate.coolingFan := by
  unfold enterCauses
  simp

theorem enterStage_coolingFan (i : Nat) (s : State) :
    (enterStage i false s).1.climate.coolingFan = s.climate.coolingFan := by
  have degraded : ∀ (b : Prop) [Decidable b] (t : State),
      (if b then degradeStage t else t).climate.coolingFan = t.climate.coolingFan := by
    intro b _ t
    split <;> simp
  unfold enterStage
  dsimp only
  split
  · simp
  · split
    · next h =>
      have entered := congrArg (fun p => p.1.climate.coolingFan) h
      simp only [stageEntry_coolingFan, degraded] at entered
      rw [endRun_coolingFan, ← entered]
      rfl
    · next h =>
      have entered := congrArg (fun p => p.1.climate.coolingFan) h
      simp only [stageEntry_coolingFan, degraded] at entered
      rw [enterBurst_coolingFan, enterCauses_coolingFan]
      split <;> simp [← entered]

@[simp] theorem closeStage_climate (s : State) : (closeStage s).climate = s.climate := by
  unfold closeStage dropDeferred
  simp

theorem endStages_coolingFan (fuel : Nat) (s : State) :
    (endStages fuel s).climate.coolingFan = s.climate.coolingFan := by
  induction fuel generalizing s with
  | zero => rfl
  | succ fuel ih =>
    have entered := enterStage_coolingFan ((closeStage s).ret.run.stageIndex + 1) (closeStage s)
    unfold endStages
    dsimp only
    split
    · simp
    · split
      · next h =>
        rw [h] at entered
        split
        · rw [ih, entered, closeStage_climate]
        · rw [entered, closeStage_climate]
      · next h =>
        rw [h] at entered
        rw [entered, closeStage_climate]

/-- The end of a stage does not touch the cooling fan. -/
theorem checkStageEnd_coolingFan (s : State) : (checkStageEnd s).climate.coolingFan = s.climate.coolingFan := by
  unfold checkStageEnd endStage
  split
  · exact endStages_coolingFan 12 s
  · rfl

end Sys2Proof.Machine
end

section
/-! SUPPORT. SAMPLE_PERIOD as a whole: the state in which the end of the stage is looked at, clause by clause. -/

namespace Sys2Proof.Machine

/-! ## The measurement unit (R1, R4, R7 to R9) -/

theorem SampleChannel.take_samples (c : SampleChannel) (x : Int) :
    let k := { c with count := min (c.count + 1) 10 }
    c.take (.inRange x) = k.takeGood (some x) ∧ c.take .opened = k.takeBad ∧ c.take .shorted = k.takeBad :=
  ⟨rfl, rfl, rfl⟩

/-- The core points' share leaves the other channels, the cavity reading and the clock of the periods alone. -/
theorem measureCore_others (fitted : Bool) (offsets : Offsets) (raw : RawSamples) (m : Measurement) :
    let u := measureCore fitted offsets raw m
    u.chans.cavityUpper = m.chans.cavityUpper ∧ u.chans.cavityLower = m.chans.cavityLower ∧
      u.chans.boiler = m.chans.boiler ∧ u.chans.moisture = m.chans.moisture ∧ u.cavity = m.cavity ∧
      u.sampleClock = m.sampleClock := by
  unfold measureCore
  dsimp only
  split <;> exact ⟨rfl, rfl, rfl, rfl, rfl, rfl⟩

/-- The cavity, boiler and moisture channels take their conversions, and the readings follow the filters. -/
theorem measure_readings (fitted : Bool) (offsets : Offsets) (raw : RawSamples) (m : Measurement) :
    let u := measure fitted offsets raw m
    u.sampleClock = m.sampleClock - 100000 ∧
      u.chans.cavityUpper = m.chans.cavityUpper.take (convertR offsets.cavityUpper raw.cavityUpper) ∧
      u.chans.cavityLower = m.chans.cavityLower.take (convertR offsets.cavityLower raw.cavityLower) ∧
      u.chans.boiler = m.chans.boiler.take (convertR offsets.boiler raw.boiler) ∧
      u.chans.moisture = m.chans.moisture.take (convertM offsets.moisture raw.moisture) ∧
      u.cavity = cavityReading u.chans.cavityUpper u.chans.cavityLower m.cavity ∧
      u.boiler = u.chans.boiler.value ∧ u.moisture = Int.tdiv (u.chans.moisture.value + 5) 10 := by
  obtain ⟨upper, lower, boiler, moisture, cavity, clock⟩ := measureCore_others fitted offsets raw m
  unfold measure moistureReading truncDiv
  dsimp only
  rw [upper, lower, boiler, moisture, cavity, clock]
  exact ⟨rfl, rfl, rfl, rfl, rfl, rfl, rfl, rfl⟩

/-! ## What the reactions leave of the run -/

theorem Reacts.currentStage_eq {s t : State} (h : Reacts s t) : currentStage t = currentStage s := by
  obtain ⟨n, r, run⟩ := h.run
  unfold currentStage stageAt runStages
  rw [h.slots, run]

theorem Reacts.runActive_eq {s t : State} (h : Reacts s t) : runActive t = runActive s := by
  obtain ⟨n, r, run⟩ := h.run
  unfold runActive
  rw [h.kept.start, run]

theorem Reacts.runFields {s t : State} (h : Reacts s t) :
    t.ret.run.stageIndex = s.ret.run.stageIndex ∧ t.ret.run.coreReached = s.ret.run.coreReached := by
  obtain ⟨n, r, run⟩ := h.run
  rw [run]
  exact ⟨rfl, rfl⟩

/-- The vent request reads the flap and its end switches alone. -/
theorem ventAfter_congr (e : VentEnd) {s t : State} (vent : t.out.vent = s.out.vent) (inputs : t.inputs = s.inputs) :
    ventAfter e t = ventAfter e s := by
  unfold ventAfter endReached
  rw [vent, inputs]

theorem RunOnly.kept {s t : State} (h : RunOnly s t) : Kept s t := by
  rw [h.only]
  exact ⟨rfl, rfl, rfl, rfl, rfl, rfl, rfl, rfl, rfl, rfl, rfl, rfl, rfl, fun f _ => by rw [h.faults], .inl rfl⟩

/-! ## The period up to the end of the stage -/

/-- The regulator's share done. -/
def regulated (m : Measurement) (s : State) : State := climateSample (prepared m s)

/-- Every unit's share done; only the end of the stage is still to be looked at. -/
def sampled (m : Measurement) (s : State) : State := sequenced (boiled (regulated m s))

theorem sequenced_boiled (m : Measurement) (s : State) : sequenced (boiled (regulated m s)) = sampled m s := rfl

theorem afterReadings_eq (m : Measurement) (s : State) :
    afterReadings s (takeReadings m s) = checkStageEnd (sampled m s) := rfl

section

variable (m : Measurement) (s : State)

theorem regulated_reacts : Reacts (takeReadings m s) (regulated m s) :=
  (prepared_reacts m s).trans (climateSample_reacts _)

theorem boiled_regulated_reacts : Reacts (takeReadings m s) (boiled (regulated m s)) :=
  (regulated_reacts m s).trans (boiled_reacts _)

/-- What a period leaves alone of what the readings' state `takeReadings m s` holds. -/
theorem sampled_kept : Kept (takeReadings m s) (sampled m s) :=
  (boiled_regulated_reacts m s).kept.trans (sequenced_runOnly _).kept

theorem sampled_eventsKept : EventsKept (takeReadings m s) (sampled m s) :=
  (boiled_regulated_reacts m s).events.trans (sequenced_runOnly _).events

theorem sampled_meas : (sampled m s).meas = m := by
  rw [(sampled_kept m s).meas, takeReadings_eq]

theorem sampled_units :
    (sampled m s).climate = (regulated m s).climate ∧ (sampled m s).out = (regulated m s).out ∧
      (sampled m s).share = (boiled (regulated m s)).share ∧
      (sampled m s).boiler = (boiled (regulated m s)).boiler := by
  obtain ⟨climate, out⟩ := boiled_units (regulated m s)
  unfold sampled
  rw [(sequenced_runOnly _).only]
  exact ⟨climate, out, rfl, rfl⟩

/-- A sensor fault stands as its raiser has left it, whoever reads it in the period. -/
theorem sampled_hasFault {f : FaultKind} (hf : f.shared = false) :
    hasFault f (sampled m s) = hasFault f (takeReadings m s) :=
  (sampled_kept m s).hasFault_eq hf

/-! ## The regulator's share -/

theorem prepared_hasFault (f : FaultKind) : hasFault f (prepared m s) = hasFault f (takeReadings m s) :=
  hasFault_congr (prepared_faults m s) f

theorem prepared_inputs : (prepared m s).inputs = s.inputs := by
  rw [(prepared_reacts m s).kept.inputs, takeReadings_eq]

theorem overrun_prepared :
    overrun (prepared m s) ↔
      s.climate.state ≠ .fault ∧ (60000 ≤ runawayAfter (prepared m s) ∨ 3000 < (sampled m s).meas.cavity) := by
  obtain ⟨climate, -⟩ := prepared_units m s
  unfold overrun
  rw [climate, prepared_meas, sampled_meas]

theorem cooled_prepared :
    cooled (prepared m s) ↔ s.climate.state = .cooldown ∧ (sampled m s).meas.cavity < 500 := by
  obtain ⟨climate, -⟩ := prepared_units m s
  unfold cooled
  rw [climate, prepared_meas, sampled_meas]

/-- The regulator's FAULT with its outputs and zeros (R42). -/
theorem sampled_overrun (h : overrun (prepared m s)) :
    let v := sampled m s
    v.climate.state = .fault ∧ hasFault .heatRunaway v = true ∧ v.climate.record = none ∧ v.climate.iacc = 0 ∧
      v.climate.relayAsk = false ∧ v.out.fan.code = 0 ∧ VentAsked .opened s v ∧ v.boiler.steamRequest = 0 ∧
      v.share.demands.cavity = .all 0 := by
  obtain ⟨climate, out, share, boiler⟩ := sampled_units m s
  obtain ⟨-, prepOut, -⟩ := prepared_units m s
  have eq : regulated m s = restOutputs .opened (faultZeros (countedSample (prepared m s))) := climateSample_overrun h
  have zeros : faultZeros (countedSample (prepared m s)) =
      postZeros (setClimate ((countedSample (prepared m s)).climate.discard .fault)
        (enterFault .heatRunaway (countedSample (prepared m s)))) := rfl
  have zeroed := postZeros_eq (setClimate ((countedSample (prepared m s)).climate.discard .fault)
    (enterFault .heatRunaway (countedSample (prepared m s))))
  rw [← zeros] at zeroed
  have faultClimate : (regulated m s).climate =
      { (countedSample (prepared m s)).climate.discard .fault with relayAsk := false } := by
    rw [eq, restOutputs_climate, zeroed]
    rfl
  have reacts : Reacts (faultZeros (countedSample (prepared m s))) (boiled (regulated m s)) := by
    rw [eq]
    exact (restOutputs_reacts _ _).trans (boiled_reacts _)
  have runaway : hasFault .heatRunaway (regulated m s) = true := by
    rw [eq, restOutputs_hasFault _ (by decide), zeroed]
    exact (hasFault_enterFault .heatRunaway .heatRunaway (countedSample (prepared m s))).trans (by simp)
  refine ⟨by rw [climate, faultClimate]; rfl, ?_, by rw [climate, faultClimate]; rfl,
    by rw [climate, faultClimate]; rfl, by rw [climate, faultClimate], ?_, ?_, ?_, ?_⟩
  · unfold sampled
    rw [hasFault_congr (sequenced_runOnly _).faults, boiled_hasFault]
    exact .inl runaway
  · rw [out, eq]
    exact restOutputs_fanCode _ _
  · rw [ventAsked_iff, out, eq, restOutputs_vent]
    refine ventAfter_congr _ ?_ ?_
    · rw [zeroed]
      simp [countedSample, prepOut]
    · rw [zeroed]
      simp [countedSample, prepared_inputs]
  · rw [boiler]
    exact reacts.zeroSteam (by rw [zeroed])
  · rw [share]
    exact reacts.zeroCavity (by rw [zeroed]; rfl)

/-- Short of the limits HEAT_RUNAWAY and the record stand, and the timer has counted (R41). -/
theorem sampled_counts (h : ¬overrun (prepared m s)) :
    let v := sampled m s
    v.climate.runaway = runawayAfter (prepared m s) ∧ hasFault .heatRunaway v = hasFault .heatRunaway s ∧
      v.climate.record = s.climate.record := by
  obtain ⟨climate, -⟩ := sampled_units m s
  obtain ⟨prepClimate, -⟩ := prepared_units m s
  have counts : (regulated m s).climate.runaway = runawayAfter (prepared m s) ∧
      hasFault .heatRunaway (regulated m s) = hasFault .heatRunaway (prepared m s) ∧
      (regulated m s).climate.record = (prepared m s).climate.record := by
    unfold regulated
    by_cases hc : cooled (prepared m s)
    · rw [climateSample_cooled h hc, raiseEvent_climate, restOutputs_climate]
      exact ⟨rfl, restOutputs_hasFault _ (by decide) _, rfl⟩
    · rw [climateSample_counts h hc]
      exact ⟨rfl, rfl, rfl⟩
  obtain ⟨runaway, fault, record⟩ := counts
  refine ⟨by rw [climate, runaway], ?_, by rw [climate, record, prepClimate]⟩
  have same : hasFault .heatRunaway (regulated m s) = hasFault .heatRunaway s := by
    rw [fault, prepared_hasFault, takeReadings_hasFault]
    rfl
  unfold sampled
  rw [hasFault_congr (sequenced_runOnly _).faults, Bool.eq_iff_iff, boiled_hasFault, same]
  simp

/-- The end of COOLDOWN closes the vent and is raised (R28, R38). -/
theorem sampled_cooled (h : ¬overrun (prepared m s)) (hc : cooled (prepared m s)) :
    (sampled m s).climate.state = .off ∧ VentAsked .closed s (sampled m s) ∧
      ∀ k : Link, (steeringOf s.events.steering .cooldownEnded).get k = true → Unread .cooldownEnded k (sampled m s) := by
  obtain ⟨climate, out, -⟩ := sampled_units m s
  obtain ⟨-, prepOut, -⟩ := prepared_units m s
  have eq : regulated m s = _ := climateSample_cooled h hc
  refine ⟨?_, ?_, fun k hk => ?_⟩
  · rw [climate, eq, raiseEvent_climate, restOutputs_climate]
    rfl
  · rw [ventAsked_iff, out, eq, raiseEvent_out, restOutputs_vent]
    exact ventAfter_congr _ (congrArg OutputTiming.vent prepOut) (prepared_inputs m s)
  · have before : EventsKept s (restOutputs .closed
        (setClimate { (countedSample (prepared m s)).climate with state := .off } (countedSample (prepared m s)))) :=
      ((takeReadings_eventsKept m s).trans
        ((prepared_reacts m s).trans (Reacts.climate.trans Reacts.climate)).events).trans
          (restOutputs_eventsKept .closed _)
    have raised := raiseEvent_raised .cooldownEnded none (restOutputs .closed
        (setClimate { (countedSample (prepared m s)).climate with state := .off } (countedSample (prepared m s))))
    rw [← eq] at raised
    have after : EventsKept (regulated m s) (sampled m s) :=
      (boiled_reacts _).events.trans (sequenced_runOnly _).events
    exact after.raised raised (by rw [before.steering]; exact hk)

/-- Otherwise the regulator's state and the flap are as they were. -/
theorem sampled_stays (h : ¬overrun (prepared m s)) (hc : ¬cooled (prepared m s)) :
    (sampled m s).climate.state = s.climate.state ∧ (sampled m s).out.vent = s.out.vent := by
  obtain ⟨climate, out, -⟩ := sampled_units m s
  obtain ⟨prepClimate, prepOut, -⟩ := prepared_units m s
  have eq : regulated m s = _ := climateSample_counts h hc
  have counted : (countedSample (prepared m s)).climate.state = (prepared m s).climate.state ∧
      (countedSample (prepared m s)).out = (prepared m s).out := ⟨rfl, rfl⟩
  rw [climate, out, eq, counted.1, counted.2, prepClimate, prepOut]
  exact ⟨rfl, rfl⟩

theorem sampled_coolingFan :
    (sampled m s).climate.coolingFan =
      (if s.climate.state = .off ∨ s.climate.state = .fault then
        if 600 ≤ m.cavity then true else if m.cavity < 500 then false else s.climate.coolingFan
      else true) := by
  obtain ⟨climate, -⟩ := sampled_units m s
  obtain ⟨prepClimate, -⟩ := prepared_units m s
  have fan : (regulated m s).climate.coolingFan = _ := climateSample_coolingFan (prepared m s)
  rw [climate, fan]
  unfold coolingFanAfter
  rw [prepClimate, prepared_meas]

/-! ## The boiler controller's share -/

theorem allCounted_congr {s t : State} (meas : t.meas = s.meas) (start : t.start = s.start) :
    allCounted t = allCounted s := by
  unfold allCounted
  rw [meas, start]

/-- The boiler's state, the sensor fault and the low level are in the boiler controller's share as the period finds them. -/
theorem regulated_boiler :
    (regulated m s).boiler.derived = s.boiler.derived ∧ (regulated m s).boiler.state = s.boiler.state ∧
      lowCovered (regulated m s) = lowCovered s ∧ (regulated m s).start = s.start ∧
      (regulated m s).meas = (sampled m s).meas ∧ allCounted (regulated m s) = allCounted (sampled m s) ∧
      hasFault .sensorBoiler (regulated m s) = hasFault .sensorBoiler (sampled m s) ∧
      hasFault .boilerDry (regulated m s) = hasFault .boilerDry s := by
  have kept := (regulated_reacts m s).kept
  have boiler : (regulated m s).boiler = _ := climateSample_boiler (prepared m s)
  obtain ⟨-, -, -, prepBoiler⟩ := prepared_units m s
  have meas : (regulated m s).meas = (sampled m s).meas := by rw [kept.meas, (sampled_kept m s).meas]
  have start : (regulated m s).start = s.start := by rw [kept.start, takeReadings_eq]
  refine ⟨?_, ?_, ?_, start, meas, allCounted_congr meas ?_, ?_, ?_⟩
  · rw [boiler, prepBoiler]
  · rw [boiler, prepBoiler]
  · unfold lowCovered
    rw [kept.inputs, takeReadings_eq]
  · rw [kept.start, (sampled_kept m s).start]
  · rw [kept.hasFault_eq rfl, sampled_hasFault m s rfl]
  · have same : hasFault .boilerDry (regulated m s) = _ :=
      climateSample_hasFault (f := .boilerDry) (by decide) (by decide) (prepared m s)
    rw [same, prepared_hasFault, takeReadings_hasFault]
    rfl

/-- The boiler's derivation, HEATING and READY, BOILER_DRY and DRY_FAULT (R99, R105, R108). -/
theorem sampled_boiler :
    let v := sampled m s
    let counted := allCounted v
    let derives := counted = true ∧ s.boiler.derived = false
    let before := if derives then (if lowCovered s then BoilerState.heating else .empty) else s.boiler.state
    let dry := 1300 < v.meas.boiler ∧ hasFault .sensorBoiler v = false ∧ boilsAfter before v.meas.boiler ≠ .dryFault
    v.boiler.derived = (s.boiler.derived || counted) ∧
      (hasFault .boilerDry v = true ↔ hasFault .boilerDry s = true ∨ dry) ∧
      (dry ∧ v.boiler.derived = true → v.boiler.state = .dryFault) ∧
      (¬(dry ∧ v.boiler.derived = true) → v.boiler.state = boilsAfter before v.meas.boiler) ∧
      (derives → ¬dry ∨ s.start.ready = false → v.boiler.drainPending = lowCovered s) := by
  obtain ⟨derived, state, low, start, meas, counted, blind, dryBefore⟩ := regulated_boiler m s
  obtain ⟨-, -, -, boiler⟩ := sampled_units m s
  have hasDry : hasFault .boilerDry (sampled m s) = hasFault .boilerDry (boiled (regulated m s)) :=
    hasFault_congr (sequenced_runOnly _).faults _
  obtain ⟨enters, stays⟩ := boiled_state (regulated m s)
  have pending := boiled_drainPending (s := regulated m s)
  dsimp only
  rw [boiler, hasDry, boiled_hasFault, boiled_derived, dryBefore, derived, counted]
  rw [boiled_derived] at enters stays
  unfold readsDry boilerBefore boilerByLevel at enters stays pending ⊢
  rw [derived, state, low, meas, counted, blind] at enters stays pending
  rw [derived, state, low, meas, counted, blind]
  rw [start] at pending
  refine ⟨rfl, by simp, enters, stays, fun h hd => pending h.1 h.2 hd⟩

/-! ## The sequencer's share -/

theorem boiled_regulated_run :
    runActive (boiled (regulated m s)) = runActive s ∧ currentStage (boiled (regulated m s)) = currentStage s ∧
      (boiled (regulated m s)).ret.run.stageIndex = s.ret.run.stageIndex ∧
      (boiled (regulated m s)).ret.run.coreReached = s.ret.run.coreReached ∧
      (boiled (regulated m s)).meas = (sampled m s).meas := by
  have reacts := boiled_regulated_reacts m s
  obtain ⟨stage, core⟩ := reacts.runFields
  rw [reacts.runActive_eq, reacts.currentStage_eq, stage, core, reacts.kept.meas, (sampled_kept m s).meas, takeReadings_eq]
  exact ⟨rfl, rfl, rfl, rfl, rfl⟩

theorem sampled_probe (h : runActive s = true) :
    (sampled m s).ret.run.causes.probe = true ↔
      (currentStage s).ending = .core ∧ (sampled m s).meas.probePresent = false := by
  obtain ⟨active, stage, -, -, meas⟩ := boiled_regulated_run m s
  have probe := sequenced_probe (active.trans h)
  rw [sequenced_boiled, stage, meas] at probe
  exact probe

theorem sampled_core :
    let v := sampled m s
    let reaches := runActive s = true ∧ (currentStage s).ending = .core ∧ v.meas.probePresent = true ∧
      s.ret.run.coreReached = false ∧ ∃ target, (currentStage s).core = some target ∧ target ≤ v.meas.core
    (reaches → v.ret.run.coreReached = true ∧
      RaisedTo .coreReached (some (BitVec.ofNat 8 s.ret.run.stageIndex)) s v) ∧
    (¬reaches → v.ret.run.coreReached = s.ret.run.coreReached) := by
  obtain ⟨active, stage, index, fresh, meas⟩ := boiled_regulated_run m s
  obtain ⟨reaches, waits⟩ := sequenced_core (boiled (regulated m s))
  have steering : (boiled (regulated m s)).events.steering = s.events.steering :=
    ((takeReadings_eventsKept m s).trans (boiled_regulated_reacts m s).events).steering
  rw [sequenced_boiled] at reaches waits
  unfold coreReaches at reaches waits
  unfold RaisedTo at reaches ⊢
  rw [active, stage, fresh, meas, index, steering] at reaches
  rw [active, stage, fresh, meas] at waits
  exact ⟨reaches, waits⟩

/-! ## The posts and the probe's events -/

theorem sampled_probeEvent (h : (sampled m s).meas.probePresent ≠ s.meas.probePresent) (l : Link)
    (hl : (steeringOf s.events.steering
      (if (sampled m s).meas.probePresent then .probeInserted else .probeRemoved)).get l = true) :
    Unread (if (sampled m s).meas.probePresent then .probeInserted else .probeRemoved) l (sampled m s) := by
  rw [sampled_meas] at h hl ⊢
  exact (sampled_eventsKept m s).raised (takeReadings_probe h) hl

theorem sampled_cavityZeros (was : hasFault .sensorCavity s = false) (now : hasFault .sensorCavity (sampled m s) = true)
    (hw : working s = true ∨ s.climate.state = .paused) :
    (sampled m s).share.demands.cavity = .all 0 ∧ (sampled m s).boiler.steamRequest = 0 := by
  rw [sampled_hasFault m s rfl] at now
  obtain ⟨zeroCavity, zeroSteam⟩ := prepared_zeros was now hw
  obtain ⟨-, -, share, boiler⟩ := sampled_units m s
  have reacts : Reacts (prepared m s) (boiled (regulated m s)) := (climateSample_reacts _).trans (boiled_reacts _)
  rw [share, boiler]
  exact ⟨reacts.zeroCavity zeroCavity, reacts.zeroSteam zeroSteam⟩

theorem sampled_boilerPost (was : hasFault .sensorBoiler s = false) (now : hasFault .sensorBoiler (sampled m s) = true) :
    (s.start.ready = true → (sampled m s).share.demands.boiler = 0) ∧
      (s.start.ready = false → (sampled m s).share.demands.boiler = s.share.demands.boiler) := by
  rw [sampled_hasFault m s rfl] at now
  obtain ⟨-, -, share, -⟩ := sampled_units m s
  have reacts : Reacts (prepared m s) (boiled (regulated m s)) := (climateSample_reacts _).trans (boiled_reacts _)
  rw [share]
  refine ⟨fun ready => ?_, fun starting => ?_⟩
  · refine reacts.blind ?_ (prepared_boilerDemand was now ready)
    rw [prepared_hasFault]
    exact now
  · rw [(boiled_regulated_reacts m s).starting (by rw [takeReadings_eq]; exact starting), takeReadings_eq]

end

end Sys2Proof.Machine
end

section
namespace Sys2Proof.Machine

/-! ## The row -/

theorem samplePeriodDue_iff (s : State) : samplePeriodDue s = true ↔ 100000 ≤ s.meas.sampleClock := by
  unfold samplePeriodDue
  exact decide_eq_true_iff

theorem exec_samplePeriod_early (raw : RawSamples) {s : State} (h : samplePeriodDue s = false) :
    exec (.samplePeriod raw) s = .next s := by
  change execSamplePeriod raw s = .next s
  unfold execSamplePeriod
  rw [h]
  rfl

theorem exec_samplePeriod_due (raw : RawSamples) {s : State} (h : samplePeriodDue s = true) :
    exec (.samplePeriod raw) s =
      .next (settle (checkStageEnd
        (sampled (measure s.start.straps.probeFitted s.settings.offsets raw s.meas) s))) := by
  change execSamplePeriod raw s = _
  unfold execSamplePeriod
  rw [if_pos h, takePeriod_eq, afterReadings_eq]

/-- Zeros for the cavity, load by load. -/
theorem cavity_zeros {d : PerLoad Nat} (h : d.cavity = .all 0) :
    d.top = 0 ∧ d.bottom = 0 ∧ d.ring = 0 ∧ d.grill = 0 :=
  ⟨congrArg PerCavity.top h, congrArg PerCavity.bottom h, congrArg PerCavity.ring h, congrArg PerCavity.grill h⟩

/-- The runaway timer, on the readings and the SENSOR_CAVITY that the period ends with (R41). -/
theorem runawayAfter_prepared (m : Measurement) (s : State) :
    runawayAfter (prepared m s) =
      runawayOn s.climate (hasFault .sensorCavity (sampled m s)) (sampled m s).meas.cavity := by
  obtain ⟨climate, -⟩ := prepared_units m s
  unfold runawayAfter
  rw [climate, prepared_hasFault, prepared_meas, sampled_meas, sampled_hasFault m s rfl]

/-- What the end of the stage leaves of the period's readings, faults and cooling fan, and of everything that a period
does not touch. -/
theorem stageEnd_keeps (m : Measurement) (s : State) :
    let u := checkStageEnd (sampled m s)
    u.meas = m ∧ u.climate.coolingFan = (sampled m s).climate.coolingFan ∧
      (hasFault .sensorCavity u = true ↔
        m.chans.cavityUpper.state = .faulted ∧ m.chans.cavityLower.state = .faulted) ∧
      (hasFault .sensorBoiler u = true ↔ m.chans.boiler.state = .faulted) ∧
      (hasFault .moistureSensor u = true ↔ m.chans.moisture.state = .faulted) ∧
      u.now = s.now ∧ u.pending = s.pending ∧ u.inputs = s.inputs ∧ u.prot = s.prot ∧ u.ports = s.ports ∧
      u.settings = s.settings ∧ u.start = s.start ∧ u.out.heat = s.out.heat ∧ u.out.halfCycle = s.out.halfCycle := by
  have kept : Kept (takeReadings m s) (checkStageEnd (sampled m s)) := checkStageEnd_kept (sampled_kept m s)
  have faults : ∀ {f : FaultKind}, f.shared = false →
      hasFault f (checkStageEnd (sampled m s)) = hasFault f (takeReadings m s) := fun hf => kept.hasFault_eq hf
  dsimp only
  rw [faults rfl, faults rfl, faults rfl, takeReadings_hasFault, takeReadings_hasFault, takeReadings_hasFault, kept.meas,
    kept.now, kept.pending, kept.inputs, kept.prot, kept.ports, kept.settings, kept.start, kept.heat, kept.halfCycle,
    checkStageEnd_coolingFan, takeReadings_eq]
  unfold SampleChannel.isFaulted
  simp

/-- Settles O20: the readings, the regulator, the boiler controller and the sequencer in their order, each by its own
lemma, and the frame of the stage's end. -/
theorem samplePeriodMeasures : Obligations.SamplePeriodMeasures := by
  refine ⟨samplePeriodDue_iff, SampleChannel.take_samples,
    fun raw s => ⟨exec_samplePeriod_early raw, fun due => ?_⟩⟩
  have row := exec_samplePeriod_due raw due
  have readings := measure_readings s.start.straps.probeFitted s.settings.offsets raw s.meas
  generalize measure s.start.straps.probeFitted s.settings.offsets raw s.meas = m at row readings ⊢
  obtain ⟨clock, upper, lower, boiler, moisture, cavityIs, boilerIs, moistureIs⟩ := readings
  obtain ⟨meas, fan, cavityFault, boilerFault, moistureFault, frame⟩ := stageEnd_keeps m s
  refine ⟨sampled m s, checkStageEnd (sampled m s), rfl, row, sampled_meas m s, ?regulator, ?cavityBegins,
    sampled_boilerPost m s, ?boilerUnit, sampled_probeEvent m s, sampled_probe m s, ?core, ?readings⟩
  case regulator =>
    intro counted runs cools
    have count : runawayAfter (prepared m s) = counted := runawayAfter_prepared m s
    have hruns : overrun (prepared m s) ↔ runs := by rw [overrun_prepared, count]
    have hcools : cooled (prepared m s) ↔ cools := cooled_prepared m s
    refine ⟨fun h => ?_, fun h => ?_, fun h hc => (sampled_cooled m s (mt hruns.mp h) (hcools.mpr hc)).2.2⟩
    · obtain ⟨state, fault, record, iacc, relay, code, vent, steam, zeros⟩ := sampled_overrun m s (hruns.mpr h)
      exact ⟨state, fault, record, iacc, relay, code, vent, steam, cavity_zeros zeros⟩
    · obtain ⟨runaway, fault, record⟩ := sampled_counts m s (mt hruns.mp h)
      refine ⟨runaway.trans count, fault, record, fun hc => ?_, fun hc => ?_⟩
      · obtain ⟨state, vent, -⟩ := sampled_cooled m s (mt hruns.mp h) (hcools.mpr hc)
        exact ⟨state, vent⟩
      · exact sampled_stays m s (mt hruns.mp h) (mt hcools.mp hc)
  case cavityBegins =>
    intro was begun hw
    obtain ⟨zeros, steam⟩ := sampled_cavityZeros m s was begun hw
    obtain ⟨top, bottom, ring, grill⟩ := cavity_zeros zeros
    exact ⟨top, bottom, ring, grill, steam⟩
  case boilerUnit =>
    intro counted derives before boils dry
    obtain ⟨derived, fault, enters, stays, pending⟩ := sampled_boiler m s
    refine ⟨derived, ?_, ?_, pending⟩
    · rw [Bool.eq_iff_iff, fault, Bool.or_eq_true, decide_eq_true_iff]
      rfl
    · split
      · next h => exact enters h
      · next h => exact stays h
  case core =>
    intro reaches
    obtain ⟨met, unmet⟩ := sampled_core m s
    refine ⟨fun h => ?_, unmet⟩
    exact met h
  case readings =>
    rw [meas, fan, sampled_coolingFan]
    refine ⟨clock, upper, lower, boiler, moisture, ?_, boilerIs, moistureIs, rfl, cavityFault, boilerFault, moistureFault,
      frame⟩
    rw [cavityIs]
    unfold cavityReading truncDiv
    cases m.chans.cavityUpper.state <;> cases m.chans.cavityLower.state <;> rfl

end Sys2Proof.Machine
end

section
/-! SUPPORT. The regulator at a window start: the loop's figures, the two tests, the loops with their posts, and the
window's result in closed form. -/

namespace Sys2Proof.Machine

/-! ## The temperature loop (R31, R32, R34) -/

theorem starved_iff (weights shortfall : PerCavity Nat) :
    starved weights shortfall = true ↔
      (0 < weights.top ∧ 0 < shortfall.top) ∨ (0 < weights.bottom ∧ 0 < shortfall.bottom) ∨
        (0 < weights.ring ∧ 0 < shortfall.ring) ∨ (0 < weights.grill ∧ 0 < shortfall.grill) := by
  unfold starved
  simp only [Bool.or_eq_true, Bool.and_eq_true, decide_eq_true_iff, or_assoc]

/-- The loop's output, and where its accumulator stands and where it moves (R31, R32). -/
theorem temperatureLoop_figures (row : ModeRow) (e iacc : Int) (shortfall : PerCavity Nat) :
    let raw := Int.tdiv (e * 1000) row.pb + Int.tdiv iacc 1000
    let out := temperatureLoop row e iacc shortfall
    let short := (0 < row.weights.top ∧ 0 < shortfall.top) ∨ (0 < row.weights.bottom ∧ 0 < shortfall.bottom) ∨
      (0 < row.weights.ring ∧ 0 < shortfall.ring) ∨ (0 < row.weights.grill ∧ 0 < shortfall.grill)
    out.1 = (max 0 (min raw 1000)).toNat ∧ out.1 ≤ 1000 ∧
    (row.ti ≤ 0 ∨ (1000 < raw ∧ 0 < e) ∨ (raw < 0 ∧ e < 0) ∨ (0 < e ∧ short) → out.2 = iacc) ∧
    (0 < row.ti → ¬(1000 < raw ∧ 0 < e) → ¬(raw < 0 ∧ e < 0) → ¬(0 < e ∧ short) →
      out.2 = max (-1000000) (min (iacc + Int.tdiv (e * 1000000) (row.pb * row.ti)) 1000000)) := by
  intro raw out short
  have starves : starved row.weights shortfall = true ↔ short := starved_iff _ _
  have output : out.1 = (max 0 (min raw 1000)).toNat := by
    show (temperatureLoop row e iacc shortfall).1 = _
    unfold temperatureLoop
    dsimp only
    split
    · rfl
    · split <;> rfl
  refine ⟨output, by omega, fun stays => ?_, fun ti high low starving => ?_⟩
  · show (temperatureLoop row e iacc shortfall).2 = iacc
    unfold temperatureLoop
    dsimp only
    split
    · rfl
    · next ti =>
      rw [← starves] at stays
      split
      · rfl
      · next moves => exact absurd (stays.resolve_left ti) moves
  · rw [← starves] at starving
    show (temperatureLoop row e iacc shortfall).2 = _
    unfold temperatureLoop
    dsimp only
    rw [if_neg (by omega)]
    split
    · next stays => exact absurd stays (not_or.mpr ⟨high, not_or.mpr ⟨low, starving⟩⟩)
    · rfl

/-- A demand of a weighted load stays within the window's cycles (R34). -/
theorem loadDemand_le {u w : Nat} (c : Nat) (hu : u ≤ 1000) (hw : w ≤ 100) : loadDemand u w c ≤ c := by
  have product : u * w * c ≤ 1000 * 100 * c := Nat.mul_le_mul_right c (Nat.mul_le_mul hu hw)
  unfold loadDemand
  omega

/-! ## What the regulator reads of its state -/

theorem working_iff (s : State) : working s = true ↔ s.climate.state = .preheat ∨ s.climate.state = .hold := by
  unfold working
  simp

theorem loopRuns_iff (r : SetpointRecord) (s : State) :
    loopRuns r s = true ↔
      (s.climate.state = .preheat ∨ s.climate.state = .hold) ∧ ¬hasFault .sensorCavity s = true ∧
        (if r.mode = .steam then s.climate.steamWithheld = false else s.out.heaterRelay.state = .closed) := by
  unfold loopRuns cavityFaulted heaterClosed
  rw [Bool.and_eq_true, Bool.and_eq_true, working_iff, and_assoc]
  split <;> simp

/-! ## The reached test and the moisture test (R39, R40) -/

/-- The reached test is met (R39). -/
abbrev reachesNow (r : SetpointRecord) (s : State) : Prop :=
  s.climate.state = .preheat ∧ cavityFaulted s = false ∧ reachedTest s.climate r.setpoint s.meas.cavity = true

/-- The moisture test is met (R40). -/
def wetsNow (r : SetpointRecord) (s : State) : Bool :=
  working s && r.mode.hasMoistureLoop && !s.climate.moistReached && !cavityFaulted s &&
    !hasFault .moistureSensor s && decide (-5 ≤ moistureError r s) && decide (moistureError r s ≤ 5)

/-- The regulator once the reached test has been made. -/
def reachedClimate (r : SetpointRecord) (s : State) : Climate :=
  if reachesNow r s then { s.climate with state := .hold, tempReached := true, runaway := 0, runawayArmed := true }
  else s.climate

/-- The regulator once both tests have been made. -/
def testedClimate (r : SetpointRecord) (s : State) : Climate :=
  { reachedClimate r s with moistReached := wetsNow r s || s.climate.moistReached }

/-- The flap once the tests have been made: the change to HOLD issues the mode's request (R38, notes/assumptions/18.md). -/
def testedVent (r : SetpointRecord) (s : State) : VentFlap :=
  if reachesNow r s then
    match (modeRow r.mode).vent with
    | none => s.out.vent
    | some e => ventAfter e s
  else s.out.vent

/-- The mode's vent request moves the flap and takes away no member of the fault set but VENT_STUCK. -/
theorem requestModeVent_facts {r : SetpointRecord} {s : State} (h : s.climate.record = some r) :
    ∃ e, requestModeVent s =
        { s with
          out := { s.out with
            vent := match (modeRow r.mode).vent with
              | none => s.out.vent
              | some e => ventAfter e s }
          events := e } ∧
      (∀ f : FaultKind, f ≠ .ventStuck → (f ∈ e.faults ↔ f ∈ s.events.faults)) ∧
      ((modeRow r.mode).vent = none → e = s.events) := by
  unfold requestModeVent
  rw [h]
  dsimp only
  cases hv : (modeRow r.mode).vent with
  | none => exact ⟨s.events, rfl, fun _ _ => .rfl, fun _ => rfl⟩
  | some e =>
    refine ⟨(requestVent e s).events, ?_, fun f hf => ?_, fun x => by simp at x⟩
    · dsimp only
      rw [requestVent_eq]
    · rw [← hasFault_iff, ← hasFault_iff, requestVent_hasFault e hf]

/-- The state in which the loops run: the two tests made. -/
def tested (r : SetpointRecord) (s : State) : State := (testMoisture r (testReached r s).1).1

/-- The reached test changes the regulator and the flap. -/
theorem testReached_facts {r : SetpointRecord} {s : State} (h : s.climate.record = some r) :
    (testReached r s).2 = (decide (reachesNow r s) && !s.climate.tempReached) ∧
    ∃ e, (testReached r s).1 =
        { s with climate := reachedClimate r s, out := { s.out with vent := testedVent r s }, events := e } ∧
      (∀ f : FaultKind, f ≠ .ventStuck → (f ∈ e.faults ↔ f ∈ s.events.faults)) ∧
      ((modeRow r.mode).vent = none → e = s.events) := by
  unfold testReached reachedClimate testedVent
  by_cases hr : reachesNow r s
  · rw [if_pos hr, if_pos hr, if_pos hr, decide_eq_true hr]
    obtain ⟨e, eq, faults, same⟩ := requestModeVent_facts (r := r)
      (s := setClimate { s.climate with state := .hold, tempReached := true, runaway := 0, runawayArmed := true } s) h
    exact ⟨rfl, e, eq, faults, same⟩
  · rw [if_neg hr, if_neg hr, if_neg hr, decide_eq_false hr]
    exact ⟨rfl, s.events, rfl, fun _ _ => .rfl, fun _ => rfl⟩

theorem testMoisture_eq (r : SetpointRecord) (s : State) :
    testMoisture r s =
      (setClimate { s.climate with moistReached := wetsNow r s || s.climate.moistReached } s, wetsNow r s) := by
  have test : testMoisture r s =
      if wetsNow r s then (setClimate { s.climate with moistReached := true } s, true) else (s, false) := rfl
  rw [test]
  cases wetsNow r s <;> rfl

/-- The reached test leaves the working states and what the moisture test reads. -/
theorem working_testReached {r : SetpointRecord} {s : State} (h : s.climate.record = some r) :
    working (testReached r s).1 = working s ∧ wetsNow r (testReached r s).1 = wetsNow r s := by
  obtain ⟨-, e, eq, faults, -⟩ := testReached_facts h
  have sensors : ∀ f : FaultKind, f ≠ .ventStuck → hasFault f (testReached r s).1 = hasFault f s := by
    intro f hf
    rw [Bool.eq_iff_iff, hasFault_iff, hasFault_iff, eq]
    exact faults f hf
  have works : working (testReached r s).1 = working s := by
    rw [eq]
    unfold working reachedClimate
    dsimp only
    split
    · next hr => rw [hr.1]; rfl
    · rfl
  have fresh : (testReached r s).1.climate.moistReached = s.climate.moistReached := by
    rw [eq]
    unfold reachedClimate
    dsimp only
    split <;> rfl
  have meas : (testReached r s).1.meas = s.meas := by rw [eq]
  refine ⟨works, ?_⟩
  unfold wetsNow cavityFaulted moistureError
  rw [works, fresh, sensors .sensorCavity (by decide), sensors .moistureSensor (by decide), meas]

/-- Both tests change the regulator and the flap, and take away no member of the fault set but VENT_STUCK. -/
theorem tested_facts {r : SetpointRecord} {s : State} (h : s.climate.record = some r) :
    ∃ e, tested r s =
        { s with climate := testedClimate r s, out := { s.out with vent := testedVent r s }, events := e } ∧
      (∀ f : FaultKind, f ≠ .ventStuck → (f ∈ e.faults ↔ f ∈ s.events.faults)) ∧
      ((modeRow r.mode).vent = none → e = s.events) := by
  obtain ⟨-, wets⟩ := working_testReached h
  obtain ⟨-, e, eq, faults, same⟩ := testReached_facts h
  refine ⟨e, ?_, faults, same⟩
  have fresh : (reachedClimate r s).moistReached = s.climate.moistReached := by
    unfold reachedClimate
    split <;> rfl
  unfold tested
  rw [testMoisture_eq, wets, eq]
  unfold testedClimate
  rw [← fresh]
  rfl

theorem regulatorWindow_eq {r : SetpointRecord} {s : State} (h : s.climate.record = some r) :
    regulatorWindow s =
      (runLoops r (tested r s), ⟨decide (reachesNow r s) && !s.climate.tempReached, wetsNow r s⟩) := by
  obtain ⟨-, wets⟩ := working_testReached h
  obtain ⟨report, -⟩ := testReached_facts h
  have second : (testMoisture r (testReached r s).1).2 = wetsNow r s := by rw [testMoisture_eq, wets]
  rw [← report, ← second]
  unfold regulatorWindow
  rw [h]
  rfl

/-! ## The loops with their posts (R30 to R37) -/

/-- The temperature loop's run at this window start. -/
def loopOut (r : SetpointRecord) (s : State) : Nat × Int :=
  temperatureLoop (modeRow r.mode) (r.setpoint - s.meas.cavity) s.climate.iacc s.climate.shortfall

/-- The steam request handed to the boiler controller (R35, R36). -/
def steamAsked (r : SetpointRecord) (s : State) : Nat :=
  if r.mode.hasMoistureLoop then (if working s && !cavityFaulted s then moistureRequest r s else 0)
  else if r.mode = .steam ∧ loopRuns r s = true then (loopOut r s).1 else 0

/-- The demands posted for the four cavity loads (R34). -/
def loopPosts (r : SetpointRecord) (s : State) : PerCavity Nat :=
  if loopRuns r s then cavityDemands (loopOut r s).1 (modeRow r.mode).weights s else .all 0

/-- The accumulator after the window start (R31). -/
def loopIacc (r : SetpointRecord) (s : State) : Int := if loopRuns r s then (loopOut r s).2 else s.climate.iacc

/-- The four posts of the loops made, the steam request still to come. -/
def cavityPosted (r : SetpointRecord) (s : State) : State :=
  postCavity (loopPosts r s) (setClimate { s.climate with iacc := loopIacc r s } s)

/-- The loops' posts made, the moisture loop's vent request still to come. -/
def posted (r : SetpointRecord) (s : State) : State :=
  handSteamRequest (steamAsked r s) (cavityPosted r s)

theorem runLoops_eq (r : SetpointRecord) (s : State) :
    runLoops r s =
      if r.mode.hasMoistureLoop && (working s && !cavityFaulted s) then issueMoistureVent r (posted r s)
      else posted r s := by
  have steps : runLoops r s =
      if r.mode.hasMoistureLoop then
        if working s && !cavityFaulted s then
          issueMoistureVent r (handSteamRequest (moistureRequest r s) (cavityPosted r s))
        else handSteamRequest 0 (cavityPosted r s)
      else
        handSteamRequest (if r.mode = .steam ∧ loopRuns r s = true then (loopOut r s).1 else 0) (cavityPosted r s) := by
    unfold runLoops cavityPosted loopPosts loopIacc loopOut
    cases loopRuns r s <;> rfl
  rw [steps]
  show _ = if _ then issueMoistureVent r (handSteamRequest (steamAsked r s) (cavityPosted r s))
    else handSteamRequest (steamAsked r s) (cavityPosted r s)
  unfold steamAsked
  cases r.mode.hasMoistureLoop <;> cases working s && !cavityFaulted s <;> rfl

end Sys2Proof.Machine
end

section
/-! SUPPORT. The window's result in closed form, and what of it depends on what: two states that read alike to the
regulator give the same regulator, steam request, demands and vent request. -/

namespace Sys2Proof.Machine

/-! ## What the loops read -/

/-- The two states read alike to the regulator's loops (R30 to R37). -/
structure ReadsAlike (s t : State) : Prop where
  works : working t = working s
  withheld : t.climate.steamWithheld = s.climate.steamWithheld
  iacc : t.climate.iacc = s.climate.iacc
  shortfall : t.climate.shortfall = s.climate.shortfall
  cavity : t.meas.cavity = s.meas.cavity
  moisture : t.meas.moisture = s.meas.moisture
  frequency : t.meas.frequency = s.meas.frequency
  relay : t.out.heaterRelay.state = s.out.heaterRelay.state
  phase : t.out.fan.phase = s.out.fan.phase
  blind : hasFault .sensorCavity t = hasFault .sensorCavity s
  dry : hasFault .moistureSensor t = hasFault .moistureSensor s

namespace ReadsAlike

variable {s t : State}

theorem loopRuns (h : ReadsAlike s t) (r : SetpointRecord) : loopRuns r t = loopRuns r s := by
  unfold Machine.loopRuns cavityFaulted heaterClosed
  rw [h.works, h.blind, h.withheld, h.relay]

theorem loopOut (h : ReadsAlike s t) (r : SetpointRecord) : loopOut r t = loopOut r s := by
  unfold Machine.loopOut
  rw [h.cavity, h.iacc, h.shortfall]

theorem moistureError (h : ReadsAlike s t) (r : SetpointRecord) : moistureError r t = moistureError r s := by
  unfold Machine.moistureError
  rw [h.moisture]

theorem steamAsked (h : ReadsAlike s t) (r : SetpointRecord) : steamAsked r t = steamAsked r s := by
  unfold Machine.steamAsked moistureRequest cavityFaulted
  rw [h.works, h.blind, h.loopRuns, h.loopOut, h.withheld, h.dry, h.moistureError]

theorem loopPosts (h : ReadsAlike s t) (r : SetpointRecord) : loopPosts r t = loopPosts r s := by
  unfold Machine.loopPosts cavityDemands cycles reversing
  rw [h.loopRuns, h.loopOut, h.frequency, h.phase]

theorem loopIacc (h : ReadsAlike s t) (r : SetpointRecord) : loopIacc r t = loopIacc r s := by
  unfold Machine.loopIacc
  rw [h.loopRuns, h.loopOut, h.iacc]

theorem moistureVent (h : ReadsAlike s t) (r : SetpointRecord) : moistureVent r t = moistureVent r s := by
  unfold Machine.moistureVent
  rw [h.dry, h.moistureError, h.cavity]

theorem wetsNow (h : ReadsAlike s t) (r : SetpointRecord) (reached : t.climate.moistReached = s.climate.moistReached) :
    wetsNow r t = wetsNow r s := by
  unfold Machine.wetsNow cavityFaulted
  rw [h.works, h.blind, h.dry, h.moistureError, reached]

end ReadsAlike

/-- A post reads the same in two states that agree in what the boiler's demand is made of (R103). -/
theorem postedDemand_congr {s t : State} (start : t.start.ready = s.start.ready) (inputs : t.inputs = s.inputs)
    (fault : .sensorBoiler ∈ t.events.faults ↔ .sensorBoiler ∈ s.events.faults) (boiler : t.boiler = s.boiler)
    (descale : t.ret.descale = s.ret.descale) (temp : t.meas.boiler = s.meas.boiler) 
    (frequency : t.meas.frequency = s.meas.frequency) (last : t.share.demands.boiler = s.share.demands.boiler) :
    postedDemand t = postedDemand s := by
  have sensor : hasFault .sensorBoiler t = hasFault .sensorBoiler s := by
    rw [Bool.eq_iff_iff, hasFault_iff, hasFault_iff, fault]
  unfold postedDemand boilerDemand soakDemand lowCovered cycles
  rw [start, inputs, sensor, boiler, descale, temp, frequency, last]

/-- What the boiler's demand is made of, apart from the steam request, is the same in the two states (R103). -/
structure PostsAlike (s t : State) : Prop where
  start : t.start.ready = s.start.ready
  inputs : t.inputs = s.inputs
  fault : .sensorBoiler ∈ t.events.faults ↔ .sensorBoiler ∈ s.events.faults
  boiler : t.boiler = s.boiler
  descale : t.ret.descale = s.ret.descale
  temp : t.meas.boiler = s.meas.boiler
  frequency : t.meas.frequency = s.meas.frequency
  last : t.share.demands.boiler = s.share.demands.boiler

/-- A steam request leads to the same post in two such states. -/
theorem PostsAlike.post {s t : State} (h : PostsAlike s t) (n : Nat) :
    postedDemand (withSteam n t) = postedDemand (withSteam n s) :=
  postedDemand_congr h.start h.inputs h.fault (congrArg (fun b : Boiler => { b with steamRequest := n }) h.boiler)
    h.descale h.temp h.frequency h.last

/-- The posts for the cavity loads are apart from the boiler's. -/
theorem cavityPosted_postsAlike (r : SetpointRecord) (s : State) : PostsAlike s (cavityPosted r s) :=
  ⟨rfl, rfl, .rfl, rfl, rfl, rfl, rfl, rfl⟩

/-- The two tests leave what the loops read (R39, R40). -/
theorem tested_readsAlike {r : SetpointRecord} {s : State} (h : s.climate.record = some r) :
    ReadsAlike s (tested r s) := by
  obtain ⟨e, eq, faults, -⟩ := tested_facts h
  have sensor : ∀ f : FaultKind, f ≠ .ventStuck → hasFault f (tested r s) = hasFault f s := by
    intro f hf
    rw [Bool.eq_iff_iff, hasFault_iff, hasFault_iff, eq]
    exact faults f hf
  have climate : (tested r s).climate = testedClimate r s := by rw [eq]
  have works : working (tested r s) = working s := by
    unfold working
    rw [climate]
    unfold testedClimate reachedClimate
    dsimp only
    split
    · next hr => rw [hr.1]; rfl
    · rfl
  have kept : (testedClimate r s).steamWithheld = s.climate.steamWithheld ∧
      (testedClimate r s).iacc = s.climate.iacc ∧ (testedClimate r s).shortfall = s.climate.shortfall := by
    unfold testedClimate reachedClimate
    dsimp only
    split <;> exact ⟨rfl, rfl, rfl⟩
  obtain ⟨withheld, iacc, shortfall⟩ := kept
  exact
    { works, blind := sensor _ (by decide), dry := sensor _ (by decide)
      withheld := by rw [climate, withheld]
      iacc := by rw [climate, iacc]
      shortfall := by rw [climate, shortfall]
      cavity := by rw [eq]
      moisture := by rw [eq]
      frequency := by rw [eq]
      relay := by rw [eq]
      phase := by rw [eq] }

/-! ## The window's result -/

/-- The regulator after the window start. -/
def windowClimate (r : SetpointRecord) (s : State) : Climate := { testedClimate r s with iacc := loopIacc r s }

/-- The demands after the window start. -/
def windowDemands (r : SetpointRecord) (s : State) : PerLoad Nat :=
  ⟨(loopPosts r s).top, (loopPosts r s).bottom, (loopPosts r s).ring, (loopPosts r s).grill,
    postedDemand (withSteam (steamAsked r s) s)⟩

/-- The flap after the moisture loop's decision, which is not issued while VENT_STUCK is active (R37). -/
def moistureFlap (r : SetpointRecord) (s : State) : VentFlap :=
  if working s && !cavityFaulted s && !hasFault .ventStuck s then
    match moistureVent r s with
    | none => s.out.vent
    | some e => ventAfter e s
  else s.out.vent

/-- The flap after the window start: the moisture loop's in its two modes, the mode's request elsewhere (R37, R38). -/
def windowVent (r : SetpointRecord) (s : State) : VentFlap :=
  if r.mode.hasMoistureLoop then moistureFlap r s else testedVent r s

/-- The modes with a moisture loop are those that make no vent request of their own. -/
theorem modeRow_vent (m : Mode) : (modeRow m).vent = none ↔ m.hasMoistureLoop = true := by
  cases m <;> decide

theorem tested_postsAlike {r : SetpointRecord} {s : State} (h : s.climate.record = some r) :
    PostsAlike s (tested r s) := by
  obtain ⟨e, eq, faults, -⟩ := tested_facts h
  rw [eq]
  exact ⟨rfl, rfl, faults _ (by decide), rfl, rfl, rfl, rfl, rfl⟩

theorem posted_eq {r : SetpointRecord} {s : State} (h : s.climate.record = some r) :
    posted r (tested r s) =
      { tested r s with
        climate := windowClimate r s
        boiler := { s.boiler with steamRequest := steamAsked r s }
        share := { s.share with demands := windowDemands r s } } := by
  have alike := tested_readsAlike h
  obtain ⟨e, eq, -, -⟩ := tested_facts h
  have climate : (tested r s).climate = testedClimate r s := by rw [eq]
  have share : (tested r s).share = s.share := by rw [eq]
  have boiler : (tested r s).boiler = s.boiler := by rw [eq]
  unfold posted
  rw [alike.steamAsked, handSteamRequest_eq, (cavityPosted_postsAlike r _).post, (tested_postsAlike h).post]
  unfold cavityPosted
  rw [alike.loopPosts, alike.loopIacc, climate]
  unfold windowClimate windowDemands
  rw [← boiler, ← share]
  rfl

end Sys2Proof.Machine
end

section
/-! SUPPORT. What a window start leaves, with a record and without one, and that the boiler's post stands after it. -/

namespace Sys2Proof.Machine

/-! ## The boiler's demand (R103) -/

/-- The boiler heats nothing. -/
abbrev demandBarred (s : State) : Prop :=
  lowCovered s = false ∨ hasFault .sensorBoiler s = true ∨ s.boiler.drainPending = true ∨
    (s.boiler.state ≠ .heating ∧ s.boiler.state ≠ .ready)

theorem boilerDemand_eq (s : State) (last : Nat) :
    boilerDemand s last =
      if demandBarred s then 0
      else if s.ret.descale.phase = .idle then
        if s.boiler.state = .heating then cycles s else (s.boiler.steamRequest * cycles s + 500) / 1000
      else if s.boiler.soakTarget = true then soakDemand s last
      else 0 := by
  unfold boilerDemand demandBarred
  by_cases covered : lowCovered s = false
  · simp [covered]
  by_cases blind : hasFault .sensorBoiler s = true
  · simp [blind]
  by_cases pending : s.boiler.drainPending = true
  · simp [pending]
  by_cases idle : s.ret.descale.phase = .idle
  · cases s.boiler.state <;> simp [covered, blind, pending, idle]
  · cases s.boiler.state <;> simp [covered, blind, pending, idle]

/-- A post made again on the value that a post has left is the same one, also with another steam request: in the soak's
band alone is the last value read. -/
theorem boilerDemand_again (n : Nat) (s : State) (last : Nat) :
    boilerDemand (withSteam n s) (boilerDemand s last) = boilerDemand (withSteam n s) last := by
  have soak : soakDemand s (soakDemand s last) = soakDemand s last := by
    unfold soakDemand
    split
    · rfl
    · split <;> rfl
  have steam : ∀ x, boilerDemand (withSteam n s) x =
      if demandBarred s then 0
      else if s.ret.descale.phase = .idle then
        if s.boiler.state = .heating then cycles s else (n * cycles s + 500) / 1000
      else if s.boiler.soakTarget = true then soakDemand s x
      else 0 := boilerDemand_eq (withSteam n s)
  rw [steam, steam, boilerDemand_eq]
  split
  · rfl
  · split
    · rfl
    · split
      · exact soak
      · rfl

/-- A post made just before the steam request is handed over changes nothing of the demand that is posted with it. -/
theorem postedDemand_postBoiler (n : Nat) (s : State) :
    postedDemand (withSteam n (postBoiler s)) = postedDemand (withSteam n s) := by
  rw [postBoiler_eq]
  show (if s.start.ready then boilerDemand (withSteam n s) (postedDemand s) else postedDemand s) =
    if s.start.ready then boilerDemand (withSteam n s) s.share.demands.boiler else s.share.demands.boiler
  cases ready : s.start.ready
  · exact postedDemand_starting ready
  · have post : postedDemand s = boilerDemand s s.share.demands.boiler := if_pos ready
    rw [post]
    exact boilerDemand_again n s _

/-- The boiler's demand is as a post would leave it. -/
def PostStands (s : State) : Prop := postedDemand s = s.share.demands.boiler

theorem PostStands.postBoiler {s : State} (h : PostStands s) : postBoiler s = s := by
  rw [postBoiler_eq, h]

theorem postBoiler_stands (s : State) : PostStands (postBoiler s) := by
  have post := postedDemand_postBoiler s.boiler.steamRequest s
  unfold PostStands
  rw [postBoiler_eq] at post ⊢
  exact post

theorem handSteamRequest_stands (n : Nat) (s : State) : PostStands (handSteamRequest n s) := postBoiler_stands _

theorem PostsAlike.stands {s t : State} (h : PostsAlike s t) (stands : PostStands s) : PostStands t :=
  calc postedDemand t = postedDemand s :=
        postedDemand_congr h.start h.inputs h.fault h.boiler h.descale h.temp h.frequency h.last
    _ = s.share.demands.boiler := stands
    _ = t.share.demands.boiler := h.last.symm

theorem requestVent_postsAlike (e : VentEnd) (s : State) : PostsAlike s (requestVent e s) := by
  have fault := requestVent_hasFault e (f := .sensorBoiler) (by decide) s
  rw [Bool.eq_iff_iff, hasFault_iff, hasFault_iff] at fault
  refine ⟨?_, ?_, fault, ?_, ?_, ?_, ?_, ?_⟩ <;> simp

theorem issueMoistureVent_postsAlike (r : SetpointRecord) (s : State) : PostsAlike s (issueMoistureVent r s) := by
  unfold issueMoistureVent
  split
  · exact ⟨rfl, rfl, .rfl, rfl, rfl, rfl, rfl, rfl⟩
  · split
    · exact ⟨rfl, rfl, .rfl, rfl, rfl, rfl, rfl, rfl⟩
    · exact requestVent_postsAlike _ s

/-! ## What a window start leaves -/

/-- The window start has led from `s` to `u`, with the regulator `c`, the steam request `n`, the posts `p` and the
flap `v`. -/
structure WindowLeaves (s u : State) (c : Climate) (n : Nat) (p : PerCavity Nat) (v : VentFlap) : Prop where
  climate : u.climate = c
  boiler : u.boiler = { s.boiler with steamRequest := n }
  demands : u.share.demands = ⟨p.top, p.bottom, p.ring, p.grill, postedDemand (withSteam n s)⟩
  vent : u.out.vent = v
  stands : PostStands u

theorem regulatorWindow_zeros {s : State} (h : s.climate.record = none) :
    regulatorWindow s = (postZeros s, ⟨false, false⟩) := by
  unfold regulatorWindow
  rw [h]

/-- Without a record the regulator posts zeros. -/
theorem regulatorWindow_none {s : State} (h : s.climate.record = none) :
    WindowLeaves s (regulatorWindow s).1 s.climate 0 (.all 0) s.out.vent := by
  rw [regulatorWindow_zeros h]
  refine ⟨?_, ?_, ?_, ?_, handSteamRequest_stands 0 _⟩
  all_goals rw [postZeros_eq]
  rfl

/-- The moisture loop's decision moves the flap alone of what a window start leaves. -/
theorem issueMoistureVent_moves (r : SetpointRecord) (s : State) :
    (issueMoistureVent r s).climate = s.climate ∧ (issueMoistureVent r s).boiler = s.boiler ∧
      (issueMoistureVent r s).share = s.share ∧
      (issueMoistureVent r s).out.vent =
        if hasFault .ventStuck s then s.out.vent
        else
          match moistureVent r s with
          | none => s.out.vent
          | some e => ventAfter e s := by
  unfold issueMoistureVent
  cases moistureVent r s with
  | none => exact ⟨rfl, rfl, rfl, (ite_self _).symm⟩
  | some e =>
    dsimp only
    split
    · exact ⟨rfl, rfl, rfl, rfl⟩
    · simp

/-- With a record the tests, the loops and the posts are made. -/
theorem regulatorWindow_some {r : SetpointRecord} {s : State} (h : s.climate.record = some r) :
    WindowLeaves s (regulatorWindow s).1 (windowClimate r s) (steamAsked r s) (loopPosts r s) (windowVent r s) := by
  rw [regulatorWindow_eq h, runLoops_eq]
  have alike := tested_readsAlike h
  have stands : PostStands (posted r (tested r s)) := handSteamRequest_stands _ _
  have left : WindowLeaves s (posted r (tested r s)) (windowClimate r s) (steamAsked r s) (loopPosts r s)
      (tested r s).out.vent := by
    refine ⟨?_, ?_, ?_, ?_, stands⟩
    all_goals rw [posted_eq h]
    rfl
  obtain ⟨e, eq, -, same⟩ := tested_facts h
  have flap : (tested r s).out.vent = testedVent r s := by rw [eq]
  unfold windowVent
  cases loop : r.mode.hasMoistureLoop
  · rw [Bool.false_and, if_neg Bool.false_ne_true, if_neg Bool.false_ne_true, ← flap]
    exact left
  · have noVent := (modeRow_vent r.mode).mpr loop
    have still : testedVent r s = s.out.vent := by
      unfold testedVent
      rw [noVent]
      exact ite_self _
    rw [flap, still] at left
    rw [Bool.true_and, if_pos rfl, alike.works, show cavityFaulted (tested r s) = cavityFaulted s from alike.blind]
    unfold moistureFlap
    cases works : working s && !cavityFaulted s
    · exact left
    · obtain ⟨climate, boiler, share, vent⟩ := issueMoistureVent_moves r (posted r (tested r s))
      have stuck : hasFault .ventStuck (posted r (tested r s)) = hasFault .ventStuck s := by
        rw [posted_eq h, eq, same noVent]
        rfl
      have decision : moistureVent r (posted r (tested r s)) = moistureVent r s := by
        rw [← alike.moistureVent, posted_eq h]
        rfl
      have inputs : (posted r (tested r s)).inputs = s.inputs := by rw [posted_eq h, eq]
      have ask : ∀ e, ventAfter e (posted r (tested r s)) = ventAfter e s :=
        fun e => ventAfter_congr e left.vent inputs
      refine ⟨climate.trans left.climate, boiler.trans left.boiler, ?_, ?_,
        (issueMoistureVent_postsAlike r _).stands stands⟩
      · rw [if_pos rfl, share]
        exact left.demands
      · rw [if_pos rfl, vent, stuck, decision, left.vent]
        cases hasFault .ventStuck s <;> cases moistureVent r s <;> simp [ask]

end Sys2Proof.Machine
end

section
/-! SUPPORT. The clauses of the regulator's window: the reached test, the moisture test, the loop, and the moisture loop's
steam and vent requests. -/

namespace Sys2Proof.Machine

section
variable {r : SetpointRecord} {s : State}

/-! ## The tests (R39, R40) -/

theorem reachesNow_iff :
    reachesNow r s ↔
      s.climate.state = .preheat ∧ ¬hasFault .sensorCavity s = true ∧
        (s.climate.direction = .up ∧ r.setpoint - 50 ≤ s.meas.cavity ∨
          s.climate.direction = .down ∧ s.meas.cavity ≤ r.setpoint + 50) := by
  unfold reachesNow reachedTest cavityFaulted
  rw [Bool.not_eq_true]
  cases s.climate.direction <;> simp

theorem hasMoistureLoop_iff (m : Mode) : m.hasMoistureLoop = true ↔ m = .combi ∨ m = .proof := by
  cases m <;> decide

theorem wetsNow_iff :
    wetsNow r s = true ↔
      (s.climate.state = .preheat ∨ s.climate.state = .hold) ∧ (r.mode = .combi ∨ r.mode = .proof) ∧
        s.climate.moistReached = false ∧ ¬hasFault .sensorCavity s = true ∧ hasFault .moistureSensor s = false ∧
        r.moisture.getD 0 - 5 ≤ s.meas.moisture ∧ s.meas.moisture ≤ r.moisture.getD 0 + 5 := by
  have above : -5 ≤ moistureError r s ↔ s.meas.moisture ≤ r.moisture.getD 0 + 5 := by unfold moistureError; omega
  have below : moistureError r s ≤ 5 ↔ r.moisture.getD 0 - 5 ≤ s.meas.moisture := by unfold moistureError; omega
  unfold wetsNow cavityFaulted
  simp only [Bool.and_eq_true, Bool.not_eq_true', decide_eq_true_iff, working_iff, hasMoistureLoop_iff, above, below,
    Bool.not_eq_true, and_assoc]
  rw [and_comm (a := r.moisture.getD 0 - 5 ≤ _)]

/-- The reached test is met: HOLD, the runaway timer armed at 0, one report a stage (R39). -/
theorem window_reached (h : s.climate.record = some r) (reaches : reachesNow r s) :
    let t := (regulatorWindow s).1
    t.climate.state = .hold ∧ t.climate.tempReached = true ∧ t.climate.runaway = 0 ∧ t.climate.runawayArmed = true ∧
      ((regulatorWindow s).2.temp = true ↔ s.climate.tempReached = false) := by
  have climate : reachedClimate r s =
      { s.climate with state := .hold, tempReached := true, runaway := 0, runawayArmed := true } := if_pos reaches
  have report : (regulatorWindow s).2.temp = !s.climate.tempReached := by
    rw [regulatorWindow_eq h, decide_eq_true reaches, Bool.true_and]
  dsimp only
  rw [(regulatorWindow_some h).climate, report]
  unfold windowClimate testedClimate
  rw [climate]
  exact ⟨rfl, rfl, rfl, rfl, iff_of_eq (Bool.not_eq_true' _)⟩

theorem window_waits (h : s.climate.record = some r) (waits : ¬reachesNow r s) :
    let t := (regulatorWindow s).1
    t.climate.state = s.climate.state ∧ t.climate.tempReached = s.climate.tempReached ∧
      t.climate.runaway = s.climate.runaway ∧ t.climate.runawayArmed = s.climate.runawayArmed ∧
      (regulatorWindow s).2.temp = false := by
  have climate : reachedClimate r s = s.climate := if_neg waits
  have report : (regulatorWindow s).2.temp = false := by
    rw [regulatorWindow_eq h, decide_eq_false waits, Bool.false_and]
  dsimp only
  rw [(regulatorWindow_some h).climate, report]
  unfold windowClimate testedClimate
  rw [climate]
  exact ⟨rfl, rfl, rfl, rfl, rfl⟩

/-- The moisture test's mark and report (R40). -/
theorem window_moist (h : s.climate.record = some r) :
    (regulatorWindow s).1.climate.moistReached = (wetsNow r s || s.climate.moistReached) ∧
      (regulatorWindow s).2.moist = wetsNow r s := by
  refine ⟨?_, ?_⟩
  · rw [(regulatorWindow_some h).climate]
    rfl
  · rw [regulatorWindow_eq h]

/-- A mode with a vent request of its own makes it where the reached test is met, and leaves the flap elsewhere (R38). -/
theorem window_modeVent (h : s.climate.record = some r) {e : VentEnd} (he : (modeRow r.mode).vent = some e) :
    (regulatorWindow s).1.out.vent = if reachesNow r s then ventAfter e s else s.out.vent := by
  have loop : r.mode.hasMoistureLoop = false := by
    rw [Bool.eq_false_iff, ne_eq, ← modeRow_vent, he]
    simp
  rw [(regulatorWindow_some h).vent]
  unfold windowVent testedVent
  rw [loop, if_neg Bool.false_ne_true, he]

/-! ## The temperature loop's posts (R30 to R34) -/

theorem window_ran (h : s.climate.record = some r) (ran : loopRuns r s = true) :
    let t := (regulatorWindow s).1
    t.climate.iacc = (loopOut r s).2 ∧
      t.share.demands.top = loadDemand (loopOut r s).1 (modeRow r.mode).weights.top (cycles s) ∧
      t.share.demands.bottom = loadDemand (loopOut r s).1 (modeRow r.mode).weights.bottom (cycles s) ∧
      (reversing s = true → t.share.demands.ring = 0 ∧ t.share.demands.grill = 0) ∧
      (¬reversing s = true →
        t.share.demands.ring = loadDemand (loopOut r s).1 (modeRow r.mode).weights.ring (cycles s) ∧
        t.share.demands.grill = loadDemand (loopOut r s).1 (modeRow r.mode).weights.grill (cycles s)) := by
  have left := regulatorWindow_some h
  dsimp only
  rw [left.climate, left.demands]
  unfold windowClimate loopIacc loopPosts cavityDemands
  rw [if_pos ran, if_pos ran]
  exact ⟨rfl, rfl, rfl, fun turns => ⟨if_pos turns, if_pos turns⟩, fun runs => ⟨if_neg runs, if_neg runs⟩⟩

theorem window_idles (h : s.climate.record = some r) (idles : ¬loopRuns r s = true) :
    let t := (regulatorWindow s).1
    t.climate.iacc = s.climate.iacc ∧ t.share.demands.top = 0 ∧ t.share.demands.bottom = 0 ∧
      t.share.demands.ring = 0 ∧ t.share.demands.grill = 0 := by
  have left := regulatorWindow_some h
  dsimp only
  rw [left.climate, left.demands]
  unfold windowClimate loopIacc loopPosts
  rw [if_neg idles, if_neg idles]
  exact ⟨rfl, rfl, rfl, rfl, rfl⟩

theorem reversing_iff : reversing s = true ↔ s.out.fan.phase = .braking ∨ s.out.fan.phase = .switching := by
  unfold reversing
  simp

/-! ## The steam request (R35, R36) -/

theorem steamAsked_steam (mode : r.mode = .steam) :
    steamAsked r s = if loopRuns r s = true then (loopOut r s).1 else 0 := by
  unfold steamAsked
  rw [mode]
  simp [Mode.hasMoistureLoop]

theorem steamAsked_dry (steam : r.mode ≠ .steam) (combi : r.mode ≠ .combi) (proof : r.mode ≠ .proof) :
    steamAsked r s = 0 := by
  have loop : ¬r.mode.hasMoistureLoop = true := by
    rw [hasMoistureLoop_iff]
    exact not_or.mpr ⟨combi, proof⟩
  unfold steamAsked
  rw [if_neg loop, if_neg fun x => steam x.1]

theorem steamAsked_withheld (mode : r.mode = .combi ∨ r.mode = .proof)
    (barred : ¬working s = true ∨ cavityFaulted s = true ∨ s.climate.steamWithheld = true) : steamAsked r s = 0 := by
  unfold steamAsked moistureRequest
  rw [if_pos ((hasMoistureLoop_iff _).mpr mode)]
  rcases barred with idle | blind | withheld
  · simp [idle]
  · simp [blind]
  · simp [withheld]

theorem steamAsked_moist (mode : r.mode = .combi ∨ r.mode = .proof) (works : working s = true)
    (sees : cavityFaulted s = false) (free : s.climate.steamWithheld = false) :
    (hasFault .moistureSensor s = true → (steamAsked r s : Int) = max 0 (r.moisture.getD 0 * 10)) ∧
    (hasFault .moistureSensor s = false →
      (steamAsked r s : Int) = max 0 (min ((r.moisture.getD 0 - s.meas.moisture) * 100) 1000)) := by
  have asked : steamAsked r s = moistureRequest r s := by
    unfold steamAsked
    rw [if_pos ((hasMoistureLoop_iff _).mpr mode), works, sees]
    rfl
  rw [asked]
  unfold moistureRequest
  rw [free, if_neg Bool.false_ne_true]
  refine ⟨fun dry => ?_, fun sound => ?_⟩
  · rw [if_pos dry]
    omega
  · have tenths : truncDiv (moistureError r s * 1000) 10 = (r.moisture.getD 0 - s.meas.moisture) * 100 := by
      unfold truncDiv moistureError
      rw [show (1000 : Int) = 100 * 10 from rfl, ← mul_assoc, Int.mul_tdiv_cancel _ (by decide)]
    rw [sound, if_neg Bool.false_ne_true, tenths]
    unfold clampInt
    omega

/-! ## The moisture loop's vent request (R37) -/

theorem window_flap (h : s.climate.record = some r) (mode : r.mode = .combi ∨ r.mode = .proof) :
    (regulatorWindow s).1.out.vent = moistureFlap r s := by
  rw [(regulatorWindow_some h).vent]
  unfold windowVent
  rw [if_pos ((hasMoistureLoop_iff _).mpr mode)]

theorem moistureFlap_still
    (still : ¬working s = true ∨ cavityFaulted s = true ∨ hasFault .moistureSensor s = true ∨ hasFault .ventStuck s = true) :
    moistureFlap r s = s.out.vent := by
  unfold moistureFlap moistureVent
  rcases still with idle | blind | dry | stuck
  · simp [idle]
  · simp [blind]
  · simp [dry]
  · simp [stuck]

theorem moistureFlap_acts (works : working s = true) (sees : cavityFaulted s = false)
    (sound : hasFault .moistureSensor s = false) (free : hasFault .ventStuck s = false) :
    let opens := r.moisture.getD 0 - s.meas.moisture < -3 ∨ r.setpoint + 100 < s.meas.cavity
    (opens → (moistureFlap r s).state.isFor .opened = true) ∧
    (¬opens → 0 < r.moisture.getD 0 - s.meas.moisture → (moistureFlap r s).state.isFor .closed = true) ∧
    (¬opens → r.moisture.getD 0 - s.meas.moisture ≤ 0 → moistureFlap r s = s.out.vent) := by
  intro opens
  have flap : moistureFlap r s =
      match moistureVent r s with
      | none => s.out.vent
      | some e => ventAfter e s := by
    unfold moistureFlap
    rw [works, sees, free]
    rfl
  have decision : moistureVent r s =
      if opens then some .opened else if 0 < r.moisture.getD 0 - s.meas.moisture then some .closed else none := by
    unfold moistureVent moistureError
    rw [sound]
    rfl
  rw [flap, decision]
  refine ⟨fun o => ?_, fun o dry => ?_, fun o wet => ?_⟩
  · rw [if_pos o]
    exact ventAfter_isFor .opened s
  · rw [if_neg o, if_pos dry]
    exact ventAfter_isFor .closed s
  · rw [if_neg o, if_neg (not_lt.mpr wet)]

end

end Sys2Proof.Machine
end

section
/-! SUPPORT. The boiler's demand that a window start posts, the sequencer's taking of the reports, and the zero-crossing
that begins a window: whatever order the units act in, the regulator's window is the one of the state before it. -/

namespace Sys2Proof.Machine

/-! ## The boiler's demand at a window start (R103) -/

/-- Every window start leaves a regulator, a steam request, posts and a flap. -/
theorem regulatorWindow_leaves (s : State) : ∃ c n p v, WindowLeaves s (regulatorWindow s).1 c n p v := by
  cases h : s.climate.record with
  | none => exact ⟨_, _, _, _, regulatorWindow_none h⟩
  | some r => exact ⟨_, _, _, _, regulatorWindow_some h⟩

theorem window_boilerDemand {s : State} (ready : s.start.ready = true) :
    let t := (regulatorWindow s).1
    let d := t.share.demands.boiler
    (demandBarred s → d = 0) ∧
    (¬demandBarred s → s.ret.descale.phase = .idle →
      d = if s.boiler.state = .heating then cycles s else (t.boiler.steamRequest * cycles s + 500) / 1000) ∧
    (¬demandBarred s → s.ret.descale.phase ≠ .idle → s.boiler.soakTarget = false → d = 0) ∧
    (¬demandBarred s → s.ret.descale.phase ≠ .idle → s.boiler.soakTarget = true →
      d = if s.meas.boiler < 570 then cycles s else if 630 < s.meas.boiler then 0 else s.share.demands.boiler) := by
  obtain ⟨c, n, p, v, left⟩ := regulatorWindow_leaves s
  have posted : postedDemand (withSteam n s) =
      if demandBarred s then 0
      else if s.ret.descale.phase = .idle then
        if s.boiler.state = .heating then cycles s else (n * cycles s + 500) / 1000
      else if s.boiler.soakTarget = true then soakDemand s s.share.demands.boiler
      else 0 := (if_pos ready).trans (boilerDemand_eq (withSteam n s) _)
  dsimp only
  rw [left.demands, left.boiler]
  dsimp only
  rw [posted]
  refine ⟨fun barred => if_pos barred, fun free idle => ?_, fun free busy off => ?_, fun free busy soaks => ?_⟩
  · rw [if_neg free, if_pos idle]
  · rw [if_neg free, if_neg busy, off, if_neg Bool.false_ne_true]
  · rw [if_neg free, if_neg busy, if_pos soaks]
    rfl

/-! ## The reports (R39, R40, R141) -/

/-- The sequencer's marks and the event that a report makes, the stage's end still to be looked at. -/
def reportsTaken (report : ReachedReport) (s : State) : State :=
  let s := if report.temp then raiseEvent .tempReached (stageArg s) (setRun { s.ret.run with tempReached := true } s) else s
  if report.moist then setRun { s.ret.run with moistReached := true } s else s

theorem takeReports_idle (report : ReachedReport) {s : State} (h : runActive s = false) : takeReports report s = s := by
  unfold takeReports
  rw [h]
  rfl

theorem takeReports_active (report : ReachedReport) {s : State} (h : runActive s = true) :
    takeReports report s = checkStageEnd (reportsTaken report s) := by
  unfold takeReports
  rw [h]
  rfl

theorem reportsTaken_run (report : ReachedReport) (s : State) :
    (reportsTaken report s).ret.run =
      { s.ret.run with
        tempReached := s.ret.run.tempReached || report.temp, moistReached := s.ret.run.moistReached || report.moist } := by
  obtain ⟨temp, moist⟩ := report
  unfold reportsTaken
  cases temp <;> cases moist <;> simp

theorem reportsTaken_raised (report : ReachedReport) (s : State) (h : report.temp = true) :
    RaisedTo .tempReached (stageArg s) s (reportsTaken report s) := by
  have raised := raiseEvent_raised .tempReached (stageArg s) (setRun { s.ret.run with tempReached := true } s)
  unfold reportsTaken
  rw [h]
  cases report.moist
  · exact raised
  · exact raised

/-! ## States that read alike to the regulator -/

/-- The two states read alike to the regulator at a window start. -/
structure Alike (s t : State) : Prop where
  climate : t.climate = s.climate
  boiler : t.boiler = s.boiler
  vent : t.out.vent = s.out.vent
  inputs : t.inputs = s.inputs
  phase : t.out.fan.phase = s.out.fan.phase
  relay : t.out.heaterRelay.state = s.out.heaterRelay.state
  cavity : t.meas.cavity = s.meas.cavity
  moisture : t.meas.moisture = s.meas.moisture
  frequency : t.meas.frequency = s.meas.frequency
  faults : ∀ f : FaultKind, f ≠ .mainsLost → hasFault f t = hasFault f s
  post : ∀ n, postedDemand (withSteam n t) = postedDemand (withSteam n s)

namespace Alike

variable {s t u : State}

theorem trans (h : Alike s t) (k : Alike t u) : Alike s u where
  climate := k.climate.trans h.climate
  boiler := k.boiler.trans h.boiler
  vent := k.vent.trans h.vent
  inputs := k.inputs.trans h.inputs
  phase := k.phase.trans h.phase
  relay := k.relay.trans h.relay
  cavity := k.cavity.trans h.cavity
  moisture := k.moisture.trans h.moisture
  frequency := k.frequency.trans h.frequency
  faults f hf := (k.faults f hf).trans (h.faults f hf)
  post n := (k.post n).trans (h.post n)

theorem works (h : Alike s t) : working t = working s := by
  unfold working
  rw [h.climate]

theorem readsAlike (h : Alike s t) : ReadsAlike s t where
  works := h.works
  withheld := by rw [h.climate]
  iacc := by rw [h.climate]
  shortfall := by rw [h.climate]
  cavity := h.cavity
  moisture := h.moisture
  frequency := h.frequency
  relay := h.relay
  phase := h.phase
  blind := h.faults _ (by decide)
  dry := h.faults _ (by decide)

theorem reachesNow (h : Alike s t) (r : SetpointRecord) : reachesNow r t ↔ reachesNow r s := by
  unfold Machine.reachesNow cavityFaulted
  rw [h.climate, h.cavity, h.faults .sensorCavity (by decide)]

theorem wetsNow (h : Alike s t) (r : SetpointRecord) : wetsNow r t = wetsNow r s :=
  h.readsAlike.wetsNow r (by rw [h.climate])

theorem ventAfter (h : Alike s t) (e : VentEnd) : ventAfter e t = ventAfter e s := ventAfter_congr e h.vent h.inputs

theorem windowClimate (h : Alike s t) (r : SetpointRecord) : windowClimate r t = windowClimate r s := by
  have reached : reachedClimate r t = reachedClimate r s := by
    unfold reachedClimate
    simp only [h.reachesNow r, h.climate]
  unfold Machine.windowClimate testedClimate
  rw [reached, h.wetsNow, h.readsAlike.loopIacc, h.climate]

theorem moistureFlap (h : Alike s t) (r : SetpointRecord) : moistureFlap r t = moistureFlap r s := by
  unfold Machine.moistureFlap cavityFaulted
  rw [h.works, h.faults .sensorCavity (by decide), h.faults .ventStuck (by decide), h.readsAlike.moistureVent, h.vent]
  simp only [h.ventAfter]

theorem testedVent (h : Alike s t) (r : SetpointRecord) : testedVent r t = testedVent r s := by
  unfold Machine.testedVent
  by_cases reaches : Machine.reachesNow r s
  · rw [if_pos reaches, if_pos ((h.reachesNow r).mpr reaches), h.vent]
    simp only [h.ventAfter]
  · rw [if_neg reaches, if_neg (mt (h.reachesNow r).mp reaches), h.vent]

theorem windowVent (h : Alike s t) (r : SetpointRecord) : windowVent r t = windowVent r s := by
  unfold Machine.windowVent
  rw [h.moistureFlap, h.testedVent]

/-- The reports are the same. -/
theorem reports (h : Alike s t) {r : SetpointRecord} (hr : s.climate.record = some r) :
    (regulatorWindow t).2 = (regulatorWindow s).2 := by
  have reaches : decide (Machine.reachesNow r t) = decide (Machine.reachesNow r s) :=
    decide_eq_decide.mpr (h.reachesNow r)
  have reached : t.climate.tempReached = s.climate.tempReached := by rw [h.climate]
  rw [regulatorWindow_eq hr, regulatorWindow_eq (show t.climate.record = some r by rw [h.climate, hr]), reaches, reached,
    h.wetsNow]

end Alike

/-- The parts that a window start is about are the same in the two states. -/
structure WindowParts (u w : State) : Prop where
  climate : w.climate = u.climate
  boiler : w.boiler = u.boiler
  vent : w.out.vent = u.out.vent
  demands : w.share.demands = u.share.demands

theorem WindowParts.trans {u v w : State} (h : WindowParts u v) (k : WindowParts v w) : WindowParts u w :=
  ⟨k.climate.trans h.climate, k.boiler.trans h.boiler, k.vent.trans h.vent, k.demands.trans h.demands⟩

theorem WindowLeaves.parts {s t u w : State} {c : Climate} {n : Nat} {p : PerCavity Nat} {v : VentFlap}
    (h : WindowLeaves s u c n p v) (k : WindowLeaves t w c n p v) (alike : Alike s t) : WindowParts u w where
  climate := k.climate.trans h.climate.symm
  boiler := by rw [k.boiler, h.boiler, alike.boiler]
  vent := k.vent.trans h.vent.symm
  demands := by rw [k.demands, h.demands, alike.post]

/-- The window of a state that reads alike leaves the same parts, with the same reports. -/
theorem Alike.window {s t : State} (h : Alike s t) :
    WindowParts (regulatorWindow s).1 (regulatorWindow t).1 ∧ (regulatorWindow t).2 = (regulatorWindow s).2 := by
  have record : t.climate.record = s.climate.record := by rw [h.climate]
  cases hr : s.climate.record with
  | none =>
    have left := regulatorWindow_none (record.trans hr)
    rw [h.climate, h.vent] at left
    exact ⟨(regulatorWindow_none hr).parts left h, by rw [regulatorWindow_zeros hr, regulatorWindow_zeros (record.trans hr)]⟩
  | some r =>
    have left := regulatorWindow_some (record.trans hr)
    rw [h.windowClimate, h.readsAlike.steamAsked, h.readsAlike.loopPosts, h.windowVent] at left
    exact ⟨(regulatorWindow_some hr).parts left h, h.reports hr⟩

end Sys2Proof.Machine
end

section
/-! SUPPORT. The zero-crossing that begins a window, and the settlement of the regulator's window. -/

namespace Sys2Proof.Machine

/-! ## What the start of an allocation leaves (R49 to R52) -/

/-- Of the parts that the regulator and the boiler controller read, the share and the outputs keep theirs. -/
structure AllocationKeeps (s t : State) : Prop where
  only : t = { s with share := t.share, out := t.out }
  demands : t.share.demands = s.share.demands
  vent : t.out.vent = s.out.vent
  fan : t.out.fan = s.out.fan
  relay : t.out.heaterRelay.state = s.out.heaterRelay.state

theorem AllocationKeeps.refl (s : State) : AllocationKeeps s s := ⟨rfl, rfl, rfl, rfl, rfl⟩

theorem AllocationKeeps.trans {s t u : State} (h : AllocationKeeps s t) (k : AllocationKeeps t u) : AllocationKeeps s u :=
  ⟨k.only.trans (by rw [h.only]), k.demands.trans h.demands, k.vent.trans h.vent, k.fan.trans h.fan,
    k.relay.trans h.relay⟩

theorem removeForce_keeps (l : Load) (s : State) : AllocationKeeps s (removeForce (loadOutput l) s) := by
  have load : (outputLoad (loadOutput l)).isSome = true := by cases l <;> rfl
  have drive : isVentDrive (loadOutput l) = false := by cases l <;> rfl
  unfold removeForce
  rw [load, drive]
  split
  · exact ⟨rfl, rfl, rfl, rfl, rfl⟩
  · exact .refl s

theorem refuseClaim_keeps (placed claim : Option Load) (s : State) : AllocationKeeps s (refuseClaim placed claim s) := by
  unfold refuseClaim
  split
  · exact .refl s
  · split
    · exact .refl s
    · exact removeForce_keeps _ s

theorem beginAllocation_keeps (s : State) : AllocationKeeps s (beginAllocation s) := by
  unfold beginAllocation
  dsimp only
  refine AllocationKeeps.trans ?_ (refuseClaim_keeps _ _ _)
  exact ⟨rfl, rfl, rfl, rfl, rfl⟩

namespace AllocationKeeps

variable {s t : State}

theorem postsAlike (h : AllocationKeeps s t) : PostsAlike s t := by
  have demands := h.demands
  rw [h.only] at demands ⊢
  exact ⟨rfl, rfl, .rfl, rfl, rfl, rfl, rfl, congrArg PerLoad.boiler demands⟩

theorem alike (h : AllocationKeeps s t) : Alike s t where
  climate := by rw [h.only]
  boiler := by rw [h.only]
  vent := h.vent
  inputs := by rw [h.only]
  phase := by rw [h.fan]
  relay := h.relay
  cavity := by rw [h.only]
  moisture := by rw [h.only]
  frequency := by rw [h.only]
  faults f _ := by rw [h.only]; rfl
  post := h.postsAlike.post

theorem parts (h : AllocationKeeps s t) : WindowParts s t where
  climate := by rw [h.only]
  boiler := by rw [h.only]
  vent := h.vent
  demands := h.demands

end AllocationKeeps

/-! ## The order of the units at a window start -/

theorem postBoiler_alike (s : State) : Alike s (postBoiler s) where
  climate := by rw [postBoiler_eq]
  boiler := by rw [postBoiler_eq]
  vent := by rw [postBoiler_eq]
  inputs := by rw [postBoiler_eq]
  phase := by rw [postBoiler_eq]
  relay := by rw [postBoiler_eq]
  cavity := by rw [postBoiler_eq]
  moisture := by rw [postBoiler_eq]
  frequency := by rw [postBoiler_eq]
  faults f _ := by rw [postBoiler_eq]; rfl
  post n := postedDemand_postBoiler n s

/-- Whatever order the units act in, the window is the regulator's on the state that the window start finds (R33, R50). -/
theorem windowUnits_parts (s : State) :
    WindowParts (regulatorWindow s).1 (windowUnits s).1 ∧ (windowUnits s).2 = (regulatorWindow s).2 := by
  obtain ⟨_, _, _, _, left⟩ := regulatorWindow_leaves s
  have allocated := beginAllocation_keeps (regulatorWindow s).1
  unfold windowUnits
  dsimp only
  split
  · split
    · refine ⟨?_, rfl⟩
      rw [left.stands.postBoiler]
      exact allocated.parts
    · refine ⟨?_, rfl⟩
      rw [(allocated.postsAlike.stands left.stands).postBoiler]
      exact allocated.parts
  · split
    · exact ((postBoiler_alike s).trans (beginAllocation_keeps _).alike).window
    · obtain ⟨parts, report⟩ := (beginAllocation_keeps s).alike.window
      obtain ⟨_, _, _, _, after⟩ := regulatorWindow_leaves (beginAllocation s)
      refine ⟨?_, report⟩
      rw [after.stands.postBoiler]
      exact parts

/-! ## The zero-crossing (R15, R17, R63) -/

theorem RunOnly.alike {s t : State} (h : RunOnly s t) : Alike s t := by
  have fault : ∀ f, hasFault f t = hasFault f s := hasFault_congr h.faults
  have posts : PostsAlike s t := by
    rw [h.only]
    exact ⟨rfl, rfl, by rw [h.faults], rfl, rfl, rfl, rfl, rfl⟩
  rw [h.only]
  rw [h.only] at fault posts
  exact ⟨rfl, rfl, rfl, rfl, rfl, rfl, rfl, rfl, rfl, fun f _ => fault f, posts.post⟩

/-- The mains state PRESENT, the sequencer still to be told. -/
def mainsPresented (s : State) : State :=
  let t := leaveFault .mainsLost (setMeas { s.meas with mainsPresent := true } s)
  { t with start := { t.start with outageTimer := 0 } }

theorem mainsPresented_only (s : State) :
    mainsPresented s =
      { s with
        meas := { s.meas with mainsPresent := true }
        events := (mainsPresented s).events
        start := { s.start with outageTimer := 0 } } := by
  unfold mainsPresented
  rw [leaveFault_only]
  rfl

theorem mainsPresented_alike (s : State) : Alike s (mainsPresented s) := by
  have only := mainsPresented_only s
  have fault : ∀ f : FaultKind, f ≠ .mainsLost → hasFault f (mainsPresented s) = hasFault f s := by
    intro f hf
    refine (hasFault_leaveFault .mainsLost f _).trans ?_
    rw [decide_eq_true hf, Bool.and_true]
    rfl
  have sensor := fault .sensorBoiler (by decide)
  rw [Bool.eq_iff_iff, hasFault_iff, hasFault_iff] at sensor
  have posts : PostsAlike s (mainsPresented s) := by
    rw [only]
    exact ⟨rfl, rfl, sensor, rfl, rfl, rfl, rfl, rfl⟩
  refine ⟨?_, ?_, ?_, ?_, ?_, ?_, ?_, ?_, ?_, fault, posts.post⟩
  all_goals rw [only]

/-- The sequencer is told of the return. -/
theorem mainsReturns_runOnly (s : State) : RunOnly (mainsPresented s) (mainsReturns s) := by
  show RunOnly _ (if runActive (mainsPresented s) then removeCause .mains (mainsPresented s) else mainsPresented s)
  split
  · exact removeCause_runOnly _ _
  · exact .refl _

/-- A return of the mains moves MAINS_LOST and the sequencer's causes, nothing that the regulator reads (R17). -/
theorem mainsReturns_alike (s : State) : Alike s (mainsReturns s) :=
  (mainsPresented_alike s).trans (mainsReturns_runOnly s).alike

theorem mainsReturns_outputs (s : State) : (mainsReturns s).out = s.out ∧ (mainsReturns s).share = s.share := by
  rw [(mainsReturns_runOnly s).only, mainsPresented_only]
  exact ⟨rfl, rfl⟩

/-- The state that a window start hands to the units. -/
def windowOpened (s : State) : State := adoptWindow { s with out := { s.out with halfCycle := some 0 } }

theorem windowOpened_alike (s : State) : Alike s (windowOpened s) :=
  ⟨rfl, rfl, rfl, rfl, rfl, rfl, rfl, rfl, rfl, fun _ _ => rfl, fun _ => rfl⟩

/-- The relay and the loads act on the state that the units leave. -/
def windowFired (s : State) : State := fireHalfCycle 0 (relayAtZeroCross 0 (windowUnits (windowOpened s)).1)

theorem relayAtZeroCross_parts (c : Nat) (s : State) : WindowParts s (relayAtZeroCross c s) := by
  unfold relayAtZeroCross
  split
  · exact ⟨rfl, rfl, rfl, rfl⟩
  · exact ⟨rfl, rfl, rfl, rfl⟩

theorem windowFired_parts (s : State) : WindowParts (windowUnits (windowOpened s)).1 (windowFired s) :=
  (relayAtZeroCross_parts 0 _).trans ⟨rfl, rfl, rfl, rfl⟩

theorem nextHalfCycle_zero {s : State}
    (h : s.out.halfCycle = none ∨ ∃ i, s.out.halfCycle = some i ∧ 2 * cycles s ≤ i + 1) : nextHalfCycle s = 0 := by
  unfold nextHalfCycle
  rcases h with h | ⟨i, h, last⟩
  · rw [h]
  · rw [h]
    exact if_pos last

theorem handEdge_window {s : State} (first : nextHalfCycle s = 0) (unallocated : s.share.allocation = none) :
    handEdge s = settle (takeReports (windowUnits (windowOpened s)).2 (windowFired s)) := by
  have finished : finishAllocation { s with out := { s.out with halfCycle := some 0 } } =
      { s with out := { s.out with halfCycle := some 0 } } := by
    unfold finishAllocation
    dsimp only
    rw [unallocated]
  unfold handEdge
  rw [first]
  unfold windowStart
  dsimp only
  rw [if_pos rfl, finished]
  rfl

/-- The state in which the edge is handed on. -/
def edgeHanded (s : State) : State :=
  if s.meas.mainsPresent then setMeas s.meas.edgeTaken s else mainsReturns (setMeas s.meas.edgeTaken s)

theorem setMeas_edgeTaken_alike (s : State) : Alike s (setMeas s.meas.edgeTaken s) :=
  ⟨rfl, rfl, rfl, rfl, rfl, rfl, rfl, rfl, rfl, fun _ _ => rfl, fun _ => rfl⟩

theorem edgeHanded_alike (s : State) : Alike s (edgeHanded s) := by
  unfold edgeHanded
  split
  · exact setMeas_edgeTaken_alike s
  · exact (setMeas_edgeTaken_alike s).trans (mainsReturns_alike _)

theorem exec_zeroCross (s : State) : exec .zeroCross s = execZeroCross s := by rfl

theorem exec_zeroCross_decided {s : State} (decided : s.meas.frequency ≠ .undecided)
    (accepted : s.meas.edgeSeen = false ∨ 5000 ≤ s.meas.edgeAge) :
    exec .zeroCross s = .next (handEdge (edgeHanded s)) := by
  have taken : edgeAccepted s.meas = true := by
    unfold edgeAccepted
    rw [Bool.or_eq_true, Bool.not_eq_true', decide_eq_true_iff]
    exact accepted
  rw [exec_zeroCross]
  unfold execZeroCross
  rw [if_pos taken, if_neg decided]
  unfold decidedEdge edgeHanded
  rfl

theorem edgeHanded_outputs (s : State) : (edgeHanded s).out = s.out ∧ (edgeHanded s).share = s.share := by
  unfold edgeHanded
  split
  · exact ⟨rfl, rfl⟩
  · exact mainsReturns_outputs _

/-- A zero-crossing that begins a window: the regulator acts on the state before it, the relay and the loads act on what
the units leave, and the reports are taken last (notes/assumptions/15.md). -/
theorem zeroCross_window {s : State} (decided : s.meas.frequency ≠ .undecided)
    (accepted : s.meas.edgeSeen = false ∨ 5000 ≤ s.meas.edgeAge)
    (first : s.out.halfCycle = none ∨ ∃ h, s.out.halfCycle = some h ∧ 2 * cycles s ≤ h + 1)
    (unallocated : s.share.allocation = none) :
    ∃ v, exec .zeroCross s = .next (settle (takeReports (regulatorWindow s).2 v)) ∧
      WindowParts (regulatorWindow s).1 v := by
  obtain ⟨out, share⟩ := edgeHanded_outputs s
  have handed := edgeHanded_alike s
  have cycle : cycles (edgeHanded s) = cycles s := by
    unfold cycles
    rw [handed.frequency]
  have start : nextHalfCycle (edgeHanded s) = 0 := nextHalfCycle_zero (by rw [out, cycle]; exact first)
  obtain ⟨parts, report⟩ := (handed.trans (windowOpened_alike _)).window
  obtain ⟨acted, reported⟩ := windowUnits_parts (windowOpened (edgeHanded s))
  refine ⟨windowFired (edgeHanded s), ?_, (parts.trans acted).trans (windowFired_parts _)⟩
  rw [exec_zeroCross_decided decided accepted, handEdge_window start (by rw [share, unallocated]), reported, report]

/-! ## The settlement -/

/-- Settles O40: the window's result in closed form (`regulatorWindow_some`) gives the clauses on a record; whatever the
units' order, the zero-crossing's window is the regulator's on the state before it (`zeroCross_window`). -/
theorem loopAndDemand : Obligations.LoopAndDemand := by
  unfold Obligations.LoopAndDemand
  refine ⟨rfl, temperatureLoop_figures, fun u w c => ⟨rfl, loadDemand_le c⟩, fun s recordless => ?_, fun s r h => ?_,
    fun s ready => window_boilerDemand ready, fun report s => ⟨takeReports_idle report, fun active =>
      ⟨reportsTaken report s, takeReports_active report active, reportsTaken_run report s, reportsTaken_raised report s⟩⟩,
    fun s decided accepted first unallocated => ?_⟩
  · have left := regulatorWindow_none recordless
    dsimp only
    rw [left.demands, left.boiler]
    exact ⟨rfl, rfl, rfl, rfl, rfl⟩
  · have direction : reachesNow r s ↔ s.climate.state = .preheat ∧ ¬hasFault .sensorCavity s = true ∧
        (match s.climate.direction with
          | .up => r.setpoint - 50 ≤ s.meas.cavity
          | .down => s.meas.cavity ≤ r.setpoint + 50) := by
      rw [reachesNow_iff]
      cases s.climate.direction <;> simp
    have left := regulatorWindow_some h
    intro t report row target blind works reaches wets ran out swings opens
    have working : Machine.working s = true ↔ works := working_iff s
    have running : loopRuns r s = true ↔ ran := loopRuns_iff r s
    have wet : wetsNow r s = true ↔ wets := wetsNow_iff
    have turning : reversing s = true ↔ swings := reversing_iff
    have steam : t.boiler.steamRequest = steamAsked r s := congrArg Boiler.steamRequest left.boiler
    have sees : ¬blind → cavityFaulted s = false := (Bool.not_eq_true _).mp
    obtain ⟨marked, reported⟩ := window_moist h
    refine ⟨fun x => window_reached h (direction.mpr x), fun x => window_waits h (mt direction.mp x),
      fun e he => ⟨fun x away => ?_, fun x => ?_⟩, fun x => ?_, fun x => ?_, fun x => ?_,
      fun x => window_idles h (mt running.mp x), fun mode => ?_,
      fun noSteam combi proof => steam.trans (steamAsked_dry noSteam combi proof), fun mode => ⟨fun x => ?_,
        fun x y free => ?_, fun x => ?_, fun x y sound free => ?_⟩⟩
    · refine (window_modeVent h he).trans ((if_pos (direction.mpr x)).trans ?_)
      unfold ventAfter
      rw [away]
      rfl
    · refine (window_modeVent h he).trans ?_
      split
      · next met => exact ventAfter_same (x.resolve_left (not_not_intro (direction.mp met)))
      · rfl
    · have yes := wet.mpr x
      exact ⟨marked.trans (by rw [yes, Bool.true_or]), reported.trans yes⟩
    · have no := Bool.eq_false_iff.mpr (mt wet.mp x)
      exact ⟨marked.trans (by rw [no, Bool.false_or]), reported.trans no⟩
    · obtain ⟨iacc, top, bottom, turns, still⟩ := window_ran h (running.mpr x)
      exact ⟨iacc, top, bottom, fun y => turns (turning.mpr y), fun y => still (mt turning.mp y)⟩
    · rw [steam, steamAsked_steam mode]
      simp only [running]
      rfl
    · exact steam.trans (steamAsked_withheld mode (x.imp (mt working.mp) id))
    · rw [steam]
      exact steamAsked_moist mode (working.mpr x) (sees y) free
    · exact (window_flap h mode).trans (moistureFlap_still (x.imp (mt working.mp) id))
    · rw [show t.out.vent = _ from window_flap h mode]
      exact moistureFlap_acts (working.mpr x) (sees y) sound free
  · obtain ⟨v, eq, parts⟩ := zeroCross_window decided accepted first unallocated
    exact ⟨v, eq, parts.climate, parts.boiler, parts.vent, parts.demands⟩

end Sys2Proof.Machine
end

section
/-! SUPPORT. The contacts of the two relays: the units move the heater supply relay's requested position alone, so the end
of a stage and the end of a step leave the contacts as they are. -/

namespace Sys2Proof.Machine

/-- The two relays, apart from the position that is asked of the heater supply relay. -/
def OutputTiming.contacts (o : OutputTiming) : Relay × Relay := ({ o.heaterRelay with askClosed := false }, o.fanRelay)

/-- The contacts are the same exactly where the heater supply relay differs in its requested position at most. -/
theorem contacts_eq_iff {o p : OutputTiming} :
    p.contacts = o.contacts ↔
      p.heaterRelay = { o.heaterRelay with askClosed := p.heaterRelay.askClosed } ∧ p.fanRelay = o.fanRelay := by
  obtain ⟨_, _, ⟨_, _, _, _⟩, _, _, _, _, _, _⟩ := o
  obtain ⟨_, _, ⟨_, _, _, _⟩, _, _, _, _, _, _⟩ := p
  simp [OutputTiming.contacts]

/-! ## The units' shared operations -/

@[simp] theorem handSteamRequest_out (n : Nat) (s : State) : (handSteamRequest n s).out = s.out := by
  rw [handSteamRequest_eq]

@[simp] theorem postZeros_out (s : State) : (postZeros s).out = s.out := by
  rw [postZeros_eq]

@[simp] theorem withholdSteam_out (b : Bool) (s : State) : (withholdSteam b s).out = s.out := by
  unfold withholdSteam
  dsimp only
  split <;> simp

theorem RunOnly.out {s t : State} (h : RunOnly s t) : t.out = s.out := by rw [h.only]

@[simp] theorem addCause_out (p : PauseCause) (s : State) : (addCause p s).out = s.out := (addCause_runOnly p s).out

@[simp] theorem removeCause_out (p : PauseCause) (s : State) : (removeCause p s).out = s.out :=
  (removeCause_runOnly p s).out

@[simp] theorem followProbe_out (s : State) : (followProbe s).out = s.out := (followProbe_runOnly s).out

@[simp] theorem cancelBurst_out (s : State) : (cancelBurst s).out = s.out :=
  (BoilerReacts.ite (cancelDose_reacts .ch1 (.refl s)) (.refl s)).out

@[simp] theorem requestBurst_out (ml : Nat) (s : State) : (requestBurst ml s).out = s.out := by
  unfold requestBurst loadDose
  split
  · rfl
  · split <;> rfl

@[simp] theorem followWater_out (s : State) : (followWater s).out = s.out := by
  unfold followWater
  dsimp only
  split
  · rfl
  · split
    · simp
    · split <;> simp

@[simp] theorem degradeStage_out (s : State) : (degradeStage s).out = s.out := by
  unfold degradeStage dropDeferred
  split <;> simp

@[simp] theorem enterBurst_out (s : State) : (enterBurst s).out = s.out := by
  unfold enterBurst
  split
  · rfl
  · split
    · rfl
    · split <;> simp

@[simp] theorem enterCauses_out (s : State) : (enterCauses false s).out = s.out := by
  unfold enterCauses
  simp

@[simp] theorem closeStage_out (s : State) : (closeStage s).out = s.out := by
  unfold closeStage dropDeferred
  simp

/-! ## The regulator's outputs -/

@[simp] theorem renewHeaterRequest_contacts (s : State) : (renewHeaterRequest s).out.contacts = s.out.contacts := rfl

theorem requestVent_contacts (e : VentEnd) (s : State) : (requestVent e s).out.contacts = s.out.contacts := by
  rw [requestVent_out]
  rfl

theorem requestModeVent_contacts (s : State) : (requestModeVent s).out.contacts = s.out.contacts := by
  unfold requestModeVent
  split
  · rfl
  · split
    · rfl
    · exact requestVent_contacts _ s

/-- The regulator's relay request and its fan code. -/
theorem issueFan_contacts (code : Nat) (closed : Bool) (s : State) :
    (issueFan code (askRelay closed s)).out.contacts = s.out.contacts := by
  rw [issueFan_eq]
  rfl

@[simp] theorem issueOutputs_contacts (s : State) : (issueOutputs s).out.contacts = s.out.contacts := by
  unfold issueOutputs
  split
  case h_1 => exact (requestModeVent_contacts _).trans (issueFan_contacts _ _ s)
  case h_2 => exact (requestModeVent_contacts _).trans (issueFan_contacts _ _ s)
  case h_3 => exact (requestVent_contacts _ _).trans (issueFan_contacts _ _ s)
  case h_4 => exact (requestVent_contacts _ _).trans (issueFan_contacts _ _ s)

@[simp] theorem stageEntry_contacts (sent : SentRecord) (s : State) :
    (stageEntry sent s).1.out.contacts = s.out.contacts := by
  unfold stageEntry
  split
  · rfl
  · dsimp only
    split <;> simp

@[simp] theorem endClimate_contacts (s : State) : (endClimate s).out.contacts = s.out.contacts := by
  unfold endClimate
  split <;> simp

/-! ## The end of a stage (R142) -/

@[simp] theorem endRun_contacts (result : RunResult) (fault : Option FaultKind) (s : State) :
    (endRun result fault s).out.contacts = s.out.contacts := by
  have marked : ∀ t : State, (markDrain true t).out = t.out := fun t => (markDrain_reacts true (.refl t)).out
  unfold endRun dropDeferred
  dsimp only
  split <;> simp [marked]

theorem enterStage_contacts (i : Nat) (s : State) : (enterStage i false s).1.out.contacts = s.out.contacts := by
  have degraded : ∀ (b : Prop) [Decidable b] (t : State), (if b then degradeStage t else t).out = t.out := by
    intro b _ t
    split <;> simp
  unfold enterStage
  dsimp only
  split
  · simp
  · split
    · next h =>
      have entered := congrArg (fun p => p.1.out.contacts) h
      simp only [stageEntry_contacts, degraded] at entered
      rw [endRun_contacts, ← entered]
      rfl
    · next h =>
      have entered := congrArg (fun p => p.1.out.contacts) h
      simp only [stageEntry_contacts, degraded] at entered
      rw [enterBurst_out, enterCauses_out]
      split <;> simp [← entered]

theorem endStages_contacts (fuel : Nat) (s : State) : (endStages fuel s).out.contacts = s.out.contacts := by
  induction fuel generalizing s with
  | zero => rfl
  | succ fuel ih =>
    have entered := enterStage_contacts ((closeStage s).ret.run.stageIndex + 1) (closeStage s)
    unfold endStages
    dsimp only
    split
    · simp
    · split
      · next h =>
        rw [h] at entered
        split
        · rw [ih, entered, closeStage_out]
        · rw [entered, closeStage_out]
      · next h =>
        rw [h] at entered
        rw [entered, closeStage_out]

@[simp] theorem checkStageEnd_contacts (s : State) : (checkStageEnd s).out.contacts = s.out.contacts := by
  unfold checkStageEnd endStage
  split
  · exact endStages_contacts 12 s
  · rfl

@[simp] theorem takeReports_contacts (report : ReachedReport) (s : State) :
    (takeReports report s).out.contacts = s.out.contacts := by
  have taken : (reportsTaken report s).out = s.out := by
    unfold reportsTaken
    dsimp only
    split <;> split <;> simp
  by_cases active : runActive s = true
  · rw [takeReports_active report active, checkStageEnd_contacts, taken]
  · rw [takeReports_idle report (Bool.eq_false_iff.mpr active)]

end Sys2Proof.Machine
end

section
/-! SUPPORT. What the end of a force or a pulse leaves (R81, R82), in closed form, and what the end of a step makes of the
force table, the pulse and the relays' contacts. -/

namespace Sys2Proof.Machine

/-! ## The flap's return (R76) -/

/-- The flap once a force or a pulse of a vent drive has ended: at its target's end, or on its way there anew. -/
def returnedVent (s : State) : VentFlap :=
  if endReached s.out.vent.target s then
    { s.out.vent with state := (match s.out.vent.target with | .opened => .opened | .closed => .closed) }
  else
    { state := (match s.out.vent.target with | .opened => .opening | .closed => .closing)
      target := s.out.vent.target, travel := 0 }

/-- The events once the flap has returned: a flap that is at its end is no longer STUCK (R77). -/
def returnedEvents (s : State) : EventBlock :=
  if endReached s.out.vent.target s then (leaveFault .ventStuck s).events else s.events

theorem returnVent_eq (s : State) :
    returnVent s = { s with out := { s.out with vent := returnedVent s }, events := returnedEvents s } := by
  unfold returnVent returnedVent returnedEvents
  split
  · exact leaveFault_setVent _ _ s
  · next away =>
    unfold travelVent
    rw [if_neg away]
    rfl

/-- The return looks at the flap, the inputs and the events alone. -/
theorem returnVent_of_same {s t : State} (vent : t.out.vent = s.out.vent) (inputs : t.inputs = s.inputs)
    (events : t.events = s.events) :
    returnVent t = { t with out := { t.out with vent := returnedVent s }, events := returnedEvents s } := by
  rw [returnVent_eq]
  unfold returnedVent returnedEvents endReached
  rw [vent, inputs, leaveFault_events events, events]

theorem returnedVent_reached {s : State} (reached : endReached s.out.vent.target s = true) :
    returnedVent s =
      { s.out.vent with state := (match s.out.vent.target with | .opened => .opened | .closed => .closed) } :=
  if_pos reached

theorem returnedVent_away {s : State} (away : endReached s.out.vent.target s = false) :
    returnedVent s =
      { state := (match s.out.vent.target with | .opened => .opening | .closed => .closing)
        target := s.out.vent.target, travel := 0 } :=
  if_neg (Bool.eq_false_iff.mp away)

theorem returnedEvents_reached {s : State} (reached : endReached s.out.vent.target s = true) :
    returnedEvents s = (leaveFault .ventStuck s).events := if_pos reached

theorem returnedEvents_away {s : State} (away : endReached s.out.vent.target s = false) :
    returnedEvents s = s.events := if_neg (Bool.eq_false_iff.mp away)

/-! ## The force table (R79) -/

/-- In a table with one entry for an output at most, an output's entry is the one that names it. -/
theorem forceEntry_iff {o : Output} {s : State} {e : ForceEntry} (once : (s.out.forces.map ForceEntry.output).Nodup) :
    forceEntry o s = some e ↔ e ∈ s.out.forces ∧ e.output = o := by
  unfold forceEntry
  generalize s.out.forces = es at once ⊢
  induction es with
  | nil => simp
  | cons x rest ih =>
    rw [List.map_cons, List.nodup_cons] at once
    obtain ⟨fresh, once⟩ := once
    rw [List.find?_cons]
    by_cases hx : x.output = o
    · rw [decide_eq_true hx]
      constructor
      · intro h
        cases h
        exact ⟨List.mem_cons_self, hx⟩
      · rintro ⟨he, ho⟩
        rcases List.mem_cons.mp he with rfl | he
        · rfl
        · exact absurd (List.mem_map.mpr ⟨e, he, ho.trans hx.symm⟩) fresh
    · rw [decide_eq_false hx]
      dsimp only
      rw [ih once, List.mem_cons]
      constructor
      · exact fun h => ⟨.inr h.1, h.2⟩
      · rintro ⟨rfl | he, ho⟩
        · exact absurd ho hx
        · exact ⟨he, ho⟩

/-- The table without an output's entry. -/
def withoutForce (o : Output) (s : State) : List ForceEntry := s.out.forces.filter (fun e => decide (e.output ≠ o))

/-- An entry is removed (R81): the claim of a heat load, the heater supply relay's request and a vent drive's flap go with
it. -/
theorem removeForce_eq {o : Output} {s : State} (entered : (forceEntry o s).isSome = true) :
    removeForce o s =
      { s with
        share := if (outputLoad o).isSome then (dropClaim s).share else s.share
        out := { s.out with
          forces := withoutForce o s
          heaterRelay := { s.out.heaterRelay with
            askClosed := s.climate.relayAsk || (withoutForce o s).any ForceEntry.isCavity }
          vent := if isVentDrive o then returnedVent s else s.out.vent }
        events := if isVentDrive o then returnedEvents s else s.events } := by
  have claimed : ∀ t : State, (if (outputLoad o).isSome then dropClaim t else t) =
      { t with share := if (outputLoad o).isSome then (dropClaim t).share else t.share } := by
    intro t
    split <;> rfl
  unfold removeForce
  rw [if_pos entered]
  dsimp only
  rw [claimed]
  by_cases drive : isVentDrive o = true
  · rw [if_pos drive, if_pos drive, if_pos drive]
    exact returnVent_of_same rfl rfl rfl
  · rw [if_neg drive, if_neg drive, if_neg drive]
    rfl

theorem removeForce_none {o : Output} {s : State} (free : (forceEntry o s).isSome = false) : removeForce o s = s :=
  if_neg (Bool.eq_false_iff.mp free)

theorem removeForce_forces (o : Output) (s : State) : (removeForce o s).out.forces = withoutForce o s := by
  cases entered : (forceEntry o s).isSome
  · rw [removeForce_none entered]
    symm
    simpa [forceEntry, withoutForce] using entered
  · rw [removeForce_eq entered]

@[simp] theorem removeForce_contacts (o : Output) (s : State) : (removeForce o s).out.contacts = s.out.contacts := by
  cases entered : (forceEntry o s).isSome
  · rw [removeForce_none entered]
  · rw [removeForce_eq entered]
    rfl

/-- No entry of the output is left. -/
theorem removeForce_forceEntry (o : Output) (s : State) : forceEntry o (removeForce o s) = none := by
  unfold forceEntry
  rw [removeForce_forces]
  simp [withoutForce]

/-! ## The pulse (R82) -/

theorem endPulse_eq {p : PulseRecord} {s : State} (pulsed : s.out.pulse = some p) :
    endPulse s =
      { s with
        out := { s.out with
          pulse := none
          vent := if p.outputs.any isVentDrive then returnedVent s else s.out.vent }
        events := if p.outputs.any isVentDrive then returnedEvents s else s.events } := by
  unfold endPulse
  rw [pulsed]
  dsimp only
  cases p.outputs.any isVentDrive
  · rfl
  · exact returnVent_of_same rfl rfl rfl

theorem endPulse_none {s : State} (free : s.out.pulse = none) : endPulse s = s := by
  unfold endPulse
  rw [free]

theorem endPulse_out (s : State) :
    (endPulse s).out.pulse = none ∧ (endPulse s).out.forces = s.out.forces ∧
      (endPulse s).out.contacts = s.out.contacts := by
  cases pulsed : s.out.pulse with
  | none =>
    rw [endPulse_none pulsed]
    exact ⟨pulsed, rfl, rfl⟩
  | some p =>
    rw [endPulse_eq pulsed]
    exact ⟨rfl, rfl, rfl⟩

/-! ## Forces and pulses give way (R81, R82) -/

/-- Removed output by output, the table keeps the entries of other outputs; the contacts do not move. -/
theorem removeEach_out (os : List Output) (s : State) :
    let t := os.foldl (fun s o => removeForce o s) s
    t.out.forces = s.out.forces.filter (fun e => decide (e.output ∉ os)) ∧ t.out.contacts = s.out.contacts := by
  induction os generalizing s with
  | nil => simp
  | cons o os ih =>
    obtain ⟨forces, contacts⟩ := ih (removeForce o s)
    rw [List.foldl_cons]
    refine ⟨?_, contacts.trans (removeForce_contacts o s)⟩
    rw [forces, removeForce_forces, withoutForce, List.filter_filter]
    refine List.filter_congr fun e _ => ?_
    simp [Bool.and_comm]

theorem mem_allOutputs (o : Output) : o ∈ allOutputs := by
  cases o <;> decide

theorem removeForces_all (s : State) :
    removeForces (fun _ => true) s = allOutputs.foldl (fun s o => removeForce o s) s := by
  unfold removeForces
  simp only [if_true]

/-- Nothing is forced or pulsed, and the contacts have not moved. -/
theorem endForces_out (s : State) :
    (endForces s).out.forces = [] ∧ (endForces s).out.pulse = none ∧ (endForces s).out.contacts = s.out.contacts := by
  obtain ⟨forces, contacts⟩ := removeEach_out allOutputs s
  obtain ⟨pulse, kept, still⟩ := endPulse_out (removeForces (fun _ => true) s)
  unfold endForces
  rw [removeForces_all] at pulse kept still ⊢
  refine ⟨?_, pulse, still.trans contacts⟩
  rw [kept, forces]
  simp [mem_allOutputs]

@[simp] theorem yieldForces_contacts (s : State) : (yieldForces s).out.contacts = s.out.contacts := by
  unfold yieldForces
  split
  · rfl
  · exact (endForces_out s).2.2

/-- The part is at rest and service unlock is active (R79, R81). -/
def ForcesAllowed (s : State) : Prop :=
  s.ret.run.state = .idle ∧ s.ret.descale.phase = .idle ∧ s.climate.state = .off ∧ s.prot.serviceUnlock = true

/-- An entry or a pulse is left only where it is allowed. -/
theorem yieldForces_allowed {s : State} (held : (yieldForces s).out.forces ≠ [] ∨ (yieldForces s).out.pulse ≠ none) :
    ForcesAllowed (yieldForces s) := by
  unfold yieldForces at held ⊢
  split at held
  · next rest =>
    rw [if_pos rest]
    simp only [forcesAdmitted, Bool.and_eq_true, decide_eq_true_iff] at rest
    obtain ⟨⟨⟨run, descale⟩, climate⟩, unlock⟩ := rest
    exact ⟨run, descale, climate, unlock⟩
  · obtain ⟨forces, pulse, -⟩ := endForces_out s
    rcases held with h | h
    · exact absurd forces h
    · exact absurd pulse h

/-! ## The end of a step -/

theorem grantPath_only (c : Chan) (s : State) : grantPath c s = { s with water := (grantPath c s).water } := by
  unfold grantPath setChanState setChan
  dsimp only
  split <;> rfl

/-- The supply path arbiter moves the water unit alone (R85). -/
theorem arbitrate_only (s : State) : arbitrate s = { s with water := (arbitrate s).water } := by
  have grant : ∀ (c : Chan) (w : Water), ∃ w', grantPath c { s with water := w } = { s with water := w' } :=
    fun c w => ⟨_, grantPath_only c _⟩
  have moved : ∃ w, arbitrate s = { s with water := w } := by
    unfold arbitrate
    split
    · exact ⟨s.water, rfl⟩
    · obtain ⟨w, started⟩ : ∃ w, (if (chan s .ch3).state = .requesting then setChanState .ch3 .running s else s) =
          { s with water := w } := by
        split
        · exact ⟨_, rfl⟩
        · exact ⟨s.water, rfl⟩
      rw [started]
      dsimp only
      repeat' split
      · exact grant .ch2 w
      · exact grant .ch0 w
      · exact grant .ch1 w
      · exact ⟨w, rfl⟩
      · exact ⟨w, rfl⟩
  obtain ⟨w, eq⟩ := moved
  rw [eq]

theorem flushCommit_only (s : State) : flushCommit s = { s with store := (flushCommit s).store } := by
  unfold flushCommit
  split
  · split <;> rfl
  · rfl

theorem followWaterConditions_only (s : State) :
    followWaterConditions s = { s with events := (followWaterConditions s).events } := by
  unfold followWaterConditions
  exact onlyEvents_trans (followCondition_only _ _ _ s) (followCondition_only _ _ _ _)

/-- The end of a step up to the force table. -/
def beforeForces (s : State) : State := followPrepare (followNeed (followWater (followTopUp (checkRunFaults s))))

/-- Once forces have given way, a step moves the heater supply relay's request, the water unit, the events and the store
alone. -/
theorem settle_afterForces (s : State) :
    ∃ x w e k, settle s = { yieldForces (beforeForces s) with
      out := { (yieldForces (beforeForces s)).out with
        heaterRelay := { (yieldForces (beforeForces s)).out.heaterRelay with askClosed := x } }
      water := w, events := e, store := k } := by
  have steps : settle s =
      flushCommit (arbitrate (followWaterConditions (renewHeaterRequest (yieldForces (beforeForces s))))) := rfl
  rw [steps, flushCommit_only, arbitrate_only, followWaterConditions_only]
  exact ⟨_, _, _, _, rfl⟩

theorem followPrepare_out (s : State) : (followPrepare s).out = s.out := by
  have prepared : BoilerReacts s (followPrepare s) := by
    unfold followPrepare
    refine .ite ?_ (.refl s)
    split
    · exact enterPhase_reacts _ _ (setWork_reacts _ (.refl s))
    · exact .ite (.refl s) (tryDescaleDrain_reacts (setWork_reacts _ (.refl s)))
    · exact .ite (.refl s) (tryDescaleDrain_reacts (setWork_reacts _ (.refl s)))
    · exact .refl s
  exact prepared.out

theorem checkRunFaults_contacts (s : State) : (checkRunFaults s).out.contacts = s.out.contacts := by
  unfold checkRunFaults
  split
  · split
    · simp
    · split <;> simp
  · rfl

/-- The end of a step moves no contact of the relays. -/
theorem settle_contacts (s : State) : (settle s).out.contacts = s.out.contacts := by
  obtain ⟨x, w, e, k, settled⟩ := settle_afterForces s
  have units : (beforeForces s).out.contacts = s.out.contacts := by
    have topUp : ∀ t : State, (followTopUp t).out = t.out := fun t => (followTopUp_reacts (.refl t)).out
    have need : ∀ t : State, (followNeed t).out = t.out := fun _ => rfl
    unfold beforeForces
    rw [followPrepare_out, need, followWater_out, topUp, checkRunFaults_contacts]
  rw [settled]
  exact (yieldForces_contacts _).trans units

/-- No step that settles leaves an entry or a pulse where it is not allowed. -/
theorem settle_allowed {s : State} (held : (settle s).out.forces ≠ [] ∨ (settle s).out.pulse ≠ none) :
    ForcesAllowed (settle s) := by
  obtain ⟨x, w, e, k, settled⟩ := settle_afterForces s
  rw [settled] at held ⊢
  exact yieldForces_allowed held

end Sys2Proof.Machine
end

section
/-! SUPPORT. The rows FORCE_EXPIRY and PULSE_END, the drives' motor and their ends, and the settlement of the forces. -/

namespace Sys2Proof.Machine

/-! ## The rows (R81, R82) -/

theorem exec_forceExpiry (o : Output) (s : State) :
    exec (.forceExpiry o) s = if forceDue o s then .next (settle (removeForce o s)) else .next s := by rfl

theorem exec_pulseEnd (s : State) : exec .pulseEnd s = if pulseDue s then .next (settle (endPulse s)) else .next s := by
  rfl

theorem forceDue_iff (o : Output) (s : State) :
    forceDue o s = true ↔ ∃ e, forceEntry o s = some e ∧ 30000000 ≤ e.age := by
  unfold forceDue
  cases forceEntry o s <;> simp [second]

theorem pulseDue_iff (s : State) : pulseDue s = true ↔ ∃ p, s.out.pulse = some p ∧ p.remaining = 0 := by
  unfold pulseDue
  cases s.out.pulse <;> simp

/-! ## The motor (R76, R79) -/

theorem motorToward_forced {e : VentEnd} {x : ForceEntry} {s : State} (h : forceEntry (ventDrive e) s = some x) :
    motorToward e s = (x.level && !endReached e s && !x.ended) := by
  unfold motorToward override driveEnded
  rw [h]

theorem motorToward_pulsed {e : VentEnd} {p : PulseRecord} {s : State} (free : forceEntry (ventDrive e) s = none)
    (pulsed : s.out.pulse = some p) (drive : ventDrive e ∈ p.outputs) :
    motorToward e s = (!endReached e s && !p.ended) := by
  unfold motorToward override driveEnded inPulse
  rw [free, pulsed]
  simp [drive]

/-- A reached end marks the entry and the pulse of its drive, whether or not the flap takes that end's state (R79, R82). -/
theorem reachEnd_out (e : VentEnd) (b s : State) :
    (reachEnd e b s).out.forces =
        s.out.forces.map (fun x => if x.output = ventDrive e then { x with ended := true } else x) ∧
      (reachEnd e b s).out.pulse =
        s.out.pulse.map (fun p => if ventDrive e ∈ p.outputs then { p with ended := true } else p) := by
  unfold reachEnd
  rw [endDrive_out]
  split
  · exact ⟨rfl, rfl⟩
  · unfold arriveVent
    rw [leaveFault_setVent]
    exact ⟨rfl, rfl⟩

theorem reachEnd_forceEntry {e : VentEnd} {x : ForceEntry} {s : State} (b : State)
    (entered : forceEntry (ventDrive e) s = some x) :
    forceEntry (ventDrive e) (reachEnd e b s) = some { x with ended := true } := by
  have named : x.output = ventDrive e := by simpa using List.find?_some entered
  have names : ∀ y : ForceEntry,
      (if y.output = ventDrive e then { y with ended := true } else y).output = y.output := by
    intro y
    split <;> rfl
  unfold forceEntry at entered ⊢
  rw [(reachEnd_out e b s).1, List.find?_map]
  have same : ((fun y : ForceEntry => decide (y.output = ventDrive e)) ∘
      fun y => if y.output = ventDrive e then { y with ended := true } else y) =
        fun y => decide (y.output = ventDrive e) := by
    funext y
    rw [Function.comp_apply, names]
  rw [same, entered, Option.map_some, if_pos named]

/-! ## The settlement -/

/-- Settles O32: a removal and a pulse's end in closed form (`removeForce_eq`, `endPulse_eq`) give their clauses, and what
the end of a step does after `yieldForces` touches neither the table nor the rest it stands on (`settle_allowed`). -/
theorem forcesAndPulsesEnd : Obligations.ForcesAndPulsesEnd := by
  unfold Obligations.ForcesAndPulsesEnd
  refine ⟨forceDue_iff, fun o s e once => forceEntry_iff once, fun o s due => ?_, fun o s early => ?_,
    fun p s pulsed ended => ?_, fun s early => ?_, fun o s entered => ?_, fun p s pulsed => ?_, fun e x s entered => ?_,
    fun e p s free pulsed drive => ?_, fun e b s => ⟨fun x => reachEnd_forceEntry b, fun p pulsed => ?_⟩,
    fun s => settle_allowed⟩
  · rw [exec_forceExpiry, if_pos due]
  · rw [exec_forceExpiry, if_neg (Bool.eq_false_iff.mp early)]
  · rw [exec_pulseEnd, if_pos ((pulseDue_iff s).mpr ⟨p, pulsed, ended⟩)]
  · rw [exec_pulseEnd, if_neg fun due => ?_]
    obtain ⟨p, pulsed, ended⟩ := (pulseDue_iff s).mp due
    exact early p pulsed ended
  · have gone := removeForce_forceEntry o s
    rw [removeForce_eq entered] at gone ⊢
    refine ⟨rfl, gone, fun load => if_pos load, fun load => if_neg (Bool.eq_false_iff.mp load), rfl, rfl, rfl,
      fun drive => ⟨fun reached => ?_, fun away => (if_pos drive).trans (returnedVent_away away)⟩⟩
    exact congrArg VentFlap.state ((if_pos drive).trans (returnedVent_reached reached))
  · rw [endPulse_eq pulsed]
    refine ⟨rfl, fun others => ?_,
      fun drive => ⟨rfl, fun reached => ⟨(if_pos drive).trans (returnedVent_reached reached), ?_⟩,
      fun away => ⟨(if_pos drive).trans (returnedEvents_away away), (if_pos drive).trans (returnedVent_away away)⟩⟩⟩
    · rw [others]
      rfl
    · have freed : hasFault .ventStuck (leaveFault .ventStuck s) = false := by
        rw [hasFault_leaveFault, decide_eq_false (fun x => x rfl), Bool.and_false]
      rw [← freed]
      exact hasFault_congr (congrArg EventBlock.faults ((if_pos drive).trans (returnedEvents_reached reached))) _
  · rw [motorToward_forced entered]
    simp [and_assoc]
  · rw [motorToward_pulsed free pulsed drive]
    simp
  · rw [(reachEnd_out e b s).2, pulsed]
    rfl

end Sys2Proof.Machine
end

section
/-! SUPPORT. The relays' rows (R69 to R71), the heater supply relay at a zero-crossing (R70), and their settlement. -/

namespace Sys2Proof.Machine

/-! ## The rows (R69, R75) -/

theorem exec_relayChangeStart (r : RelayId) (s : State) :
    exec (.relayChangeStart r) s =
      if relayChangeDue r s then .next (setRelay r (relay s r).startChange s) else .next s := by rfl

/-- The relay takes the record `x`, which for the direction relay ends a reversal. -/
def relayArrives (r : RelayId) (x : Relay) (s : State) : State :=
  match r with
  | .heaterSupply => setRelay .heaterSupply x s
  | .fanDirection => endReversal (setRelay .fanDirection x s)

theorem exec_relayContactEnd (r : RelayId) (s : State) :
    exec (.relayContactEnd r) s =
      if relayContactDue r s then .next (relayArrives r (relay s r).endChange s) else .next s := by
  cases r <;> rfl

theorem exec_relayRecoveryEnd (r : RelayId) (s : State) :
    exec (.relayRecoveryEnd r) s =
      if relayRecoveryDue r s then .next (setRelay r { relay s r with recovering := false } s) else .next s := by rfl

theorem Relay.mayChange_iff (x : Relay) :
    x.mayChange = true ↔
      x.recovering = false ∧ ((x.state = .opened ∧ x.askClosed = true) ∨ (x.state = .closed ∧ x.askClosed = false)) := by
  unfold Relay.mayChange
  cases x.state <;> simp

theorem Relay.not_mayChange_iff (x : Relay) :
    ¬x.mayChange = true ↔
      x.recovering = true ∨ x.state = .closing ∨ x.state = .opening ∨ (x.state = .opened ∧ x.askClosed = false) ∨
        (x.state = .closed ∧ x.askClosed = true) := by
  unfold Relay.mayChange
  cases x.state <;> cases x.recovering <;> simp

theorem Relay.startChange_opened {x : Relay} (h : x.state = .opened) :
    x.startChange = { x with state := .closing, timer := 0 } := by
  unfold Relay.startChange
  rw [if_pos h]

theorem Relay.startChange_closed {x : Relay} (h : x.state = .closed) :
    x.startChange = { x with state := .opening, timer := 0 } := by
  unfold Relay.startChange
  rw [if_neg (by rw [h]; decide)]

theorem Relay.moving_iff (x : Relay) : x.moving = true ↔ x.state = .closing ∨ x.state = .opening := by
  unfold Relay.moving
  rw [Bool.or_eq_true, decide_eq_true_iff, decide_eq_true_iff]

/-- A relay stands or moves. -/
theorem Relay.stands_iff (x : Relay) : x.state = .opened ∨ x.state = .closed ↔ x.moving = false := by
  unfold Relay.moving
  cases x.state <;> decide

theorem Relay.endChange_closing {x : Relay} (h : x.state = .closing) :
    x.endChange = { x with state := .closed, timer := 0, recovering := true } := by
  unfold Relay.endChange
  rw [if_pos h]

theorem Relay.endChange_opening {x : Relay} (h : x.state = .opening) :
    x.endChange = { x with state := .opened, timer := 0, recovering := true } := by
  unfold Relay.endChange
  rw [if_neg (by rw [h]; decide)]

theorem relayChangeDue_iff (r : RelayId) (s : State) :
    relayChangeDue r s = true ↔ (relay s r).mayChange = true ∧ relayFree r s = true := by
  unfold relayChangeDue
  rw [Bool.and_eq_true]

theorem relayContactDue_iff (r : RelayId) (s : State) :
    relayContactDue r s = true ↔ (relay s r).moving = true ∧ 30000 ≤ (relay s r).timer := by
  unfold relayContactDue
  rw [Bool.and_eq_true, decide_eq_true_iff]
  exact .rfl

theorem relayRecoveryDue_iff (r : RelayId) (s : State) :
    relayRecoveryDue r s = true ↔
      (relay s r).recovering = true ∧ (relay s r).moving = false ∧ 2000000 ≤ (relay s r).timer := by
  unfold relayRecoveryDue
  rw [Bool.and_eq_true, Bool.and_eq_true, Bool.not_eq_true', decide_eq_true_iff, and_assoc]
  exact .rfl

/-- The direction relay's new state ends a reversal: the fan starts where a code is issued and no hold applies (R73, R75). -/
theorem endReversal_fan {s : State} (switching : s.out.fan.phase = .switching) :
    (endReversal s).out.fan.phase = (if 0 < s.out.fan.code ∧ fanHeld s = false then .running else .stopped) ∧
      (endReversal s).out.fan.duty = (if 0 < s.out.fan.code ∧ fanHeld s = false then 400 else 0) := by
  have stopped : endReversal s = startFan (setFan { s.out.fan with phase := .stopped, duty := 0 } s) := if_pos switching
  have held : fanHeld (setFan { s.out.fan with phase := .stopped, duty := 0 } s) = fanHeld s := rfl
  rw [stopped]
  unfold startFan
  rw [held]
  by_cases starts : 0 < s.out.fan.code ∧ fanHeld s = false
  · rw [if_pos ⟨rfl, starts⟩, if_pos starts, if_pos starts]
    exact ⟨rfl, rfl⟩
  · rw [if_neg fun x => starts x.2, if_neg starts, if_neg starts]
    exact ⟨rfl, rfl⟩

/-! ## What a zero-crossing hands to the relay (R15, R64, R70) -/

/-- The window's units move the flap alone of the outputs, and let the claim stand. -/
structure FlapOnly (s t : State) : Prop where
  out : t.out = { s.out with vent := t.out.vent }
  claim : t.share.claim = s.share.claim

theorem FlapOnly.refl (s : State) : FlapOnly s s := ⟨rfl, rfl⟩

theorem FlapOnly.trans {s t u : State} (h : FlapOnly s t) (k : FlapOnly t u) : FlapOnly s u :=
  ⟨k.out.trans (by rw [h.out]), k.claim.trans h.claim⟩

theorem postBoiler_flapOnly (s : State) : FlapOnly s (postBoiler s) := by
  rw [postBoiler_eq]
  exact ⟨rfl, rfl⟩

/-- With no claim to refuse, an allocation that begins moves no output (R52). -/
theorem beginAllocation_flapOnly {s : State} (unclaimed : s.share.claim = none) : FlapOnly s (beginAllocation s) := by
  unfold beginAllocation refuseClaim
  rw [unclaimed]
  exact ⟨rfl, unclaimed.symm ▸ rfl⟩

theorem requestVent_flapOnly (e : VentEnd) (s : State) : FlapOnly s (requestVent e s) := by
  rw [requestVent_eq]
  exact ⟨rfl, rfl⟩

theorem regulatorWindow_flapOnly (s : State) : FlapOnly s (regulatorWindow s).1 := by
  cases h : s.climate.record with
  | none =>
    rw [regulatorWindow_zeros h, postZeros_eq]
    exact ⟨rfl, rfl⟩
  | some r =>
    obtain ⟨e, eq, -, -⟩ := tested_facts h
    have ran : FlapOnly s (posted r (tested r s)) := by
      rw [posted_eq h, eq]
      exact ⟨rfl, rfl⟩
    rw [regulatorWindow_eq h, runLoops_eq]
    dsimp only
    split
    · refine ran.trans ?_
      unfold issueMoistureVent
      split
      · exact .refl _
      · split
        · exact .refl _
        · exact requestVent_flapOnly _ _
    · exact ran

/-- Whatever order the units act in (R33, R50). -/
theorem windowUnits_flapOnly {s : State} (unclaimed : s.share.claim = none) : FlapOnly s (windowUnits s).1 := by
  have regulated := regulatorWindow_flapOnly s
  have posted := postBoiler_flapOnly s
  unfold windowUnits
  dsimp only
  split
  · split
    · have left := regulated.trans (postBoiler_flapOnly _)
      exact left.trans (beginAllocation_flapOnly (left.claim.trans unclaimed))
    · exact (regulated.trans (beginAllocation_flapOnly (regulated.claim.trans unclaimed))).trans (postBoiler_flapOnly _)
  · split
    · exact (posted.trans (beginAllocation_flapOnly (posted.claim.trans unclaimed))).trans (regulatorWindow_flapOnly _)
    · exact ((beginAllocation_flapOnly unclaimed).trans (regulatorWindow_flapOnly _)).trans (postBoiler_flapOnly _)

/-- The relay at a zero-crossing finds in `v` what `s` holds: the relay itself, the runs of the half-cycle `h` that begins,
which are the pending ones at a window start, and the outputs forced. -/
structure RelayFinds (h : Nat) (s v : State) : Prop where
  relay : v.out.heaterRelay = s.out.heaterRelay
  runs : ∀ l, (v.out.heat.get l).active = if h = 0 then (s.out.heat.get l).pending else (s.out.heat.get l).active
  forced : v.out.forces.map ForceEntry.output = s.out.forces.map ForceEntry.output

theorem windowUnits_relayFinds {s : State} (unclaimed : s.share.claim = none) :
    RelayFinds 0 s (windowUnits (windowOpened s)).1 := by
  have left := (windowUnits_flapOnly (s := windowOpened s) unclaimed).out
  have adopted : ∀ es : List ForceEntry,
      (es.map ForceEntry.startFiring).map ForceEntry.output = es.map ForceEntry.output := by
    intro es
    rw [List.map_map]
    refine List.map_congr_left fun e _ => ?_
    rw [Function.comp_apply, ForceEntry.startFiring]
    split <;> rfl
  refine ⟨?_, fun l => ?_, ?_⟩
  · rw [left]
    rfl
  · rw [left]
    cases l <;> rfl
  · rw [left]
    exact adopted _

/-- The relay, and the loads after it, act on a state in which the relay finds what the edge finds. -/
theorem handEdge_relay {s : State}
    (window : nextHalfCycle s = 0 → s.share.allocation = none ∧ s.share.claim = none) :
    ∃ v report, RelayFinds (nextHalfCycle s) s v ∧
      handEdge s = settle (takeReports report (fireHalfCycle (nextHalfCycle s / 2)
        (if nextHalfCycle s % 2 = 0 then relayAtZeroCross (nextHalfCycle s / 2) v else v))) := by
  by_cases first : nextHalfCycle s = 0
  · obtain ⟨unallocated, unclaimed⟩ := window first
    refine ⟨(windowUnits (windowOpened s)).1, (windowUnits (windowOpened s)).2, ?_, ?_⟩
    · rw [first]
      exact windowUnits_relayFinds unclaimed
    · rw [handEdge_window first unallocated, first]
      rfl
  · refine ⟨{ s with out := { s.out with halfCycle := some (nextHalfCycle s) } }, ⟨false, false⟩, ?_, ?_⟩
    · exact ⟨rfl, fun l => (if_neg first).symm, rfl⟩
    · unfold handEdge
      dsimp only
      rw [if_neg first]

/-- A cavity load is called for in the half-cycle `h` that begins (R65, R70). -/
def cavityCalls (h : Nat) (s : State) : Prop :=
  ∃ l : Load, l.isCavity = true ∧
    (if h = 0 then (s.out.heat.get l).pending else (s.out.heat.get l).active).covers (h / 2) = true

/-- A cavity load is forced (R70, R79). -/
def cavityForced (s : State) : Prop := ∃ e ∈ s.out.forces, ∃ l : Load, outputLoad e.output = some l ∧ l.isCavity = true

theorem cavityCalled_iff (c : Nat) (s : State) :
    cavityCalled c s = true ↔ ∃ l : Load, l.isCavity = true ∧ (s.out.heat.get l).active.covers c = true := by
  unfold cavityCalled
  simp only [Bool.or_eq_true, or_assoc]
  constructor
  · rintro (h | h | h | h)
    exacts [⟨.top, rfl, h⟩, ⟨.bottom, rfl, h⟩, ⟨.ring, rfl, h⟩, ⟨.grill, rfl, h⟩]
  · rintro ⟨l, cavity, h⟩
    cases l with
    | top => exact .inl h
    | bottom => exact .inr (.inl h)
    | ring => exact .inr (.inr (.inl h))
    | grill => exact .inr (.inr (.inr h))
    | boiler => cases cavity

theorem ForceEntry.isCavity_iff (e : ForceEntry) :
    e.isCavity = true ↔ ∃ l : Load, outputLoad e.output = some l ∧ l.isCavity = true := by
  unfold ForceEntry.isCavity
  cases outputLoad e.output <;> simp

theorem forcedCavity_iff (s : State) : forcedCavity s = true ↔ cavityForced s := by
  unfold forcedCavity cavityForced
  rw [List.any_eq_true]
  simp only [ForceEntry.isCavity_iff]

namespace RelayFinds

variable {h : Nat} {s v : State}

theorem called (finds : RelayFinds h s v) : cavityCalled (h / 2) v = true ↔ cavityCalls h s := by
  rw [cavityCalled_iff]
  simp only [finds.runs]
  exact .rfl

theorem forcedCavity (finds : RelayFinds h s v) : forcedCavity v = true ↔ cavityForced s := by
  have any : ∀ t : State, Machine.forcedCavity t =
      (t.out.forces.map ForceEntry.output).any (fun o => ((outputLoad o).map Load.isCavity).getD false) := by
    intro t
    rw [List.any_map]
    refine congrArg (fun f => t.out.forces.any f) (funext fun e => ?_)
    rw [Function.comp_apply, ForceEntry.isCavity]
    cases outputLoad e.output <;> rfl
  rw [← forcedCavity_iff, any, any, finds.forced]

end RelayFinds

/-! ## The relay at a zero-crossing -/

/-- The heater supply relay begins its change at the first half-cycle of a cycle, and opens only where no cavity load is
called for or forced (R69, R70). -/
def crossingStarts (h : Nat) (s : State) : Prop :=
  h % 2 = 0 ∧ s.out.heaterRelay.mayChange = true ∧
    (s.out.heaterRelay.state = .opened ∨ (¬cavityCalls h s ∧ ¬cavityForced s))

/-- The relay once the crossing has been handed to it. -/
theorem RelayFinds.crossed {h : Nat} {s v : State} (finds : RelayFinds h s v) :
    let x := (if h % 2 = 0 then relayAtZeroCross (h / 2) v else v).out.heaterRelay
    (crossingStarts h s → x = s.out.heaterRelay.startChange) ∧ (¬crossingStarts h s → x = s.out.heaterRelay) := by
  have starts : crossingStarts h s ↔ h % 2 = 0 ∧ (v.out.heaterRelay.mayChange && heaterRelayFree (h / 2) v) = true := by
    unfold crossingStarts heaterRelayFree
    rw [← finds.called, ← finds.forcedCavity, finds.relay]
    simp
  rw [starts]
  dsimp only
  by_cases even : h % 2 = 0
  · rw [if_pos even]
    unfold relayAtZeroCross
    refine ⟨fun x => ?_, fun x => ?_⟩
    · rw [if_pos x.2, finds.relay]
      rfl
    · rw [if_neg fun y => x ⟨even, y⟩, finds.relay]
  · rw [if_neg even]
    exact ⟨fun x => absurd x.1 even, fun _ => finds.relay⟩

/-- An accepted edge once the frequency is decided: what follows the relay's change in the step moves its request at most
(R15, R70; notes/assumptions/17.md). -/
theorem zeroCross_relay {s : State} (decided : s.meas.frequency ≠ .undecided)
    (accepted : s.meas.edgeSeen = false ∨ 5000 ≤ s.meas.edgeAge)
    (window : nextHalfCycle s = 0 → s.share.allocation = none ∧ s.share.claim = none) :
    ∃ t, exec .zeroCross s = .next t ∧
      (crossingStarts (nextHalfCycle s) s →
        t.out.heaterRelay = { s.out.heaterRelay.startChange with askClosed := t.out.heaterRelay.askClosed }) ∧
      (¬crossingStarts (nextHalfCycle s) s →
        t.out.heaterRelay = { s.out.heaterRelay with askClosed := t.out.heaterRelay.askClosed }) := by
  obtain ⟨out, share⟩ := edgeHanded_outputs s
  have next : nextHalfCycle (edgeHanded s) = nextHalfCycle s := by
    unfold nextHalfCycle cycles
    rw [out, (edgeHanded_alike s).frequency]
  have handed := handEdge_relay (s := edgeHanded s)
  rw [next, share] at handed
  obtain ⟨v, report, ⟨relay, runs, forced⟩, eq⟩ := handed window
  rw [out] at relay runs forced
  obtain ⟨starts, stays⟩ := RelayFinds.crossed ⟨relay, runs, forced⟩
  refine ⟨_, (exec_zeroCross_decided decided accepted).trans (congrArg _ eq), ?_⟩
  generalize (if nextHalfCycle s % 2 = 0 then relayAtZeroCross (nextHalfCycle s / 2) v else v) = x at starts stays ⊢
  have contacts := (settle_contacts _).trans (takeReports_contacts report (fireHalfCycle (nextHalfCycle s / 2) x))
  obtain ⟨moved, -⟩ := contacts_eq_iff.mp contacts
  have fired : (fireHalfCycle (nextHalfCycle s / 2) x).out.heaterRelay = x.out.heaterRelay := rfl
  rw [fired] at moved
  refine ⟨fun h => ?_, fun h => ?_⟩
  · rw [starts h] at moved
    exact moved
  · rw [stays h] at moved
    exact moved

/-! ## The settlement -/

/-- Settles O29: the rows by when they are due, the zero-crossing by `zeroCross_relay`. -/
theorem relaysChange : Obligations.RelaysChange := by
  unfold Obligations.RelaysChange
  intro r s x free
  have freed : relayFree r s = true ↔ free := by
    cases r
    · exact iff_of_eq (Bool.not_eq_true' _)
    · exact decide_eq_true_iff
  refine ⟨fun settled opened asked may => ?_, fun settled closed asked may => ?_, fun stays => ?_, fun closing late => ?_,
    fun opening late => ?_, fun early => ?_, fun recovering stands late => ?_, fun early => ?_,
    fun t switching ended => ended ▸ endReversal_fan switching, ?_⟩
  · rw [exec_relayChangeStart,
      if_pos ((relayChangeDue_iff r s).mpr ⟨x.mayChange_iff.mpr ⟨settled, .inl ⟨opened, asked⟩⟩, freed.mpr may⟩),
      Relay.startChange_opened opened]
  · rw [exec_relayChangeStart,
      if_pos ((relayChangeDue_iff r s).mpr ⟨x.mayChange_iff.mpr ⟨settled, .inr ⟨closed, asked⟩⟩, freed.mpr may⟩),
      Relay.startChange_closed closed]
  · have rest := x.not_mayChange_iff
    rw [exec_relayChangeStart, if_neg]
    rw [relayChangeDue_iff, freed]
    tauto
  · rw [exec_relayContactEnd, if_pos ((relayContactDue_iff r s).mpr ⟨x.moving_iff.mpr (.inl closing), late⟩),
      Relay.endChange_closing closing]
    cases r <;> rfl
  · rw [exec_relayContactEnd, if_pos ((relayContactDue_iff r s).mpr ⟨x.moving_iff.mpr (.inr opening), late⟩),
      Relay.endChange_opening opening]
    cases r <;> rfl
  · rw [exec_relayContactEnd, if_neg]
    rw [relayContactDue_iff]
    rintro ⟨moving, late⟩
    rcases or_assoc.mpr early with stands | early
    · exact absurd (x.stands_iff.mp stands) (Bool.not_eq_false _ ▸ moving)
    · exact absurd late (not_le.mpr early)
  · rw [exec_relayRecoveryEnd, if_pos ((relayRecoveryDue_iff r s).mpr ⟨recovering, x.stands_iff.mp stands, late⟩)]
  · rw [exec_relayRecoveryEnd, if_neg]
    rw [relayRecoveryDue_iff]
    rintro ⟨recovering, stands, late⟩
    have rest := (not_congr x.moving_iff).mp (Bool.not_eq_true _ ▸ stands)
    rcases early with settled | closing | opening | early
    · exact absurd (settled.symm.trans recovering) (by decide)
    · exact rest (.inl closing)
    · exact rest (.inr opening)
    · exact absurd late (not_le.mpr early)
  · intro decided accepted y h called forced window
    obtain ⟨t, eq, starts, stays⟩ := zeroCross_relay decided accepted window
    refine ⟨t, eq, fun even settled opened asked => ?_, fun even settled closed asked uncalled unforced => ?_,
      fun idle => stays ?_⟩
    · exact (starts ⟨even, y.mayChange_iff.mpr ⟨settled, .inl ⟨opened, asked⟩⟩, .inl opened⟩).trans
        (congrArg (fun z : Relay => { z with askClosed := t.out.heaterRelay.askClosed }) (Relay.startChange_opened opened))
    · exact (starts ⟨even, y.mayChange_iff.mpr ⟨settled, .inr ⟨closed, asked⟩⟩, .inr ⟨uncalled, unforced⟩⟩).trans
        (congrArg (fun z : Relay => { z with askClosed := t.out.heaterRelay.askClosed }) (Relay.startChange_closed closed))
    · rintro ⟨even, may, free⟩
      have stands := y.not_mayChange_iff.mpr
      rcases idle with odd | recovering | closing | opening | opened | ⟨closed, asked | needed⟩
      · exact absurd (even.symm.trans odd) (by decide)
      · exact stands (.inl recovering) may
      · exact stands (.inr (.inl closing)) may
      · exact stands (.inr (.inr (.inl opening))) may
      · exact stands (.inr (.inr (.inr (.inl opened)))) may
      · exact stands (.inr (.inr (.inr (.inr ⟨closed, asked⟩)))) may
      · rcases free with opened | ⟨uncalled, unforced⟩
        · exact absurd (closed.symm.trans opened) (by decide)
        · exact needed.elim uncalled unforced

end Sys2Proof.Machine
end

section
/-! SUPPORT. What the reactions of the water unit, of the boiler controller and of the descale controller leave alone:
`WaterActs` for all of them, `BoilerActs` for those that also leave the descale controller's record and its waiting
work. One lemma per shared operation. -/

namespace Sys2Proof.Machine

/-! ## What a charge touches (R96, R109, R140) -/

/-- A charging point of a dose, with the channels and the path it moves: the account, the steam used, the events and a
commit that is asked for are all else it touches; the steering and the fault set stand. -/
structure ChargeOnly (s t : State) : Prop where
  only : t =
    { s with
      water := t.water, scale := t.scale, events := t.events, store := { s.store with asked := t.store.asked }
      ret := { s.ret with run := t.ret.run } }
  steering : t.events.steering = s.events.steering
  faults : t.events.faults = s.events.faults

theorem ChargeOnly.refl (s : State) : ChargeOnly s s := ⟨rfl, rfl, rfl⟩

theorem ChargeOnly.trans {s t u : State} (h : ChargeOnly s t) (k : ChargeOnly t u) : ChargeOnly s u := by
  refine ⟨?_, k.steering.trans h.steering, k.faults.trans h.faults⟩
  have hs := h.only
  have ks := k.only
  rw [hs] at ks
  exact ks

theorem ChargeOnly.water (w : Water) (s : State) : ChargeOnly s { s with water := w } := ⟨rfl, rfl, rfl⟩

theorem ChargeOnly.scale (a : ScaleAccount) (s : State) : ChargeOnly s { s with scale := a } := ⟨rfl, rfl, rfl⟩

theorem followLevel_only (s : State) : followLevel s = { s with events := (followLevel s).events } :=
  onlyEvents_trans (followCondition_only _ _ _ s) (followCondition_only _ _ _ _)

theorem evaluateLevel_chargeOnly (s : State) : ChargeOnly s (evaluateLevel s) := by
  have reacts := evaluateLevel_reacts (.refl s)
  refine ⟨?_, reacts.events.steering, reacts.faults⟩
  unfold evaluateLevel
  dsimp only
  split
  · rfl
  · rw [followLevel_only]
    rfl

theorem chargeDelivered_chargeOnly (p : Nat) (d : Destination) (s : State) : ChargeOnly s (chargeDelivered p d s) := by
  have charged : ChargeOnly s (chargeAccount p d s) := by
    unfold chargeAccount
    exact ChargeOnly.trans (ChargeOnly.scale _ s) (evaluateLevel_chargeOnly _)
  refine charged.trans ?_
  unfold chargeDelivered
  rw [countSteam_eq]
  exact ⟨rfl, rfl, rfl⟩

theorem passPulses_chargeOnly (c : Chan) (s : State) : ChargeOnly s (passPulses c s) := by
  unfold passPulses
  split
  · exact .refl s
  · dsimp only
    split
    · exact (ChargeOnly.water _ s).trans (chargeDelivered_chargeOnly _ _ _)
    · exact .water _ s

theorem releasePath_chargeOnly (c : Chan) (s : State) : ChargeOnly s (releasePath c s) := by
  unfold releasePath
  split
  · exact .water _ s
  · exact .refl s

theorem endDose_chargeOnly (c : Chan) (st : ChanState) (s : State) : ChargeOnly s (endDose c st s) :=
  ((passPulses_chargeOnly c s).trans (releasePath_chargeOnly c _)).trans (.water _ _)

theorem cancelDose_chargeOnly (c : Chan) (s : State) : ChargeOnly s (cancelDose c s) := by
  unfold cancelDose
  dsimp only
  split
  · exact .refl s
  · refine ChargeOnly.trans ?_ (.water _ _)
    split
    · exact (passPulses_chargeOnly c s).trans (releasePath_chargeOnly c _)
    · exact .refl s

/-- Passing its pulses, a channel moves neither the path nor another channel. -/
theorem passPulses_path (c : Chan) (s : State) : (passPulses c s).water.path = s.water.path := by
  cases hd : (chan s c).dose with
  | none => unfold passPulses; rw [hd]
  | some d => rw [(passPulses_handsOn hd).2]; rfl

theorem chan_passPulses_other {c c' : Chan} (h : c' ≠ c) (s : State) : chan (passPulses c s) c' = chan s c' := by
  cases hd : (chan s c).dose with
  | none => unfold passPulses; rw [hd]
  | some d =>
    have moved : chan (passPulses c s) c' = chan (setDose c { d with charged := d.delivered } s) c' :=
      congrArg (fun w : Water => w.chans.get c') (passPulses_handsOn hd).2
    rw [moved, setDose, chan_setChan, if_neg h]

/-- A path that settles goes on settling when a channel releases it. -/
theorem releasePath_settling {c : Chan} {s : State} (h : s.water.path = .settling) :
    (releasePath c s).water.path = .settling := by
  unfold releasePath
  split
  · rfl
  · exact h

theorem cancelDose_settling {c : Chan} {s : State} (h : s.water.path = .settling) :
    (cancelDose c s).water.path = .settling := by
  unfold cancelDose
  dsimp only
  split
  · exact h
  · rw [path_setChan]
    split
    · exact releasePath_settling ((passPulses_path c s).trans h)
    · exact h

theorem chan_cancelDose_other {c c' : Chan} (h : c' ≠ c) (s : State) : chan (cancelDose c s) c' = chan s c' := by
  unfold cancelDose
  dsimp only
  split
  · rfl
  · rw [chan_setChan, if_neg h]
    split
    · rw [chan_releasePath, chan_passPulses_other h]
    · rfl

/-! ## What the reactions leave alone -/

/-- What every reaction of the water unit and its controllers leaves alone, seen from one channel: the outputs, the
steering, the write of the settings store, a path that settles, and the channel, unless it is CH0 and holds a dose. -/
structure WaterActs (c : Chan) (s t : State) : Prop where
  out : t.out = s.out
  steering : t.events.steering = s.events.steering
  writing : t.store.writing = s.store.writing
  path : s.water.path = .settling → t.water.path = .settling
  chan : c ≠ .ch0 ∨ holdsDose s c = false → chan t c = chan s c

/-- Such a reaction that leaves the descale controller's record and its waiting work, too. -/
structure BoilerActs (c : Chan) (s t : State) : Prop extends WaterActs c s t where
  work : t.work = s.work
  descale : t.ret.descale = s.ret.descale
  soakTarget : t.boiler.soakTarget = s.boiler.soakTarget

section
variable {c : Chan} {s t u : State}

theorem WaterActs.trans (h : WaterActs c s t) (k : WaterActs c t u) : WaterActs c s u where
  out := k.out.trans h.out
  steering := k.steering.trans h.steering
  writing := k.writing.trans h.writing
  path := k.path ∘ h.path
  chan free := by
    have same := h.chan free
    refine (k.chan (free.imp_right fun idle => ?_)).trans same
    unfold holdsDose at idle ⊢
    rw [same]
    exact idle

theorem BoilerActs.refl (c : Chan) (s : State) : BoilerActs c s s := ⟨⟨rfl, rfl, rfl, id, fun _ => rfl⟩, rfl, rfl, rfl⟩

theorem BoilerActs.trans (h : BoilerActs c s t) (k : BoilerActs c t u) : BoilerActs c s u where
  toWaterActs := h.toWaterActs.trans k.toWaterActs
  work := k.work.trans h.work
  descale := k.descale.trans h.descale
  soakTarget := k.soakTarget.trans h.soakTarget

theorem BoilerActs.ite {b : Prop} [Decidable b] (ht : BoilerActs c s t) (hu : BoilerActs c s u) :
    BoilerActs c s (if b then t else u) := by
  split
  · exact ht
  · exact hu

theorem WaterActs.ite {b : Prop} [Decidable b] (ht : WaterActs c s t) (hu : WaterActs c s u) :
    WaterActs c s (if b then t else u) := by
  split
  · exact ht
  · exact hu

theorem Steady.trans (h : Steady s t) (k : Steady t u) : Steady s u := by
  unfold Steady at *
  simp_all

/-- What a reaction leaves alone, with what no shared operation changes, is the frame that the statements name. -/
theorem Kept.steady (kept : Kept s t) (out : t.out = s.out) (steering : t.events.steering = s.events.steering)
    (writing : t.store.writing = s.store.writing) : Steady s t :=
  ⟨kept.now, kept.pending, kept.windows, kept.draws, kept.meas, kept.inputs, kept.prot, kept.ports, kept.settings,
    kept.start, kept.heat, kept.halfCycle, congrArg OutputTiming.lampShot out,
    congrArg (fun o : OutputTiming => o.fanRelay.state) out, steering, kept.verified, writing⟩

theorem WaterActs.steady (h : WaterActs c s t) (kept : Kept s t) : Steady s t :=
  kept.steady h.out h.steering h.writing

theorem ChargeOnly.steady (h : ChargeOnly s t) (kept : Kept s t) : Steady s t :=
  kept.steady (by rw [h.only]) h.steering (by rw [h.only])

end

/-! ## Basic updates -/

section
variable {c : Chan} {s : State}

theorem setBoiler_acts {b : Boiler} (h : b.soakTarget = s.boiler.soakTarget) : BoilerActs c s (setBoiler b s) :=
  ⟨⟨rfl, rfl, rfl, id, fun _ => rfl⟩, rfl, rfl, h⟩

/-- Giving or withdrawing the soak target. -/
theorem setBoiler_waterActs (b : Boiler) : WaterActs c s (setBoiler b s) := ⟨rfl, rfl, rfl, id, fun _ => rfl⟩

theorem setDescale_acts (d : Descale) : WaterActs c s (setDescale d s) := ⟨rfl, rfl, rfl, id, fun _ => rfl⟩

theorem setWork_acts (w : DescaleWork) : WaterActs c s (setWork w s) := ⟨rfl, rfl, rfl, id, fun _ => rfl⟩

theorem setChan_acts {c' : Chan} (h : c ≠ c') (x : Channel) : BoilerActs c s (setChan c' x s) :=
  ⟨⟨rfl, rfl, rfl, id, fun _ => by rw [chan_setChan, if_neg h]⟩, rfl, rfl, rfl⟩

theorem followCondition_acts (k : EventKind) (a : Option Byte) (b : Bool) :
    BoilerActs c s (followCondition k a b s) where
  out := followCondition_out ..
  steering := (followCondition_eventsKept k a b s).steering
  writing := congrArg Store.writing (followCondition_store ..)
  path h := (congrArg Water.path (followCondition_water ..)).trans h
  chan _ := congrArg (fun w : Water => w.chans.get c) (followCondition_water ..)
  work := followCondition_work ..
  descale := congrArg Retained.descale (followCondition_ret ..)
  soakTarget := congrArg Boiler.soakTarget (followCondition_boiler ..)

theorem enterFault_acts (f : FaultKind) : BoilerActs c s (enterFault f s) where
  out := enterFault_out ..
  steering := (enterFault_eventsKept f s).steering
  writing := congrArg Store.writing (enterFault_store ..)
  path h := (congrArg Water.path (enterFault_water ..)).trans h
  chan _ := congrArg (fun w : Water => w.chans.get c) (enterFault_water ..)
  work := enterFault_work ..
  descale := congrArg Retained.descale (enterFault_ret ..)
  soakTarget := congrArg Boiler.soakTarget (enterFault_boiler ..)

theorem leaveFault_acts (f : FaultKind) : BoilerActs c s (leaveFault f s) where
  out := leaveFault_out ..
  steering := (leaveFault_eventsKept f s).steering
  writing := congrArg Store.writing (leaveFault_store ..)
  path h := (congrArg Water.path (leaveFault_water ..)).trans h
  chan _ := congrArg (fun w : Water => w.chans.get c) (leaveFault_water ..)
  work := leaveFault_work ..
  descale := congrArg Retained.descale (leaveFault_ret ..)
  soakTarget := congrArg Boiler.soakTarget (leaveFault_boiler ..)

theorem endNoFlow_acts : BoilerActs c s (endNoFlow s) := by
  unfold endNoFlow
  have released : BoilerActs c s (setBoiler { s.boiler with fillHeld := false, topUpHeld := false } s) :=
    setBoiler_acts rfl
  exact .ite (released.trans (leaveFault_acts _)) (.refl c s)

/-- A charge, with the release of the path. -/
theorem ChargeOnly.acts {t : State} (h : ChargeOnly s t) (path : s.water.path = .settling → t.water.path = .settling)
    (chan : c ≠ .ch0 ∨ holdsDose s c = false → chan t c = chan s c) : BoilerActs c s t where
  out := by rw [h.only]
  steering := h.steering
  writing := by rw [h.only]
  path := path
  chan := chan
  work := by rw [h.only]
  descale := by rw [h.only]
  soakTarget := by rw [h.only]

/-- A dose that CH0 holds is cancelled. -/
theorem cancelDose_acts (held : holdsDose s .ch0 = true) : BoilerActs c s (cancelDose .ch0 s) := by
  refine (cancelDose_chargeOnly .ch0 s).acts cancelDose_settling fun free => chan_cancelDose_other ?_ s
  rintro rfl
  rcases free with other | idle
  · exact other rfl
  · exact absurd (idle.symm.trans held) (by decide)

theorem holdsFor_holds {r : Requester} {c' : Chan} (h : holdsFor s c' r = true) : holdsDose s c' = true :=
  (Bool.and_eq_true_iff.mp h).1

/-! ## The boiler controller -/

theorem postBoilerAs_acts (d : Nat) : BoilerActs c s (postBoilerAs d s) := by
  unfold postBoilerAs
  exact .ite ⟨⟨rfl, rfl, rfl, id, fun _ => rfl⟩, rfl, rfl, rfl⟩ (.refl c s)

theorem postBoiler_acts : BoilerActs c s (postBoiler s) := postBoilerAs_acts _

theorem cancelTopUp_acts : BoilerActs c s (cancelTopUp s) := by
  unfold cancelTopUp
  split
  · next held => exact cancelDose_acts (holdsFor_holds (Bool.and_eq_true_iff.mp held).1)
  · exact .refl c s

theorem followTopUp_acts : BoilerActs c s (followTopUp s) := by
  unfold followTopUp
  exact .ite cancelTopUp_acts (.refl c s)

theorem markDrain_acts (b : Bool) : BoilerActs c s (markDrain b s) := by
  have marked : BoilerActs c s (setBoiler { s.boiler with drainPending := b } s) := setBoiler_acts rfl
  exact (BoilerActs.ite (marked.trans cancelTopUp_acts) marked).trans postBoiler_acts

theorem enterBoiler_acts (st : BoilerState) : BoilerActs c s (enterBoiler st s) := by
  unfold enterBoiler
  have set : BoilerActs c s
      (setBoiler
        { s.boiler with
          state := st, heatUp := if st = .heating then 0 else s.boiler.heatUp
          drainPending := s.boiler.drainPending && decide (st ≠ .empty) } s) := setBoiler_acts rfl
  exact .ite (.refl c s) ((BoilerActs.ite set (set.trans cancelTopUp_acts)).trans postBoiler_acts)

theorem loadDrain_acts (hc : c ≠ .ch3) (r : Requester) : BoilerActs c s (loadDrain r s) := by
  unfold loadDrain
  have drains : ∀ t : State, BoilerActs c t (if t.boiler.state = .dryFault then t else enterBoiler .draining t) :=
    fun t => .ite (.refl c t) (enterBoiler_acts _)
  have clocked : ∀ t : State, BoilerActs c t { t with water := { t.water with drainClock := 0 } } :=
    fun t => ⟨⟨rfl, rfl, rfl, id, fun _ => rfl⟩, rfl, rfl, rfl⟩
  exact .ite (.refl c s)
    ((((setChan_acts hc _).trans (clocked _)).trans (markDrain_acts false)).trans (drains _))

/-! ## Doses -/

theorem loadDose_acts {c' : Chan} (h : c ≠ c') (m : DoseMode) (dest : Destination) (src : Source) (n : Nat)
    (reload : Bool) (r : Requester) : BoilerActs c s (loadDose c' m dest src n reload r s) := by
  unfold loadDose
  exact .ite (.refl c s) (setChan_acts h _)

/-- A channel that waits for the source requests the path again (R94). -/
def resumed (src : Source) (x : Channel) : Channel :=
  if sourceIs src x && decide (x.state = .suspended) then { x with state := .requesting } else x

/-- One channel of `resumeSource`. -/
def resumeOne (src : Source) (c' : Chan) (t : State) : State :=
  if sourceIs src (chan t c') && decide ((chan t c').state = .suspended) then setChanState c' .requesting t else t

theorem resumeSource_eq (src : Source) (s : State) :
    resumeSource src s = resumeOne src .ch2 (resumeOne src .ch1 (resumeOne src .ch0 s)) := rfl

theorem chan_resumeOne (src : Source) (c' c : Chan) (t : State) :
    chan (resumeOne src c' t) c = if c = c' then resumed src (chan t c) else chan t c := by
  unfold resumeOne resumed setChanState
  by_cases same : c = c'
  · subst same
    split <;> simp
  · split <;> simp [same]

theorem chan_resumeSource (src : Source) (c : Chan) (s : State) :
    chan (resumeSource src s) c = if c = .ch3 then chan s c else resumed src (chan s c) := by
  simp only [resumeSource_eq, chan_resumeOne]
  cases c <;> rfl

theorem resumeSource_only (src : Source) (s : State) :
    resumeSource src s =
      { s with water := { s.water with chans := (resumeSource src s).water.chans } } := by
  have one : ∀ (c' : Chan) (t : State), resumeOne src c' t =
      { t with water := { t.water with chans := (resumeOne src c' t).water.chans } } := by
    intro c' t
    unfold resumeOne
    split <;> rfl
  rw [resumeSource_eq, one .ch2, one .ch1, one .ch0]

/-- A channel that does not wait stays as it is when a source stops being low. -/
theorem resumeSource_acts (src : Source) (h : (chan s c).state ≠ .suspended) : BoilerActs c s (resumeSource src s) where
  out := by rw [resumeSource_only]
  steering := by rw [resumeSource_only]
  writing := by rw [resumeSource_only]
  path settles := by rw [resumeSource_only]; exact settles
  chan _ := by
    rw [chan_resumeSource]
    unfold resumed
    rw [decide_eq_false h, Bool.and_false, if_neg Bool.false_ne_true, ite_self]
  work := by rw [resumeSource_only]
  descale := by rw [resumeSource_only]
  soakTarget := by rw [resumeSource_only]

/-! ## The descale controller -/

theorem followPrompt_acts : BoilerActs c s (followPrompt s) := followCondition_acts _ _ _

theorem enterPhase_reaches (p : DescalePhase) (step : Option RinseStep) :
    BoilerActs c (setDescale { s.ret.descale with phase := p, step := step } s) (enterPhase p step s) :=
  (followPrompt_acts.trans followTopUp_acts).trans postBoiler_acts

theorem enterPhase_acts (p : DescalePhase) (step : Option RinseStep) : WaterActs c s (enterPhase p step s) :=
  (setDescale_acts _).trans (enterPhase_reaches p step).toWaterActs

theorem setStall_reaches (x : Stall) :
    BoilerActs c (setDescale { s.ret.descale with stall := x } s) (setStall x s) := followPrompt_acts

theorem setStall_acts (x : Stall) : WaterActs c s (setStall x s) :=
  (setDescale_acts _).trans (setStall_reaches x).toWaterActs

theorem giveSoakTarget_reaches :
    BoilerActs c (setBoiler { s.boiler with soakTarget := true } s) (giveSoakTarget s) := postBoilerAs_acts _

theorem withdrawSoakTarget_reaches :
    BoilerActs c (setBoiler { s.boiler with soakTarget := false } s) (withdrawSoakTarget s) := postBoiler_acts

theorem wantDrain_acts (hc : c ≠ .ch3) : WaterActs c s (wantDrain s) := by
  unfold wantDrain tryDescaleDrain
  exact (setWork_acts _).trans
    (.ite ((setWork_acts _).trans (loadDrain_acts hc _).toWaterActs) (BoilerActs.refl c _).toWaterActs)

theorem enterDrainAgent_acts (hc : c ≠ .ch3) : WaterActs c s (enterDrainAgent s) :=
  (enterPhase_acts _ _).trans (wantDrain_acts hc)

theorem enterDrainStep_acts (hc : c ≠ .ch3) : WaterActs c s (enterDrainStep s) :=
  (enterPhase_acts _ _).trans (wantDrain_acts hc)

theorem enterSoak_acts : WaterActs c s (enterSoak s) :=
  (((enterPhase_acts _ _).trans (setDescale_acts _)).trans (setBoiler_waterActs _)).trans
    giveSoakTarget_reaches.toWaterActs

theorem boilerAfterFill_acts : BoilerActs c s (boilerAfterFill s) := by
  unfold boilerAfterFill
  exact .ite (.refl c s) (enterBoiler_acts _)

theorem cancelDescaleFill_acts : BoilerActs c s (cancelDescaleFill s) := by
  unfold cancelDescaleFill
  split
  · next held => exact (cancelDose_acts (holdsFor_holds held)).trans boilerAfterFill_acts
  · exact .refl c s

theorem evaluateLevel_acts : BoilerActs c s (evaluateLevel s) := by
  have water : (evaluateLevel s).water = s.water := by
    obtain ⟨e, st, h⟩ := evaluateLevel_eq s
    rw [h]
  exact (evaluateLevel_chargeOnly s).acts (fun settles => (congrArg Water.path water).trans settles)
    fun _ => congrArg (fun w : Water => w.chans.get c) water

theorem creditAbort_acts : BoilerActs c s (creditAbort s) := by
  have scaled : ∀ a : ScaleAccount, BoilerActs c s { s with scale := a } :=
    fun _ => ⟨⟨rfl, rfl, rfl, id, fun _ => rfl⟩, rfl, rfl, rfl⟩
  have asked : ∀ t : State, BoilerActs c t (askCommit t) := fun _ => ⟨⟨rfl, rfl, rfl, id, fun _ => rfl⟩, rfl, rfl, rfl⟩
  unfold creditAbort
  exact ((scaled _).trans evaluateLevel_acts).trans (asked _)

/-- The abort with the marker set moves no channel but CH0, whose draw it cancels, and CH3, which drains (R126). -/
theorem abortWithCredit_acts (hc : c ≠ .ch3) : WaterActs c s (abortWithCredit s) :=
  ((((((setWork_acts _).trans cancelDescaleFill_acts.toWaterActs).trans (setBoiler_waterActs _)).trans
    withdrawSoakTarget_reaches.toWaterActs).trans creditAbort_acts.toWaterActs).trans
      ((setDescale_acts _).trans (setStall_acts _))).trans (enterDrainAgent_acts hc)

theorem dryFaultEntered_acts : BoilerActs c s (dryFaultEntered s) := by
  unfold dryFaultEntered
  split
  · next held => exact (enterBoiler_acts _).trans (cancelDose_acts (holdsFor_holds held))
  · exact enterBoiler_acts _

theorem enterDryFault_acts (hc : c ≠ .ch3) : WaterActs c s (enterDryFault s) := by
  rw [enterDryFault_eq]
  exact .ite (BoilerActs.refl c s).toWaterActs
    (.ite (dryFaultEntered_acts.toWaterActs.trans (abortWithCredit_acts hc)) dryFaultEntered_acts.toWaterActs)

end

end Sys2Proof.Machine
end

section
/-! SUPPORT. Charging points and what is none: the charge that a dose's end hands on, and the reactions that hand on
nothing while CH0 is not RUNNING (R96). -/

namespace Sys2Proof.Machine

/-! ## What a charging point hands on -/

section
variable {s t u : State} {p : Nat} {d : Dose}

theorem ChargesNothing.refl (s : State) : ChargesNothing s s := ⟨rfl, rfl, rfl⟩

theorem ChargesNothing.trans (h : ChargesNothing s t) (k : ChargesNothing t u) : ChargesNothing s u :=
  ⟨k.1.trans h.1, k.2.1.trans h.2.1, k.2.2.trans h.2.2⟩

/-- What comes after the charging point hands on nothing more. -/
theorem HandsOn.after (h : HandsOn p d s t) (k : ChargesNothing t u) : HandsOn p d s u := by
  obtain ⟨scale, used, remainder⟩ := k
  refine ⟨fun charged => ?_, fun free => (h.2 free).trans ⟨scale, used, remainder⟩⟩
  obtain ⟨hscale, hused, hremainder⟩ := h.1 charged
  exact ⟨scale.trans hscale, used.trans hused, remainder.trans hremainder⟩

/-- The charge is reckoned from the account, the settings and the run, whatever else has moved before it. -/
theorem HandsOn.before (h : HandsOn p d t u) (scale : t.scale = s.scale) (ret : t.ret = s.ret)
    (settings : t.settings = s.settings) (start : t.start = s.start) : HandsOn p d s u := by
  have account : (chargeAccount p d.destination t).scale = (chargeAccount p d.destination s).scale := by
    rw [chargeAccount_scale, chargeAccount_scale, scale, settings]
  have steam := countSteam_run p ret settings start
  refine ⟨fun charged => ?_, fun free => ?_⟩
  · obtain ⟨hscale, hused, hremainder⟩ := h.1 charged
    exact ⟨hscale.trans account, hused.trans (congrArg RunContext.steamUsed steam),
      hremainder.trans (congrArg RunContext.steamRemainder steam)⟩
  · obtain ⟨hscale, hused, hremainder⟩ := h.2 free
    exact ⟨hscale.trans scale, by rw [hused, ret], by rw [hremainder, ret]⟩

end

/-! ## Reactions that are no charging point -/

/-- Between `s` and `t` nothing is charged, unless a dose on CH0 that was RUNNING is cancelled. -/
def Uncharged (s t : State) : Prop :=
  (chan s .ch0).state ≠ .running → (chan t .ch0).state ≠ .running ∧ ChargesNothing s t

section
variable {s t u : State}

theorem Uncharged.refl (s : State) : Uncharged s s := fun h => ⟨h, .refl s⟩

theorem Uncharged.trans (h : Uncharged s t) (k : Uncharged t u) : Uncharged s u := fun idle => by
  obtain ⟨still, first⟩ := h idle
  obtain ⟨last, second⟩ := k still
  exact ⟨last, first.trans second⟩

theorem Uncharged.ite {b : Prop} [Decidable b] (ht : Uncharged s t) (hu : Uncharged s u) :
    Uncharged s (if b then t else u) := by
  split
  · exact ht
  · exact hu

/-- An update outside the channels, the account and the run. -/
theorem Uncharged.same (water : t.water = s.water) (scale : t.scale = s.scale) (run : t.ret.run = s.ret.run) :
    Uncharged s t := fun idle =>
  ⟨fun runs => idle ((congrArg (fun w : Water => (w.chans.get .ch0).state) water).symm.trans runs),
    scale, congrArg RunContext.steamUsed run, congrArg RunContext.steamRemainder run⟩

/-- A record that is not RUNNING, on any channel. -/
theorem setChan_uncharged (c : Chan) {x : Channel} (hx : x.state ≠ .running) : Uncharged s (setChan c x s) := by
  intro idle
  refine ⟨?_, .refl s⟩
  rw [chan_setChan]
  split
  · exact hx
  · exact idle

theorem cancelDose_uncharged : Uncharged s (cancelDose .ch0 s) := by
  by_cases runs : (chan s .ch0).state = .running
  · exact fun idle => absurd runs idle
  · unfold cancelDose
    rw [if_neg fun h => absurd h.1 (by decide), if_neg runs]
    exact setChan_uncharged .ch0 (by decide)

theorem enterFault_uncharged (f : FaultKind) : Uncharged s (enterFault f s) :=
  .same (enterFault_water ..) (enterFault_scale ..) (congrArg Retained.run (enterFault_ret ..))

theorem endNoFlow_uncharged : Uncharged s (endNoFlow s) := by
  unfold endNoFlow
  exact .ite (.same (leaveFault_water ..) (leaveFault_scale ..) (congrArg Retained.run (leaveFault_ret ..))) (.refl s)

theorem followPrompt_uncharged : Uncharged s (followPrompt s) :=
  .same (followCondition_water ..) (followCondition_scale ..) (congrArg Retained.run (followCondition_ret ..))

theorem postBoiler_uncharged : Uncharged s (postBoiler s) := by
  unfold postBoiler postBoilerAs
  exact .ite (.same rfl rfl rfl) (.refl s)

theorem cancelTopUp_uncharged : Uncharged s (cancelTopUp s) := .ite cancelDose_uncharged (.refl s)

theorem followTopUp_uncharged : Uncharged s (followTopUp s) := .ite cancelTopUp_uncharged (.refl s)

theorem enterBoiler_uncharged (st : BoilerState) : Uncharged s (enterBoiler st s) := by
  unfold enterBoiler
  have set : ∀ b : Boiler, Uncharged s (setBoiler b s) := fun _ => .same rfl rfl rfl
  exact .ite (.refl s) ((Uncharged.ite (set _) ((set _).trans cancelTopUp_uncharged)).trans postBoiler_uncharged)

theorem dryFaultEntered_uncharged : Uncharged s (dryFaultEntered s) :=
  .ite ((enterBoiler_uncharged _).trans cancelDose_uncharged) (enterBoiler_uncharged _)

theorem loadDose_uncharged (c : Chan) (m : DoseMode) (dest : Destination) (src : Source) (n : Nat) (reload : Bool)
    (r : Requester) : Uncharged s (loadDose c m dest src n reload r s) := by
  unfold loadDose
  refine .ite (.refl s) (setChan_uncharged c ?_)
  dsimp only
  split
  · decide
  · split <;> decide

theorem resumeSource_uncharged (src : Source) : Uncharged s (resumeSource src s) := by
  have one : ∀ (c : Chan) (t : State), Uncharged t (resumeOne src c t) :=
    fun c t => .ite (setChan_uncharged c (show ChanState.requesting ≠ .running by decide)) (.refl t)
  exact ((one _ _).trans (one _ _)).trans (one _ _)

theorem enterPhase_uncharged (p : DescalePhase) (step : Option RinseStep) : Uncharged s (enterPhase p step s) := by
  have set : ∀ d : Descale, Uncharged s (setDescale d s) := fun _ => .same rfl rfl rfl
  exact (((set _).trans followPrompt_uncharged).trans followTopUp_uncharged).trans postBoiler_uncharged

theorem setStall_uncharged (x : Stall) : Uncharged s (setStall x s) := by
  have set : ∀ d : Descale, Uncharged s (setDescale d s) := fun _ => .same rfl rfl rfl
  exact (set _).trans followPrompt_uncharged

theorem tryDescaleDose_uncharged : Uncharged s (tryDescaleDose s) := by
  have set : ∀ w : DescaleWork, Uncharged s (setWork w s) := fun _ => .same rfl rfl rfl
  unfold tryDescaleDose
  split
  · exact .refl s
  · refine .ite ((set _).trans (setStall_uncharged _)) (.ite (.refl s) (.ite ?_ ?_))
    · have loaded := fun n => (set { s.work with dose := none }).trans
        (loadDose_uncharged .ch0 .block .boiler .tank n false .descale)
      exact .ite (loaded _) ((loaded _).trans (enterBoiler_uncharged _))
    · exact (set _).trans (loadDose_uncharged _ _ _ _ _ _ _)

theorem enterFill_uncharged : Uncharged s (enterFill s) := by
  have set : ∀ (w : DescaleWork) (t : State), Uncharged t (setWork w t) := fun _ _ => .same rfl rfl rfl
  exact ((enterPhase_uncharged _ _).trans (set _ _)).trans tryDescaleDose_uncharged

/-- The entry of DRY_FAULT hands on nothing where it is not the abort of a descale (R105, R127). -/
theorem enterDryFault_uncharged
    (calm : s.start.ready = false ∨ (s.ret.descale.phase ≠ .draw ∧ s.ret.descale.phase ≠ .soak)) :
    Uncharged s (enterDryFault s) := by
  have same : (dryFaultEntered s).ret.descale = s.ret.descale := (dryFaultEntered_acts (c := .ch1)).descale
  rw [enterDryFault_eq, (dryFaultEntered_kept s).start, same]
  refine .ite (.refl s) ?_
  rw [if_neg]
  · exact dryFaultEntered_uncharged
  · rcases calm with starting | ⟨draws, soaks⟩
    · simp [starting]
    · simp [draws, soaks]

end

end Sys2Proof.Machine
end

section
/-! SUPPORT. The descale controller's own operations: what a drain, a dose, an abort and the end of a fill leave of its
record, of its waiting work and of the boiler's state. -/

namespace Sys2Proof.Machine

/-! ## Drains (R98, R106, R121) -/

section
variable {s : State}

/-- A drain that CH3 takes: CH3 holds it, and the boiler is DRAINING unless it is in DRY_FAULT. -/
theorem loadDrain_loaded (r : Requester) (free : holdsDose s .ch3 = false) :
    holdsDose (loadDrain r s) .ch3 = true ∧
      (loadDrain r s).boiler.state = if s.boiler.state = .dryFault then .dryFault else .draining := by
  unfold loadDrain
  rw [if_neg (ne_true_of_eq_false free)]
  dsimp only
  generalize hx : State.mk _ _ _ _ _ _ _ _ _ _ _ _ _ _ _ _ _ _ _ _ _ _ = x
  have held : holdsDose (markDrain false x) .ch3 = true := by
    unfold holdsDose
    rw [(markDrain_acts false).chan (.inl (by decide)), ← hx]
    show ChanState.holds (chan (setChan .ch3 _ s) .ch3).state = true
    rw [chan_setChan, if_pos rfl]
    split <;> rfl
  have state : (markDrain false x).boiler.state = s.boiler.state := by
    unfold markDrain
    rw [postBoiler_boiler, ← hx]
    rfl
  rw [state]
  split
  · next dry => exact ⟨held, state.trans dry⟩
  · refine ⟨?_, enterBoiler_state _ _⟩
    unfold holdsDose at held ⊢
    rw [(enterBoiler_acts _).chan (.inl (by decide))]
    exact held

/-- A drain that the controller wants is loaded at once where CH3 is free and, with SUPPLY at TANK, the tank is in its
bay; otherwise it waits (R121). -/
theorem wantDrain_eq (s : State) :
    wantDrain s =
      if !holdsDose s .ch3 && (!tankOven s || tankPresent s) then
        loadDrain .descale (setWork { s.work with drain := false } s)
      else setWork { s.work with drain := true } s := rfl

/-- The drain that the controller wants waits, with the boiler as it is, or has been loaded. -/
theorem wantDrain_cases (s : State) :
    ((wantDrain s).work.drain = true ∧ (wantDrain s).boiler.state = s.boiler.state) ∨
      ((wantDrain s).work.drain = false ∧ holdsDose (wantDrain s) .ch3 = true ∧
        (wantDrain s).boiler.state = if s.boiler.state = .dryFault then .dryFault else .draining) := by
  rw [wantDrain_eq]
  split
  · next loads =>
    have free : holdsDose s .ch3 = false := (Bool.not_eq_true' _).mp (Bool.and_eq_true_iff.mp loads).1
    exact .inr ⟨congrArg DescaleWork.drain (loadDrain_acts (c := .ch0) (by decide) _).work, loadDrain_loaded _ free⟩
  · exact .inl ⟨rfl, rfl⟩

theorem wantDrain_drains (s : State) : (wantDrain s).work.drain = true ∨ holdsDose (wantDrain s) .ch3 = true := by
  rcases wantDrain_cases s with ⟨waits, _⟩ | ⟨_, loaded, _⟩
  · exact .inl waits
  · exact .inr loaded

/-- The controller's record and the soak target stand when a drain is wanted. -/
theorem wantDrain_record (s : State) :
    (wantDrain s).ret.descale = s.ret.descale ∧ (wantDrain s).boiler.soakTarget = s.boiler.soakTarget := by
  rw [wantDrain_eq]
  split
  · have acts := loadDrain_acts (c := .ch0) (by decide) .descale (s := setWork { s.work with drain := false } s)
    exact ⟨acts.descale, acts.soakTarget⟩
  · exact ⟨rfl, rfl⟩

theorem wantDrain_reacts {s₀ : State} (h : BoilerReacts s₀ s) : BoilerReacts s₀ (wantDrain s) :=
  tryDescaleDrain_reacts (setWork_reacts _ h)

/-! ## Phases (R117 to R123) -/

theorem enterPhase_record (p : DescalePhase) (step : Option RinseStep) (s : State) :
    (enterPhase p step s).ret.descale = { s.ret.descale with phase := p, step := step } :=
  (enterPhase_reaches (c := .ch0) p step).descale

theorem enterPhase_boiler (p : DescalePhase) (step : Option RinseStep) (s : State) :
    (enterPhase p step s).boiler = s.boiler := by
  unfold enterPhase followPrompt
  simp

theorem setStall_record (x : Stall) (s : State) : (setStall x s).ret.descale = { s.ret.descale with stall := x } :=
  (setStall_reaches (c := .ch0) x).descale

/-- DRAIN_AGENT is entered, and its drain waits or has been loaded (R121). -/
theorem enterDrainAgent_facts (s : State) :
    (enterDrainAgent s).ret.descale = { s.ret.descale with phase := .drainAgent, step := none } ∧
      (enterDrainAgent s).boiler.soakTarget = s.boiler.soakTarget ∧
      ((enterDrainAgent s).work.drain = true ∨ holdsDose (enterDrainAgent s) .ch3 = true) := by
  obtain ⟨record, soak⟩ := wantDrain_record (enterPhase .drainAgent none s)
  exact ⟨record.trans (enterPhase_record ..), soak.trans (congrArg Boiler.soakTarget (enterPhase_boiler ..)),
    wantDrain_drains _⟩

/-- A rinse goes on to its step DRAIN, whose drain waits or has been loaded (R122). -/
theorem enterDrainStep_facts (s : State) :
    (enterDrainStep s).ret.descale = { s.ret.descale with step := some .drain } ∧
      ((enterDrainStep s).work.drain = true ∨ holdsDose (enterDrainStep s) .ch3 = true) ∧
      (enterDrainStep s).boiler.state =
        if (enterDrainStep s).work.drain = true ∨ s.boiler.state = .dryFault then s.boiler.state else .draining := by
  have boiler : (enterPhase s.ret.descale.phase (some .drain) s).boiler.state = s.boiler.state :=
    congrArg Boiler.state (enterPhase_boiler ..)
  refine ⟨(wantDrain_record _).1.trans (enterPhase_record ..), wantDrain_drains _, ?_⟩
  unfold enterDrainStep
  rcases wantDrain_cases (enterPhase s.ret.descale.phase (some .drain) s) with ⟨waits, state⟩ | ⟨loaded, _, state⟩
  · rw [if_pos (.inl waits), state, boiler]
  · rw [state, boiler, loaded]
    by_cases dry : s.boiler.state = .dryFault <;> simp [dry]

theorem giveSoakTarget_boiler (s : State) : (giveSoakTarget s).boiler = { s.boiler with soakTarget := true } := by
  unfold giveSoakTarget postBoilerAs
  dsimp only
  split <;> rfl

/-- SOAK is entered with its clock at 0, its total by the hardness and the soak target given (R120). -/
theorem enterSoak_facts (s : State) :
    (enterSoak s).ret.descale =
        { s.ret.descale with phase := .soak, step := none, elapsed := 0, total := soakTotal s.settings.hardness } ∧
      (enterSoak s).boiler.soakTarget = true ∧ (enterSoak s).boiler.state = s.boiler.state := by
  have settings := (enterPhase_kept .soak none (.refl s)).settings
  have record := enterPhase_record .soak none s
  have boiler := enterPhase_boiler .soak none s
  unfold enterSoak
  generalize enterPhase .soak none s = t at settings record boiler ⊢
  dsimp only
  refine ⟨(giveSoakTarget_reaches (c := .ch0)).descale.trans ?_, ?_, ?_⟩
  · rw [setBoiler_ret, setDescale_ret, record, settings]
  · rw [giveSoakTarget_boiler]
  · rw [giveSoakTarget_boiler, ← boiler]
    rfl

theorem enterSoak_reacts {s₀ : State} (h : BoilerReacts s₀ s) : BoilerReacts s₀ (enterSoak s) :=
  postBoilerAs_reacts _ (setBoiler_reacts (setDescale_reacts _ (enterPhase_reacts _ _ h)) rfl rfl)
    fun blind => boilerDemand_blind blind _

/-- The state in which an abort enters DRAIN_AGENT: the draw cancelled, the soak target withdrawn, the credit taken, the
aborted mark set and the stall none (R126). -/
def abortCredited (s : State) : State :=
  let t := creditAbort (withdrawSoakTarget (cancelDescaleFill (setWork { s.work with dose := none } s)))
  setStall .none (setDescale { t.ret.descale with aborted := true } t)

theorem abortWithCredit_eq (s : State) : abortWithCredit s = enterDrainAgent (abortCredited s) := rfl

theorem abortCredited_facts (s : State) :
    (abortCredited s).ret.descale = { s.ret.descale with stall := .none, aborted := true } ∧
      (abortCredited s).boiler.soakTarget = false := by
  have cancelled := cancelDescaleFill_acts (c := .ch0) (s := setWork { s.work with dose := none } s)
  generalize ha : cancelDescaleFill (setWork { s.work with dose := none } s) = a at cancelled
  have acts := (withdrawSoakTarget_reaches (c := .ch0) (s := a)).trans creditAbort_acts
  unfold abortCredited
  rw [ha]
  generalize creditAbort (withdrawSoakTarget a) = t at acts ⊢
  have record : t.ret.descale = s.ret.descale := acts.descale.trans cancelled.descale
  refine ⟨(setStall_record ..).trans ?_, (setStall_reaches (c := .ch0) _).soakTarget.trans acts.soakTarget⟩
  rw [setDescale_ret, record]

/-- The abort with the marker set: DRAIN_AGENT is entered with the aborted mark set, no stall and no soak target, and
its drain waits or has been loaded (R126). -/
theorem abortWithCredit_facts (s : State) :
    (abortWithCredit s).ret.descale =
        { s.ret.descale with phase := .drainAgent, step := none, stall := .none, aborted := true } ∧
      (abortWithCredit s).boiler.soakTarget = false ∧
      ((abortWithCredit s).work.drain = true ∨ holdsDose (abortWithCredit s) .ch3 = true) := by
  obtain ⟨record, soak⟩ := abortCredited_facts s
  obtain ⟨entered, kept, drains⟩ := enterDrainAgent_facts (abortCredited s)
  rw [abortWithCredit_eq]
  exact ⟨entered.trans (by rw [record]), kept.trans soak, drains⟩

/-! ## The end of a fill (R101, R119, R122) -/

/-- The boiler controller at the end of a fill: HEATING with BOILER_LOW covered, unless it is in DRY_FAULT, and
LEVEL_SENSE with DRY_FAULT otherwise. -/
def fillMet (s : State) : State :=
  if lowCovered s then (if s.boiler.state = .dryFault then s else enterBoiler .heating s)
  else enterDryFault (enterFault .levelSense s)

theorem fillMet_kept (s : State) : Kept s (fillMet s) :=
  kept_ite (kept_ite (.refl s) (enterBoiler_kept _ (.refl s))) (enterDryFault_kept (enterFault_kept _ rfl (.refl s)))

theorem fillMet_lowCovered (s : State) : lowCovered (fillMet s) = lowCovered s := by
  unfold lowCovered
  rw [(fillMet_kept s).inputs]

theorem descaleFillEnded_eq (s : State) :
    descaleFillEnded s =
      match (fillMet s).ret.descale.phase with
      | .draw => if lowCovered (fillMet s) then enterSoak (fillMet s) else abortWithCredit (fillMet s)
      | .rinse1 | .rinse2 =>
        if (fillMet s).ret.descale.step = some .fill then enterDrainStep (fillMet s) else fillMet s
      | _ => fillMet s := rfl

/-- With BOILER_LOW covered the record stands, and the boiler is HEATING unless it is in DRY_FAULT. -/
theorem fillMet_covered (covered : lowCovered s = true) :
    (fillMet s).ret.descale = s.ret.descale ∧ (fillMet s).events.faults = s.events.faults ∧
      (fillMet s).boiler.state = if s.boiler.state = .dryFault then .dryFault else .heating := by
  unfold fillMet
  rw [if_pos covered]
  split
  · next dry => exact ⟨rfl, rfl, dry⟩
  · exact ⟨(enterBoiler_acts (c := .ch0) _).descale, (enterBoiler_reacts _ (.refl s)).faults, enterBoiler_state _ s⟩

/-- With BOILER_LOW uncovered LEVEL_SENSE stands in the fault set and the boiler is in DRY_FAULT. -/
theorem fillMet_uncovered (uncovered : lowCovered s = false) :
    (fillMet s).boiler.state = .dryFault ∧ hasFault .levelSense (fillMet s) = true := by
  unfold fillMet
  rw [if_neg (ne_true_of_eq_false uncovered)]
  refine ⟨enterDryFault_state _, ?_⟩
  rw [hasFault_congr (enterDryFault_reacts (.refl _)).faults, hasFault_enterFault]
  simp

/-- The entry of DRY_FAULT leaves the descale controller's record alone, or is an abort of a draw or a soak (R127). -/
theorem enterDryFault_record (s : State) :
    (enterDryFault s).ret.descale = s.ret.descale ∨
      ((s.ret.descale.phase = .draw ∨ s.ret.descale.phase = .soak) ∧
        ∃ v, v.ret.descale = s.ret.descale ∧ enterDryFault s = abortWithCredit v) := by
  have same : (dryFaultEntered s).ret.descale = s.ret.descale := (dryFaultEntered_acts (c := .ch0)).descale
  rw [enterDryFault_eq]
  split
  · exact .inl rfl
  · split
    · next aborts =>
      rw [same] at aborts
      simp only [Bool.and_eq_true, Bool.or_eq_true, decide_eq_true_eq] at aborts
      exact .inr ⟨aborts.2, dryFaultEntered s, same, rfl⟩
    · exact .inl same

/-- Outside DRAW and SOAK the end of a fill leaves the record alone. -/
theorem fillMet_record (draws : s.ret.descale.phase ≠ .draw) (soaks : s.ret.descale.phase ≠ .soak) :
    (fillMet s).ret.descale = s.ret.descale := by
  cases covered : lowCovered s with
  | true => exact (fillMet_covered covered).1
  | false =>
    unfold fillMet
    rw [if_neg (ne_true_of_eq_false covered)]
    rcases enterDryFault_record (enterFault .levelSense s) with same | ⟨phase, _⟩
    · exact same.trans (congrArg Retained.descale (enterFault_ret ..))
    · rw [enterFault_ret] at phase
      exact absurd phase (not_or.mpr ⟨draws, soaks⟩)

theorem fillMet_rinse (rinses : s.ret.descale.phase = .rinse1 ∨ s.ret.descale.phase = .rinse2) :
    (fillMet s).ret.descale = s.ret.descale := by
  apply fillMet_record <;> rcases rinses with h | h <;> rw [h] <;> decide

/-- The draw that ends with BOILER_LOW covered goes on to the soak (R119, R120). -/
theorem descaleFillEnded_soak (draws : s.ret.descale.phase = .draw) (covered : lowCovered s = true) :
    descaleFillEnded s = enterSoak (fillMet s) := by
  rw [descaleFillEnded_eq, (fillMet_covered covered).1, draws, fillMet_lowCovered]
  exact if_pos covered

/-- The draw that ends with BOILER_LOW uncovered is aborted, by the entry of DRY_FAULT or, where the boiler was in
DRY_FAULT already or the part is STARTING, after it (R127; notes/assumptions/38.md). -/
theorem descaleFillEnded_aborts (draws : s.ret.descale.phase = .draw) (uncovered : lowCovered s = false) :
    ∃ v, descaleFillEnded s = abortWithCredit v := by
  have met : fillMet s = enterDryFault (enterFault .levelSense s) := if_neg (ne_true_of_eq_false uncovered)
  rw [descaleFillEnded_eq, fillMet_lowCovered, uncovered, met]
  rcases enterDryFault_record (enterFault .levelSense s) with same | ⟨_, v, _, aborted⟩
  · rw [same, enterFault_ret, draws]
    exact ⟨_, rfl⟩
  · rw [aborted, (abortWithCredit_facts v).1]
    exact ⟨v, rfl⟩

/-- A rinse at its step FILL goes on to its step DRAIN (R122). -/
theorem descaleFillEnded_rinse (rinses : s.ret.descale.phase = .rinse1 ∨ s.ret.descale.phase = .rinse2)
    (fills : s.ret.descale.step = some .fill) : descaleFillEnded s = enterDrainStep (fillMet s) := by
  rw [descaleFillEnded_eq, fillMet_rinse rinses]
  rcases rinses with h | h <;> rw [h] <;> exact if_pos fills

/-- The step that the end of a fill brings leaves the fault set, and a boiler in DRY_FAULT, as they are. -/
theorem descaleFillEnded_reacts (s : State) :
    BoilerReacts (fillMet s) (descaleFillEnded s) ∧
      ((fillMet s).boiler.state = .dryFault → (descaleFillEnded s).boiler.state = .dryFault) := by
  rw [descaleFillEnded_eq]
  have stays : BoilerReacts (fillMet s) (fillMet s) ∧
      ((fillMet s).boiler.state = .dryFault → (fillMet s).boiler.state = .dryFault) := ⟨.refl _, id⟩
  have drains : BoilerReacts (fillMet s) (enterDrainStep (fillMet s)) ∧
      ((fillMet s).boiler.state = .dryFault → (enterDrainStep (fillMet s)).boiler.state = .dryFault) :=
    ⟨wantDrain_reacts (enterPhase_reacts _ _ (.refl _)), fun dry => by
      rw [(enterDrainStep_facts _).2.2, if_pos (.inr dry), dry]⟩
  split
  · split
    · exact ⟨enterSoak_reacts (.refl _), fun dry => (enterSoak_facts _).2.2.trans dry⟩
    · exact ⟨abortWithCredit_reacts (.refl _), abortWithCredit_dryFault⟩
  · split
    · exact drains
    · exact stays
  · split
    · exact drains
    · exact stays
  · exact stays

theorem descaleFillEnded_acts {c : Chan} (hc : c ≠ .ch3) : WaterActs c s (descaleFillEnded s) := by
  have met : WaterActs c s (fillMet s) :=
    .ite (BoilerActs.ite (.refl c s) (enterBoiler_acts _)).toWaterActs
      ((enterFault_acts _).toWaterActs.trans (enterDryFault_acts hc))
  have stays : WaterActs c (fillMet s) (fillMet s) := (BoilerActs.refl c _).toWaterActs
  refine met.trans ?_
  rw [descaleFillEnded_eq]
  split
  · exact .ite enterSoak_acts (abortWithCredit_acts hc)
  · exact .ite (enterDrainStep_acts hc) stays
  · exact .ite (enterDrainStep_acts hc) stays
  · exact stays

/-- With BOILER_LOW covered, outside a rinse's fill, the boiler is left as the end of the fill has found it. -/
theorem descaleFillEnded_heats (covered : lowCovered s = true)
    (idle : ¬((s.ret.descale.phase = .rinse1 ∨ s.ret.descale.phase = .rinse2) ∧ s.ret.descale.step = some .fill)) :
    (descaleFillEnded s).boiler.state = (fillMet s).boiler.state := by
  rw [descaleFillEnded_eq, (fillMet_covered covered).1, fillMet_lowCovered, if_pos covered]
  split
  · exact (enterSoak_facts _).2.2
  · next rinses => rw [if_neg fun fills => idle ⟨.inl rinses, fills⟩]
  · next rinses => rw [if_neg fun fills => idle ⟨.inr rinses, fills⟩]
  · rfl

end

end Sys2Proof.Machine
end

section
/-! SUPPORT. The descale controller's doses: what a load, a wait and the DRY stall of a rinse's fill leave of the
channel, of the waiting work and of the boiler's state (R119, R122). -/

namespace Sys2Proof.Machine

/-! ## Where no top-up is cancelled (R102) -/

/-- CH0 holds no top-up of the boiler controller. -/
def NoTopUp (s : State) : Prop := holdsFor s .ch0 .boilerControl = false ∨ modeIs .single (chan s .ch0) = false

section
variable {s t : State}

theorem NoTopUp.congr (h : NoTopUp s) (water : t.water = s.water) : NoTopUp t := by
  unfold NoTopUp holdsFor holdsDose chan at *
  rw [water]
  exact h

theorem NoTopUp.of_free (free : holdsDose s .ch0 = false) : NoTopUp s := by
  refine .inl ?_
  unfold holdsFor
  rw [free, Bool.false_and]

theorem cancelTopUp_idle (h : NoTopUp s) : cancelTopUp s = s := by
  unfold cancelTopUp
  refine if_neg (ne_true_of_eq_false ?_)
  rcases h with other | mode
  · rw [other, Bool.false_and]
  · rw [mode, Bool.and_false]

theorem postBoiler_water (s : State) : (postBoiler s).water = s.water := by
  unfold postBoiler postBoilerAs
  split <;> rfl

theorem enterBoiler_water (st : BoilerState) (h : NoTopUp s) : (enterBoiler st s).water = s.water := by
  unfold enterBoiler
  split
  · rfl
  · rw [postBoiler_water]
    split
    · rfl
    · have set : ∀ b : Boiler, NoTopUp (setBoiler b s) := fun _ => h.congr rfl
      rw [cancelTopUp_idle (set _)]
      rfl

theorem enterPhase_water (p : DescalePhase) (step : Option RinseStep) (h : NoTopUp s) :
    (enterPhase p step s).water = s.water := by
  have prompted : (followPrompt (setDescale { s.ret.descale with phase := p, step := step } s)).water = s.water :=
    followCondition_water ..
  unfold enterPhase followTopUp
  rw [postBoiler_water, cancelTopUp_idle (h.congr prompted), ite_self, prompted]

/-! ## Loading a dose (R86, R101, R119, R122) -/

/-- CH0 to CH2 as the load of a dose of `n` pulses of the descale controller leaves them. -/
def descaleLoad (m : DoseMode) (dest : Destination) (n : Nat) (s : State) : Channel :=
  ⟨if sourceLow .tank s then .suspended else .requesting,
    some
      { mode := m, destination := dest, source := some .tank, base := n, remaining := n, delivered := 0, charged := 0
        reload := false, requester := .descale, portion := 0, portionLeft := 0 }⟩

theorem descaleLoad_congr {m : DoseMode} {dest : Destination} {n : Nat} (inputs : t.inputs = s.inputs) :
    descaleLoad m dest n t = descaleLoad m dest n s := by
  unfold descaleLoad sourceLow tankPresent tankFloatLow
  rw [inputs]

theorem loadDose_descale {c : Chan} {m : DoseMode} (free : holdsDose s c = false) (demand : m ≠ .demand)
    (single : m ≠ .single) (dest : Destination) (n : Nat) :
    loadDose c m dest .tank n false .descale s = setChan c (descaleLoad m dest n s) s := by
  unfold loadDose descaleLoad
  rw [if_neg (ne_true_of_eq_false free), if_neg single, if_neg fun h => demand h.1]

theorem loadDose_ret (c : Chan) (m : DoseMode) (dest : Destination) (src : Source) (n : Nat) (reload : Bool)
    (r : Requester) (s : State) : (loadDose c m dest src n reload r s).ret = s.ret := by
  unfold loadDose
  split <;> rfl

/-- The fill of a rinse meets DRY_FAULT. -/
def fillStalls (c : Chan) (s : State) : Prop :=
  c = .ch0 ∧ s.ret.descale.step = some .fill ∧ s.boiler.state = .dryFault

variable {c : Chan} {a : DoseAmount}

/-- The fill of a rinse that meets DRY_FAULT stalls with cause DRY (R122). -/
theorem tryDescaleDose_stalls (waits : s.work.dose = some (c, a)) (stalls : fillStalls c s) :
    tryDescaleDose s = setStall .dry (setWork { s.work with dose := none } s) := by
  unfold tryDescaleDose
  rw [waits]
  exact if_pos stalls

/-- A dose whose channel is held waits on. -/
theorem tryDescaleDose_waits (waits : s.work.dose = some (c, a)) (wet : ¬fillStalls c s)
    (held : holdsDose s c = true) : tryDescaleDose s = s := by
  unfold tryDescaleDose
  rw [waits]
  exact (if_neg wet).trans (if_pos held)

/-- A draw or a fill that CH0 takes: the boiler is FILLING unless it is in DRY_FAULT (R101). -/
theorem tryDescaleDose_fills (waits : s.work.dose = some (.ch0, a)) (wet : ¬fillStalls .ch0 s)
    (free : holdsDose s .ch0 = false) :
    let t := tryDescaleDose s
    t.work.dose = none ∧ chan t .ch0 = descaleLoad .block .boiler (amountPulses a s) s ∧
      t.boiler.state = if s.boiler.state = .dryFault then .dryFault else .filling := by
  dsimp only
  have loaded : tryDescaleDose s =
      (let t := setChan .ch0 (descaleLoad .block .boiler (amountPulses a s) s) (setWork { s.work with dose := none } s)
       if t.boiler.state = .dryFault then t else enterBoiler .filling t) := by
    rw [← descaleLoad_congr (s := s) (t := setWork { s.work with dose := none } s) rfl,
      ← loadDose_descale (s := setWork { s.work with dose := none } s) free (by decide) (by decide)]
    unfold tryDescaleDose
    rw [waits]
    exact (if_neg wet).trans (if_neg (ne_true_of_eq_false free))
  rw [loaded]
  generalize ht :
    setChan .ch0 (descaleLoad .block .boiler (amountPulses a s) s) (setWork { s.work with dose := none } s) = t
  have work : t.work.dose = none := by rw [← ht]; rfl
  have state : t.boiler.state = s.boiler.state := by rw [← ht]; rfl
  have record : chan t .ch0 = descaleLoad .block .boiler (amountPulses a s) s := by
    rw [← ht, chan_setChan, if_pos rfl]
  dsimp only
  rw [state]
  split
  · next dry => exact ⟨work, record, state.trans dry⟩
  · have untopped : NoTopUp t := .inr (by rw [record]; rfl)
    refine ⟨?_, ?_, enterBoiler_state _ t⟩
    · rw [(enterBoiler_acts (c := .ch0) _).work, work]
    · unfold chan
      rw [enterBoiler_water _ untopped]
      exact record

/-- A flush that its channel takes (R122). -/
theorem tryDescaleDose_flushes (waits : s.work.dose = some (c, a)) (other : c ≠ .ch0) (free : holdsDose s c = false) :
    let t := tryDescaleDose s
    t.work.dose = none ∧ chan t c = descaleLoad .flush .drainLine (amountPulses a s) s := by
  have loaded : tryDescaleDose s =
      setChan c (descaleLoad .flush .drainLine (amountPulses a s) s) (setWork { s.work with dose := none } s) := by
    rw [← descaleLoad_congr (s := s) (t := setWork { s.work with dose := none } s) rfl,
      ← loadDose_descale (s := setWork { s.work with dose := none } s) free (by decide) (by decide)]
    unfold tryDescaleDose
    rw [waits]
    exact ((if_neg fun h => other h.1).trans (if_neg (ne_true_of_eq_false free))).trans (if_neg other)
  rw [loaded]
  exact ⟨rfl, by rw [chan_setChan, if_pos rfl]⟩

/-- Loading the dose that waits touches its own channel; every other one is left as by any reaction. -/
theorem tryDescaleDose_acts (h : ∀ c' a, s.work.dose = some (c', a) → c ≠ c') : WaterActs c s (tryDescaleDose s) := by
  unfold tryDescaleDose
  split
  · exact (BoilerActs.refl c s).toWaterActs
  · next c' a waits =>
    have other := h c' a waits
    refine .ite ((setWork_acts _).trans (setStall_acts _)) (.ite (BoilerActs.refl c s).toWaterActs ?_)
    split
    · next zero =>
      have loaded := fun n => (setWork_acts (c := c) (s := s) { s.work with dose := none }).trans
        (loadDose_acts (zero ▸ other) .block .boiler .tank n false .descale).toWaterActs
      exact .ite (loaded _) ((loaded _).trans (enterBoiler_acts _).toWaterActs)
    · exact (setWork_acts _).trans (loadDose_acts other _ _ _ _ _ _).toWaterActs

/-- Of the controller's record a load moves the stall alone. -/
theorem tryDescaleDose_record (s : State) :
    ∃ x, (tryDescaleDose s).ret.descale = { s.ret.descale with stall := x } := by
  have kept : ∃ x, s.ret.descale = { s.ret.descale with stall := x } := ⟨_, rfl⟩
  unfold tryDescaleDose
  split
  · exact kept
  · split
    · exact ⟨_, setStall_record ..⟩
    · split
      · exact kept
      · refine ⟨s.ret.descale.stall, ?_⟩
        dsimp only
        split
        · split
          · exact congrArg Retained.descale (loadDose_ret ..)
          · exact (enterBoiler_acts (c := .ch1) _).descale.trans (congrArg Retained.descale (loadDose_ret ..))
        · exact congrArg Retained.descale (loadDose_ret ..)

/-! ## The step FILL of a rinse (R122) -/

/-- The fill of a rinse waits for CH0. -/
def fillAsked (s : State) : State :=
  let t := enterPhase s.ret.descale.phase (some .fill) s
  setWork { t.work with dose := some (.ch0, .millilitres 500) } t

theorem enterFill_eq (s : State) : enterFill s = tryDescaleDose (fillAsked s) := rfl

theorem fillAsked_waits (s : State) : (fillAsked s).work.dose = some (.ch0, .millilitres 500) := rfl

theorem fillAsked_record (s : State) : (fillAsked s).ret.descale = { s.ret.descale with step := some .fill } :=
  enterPhase_record ..

theorem fillAsked_boiler (s : State) : (fillAsked s).boiler = s.boiler := enterPhase_boiler ..

theorem fillAsked_kept (s : State) : Kept s (fillAsked s) := setWork_kept _ (enterPhase_kept _ _ (.refl s))

theorem fillAsked_water (h : NoTopUp s) : (fillAsked s).water = s.water := enterPhase_water _ _ h

theorem fillStalls_fillAsked (s : State) : fillStalls .ch0 (fillAsked s) ↔ s.boiler.state = .dryFault := by
  unfold fillStalls
  rw [fillAsked_record, fillAsked_boiler]
  exact ⟨fun h => h.2.2, fun h => ⟨rfl, rfl, h⟩⟩

theorem enterFill_acts (hc : c ≠ .ch0) : WaterActs c s (enterFill s) := by
  have asked : WaterActs c s (fillAsked s) := (enterPhase_acts _ _).trans (setWork_acts _)
  refine asked.trans (tryDescaleDose_acts fun c' a waits => ?_)
  cases waits
  exact hc

theorem enterFill_record (s : State) :
    ∃ x, (enterFill s).ret.descale = { s.ret.descale with step := some .fill, stall := x } := by
  obtain ⟨x, record⟩ := tryDescaleDose_record (fillAsked s)
  exact ⟨x, record.trans (by rw [fillAsked_record])⟩

/-- In DRY_FAULT the fill stalls (R122). -/
theorem enterFill_dry (dry : s.boiler.state = .dryFault) :
    (enterFill s).ret.descale.stall = .dry ∧ (enterFill s).work.dose = none ∧
      (enterFill s).boiler.state = .dryFault := by
  rw [enterFill_eq, tryDescaleDose_stalls (fillAsked_waits s) ((fillStalls_fillAsked s).mpr dry)]
  refine ⟨congrArg Descale.stall (setStall_record ..),
    congrArg DescaleWork.dose (setStall_reaches (c := .ch0) _).work, ?_⟩
  unfold setStall followPrompt
  rw [followCondition_boiler, setDescale_boiler, setWork_boiler, fillAsked_boiler, dry]

/-- A free CH0 takes the fill at once. -/
theorem enterFill_free (wet : s.boiler.state ≠ .dryFault) (free : holdsDose s .ch0 = false) :
    (enterFill s).work.dose = none ∧ (enterFill s).boiler.state = .filling ∧
      chan (enterFill s) .ch0 = descaleLoad .block .boiler (volumePulses 500 s) s := by
  have water := fillAsked_water (NoTopUp.of_free free)
  have kept := fillAsked_kept s
  have still : holdsDose (fillAsked s) .ch0 = false := by
    unfold holdsDose chan at *
    rw [water]
    exact free
  obtain ⟨work, record, state⟩ :=
    tryDescaleDose_fills (fillAsked_waits s) (fun h => wet ((fillStalls_fillAsked s).mp h)) still
  rw [enterFill_eq]
  refine ⟨work, ?_, ?_⟩
  · rw [state, fillAsked_boiler, if_neg wet]
  · rw [record, descaleLoad_congr kept.inputs]
    unfold amountPulses volumePulses
    rw [kept.settings]

/-- The fill waits for a CH0 that another dose holds, unless that is a top-up, which is cancelled. -/
theorem enterFill_held (wet : s.boiler.state ≠ .dryFault) (held : holdsDose s .ch0 = true)
    (mode : modeIs .single (chan s .ch0) = false) :
    (enterFill s).work.dose = some (.ch0, .millilitres 500) ∧ chan (enterFill s) .ch0 = chan s .ch0 := by
  have water := fillAsked_water (.inr mode)
  have still : holdsDose (fillAsked s) .ch0 = true := by
    unfold holdsDose chan at *
    rw [water]
    exact held
  rw [enterFill_eq, tryDescaleDose_waits (fillAsked_waits s) (fun h => wet ((fillStalls_fillAsked s).mp h)) still]
  refine ⟨fillAsked_waits s, ?_⟩
  unfold chan
  rw [water]

end

end Sys2Proof.Machine
end

section
/-! SUPPORT. FLOW_PULSE (R18, R87): an accepted pulse, the count of the dose that holds the path, and the end of a
portion or of the dose, which is a charging point (R88, R91, R96). -/

namespace Sys2Proof.Machine

/-! ## An accepted pulse (R18) -/

theorem exec_flowPulse (s : State) : exec .flowPulse s = execFlowPulse s := by rfl

/-- The measurement unit has taken an accepted pulse. -/
def pulseTaken (s : State) : State :=
  { s with meas := { s.meas with pulseSeen := true, pulseAge := 0, pulseCount := s.meas.pulseCount + 1 } }

section
variable {s : State} {c : Chan} {d : Dose}

theorem pulseAccepted_iff (s : State) :
    pulseAccepted s = true ↔ s.meas.pulseSeen = false ∨ 2000 ≤ s.meas.pulseAge := by
  simp [pulseAccepted, millisecond]

theorem exec_flowPulse_ignored (seen : s.meas.pulseSeen = true) (early : s.meas.pulseAge < 2000) :
    exec .flowPulse s = .next s := by
  rw [exec_flowPulse]
  refine if_neg fun accepted => ?_
  rcases (pulseAccepted_iff s).mp accepted with unseen | late
  · exact absurd (seen.symm.trans unseen) (by decide)
  · exact absurd late (not_le.mpr early)

theorem exec_flowPulse_accepted (accepted : s.meas.pulseSeen = false ∨ 2000 ≤ s.meas.pulseAge) :
    exec .flowPulse s = .next (pulseArrives (pulseTaken s)) := by
  rw [exec_flowPulse]
  exact if_pos ((pulseAccepted_iff s).mpr accepted)

/-- While the path is FREE or SETTLING the pulse is counted to no dose (R87). -/
theorem pulseArrives_uncounted (h : s.water.path = .free ∨ s.water.path = .settling) : pulseArrives s = s := by
  unfold pulseArrives
  rcases h with h | h <;> rw [h]

theorem pulseArrives_counted (granted : s.water.path = .granted c) (dose : (chan s c).dose = some d) :
    pulseArrives s = settle (countPulse c d s) := by
  unfold pulseArrives
  rw [granted]
  dsimp only
  rw [dose]

/-! ## Counting a dose down (R87) -/

theorem Dose.count_pos (left : d.remaining ≠ 0) :
    d.count =
      { d with
        remaining := d.remaining - 1, delivered := d.delivered + 1
        portionLeft := if d.mode = .single then d.portionLeft - 1 else d.portionLeft } := if_neg left

/-- The dose has counted the pulse, and the first one of a draw has set the agent marker. -/
def counted (c : Chan) (d : Dose) (s : State) : State :=
  markAgent c d (setDose c d.count { s with water := { s.water with noFlowTimer := 0 } })

theorem countPulse_eq (c : Chan) (d : Dose) (s : State) :
    countPulse c d s =
      if d.count.remaining = 0 then terminalCount c (counted c d s)
      else if d.count.mode = .single ∧ d.count.portionLeft = 0 then endPortion c (counted c d s)
      else counted c d s := rfl

theorem countPulse_goesOn (more : 1 < d.remaining) (portion : d.mode ≠ .single ∨ 1 < d.portionLeft) :
    countPulse c d s = counted c d s := by
  have left : d.remaining ≠ 0 := by omega
  rw [countPulse_eq, Dose.count_pos left, if_neg (show ¬d.remaining - 1 = 0 by omega), if_neg]
  rintro ⟨single, spent⟩
  rcases portion with other | rest
  · exact other single
  · simp only [show d.mode = .single from single, if_true] at spent
    omega

theorem countPulse_endsPortion (more : 1 < d.remaining) (single : d.mode = .single) (last : d.portionLeft = 1) :
    countPulse c d s = endDose c .requesting (counted c d s) := by
  have left : d.remaining ≠ 0 := by omega
  rw [countPulse_eq, Dose.count_pos left, if_neg (show ¬d.remaining - 1 = 0 by omega)]
  exact if_pos ⟨single, by simp [single, last]⟩

theorem countPulse_terminal (last : d.remaining = 1) : countPulse c d s = terminalCount c (counted c d s) := by
  have left : d.remaining ≠ 0 := by omega
  rw [countPulse_eq, Dose.count_pos left]
  exact if_pos (by simp [last])

/-- Besides the water unit, counting touches the agent marker and the commit that it asks for (R119, R124). -/
theorem counted_only (c : Chan) (d : Dose) (s : State) :
    counted c d s =
      { s with
        water := { s.water with noFlowTimer := 0, chans := s.water.chans.set c { chan s c with dose := some d.count } }
        marker := (counted c d s).marker, store := { s.store with asked := (counted c d s).store.asked } } := by
  unfold counted markAgent
  split <;> rfl

theorem chan_counted (c' : Chan) :
    chan (counted c d s) c' = if c' = c then { chan s c with dose := some d.count } else chan s c' := by
  rw [counted_only]
  exact Channels.get_set ..

/-! ## A dose stops (R88, R90, R91, R96) -/

/-- A dose that holds the path passes its pulses, releases the path and leaves its channel in another state. -/
theorem endDose_facts (st : ChanState) (granted : s.water.path = .granted c) (dose : (chan s c).dose = some d) :
    (endDose c st s).water.path = .settling ∧ (endDose c st s).water.settleTimer = 0 ∧
      (∀ c', chan (endDose c st s) c' = if c' = c then ⟨st, some { d with charged := d.delivered }⟩ else chan s c') ∧
      HandsOn (d.delivered - d.charged) d s (endDose c st s) := by
  obtain ⟨handsOn, water⟩ := passPulses_handsOn dose
  have holds : holdsPath c (passPulses c s) = true :=
    decide_eq_true ((passPulses_path c s).trans granted)
  have released : releasePath c (passPulses c s) =
      { passPulses c s with water := { (passPulses c s).water with path := .settling, settleTimer := 0 } } :=
    if_pos holds
  have passed : chan (passPulses c s) c = { chan s c with dose := some { d with charged := d.delivered } } := by
    have moved := congrArg (fun w : Water => w.chans.get c) water
    exact moved.trans ((chan_setChan ..).trans (if_pos rfl))
  unfold endDose setChanState
  refine ⟨?_, ?_, fun c' => ?_, handsOn.after ?_⟩
  · rw [released]; rfl
  · rw [released]; rfl
  · rw [chan_setChan, chan_releasePath, chan_releasePath, passed]
    split
    · rfl
    · next other => exact chan_passPulses_other other s
  · rw [released]
    exact ⟨rfl, rfl, rfl⟩

/-- The dose on the path has counted the pulse taken in `s` and has stopped. -/
def doseStopped (c : Chan) (st : ChanState) (d : Dose) (s : State) : State := endDose c st (counted c d (pulseTaken s))

/-- What the dose's stop leaves alone of the other units. -/
theorem doseStopped_units (c : Chan) (st : ChanState) (d : Dose) (s : State) :
    (doseStopped c st d s).boiler = s.boiler ∧ (doseStopped c st d s).inputs = s.inputs ∧
      (doseStopped c st d s).work = s.work ∧ (doseStopped c st d s).ret.descale = s.ret.descale ∧
      (doseStopped c st d s).start = s.start ∧ (doseStopped c st d s).settings = s.settings ∧
      (doseStopped c st d s).events.faults = s.events.faults := by
  have ended := endDose_chargeOnly c st (counted c d (pulseTaken s))
  have faults : (counted c d (pulseTaken s)).events.faults = s.events.faults := by rw [counted_only]; rfl
  have only := ended.only
  unfold doseStopped
  refine ⟨?_, ?_, ?_, ?_, ?_, ?_, ended.faults.trans faults⟩ <;> rw [only, counted_only] <;> rfl

theorem doseStopped_steady (c : Chan) (st : ChanState) (d : Dose) (s : State) :
    Steady (pulseTaken s) (doseStopped c st d s) := by
  have before : Steady (pulseTaken s) (counted c d (pulseTaken s)) := by
    rw [counted_only]
    exact ⟨rfl, rfl, rfl, rfl, rfl, rfl, rfl, rfl, rfl, rfl, rfl, rfl, rfl, rfl, rfl, rfl, rfl⟩
  exact before.trans ((endDose_chargeOnly ..).steady (endDose_kept c st (.refl _)))

/-- The dose that stops has the path settle, is charged with all it has delivered, and hands that on (R85, R96). -/
theorem doseStopped_facts (st : ChanState) (granted : s.water.path = .granted c) (left : d.remaining ≠ 0) :
    (doseStopped c st d s).water.path = .settling ∧ (doseStopped c st d s).water.settleTimer = 0 ∧
      (∀ c', chan (doseStopped c st d s) c' =
        if c' = c then ⟨st, some { d.count with charged := d.delivered + 1 }⟩ else chan s c') ∧
      HandsOn (d.delivered + 1 - d.charged) d s (doseStopped c st d s) := by
  have only := counted_only c d (pulseTaken s)
  have delivered : d.count.delivered = d.delivered + 1 := by rw [Dose.count_pos left]
  have charged : d.count.charged = d.charged := by rw [Dose.count_pos left]
  have sent : d.count.mode = d.mode ∧ d.count.destination = d.destination := by
    rw [Dose.count_pos left]
    exact ⟨rfl, rfl⟩
  obtain ⟨path, timer, chans, handsOn⟩ := endDose_facts (s := counted c d (pulseTaken s)) (d := d.count) st
    (by rw [only]; exact granted) (by rw [chan_counted, if_pos rfl])
  rw [delivered] at chans handsOn
  rw [charged] at handsOn
  refine ⟨path, timer, fun c' => (chans c').trans ?_, ?_⟩
  · split
    · rw [Dose.count_pos left]
    · next other => rw [chan_counted, if_neg other]; rfl
  · unfold HandsOn at handsOn
    rw [sent.1, sent.2] at handsOn
    exact HandsOn.before handsOn (by rw [only]; rfl) (by rw [only]; rfl) (by rw [only]; rfl) (by rw [only]; rfl)

/-! ## What a requester is told (R91, R94, R100, R101, R122) -/

/-- Telling the requester of a dose that has reached its count leaves the dose's channel as it is. -/
theorem doseCompleted_acts (hc : c ≠ .ch3) (done : (chan s c).state = .done) : WaterActs c s (doseCompleted c d s) := by
  have stays : WaterActs c s s := (BoilerActs.refl c s).toWaterActs
  unfold doseCompleted
  split
  · exact .ite
      (.ite (enterBoiler_acts _).toWaterActs ((enterFault_acts _).toWaterActs.trans (enterDryFault_acts hc))) stays
  · exact stays
  · split
    · exact descaleFillEnded_acts hc
    · next other => exact .ite (enterFill_acts other) stays
  · split
    · exact stays
    · exact (resumeSource_acts _ (by rw [done]; decide)).toWaterActs

/-- The dose on the path has reached its terminal count with the pulse taken in `s`, its requester has been told, and
NO_FLOW has left the fault set (R91). -/
def doseEnded (c : Chan) (d : Dose) (s : State) : State :=
  endNoFlow (doseCompleted c d.count (doseStopped c .done d s))

section
variable (hc : c ≠ .ch3) (granted : s.water.path = .granted c) (left : d.remaining ≠ 0)
include hc granted left

theorem doseEnded_acts : WaterActs c (doseStopped c .done d s) (doseEnded c d s) := by
  obtain ⟨_, _, chans, _⟩ := doseStopped_facts .done granted left
  exact (doseCompleted_acts hc (by rw [chans, if_pos rfl])).trans endNoFlow_acts.toWaterActs

/-- At the terminal count the channel is DONE, its dose charged with all it has delivered. -/
theorem chan_doseEnded : chan (doseEnded c d s) c = ⟨.done, some { d.count with charged := d.delivered + 1 }⟩ := by
  obtain ⟨_, _, chans, _⟩ := doseStopped_facts .done granted left
  have stopped := (chans c).trans (if_pos rfl)
  rw [(doseEnded_acts hc granted left).chan (.inr (by unfold holdsDose; rw [stopped]; rfl)), stopped]

theorem doseEnded_path : (doseEnded c d s).water.path = .settling :=
  (doseEnded_acts hc granted left).path (doseStopped_facts .done granted left).1

theorem doseEnded_steady : Steady (pulseTaken s) (doseEnded c d s) :=
  (doseStopped_steady c .done d s).trans
    ((doseEnded_acts hc granted left).steady (endNoFlow_kept (doseCompleted_kept c d.count (.refl _))))

/-- The terminal count: a dose that reloads itself requests the path again with its full count (R91). -/
theorem terminalCount_eq :
    terminalCount c (counted c d (pulseTaken s)) =
      if d.reload then setChan c ⟨.requesting, some d.count.again⟩ (doseEnded c d s) else doseEnded c d s := by
  have reload : d.count.reload = d.reload := by rw [Dose.count_pos left]
  have done := congrArg Channel.state (chan_doseEnded hc granted left)
  unfold terminalCount
  rw [chan_counted, if_pos rfl]
  dsimp only
  change (if d.count.reload && decide ((chan (doseEnded c d s) c).state = .done) then
    setChan c ⟨.requesting, some d.count.again⟩ (doseEnded c d s) else doseEnded c d s) = _
  rw [done, reload, decide_eq_true rfl, Bool.and_true]

end

theorem endNoFlow_hasFault (f : FaultKind) (s : State) :
    hasFault f (endNoFlow s) = (hasFault f s && decide (f ≠ .noFlow)) := by
  unfold endNoFlow
  split
  · exact hasFault_leaveFault ..
  · next absent =>
    by_cases h : f = .noFlow
    · subst h; simp [absent]
    · simp [h]

/-- Besides the fault set, the end of NO_FLOW touches what it holds of the boiler controller alone (R91). -/
theorem endNoFlow_only (s : State) :
    endNoFlow s =
      { s with
        boiler :=
          { s.boiler with
            fillHeld := (endNoFlow s).boiler.fillHeld, topUpHeld := (endNoFlow s).boiler.topUpHeld }
        events := (endNoFlow s).events } := by
  unfold endNoFlow
  split
  · rw [leaveFault_only]
    rfl
  · rfl

@[simp] theorem endNoFlow_state (s : State) : (endNoFlow s).boiler.state = s.boiler.state := by rw [endNoFlow_only]
@[simp] theorem endNoFlow_ret (s : State) : (endNoFlow s).ret = s.ret := by rw [endNoFlow_only]
@[simp] theorem endNoFlow_work (s : State) : (endNoFlow s).work = s.work := by rw [endNoFlow_only]
@[simp] theorem chan_endNoFlow (s : State) (c : Chan) : chan (endNoFlow s) c = chan s c := by rw [endNoFlow_only]; rfl

end

end Sys2Proof.Machine
end

section
/-! SUPPORT. The clauses of FLOW_PULSE: a pulse that goes on counting, the end of a portion, and the terminal count with
what each requester makes of it. -/

namespace Sys2Proof.Machine

/-! ## What a completed dose hands on -/

section
variable {s : State} {c : Chan} {d : Dose}

/-- A completed dose whose requester cancels nothing that is RUNNING and takes no abort credit is charged once: of the
boiler controller's doses only the fill that finds BOILER_HIGH uncovered in a draw or a soak is left out. -/
def chargedOnce (d : Dose) (s : State) : Prop :=
  d.requester = .program ∨ d.requester = .prime ∨
    (d.requester = .boilerControl ∧
      (d.mode ≠ .demand ∨ highCovered s = true ∨ s.start.ready = false ∨
        (s.ret.descale.phase ≠ .draw ∧ s.ret.descale.phase ≠ .soak)))

theorem doseCompleted_uncharged (once : chargedOnce d s) : Uncharged s (doseCompleted c d s) := by
  unfold doseCompleted
  rcases once with program | prime | ⟨boiler, calm⟩
  · rw [program]
    exact .refl s
  · rw [prime]
    dsimp only
    split
    · exact .refl s
    · exact resumeSource_uncharged _
  · rw [boiler]
    dsimp only
    split
    · next demand =>
      split
      · exact enterBoiler_uncharged _
      · next uncovered =>
        refine (enterFault_uncharged .levelSense).trans (enterDryFault_uncharged ?_)
        rw [enterFault_start, enterFault_ret]
        rcases calm with other | covered | rest
        · exact absurd demand other
        · exact absurd covered uncovered
        · exact rest
    · exact .refl s

/-- While another channel holds the path, or a dose on CH0 has just stopped, CH0 is not RUNNING. -/
theorem doseStopped_idle (granted : s.water.path = .granted c) (left : d.remaining ≠ 0)
    (idle : c ≠ .ch0 → (chan s .ch0).state ≠ .running) : (chan (doseStopped c .done d s) .ch0).state ≠ .running := by
  obtain ⟨_, _, chans, _⟩ := doseStopped_facts (d := d) .done granted left
  rw [chans]
  split
  · show ChanState.done ≠ .running
    decide
  · next other => exact idle fun same => other same.symm

theorem PathSound.idle (sound : PathSound s) (granted : s.water.path = .granted c) {c' : Chan} (hc : c' ≠ .ch3)
    (other : c ≠ c') : (chan s c').state ≠ .running := by
  intro runs
  have held := (sound.1 c' hc).mp runs
  rw [granted] at held
  exact other (PathState.granted.inj held)

theorem doseEnded_handsOn (granted : s.water.path = .granted c) (left : d.remaining ≠ 0)
    (idle : c ≠ .ch0 → (chan s .ch0).state ≠ .running)
    (uncharged : Uncharged (doseStopped c .done d s) (doseCompleted c d.count (doseStopped c .done d s))) :
    HandsOn (d.delivered + 1 - d.charged) d s (doseEnded c d s) :=
  (doseStopped_facts .done granted left).2.2.2.after
    ((uncharged.trans endNoFlow_uncharged) (doseStopped_idle granted left idle)).2

theorem Dose.count_fields (left : d.remaining ≠ 0) :
    d.count.requester = d.requester ∧ d.count.mode = d.mode ∧ d.count.source = d.source := by
  rw [Dose.count_pos left]
  exact ⟨rfl, rfl, rfl⟩

theorem doseEnded_handsOn_once (granted : s.water.path = .granted c) (left : d.remaining ≠ 0) (sound : PathSound s)
    (once : chargedOnce d s) : HandsOn (d.delivered + 1 - d.charged) d s (doseEnded c d s) := by
  obtain ⟨_, inputs, _, descale, start, _, _⟩ := doseStopped_units c .done d s
  obtain ⟨requester, mode, _⟩ := Dose.count_fields left
  refine doseEnded_handsOn granted left (sound.idle granted (by decide)) (doseCompleted_uncharged ?_)
  unfold chargedOnce highCovered
  rw [requester, mode, inputs, start, descale]
  exact once

/-! ## What the requester is told -/

/-- The boiler controller's fill (R100). -/
theorem doseEnded_fill (left : d.remaining ≠ 0) (boiler : d.requester = .boilerControl) (demand : d.mode = .demand) :
    (highCovered s = true → (doseEnded c d s).boiler.state = .heating ∧
      ∀ f : FaultKind, f ≠ .noFlow → (f ∈ (doseEnded c d s).events.faults ↔ f ∈ s.events.faults)) ∧
    (highCovered s = false → (doseEnded c d s).boiler.state = .dryFault ∧
      hasFault .levelSense (doseEnded c d s) = true) := by
  obtain ⟨_, inputs, _, _, _, _, faults⟩ := doseStopped_units c .done d s
  obtain ⟨requester, mode, _⟩ := Dose.count_fields left
  have high : highCovered (doseStopped c .done d s) = highCovered s := by unfold highCovered; rw [inputs]
  unfold doseEnded doseCompleted
  rw [requester, boiler, mode, demand, high]
  dsimp only
  rw [if_pos rfl]
  generalize doseStopped c .done d s = w at faults
  constructor
  · intro covered
    rw [if_pos covered, endNoFlow_state]
    refine ⟨enterBoiler_state _ w, fun f other => ?_⟩
    rw [← hasFault_iff, ← hasFault_iff, endNoFlow_hasFault, decide_eq_true other, Bool.and_true,
      hasFault_congr ((enterBoiler_reacts .heating (.refl w)).faults.trans faults)]
  · intro uncovered
    rw [if_neg (ne_true_of_eq_false uncovered), endNoFlow_state, endNoFlow_hasFault,
      hasFault_congr (enterDryFault_reacts (.refl _)).faults, hasFault_enterFault]
    exact ⟨enterDryFault_state _, by simp⟩

/-- A rinse's flush brings the step FILL (R122). -/
theorem doseCompleted_flush (left : d.remaining ≠ 0) (descale : d.requester = .descale) (other : c ≠ .ch0)
    (flushes : s.ret.descale.step = some .flush) :
    doseCompleted c d.count (doseStopped c .done d s) = enterFill (doseStopped c .done d s) := by
  obtain ⟨_, _, _, record, _, _, _⟩ := doseStopped_units c .done d s
  obtain ⟨requester, _, _⟩ := Dose.count_fields left
  unfold doseCompleted
  rw [requester, descale, record]
  dsimp only
  rw [if_neg other, if_pos flushes]

/-- Priming that ends lets the channels that wait for its source request the path (R94). -/
theorem doseEnded_primes {src : Source} (granted : s.water.path = .granted c) (left : d.remaining ≠ 0)
    (prime : d.requester = .prime) (source : d.source = some src) {c' : Chan} (supplied : c' ≠ .ch3) (other : c' ≠ c)
    (draws : sourceIs src (chan s c') = true) (waits : (chan s c').state = .suspended) :
    (chan (doseEnded c d s) c').state = .requesting := by
  obtain ⟨_, _, chans, _⟩ := doseStopped_facts (d := d) .done granted left
  obtain ⟨requester, _, from_⟩ := Dose.count_fields left
  unfold doseEnded doseCompleted
  rw [requester, prime, from_, source]
  dsimp only
  rw [chan_endNoFlow, chan_resumeSource, if_neg supplied, chans, if_neg other]
  unfold resumed
  rw [draws, waits]
  rfl

/-! ## The terminal count as a whole (R91) -/

/-- What the last pulse leaves: the dose ended, and loaded anew where it reloads itself. -/
def lastPulse (c : Chan) (d : Dose) (s : State) : State :=
  if d.reload then setChan c ⟨.requesting, some d.count.again⟩ (doseEnded c d s) else doseEnded c d s

/-- A reload touches the channel alone. -/
theorem lastPulse_only (c : Chan) (d : Dose) (s : State) :
    lastPulse c d s =
      { doseEnded c d s with
        water := { (doseEnded c d s).water with chans := (lastPulse c d s).water.chans } } := by
  unfold lastPulse
  split <;> rfl

theorem lastPulse_ended (once : d.reload = false) : lastPulse c d s = doseEnded c d s :=
  if_neg (ne_true_of_eq_false once)

theorem lastPulse_hasFault (f : FaultKind) : hasFault f (lastPulse c d s) = hasFault f (doseEnded c d s) :=
  hasFault_congr (by rw [lastPulse_only]) f

theorem exec_flowPulse_last (hc : c ≠ .ch3) (granted : s.water.path = .granted c) (dose : (chan s c).dose = some d)
    (last : d.remaining = 1) (accepted : s.meas.pulseSeen = false ∨ 2000 ≤ s.meas.pulseAge) :
    exec .flowPulse s = .next (settle (lastPulse c d s)) := by
  rw [exec_flowPulse_accepted accepted, pulseArrives_counted (s := pulseTaken s) granted dose, countPulse_terminal last,
    terminalCount_eq hc granted (by omega)]
  rfl

theorem lastPulse_steady (hc : c ≠ .ch3) (granted : s.water.path = .granted c) (left : d.remaining ≠ 0) :
    Steady (pulseTaken s) (lastPulse c d s) := by
  have ended := doseEnded_steady (d := d) hc granted left
  unfold lastPulse
  split
  · exact ended
  · exact ended

theorem lastPulse_noFlow (c : Chan) (d : Dose) (s : State) : hasFault .noFlow (lastPulse c d s) = false := by
  rw [lastPulse_hasFault]
  unfold doseEnded
  rw [endNoFlow_hasFault]
  simp

/-- A flush that has brought the step FILL: the channel is DONE, and the fill stalls, is loaded or waits (R122). -/
theorem doseEnded_flush_facts (granted : s.water.path = .granted c) (left : d.remaining ≠ 0)
    (descale : d.requester = .descale) (other : c ≠ .ch0) (flushes : s.ret.descale.step = some .flush) :
    let u := doseEnded c d s
    u.ret.descale.phase = s.ret.descale.phase ∧ u.ret.descale.step = some .fill ∧
      ((chan s .ch0).state ≠ .running → HandsOn (d.delivered + 1 - d.charged) d s u) ∧
      (s.boiler.state = .dryFault → u.ret.descale.stall = .dry ∧ u.work.dose = none ∧ u.boiler.state = .dryFault) ∧
      (s.boiler.state ≠ .dryFault → holdsDose s .ch0 = false →
        u.work.dose = none ∧ u.boiler.state = .filling ∧
          chan u .ch0 = descaleLoad .block .boiler (volumePulses 500 s) s) ∧
      (s.boiler.state ≠ .dryFault → holdsDose s .ch0 = true → modeIs .single (chan s .ch0) = false →
        u.work.dose = some (.ch0, .millilitres 500) ∧ chan u .ch0 = chan s .ch0) := by
  dsimp only
  obtain ⟨boiler, inputs, _, record, _, settings, _⟩ := doseStopped_units c .done d s
  have chan0 : chan (doseStopped c .done d s) .ch0 = chan s .ch0 :=
    ((doseStopped_facts .done granted left).2.2.1 .ch0).trans (if_neg other.symm)
  have holds0 : holdsDose (doseStopped c .done d s) .ch0 = holdsDose s .ch0 := by unfold holdsDose; rw [chan0]
  have completed := doseCompleted_flush (s := s) left descale other flushes
  have ended : doseEnded c d s = endNoFlow (enterFill (doseStopped c .done d s)) := congrArg endNoFlow completed
  obtain ⟨x, fill⟩ := enterFill_record (doseStopped c .done d s)
  rw [record] at fill
  refine ⟨?_, ?_, fun idle => ?_, fun dry => ?_, fun wet free => ?_, fun wet held mode => ?_⟩
  · rw [ended, endNoFlow_ret, fill]
  · rw [ended, endNoFlow_ret, fill]
  · exact doseEnded_handsOn granted left (fun _ => idle) (completed ▸ enterFill_uncharged)
  · rw [ended, endNoFlow_ret, endNoFlow_work, endNoFlow_state]
    exact enterFill_dry (boiler.symm ▸ dry)
  · rw [ended, endNoFlow_work, endNoFlow_state, chan_endNoFlow]
    have loaded := enterFill_free (boiler.symm ▸ wet) (holds0.trans free)
    rw [descaleLoad_congr inputs] at loaded
    unfold volumePulses at loaded ⊢
    rw [settings] at loaded
    exact loaded
  · rw [ended, endNoFlow_work, chan_endNoFlow, ← chan0]
    exact enterFill_held (boiler.symm ▸ wet) (holds0.trans held) (chan0.symm ▸ mode)

end

end Sys2Proof.Machine
end

section
/-! SUPPORT. FLOW_PULSE as a whole (R87). -/

namespace Sys2Proof.Machine

section
variable {s : State} {c : Chan} {d : Dose}

/-- A pulse that ends neither the dose nor its portion (R87, R119, R124). -/
theorem counted_marks (left : d.remaining ≠ 0) :
    let marks := c = .ch0 ∧ d.requester = .descale ∧ s.ret.descale.phase = .draw ∧ s.marker = false
    let d' := { d with
      remaining := d.remaining - 1, delivered := d.delivered + 1
      portionLeft := if d.mode = .single then d.portionLeft - 1 else d.portionLeft }
    counted c d s =
      { s with
        water := { s.water with noFlowTimer := 0, chans := s.water.chans.set c { chan s c with dose := some d' } }
        marker := if marks then true else s.marker
        store := { s.store with asked := if marks then true else s.store.asked } } := by
  dsimp only
  rw [← Dose.count_pos left]
  unfold counted markAgent
  by_cases marks : c = .ch0 ∧ d.requester = .descale ∧ s.ret.descale.phase = .draw ∧ s.marker = false
  · rw [if_pos marks, if_pos marks]
    exact if_pos marks
  · rw [if_neg marks, if_neg marks]
    exact if_neg marks

/-- The end of a portion: the channel requests the path again (R88). -/
theorem portionEnds (granted : s.water.path = .granted c) (left : d.remaining ≠ 0) (single : d.mode = .single)
    (last : d.portionLeft = 1) :
    let u := doseStopped c .requesting d s
    u.water.path = .settling ∧ u.water.settleTimer = 0 ∧
      chan u c =
        ⟨.requesting,
          some
            { d with
              remaining := d.remaining - 1, delivered := d.delivered + 1, charged := d.delivered + 1
              portionLeft := 0 }⟩ ∧
      HandsOn (d.delivered + 1 - d.charged) d s u := by
  dsimp only
  obtain ⟨path, timer, chans, handsOn⟩ := doseStopped_facts (d := d) .requesting granted left
  refine ⟨path, timer, ?_, handsOn⟩
  rw [chans, if_pos rfl, Dose.count_pos left, if_pos single, last]

/-- A dose that reloads itself requests the path with its full count (R91). -/
theorem lastPulse_reloads (left : d.remaining ≠ 0) (reload : d.reload = true) :
    chan (lastPulse c d s) c =
      ⟨.requesting, some { d with remaining := d.base, delivered := 0, charged := 0, portionLeft := 0 }⟩ := by
  unfold lastPulse Dose.again
  rw [if_pos reload, chan_setChan, if_pos rfl, Dose.count_pos left]

end

/-- Settles O35: the pulse's own count, the portion's end, and the terminal count, clause by clause. -/
theorem flowPulsesCount : Obligations.FlowPulsesCount := by
  intro s
  refine ⟨exec_flowPulse_ignored, fun accepted => ⟨fun uncounted => ?_, fun c d hc granted dose =>
    ⟨fun more portion => ?_, fun more single portion => ?_, fun last => ?_⟩⟩⟩
  · rw [exec_flowPulse_accepted accepted]
    exact congrArg _ (pulseArrives_uncounted (s := pulseTaken s) uncounted)
  · rw [exec_flowPulse_accepted accepted, pulseArrives_counted (s := pulseTaken s) granted dose,
      countPulse_goesOn more portion]
    exact congrArg (fun t => Host.Outcome.next (settle t)) (counted_marks (by omega))
  · refine ⟨doseStopped c .requesting d s, ?_, doseStopped_steady .., portionEnds granted (by omega) single portion⟩
    rw [exec_flowPulse_accepted accepted, pulseArrives_counted (s := pulseTaken s) granted dose,
      countPulse_endsPortion more single portion]
    rfl
  · have left : d.remaining ≠ 0 := by omega
    have channel := chan_doseEnded (d := d) (s := s) hc granted left
    have done : d.reload = false → (chan (lastPulse c d s) c).state = .done := fun once => by
      rw [lastPulse_ended once, channel]
    refine ⟨lastPulse c d s, exec_flowPulse_last hc granted dose last accepted, lastPulse_steady hc granted left, ?_,
      lastPulse_noFlow c d s, fun once => ?_, fun sound charged => ?_, fun boiler demand => ?_,
      fun descale once other flushes => ?_, fun _ => ⟨done, lastPulse_reloads left⟩,
      fun src prime source once => ⟨done once, fun c' supplied other draws waits => ?_⟩⟩
    · rw [lastPulse_only]
      exact doseEnded_path hc granted left
    · rw [lastPulse_ended once, channel]
      exact ⟨_, rfl, rfl⟩
    · refine (doseEnded_handsOn_once granted left sound charged).after ?_
      rw [lastPulse_only]
      exact .refl _
    · have told := doseEnded_fill (c := c) (s := s) left boiler demand
      rw [lastPulse_hasFault, lastPulse_only]
      exact told
    · refine ⟨done once, ?_⟩
      rw [lastPulse_ended once]
      exact doseEnded_flush_facts granted left descale other flushes
    · rw [lastPulse_ended once]
      exact doseEnded_primes granted left prime source supplied other draws waits

end Sys2Proof.Machine
end

section
/-! SUPPORT. The descale controller's rows SOAK_END and DESCALE_DOSE_LOAD, and the ends of its fills (R119 to R122). -/

namespace Sys2Proof.Machine

theorem exec_soakEnd (s : State) :
    exec .soakEnd s = if soakEndDue s then .next (settle (enterDrainAgent (withdrawSoakTarget s))) else .next s := by
  rfl

theorem exec_descaleDoseLoad (s : State) :
    exec .descaleDoseLoad s = if descaleDoseDue s then .next (settle (tryDescaleDose s)) else .next s := by rfl

section
variable {s : State}

theorem soakEndDue_iff (s : State) :
    soakEndDue s = true ↔
      s.start.ready = true ∧ s.ret.descale.phase = .soak ∧ s.ret.descale.total ≤ s.ret.descale.elapsed := by
  simp [soakEndDue, and_assoc]

theorem holdsDose_false_iff (s : State) (c : Chan) :
    holdsDose s c = false ↔ (chan s c).state = .idle ∨ (chan s c).state = .done ∨ (chan s c).state = .fault := by
  unfold holdsDose
  cases (chan s c).state <;> simp [ChanState.holds]

/-- A dose that waits is due where its channel holds none, or where the fill of a rinse meets DRY_FAULT. -/
theorem descaleDoseDue_waiting {c : Chan} {a : DoseAmount} (waits : s.work.dose = some (c, a)) :
    descaleDoseDue s = true ↔ s.start.ready = true ∧ (holdsDose s c = false ∨ fillStalls c s) := by
  unfold descaleDoseDue fillStalls
  rw [waits]
  simp [and_assoc]

theorem descaleDoseDue_iff (s : State) :
    descaleDoseDue s = true ↔
      s.start.ready = true ∧ ∃ (c : Chan) (a : DoseAmount), s.work.dose = some (c, a) ∧
        ((chan s c).state = .idle ∨ (chan s c).state = .done ∨ (chan s c).state = .fault ∨
          (c = .ch0 ∧ s.ret.descale.step = some .fill ∧ s.boiler.state = .dryFault)) := by
  cases waits : s.work.dose with
  | none => simp [descaleDoseDue, waits]
  | some w =>
    obtain ⟨c, a⟩ := w
    rw [descaleDoseDue_waiting waits, holdsDose_false_iff, fillStalls, or_assoc, or_assoc]
    refine and_congr_right fun _ => ⟨fun due => ⟨c, a, rfl, due⟩, fun ⟨c', a', same, due⟩ => ?_⟩
    cases same
    exact due

/-- SOAK_END: the soak target is withdrawn, and DRAIN_AGENT entered with its drain to load (R120, R121). -/
theorem soakEnds (s : State) :
    let u := enterDrainAgent (withdrawSoakTarget s)
    Steady s u ∧ u.ret.descale.phase = .drainAgent ∧ u.boiler.soakTarget = false ∧
      (u.work.drain = true ∨ holdsDose u .ch3 = true) := by
  dsimp only
  obtain ⟨record, soak, drains⟩ := enterDrainAgent_facts (withdrawSoakTarget s)
  have withdrawn := withdrawSoakTarget_reaches (c := .ch0) (s := s)
  have acts : WaterActs .ch0 s (enterDrainAgent (withdrawSoakTarget s)) :=
    ((setBoiler_waterActs _).trans withdrawn.toWaterActs).trans (enterDrainAgent_acts (by decide))
  refine ⟨acts.steady (enterDrainAgent_kept (withdrawSoakTarget_kept (.refl s))), ?_,
    soak.trans withdrawn.soakTarget, drains⟩
  rw [record]

theorem tryDescaleDose_steady (s : State) : Steady s (tryDescaleDose s) := by
  have kept : Kept s (tryDescaleDose s) := tryDescaleDose_kept (.refl s)
  by_cases other : ∀ c' a, s.work.dose = some (c', a) → Chan.ch1 ≠ c'
  · exact (tryDescaleDose_acts other).steady kept
  · refine (tryDescaleDose_acts (c := .ch2) fun c' a waits same => other fun c'' a' waits' same' => ?_).steady kept
    rw [waits] at waits'
    cases waits'
    exact absurd (same.trans same'.symm) (by decide)

/-- DESCALE_DOSE_LOAD: the fill of a rinse that meets DRY_FAULT stalls, and a free channel takes the dose (R119,
R122). -/
theorem doseLoads {c : Chan} {a : DoseAmount} (ready : s.start.ready = true) (waits : s.work.dose = some (c, a)) :
    (c = .ch0 → s.ret.descale.step = some .fill → s.boiler.state = .dryFault →
      ∃ u, exec .descaleDoseLoad s = .next (settle u) ∧ Steady s u ∧ u.ret.descale.stall = .dry ∧ u.work.dose = none) ∧
    (holdsDose s c = false → c = .ch0 → ¬(s.ret.descale.step = some .fill ∧ s.boiler.state = .dryFault) →
      ∃ u, exec .descaleDoseLoad s = .next (settle u) ∧ Steady s u ∧ u.work.dose = none ∧
        u.boiler.state = (if s.boiler.state = .dryFault then .dryFault else .filling) ∧
        chan u .ch0 = descaleLoad .block .boiler (amountPulses a s) s) ∧
    (holdsDose s c = false → c ≠ .ch0 →
      ∃ u, exec .descaleDoseLoad s = .next (settle u) ∧ Steady s u ∧ u.work.dose = none ∧
        chan u c = descaleLoad .flush .drainLine (amountPulses a s) s) := by
  have runs : holdsDose s c = false ∨ fillStalls c s → exec .descaleDoseLoad s = .next (settle (tryDescaleDose s)) :=
    fun due => by rw [exec_descaleDoseLoad, if_pos ((descaleDoseDue_waiting waits).mpr ⟨ready, due⟩)]
  have steady := tryDescaleDose_steady s
  refine ⟨fun zero fills dry => ?_, fun free zero wet => ?_, fun free other => ?_⟩
  · have stalls : fillStalls c s := ⟨zero, fills, dry⟩
    refine ⟨_, runs (.inr stalls), steady, ?_⟩
    rw [tryDescaleDose_stalls waits stalls]
    exact ⟨congrArg Descale.stall (setStall_record ..), congrArg DescaleWork.dose (setStall_reaches (c := .ch0) _).work⟩
  · subst zero
    obtain ⟨work, loaded, state⟩ := tryDescaleDose_fills waits (fun stalls => wet stalls.2) free
    exact ⟨_, runs (.inl free), steady, work, state, loaded⟩
  · obtain ⟨work, loaded⟩ := tryDescaleDose_flushes waits other free
    exact ⟨_, runs (.inl free), steady, work, loaded⟩

/-- The last pulse of a dose of the descale controller on CH0 stops the dose, and then ends its fill (R101, R119). -/
theorem exec_flowPulse_fillEnds {d : Dose} (granted : s.water.path = .granted .ch0) (dose : (chan s .ch0).dose = some d)
    (last : d.remaining = 1) (descale : d.requester = .descale) (once : d.reload = false)
    (accepted : s.meas.pulseSeen = false ∨ 2000 ≤ s.meas.pulseAge) :
    exec .flowPulse s = .next (settle (endNoFlow (descaleFillEnded (doseStopped .ch0 .done d s)))) := by
  have requester := (Dose.count_fields (d := d) (by omega)).1
  rw [exec_flowPulse_last (by decide) granted dose last accepted, lastPulse_ended once]
  unfold doseEnded doseCompleted
  rw [requester, descale]
  rfl

/-! ## The end of a fill, clause by clause (R119, R122, R127) -/

/-- A rinse at its step FILL. -/
def rinseFills (s : State) : Prop :=
  (s.ret.descale.phase = .rinse1 ∨ s.ret.descale.phase = .rinse2) ∧ s.ret.descale.step = some .fill

theorem fillEnded_covered (covered : lowCovered s = true) :
    let u := descaleFillEnded s
    u.events.faults = s.events.faults ∧ (s.boiler.state = .dryFault → u.boiler.state = .dryFault) ∧
      (s.boiler.state ≠ .dryFault → ¬rinseFills s ∨ u.work.drain = true → u.boiler.state = .heating) ∧
      (s.boiler.state ≠ .dryFault → rinseFills s → u.work.drain = false → u.boiler.state = .draining) := by
  dsimp only
  obtain ⟨_, faults, state⟩ := fillMet_covered covered
  obtain ⟨reacts, stays⟩ := descaleFillEnded_reacts s
  have heated : s.boiler.state ≠ .dryFault → (fillMet s).boiler.state = .heating := fun wet => state.trans (if_neg wet)
  refine ⟨reacts.faults.trans faults, fun dry => stays (state.trans (if_pos dry)), fun wet idle => ?_,
    fun wet rinses loaded => ?_⟩
  · by_cases rinses : rinseFills s
    · have waits := idle.resolve_left (not_not.mpr rinses)
      rw [descaleFillEnded_rinse rinses.1 rinses.2] at waits ⊢
      rw [(enterDrainStep_facts _).2.2, if_pos (.inl waits), heated wet]
    · exact (descaleFillEnded_heats covered rinses).trans (heated wet)
  · rw [descaleFillEnded_rinse rinses.1 rinses.2] at loaded ⊢
    rw [(enterDrainStep_facts _).2.2, if_neg]
    rw [loaded, heated wet]
    decide

theorem fillEnded_uncovered (uncovered : lowCovered s = false) :
    (descaleFillEnded s).boiler.state = .dryFault ∧ hasFault .levelSense (descaleFillEnded s) = true := by
  obtain ⟨dry, raised⟩ := fillMet_uncovered uncovered
  obtain ⟨reacts, stays⟩ := descaleFillEnded_reacts s
  exact ⟨stays dry, (hasFault_congr reacts.faults _).trans raised⟩

theorem fillEnded_soaks (draws : s.ret.descale.phase = .draw) (covered : lowCovered s = true) :
    let u := descaleFillEnded s
    u.ret.descale.phase = .soak ∧ u.ret.descale.elapsed = 0 ∧
      u.ret.descale.total = max 900 (min (900 + 2 * s.settings.hardness) 2100) ∧ u.boiler.soakTarget = true := by
  dsimp only
  obtain ⟨record, soak, _⟩ := enterSoak_facts (fillMet s)
  rw [descaleFillEnded_soak draws covered, record, (fillMet_kept s).settings]
  exact ⟨rfl, rfl, rfl, soak⟩

theorem fillEnded_aborts (draws : s.ret.descale.phase = .draw) (uncovered : lowCovered s = false) :
    let u := descaleFillEnded s
    u.ret.descale.phase = .drainAgent ∧ u.ret.descale.aborted = true ∧ u.ret.descale.stall = .none ∧
      u.boiler.soakTarget = false ∧ (u.work.drain = true ∨ holdsDose u .ch3 = true) := by
  dsimp only
  obtain ⟨v, aborted⟩ := descaleFillEnded_aborts draws uncovered
  obtain ⟨record, soak, drains⟩ := abortWithCredit_facts v
  rw [aborted, record]
  exact ⟨rfl, rfl, rfl, soak, drains⟩

theorem fillEnded_rinses (rinses : rinseFills s) :
    let u := descaleFillEnded s
    u.ret.descale.phase = s.ret.descale.phase ∧ u.ret.descale.step = some .drain ∧
      (u.work.drain = true ∨ holdsDose u .ch3 = true) := by
  dsimp only
  obtain ⟨record, drains, _⟩ := enterDrainStep_facts (fillMet s)
  rw [descaleFillEnded_rinse rinses.1 rinses.2, record, fillMet_rinse rinses.1]
  exact ⟨rfl, rfl, drains⟩

end

/-- Settles O41: the soak's end, the load of a waiting dose, and the end of a fill, clause by clause. -/
theorem descaleAdvances : Obligations.DescaleAdvances := by
  refine ⟨soakEndDue_iff, descaleDoseDue_iff, fun s early => ?_, fun s ready soaks elapsed => ?_, fun s early => ?_,
    fun s c a ready waits => ?_, fun s d granted dose last descale once accepted => ?_, fun s =>
    ⟨fillEnded_covered, fillEnded_uncovered, fillEnded_soaks, fillEnded_aborts, fillEnded_rinses⟩⟩
  · rw [exec_soakEnd, if_neg (ne_true_of_eq_false early)]
  · rw [exec_soakEnd, if_pos ((soakEndDue_iff s).mpr ⟨ready, soaks, elapsed⟩)]
    exact ⟨_, rfl, soakEnds s⟩
  · rw [exec_descaleDoseLoad, if_neg (ne_true_of_eq_false early)]
  · have loads := doseLoads ready waits
    cases a <;> exact loads
  · have left : d.remaining ≠ 0 := by omega
    obtain ⟨boiler, inputs, work, record, _, _, faults⟩ := doseStopped_units .ch0 .done d s
    obtain ⟨_, _, chans, handsOn⟩ := doseStopped_facts (d := d) .done granted left
    refine ⟨doseStopped .ch0 .done d s, exec_flowPulse_fillEnds granted dose last descale once accepted, ?_, record,
      boiler, inputs, work, faults, handsOn⟩
    rw [chans, if_pos rfl]

end Sys2Proof.Machine
end

section
/-! SUPPORT. A command of the group DESCALE that its port receives and that no test before its owner refuses (R183): its
reply and its end are the owner's. -/

namespace Sys2Proof.Machine

/-! ## The accepted frame (R182) -/

/-- Accepting a frame moves the ports and the silence timer alone. -/
theorem acceptFrame_eq (l : Link) (s : State) :
    acceptFrame l s =
      { s with
        ports := s.ports.set l { port s l with state := .executing, quiet := 0, line := [] }
        prot := { s.prot with silence := (acceptFrame l s).prot.silence } } := by
  unfold acceptFrame
  dsimp only
  split <;> rfl

theorem acceptFrame_only (l : Link) (s : State) : ∃ p q, acceptFrame l s = { s with ports := p, prot := q } :=
  ⟨_, _, acceptFrame_eq l s⟩

/-- The locks read nothing that an accepted frame moves (R178). -/
theorem locked_acceptFrame (g : Group) (l : Link) (s : State) : locked g l (acceptFrame l s) = locked g l s := by
  rw [acceptFrame_eq]
  cases g <;> rfl

theorem port_setPort (l : Link) (p : Port) (s : State) : port (setPort l p s) l = p := by cases l <;> rfl

theorem port_acceptFrame (l : Link) (s : State) :
    port (acceptFrame l s) l = { port s l with state := .executing, quiet := 0, line := [] } := by
  rw [acceptFrame_eq]
  exact port_setPort l _ s

/-! ## A descale command that reaches its owner (R183) -/

/-- A command of the group DESCALE, decided by `own`, has reached its owner. -/
structure DecidedBy (i : Instr) (l : Link) (code : Byte) (own : State → Reply × State) (s : State) : Prop where
  runs : exec i s = onFrame l code (groupCommand .descale l true own) s
  opened : portOpen s l
  ready : s.start.ready = true
  unlocked : locked .descale l s = false

section
variable {i : Instr} {l : Link} {code : Byte} {own : State → Reply × State} {s : State}

theorem DecidedBy.answered (h : DecidedBy i l code own s) {r : Reply} {u : State}
    (decided : own (acceptFrame l s) = (r, u)) : exec i s = .next (answer l code r u) := by
  have ready : (acceptFrame l s).start.ready = true := by rw [acceptFrame_eq]; exact h.ready
  have owned : groupCommand .descale l true own (acceptFrame l s) = (r, u) := by
    unfold groupCommand decideCommand
    rw [locked_acceptFrame, h.unlocked, ready]
    exact decided
  rw [h.runs]
  unfold onFrame
  rw [if_pos h.opened, owned]

theorem DecidedBy.takes (h : DecidedBy i l code own s) {r : Reply} {u : State}
    (decided : own (acceptFrame l s) = taken r u) : exec i s = .next (answer l code r (settle u)) :=
  h.answered decided

/-- A refused command leaves nothing behind but its reply. -/
theorem DecidedBy.refuses (h : DecidedBy i l code own s) {st : Status}
    (decided : own (acceptFrame l s) = refuse st (acceptFrame l s)) : Refuses i l code st s := by
  refine ⟨_, h.answered decided, ?_, ?_⟩
  · unfold Replies answer
    rw [port_setPort, port_acceptFrame, acceptFrame_eq]
    rfl
  · unfold OnlyPorts answer
    rw [acceptFrame_eq]
    rfl

/-- The owner decides in a state that differs from the one before in the ports and the protection block alone. -/
theorem DecidedBy.accepted (h : DecidedBy i l code own s) :
    ∃ p q, acceptFrame l s = { s with ports := p, prot := q } ∧
      (∀ st, own { s with ports := p, prot := q } = refuse st { s with ports := p, prot := q } →
        Refuses i l code st s) ∧
      ∀ u, own { s with ports := p, prot := q } = taken (Reply.bare .ok) u →
        exec i s = .next (answer l code (Reply.bare .ok) (settle u)) := by
  obtain ⟨p, q, same⟩ := acceptFrame_only l s
  refine ⟨p, q, same, ?_⟩
  rw [← same]
  exact ⟨fun _ => h.refuses, fun _ => h.takes⟩

end

end Sys2Proof.Machine
end

section
/-! SUPPORT. DESCALE_START and DESCALE_CONFIRM (R116, R118, R125): the dose that a confirm asks for, the draw and the
rinse that it begins, and the owner's cases in order. -/

namespace Sys2Proof.Machine

/-! ## A stall (R125) -/

section
variable {s : State}

theorem setStall_water (x : Stall) (s : State) : (setStall x s).water = s.water := followCondition_water ..

theorem setStall_work (x : Stall) (s : State) : (setStall x s).work = s.work := followCondition_work ..

theorem setStall_boiler (x : Stall) (s : State) : (setStall x s).boiler = s.boiler := followCondition_boiler ..

theorem chan_setStall (x : Stall) (s : State) (c : Chan) : chan (setStall x s) c = chan s c :=
  congrArg (fun w : Water => w.chans.get c) (setStall_water x s)

theorem holdsDose_congr {t : State} {c : Chan} (h : chan t c = chan s c) : holdsDose t c = holdsDose s c := by
  unfold holdsDose
  rw [h]

theorem holdsDose_setStall (x : Stall) (s : State) (c : Chan) : holdsDose (setStall x s) c = holdsDose s c :=
  holdsDose_congr (chan_setStall x s c)

/-- Whether a fill stalls does not depend on the stall before it. -/
theorem fillStalls_setStall (x : Stall) (s : State) (c : Chan) : fillStalls c (setStall x s) ↔ fillStalls c s := by
  unfold fillStalls
  rw [setStall_record, setStall_boiler]

theorem setStall_steady (x : Stall) (s : State) : Steady s (setStall x s) :=
  (setStall_acts (c := .ch0) x).steady (setStall_kept x (.refl s))

/-! ## The dose that a confirm asks for (R119, R122, R125) -/

variable {c : Chan} {a : DoseAmount}

theorem wantDose_steady (c : Chan) (a : DoseAmount) (s : State) : Steady s (wantDose c a s) :=
  ((setWork_acts (c := .ch0) _).steady (setWork_kept _ (.refl s))).trans (tryDescaleDose_steady _)

/-- The fill of a rinse that meets DRY_FAULT stalls with cause DRY. -/
theorem wantDose_stalls (stalls : fillStalls c s) :
    wantDose c a s = setStall .dry (setWork { s.work with dose := none } s) :=
  tryDescaleDose_stalls (s := setWork { s.work with dose := some (c, a) } s) rfl stalls

/-- A dose whose channel is held waits. -/
theorem wantDose_waits (wet : ¬fillStalls c s) (held : holdsDose s c = true) :
    wantDose c a s = setWork { s.work with dose := some (c, a) } s :=
  tryDescaleDose_waits (s := setWork { s.work with dose := some (c, a) } s) rfl wet held

/-- A draw or a fill that CH0 takes at once (R101). -/
theorem wantDose_fills (wet : ¬fillStalls .ch0 s) (free : holdsDose s .ch0 = false) :
    let u := wantDose .ch0 a s
    u.work.dose = none ∧ chan u .ch0 = descaleLoad .block .boiler (amountPulses a s) s ∧
      u.boiler.state = if s.boiler.state = .dryFault then .dryFault else .filling :=
  tryDescaleDose_fills (s := setWork { s.work with dose := some (.ch0, a) } s) rfl wet free

/-- A flush that its channel takes at once. -/
theorem wantDose_flushes (other : c ≠ .ch0) (free : holdsDose s c = false) :
    let u := wantDose c a s
    u.work.dose = none ∧ chan u c = descaleLoad .flush .drainLine (amountPulses a s) s :=
  tryDescaleDose_flushes (s := setWork { s.work with dose := some (c, a) } s) rfl other free

/-- A dose that does not stall leaves the controller's record alone. -/
theorem wantDose_record (wet : ¬fillStalls c s) : (wantDose c a s).ret.descale = s.ret.descale := by
  by_cases held : holdsDose s c = true
  · rw [wantDose_waits wet held]
    rfl
  · have loaded : wantDose c a s =
        (let t := setWork { s.work with dose := none } s
         let n := amountPulses a s
         if c = .ch0 then
           let t := loadDose .ch0 .block .boiler .tank n false .descale t
           if t.boiler.state = .dryFault then t else enterBoiler .filling t
         else loadDose c .flush .drainLine .tank n false .descale t) := (if_neg wet).trans (if_neg held)
    have record : ∀ (c : Chan) (m : DoseMode) (dest : Destination) (n : Nat) (t : State),
        (loadDose c m dest .tank n false .descale t).ret.descale = t.ret.descale :=
      fun _ _ _ _ _ => congrArg Retained.descale (loadDose_ret ..)
    rw [loaded]
    dsimp only
    split
    · split
      · exact record ..
      · exact (enterBoiler_acts (c := .ch1) _).descale.trans (record ..)
    · exact record ..

/-- The dose as the load of the controller's own work leaves it on the channel: the flush on CH2, a draw or a fill on
CH0. -/
def descaleDose (c : Chan) (n : Nat) (s : State) : Channel :=
  descaleLoad (if c = .ch2 then .flush else .block) (if c = .ch2 then .drainLine else .boiler) n s

/-- A load is reckoned from the inputs and the settings alone. -/
theorem descaleLoad_kept {t : State} (kept : Kept s t) (m : DoseMode) (dest : Destination) (a : DoseAmount) :
    descaleLoad m dest (amountPulses a t) t = descaleLoad m dest (amountPulses a s) s := by
  rw [descaleLoad_congr kept.inputs]
  unfold amountPulses volumePulses
  rw [kept.settings]

/-- A dose on CH0 or CH2 that does not stall waits for its channel, or is taken by it. -/
theorem wantDose_facts (own : c = .ch0 ∨ c = .ch2) (wet : ¬fillStalls c s) :
    let u := wantDose c a s
    (holdsDose s c = true → u.work.dose = some (c, a) ∧ chan u c = chan s c) ∧
      (holdsDose s c = false → u.work.dose = none ∧ chan u c = descaleDose c (amountPulses a s) s) := by
  refine ⟨fun held => ?_, fun free => ?_⟩
  · rw [wantDose_waits wet held]
    exact ⟨rfl, rfl⟩
  · rcases own with rfl | rfl
    · obtain ⟨work, loaded, _⟩ := wantDose_fills wet free
      exact ⟨work, loaded⟩
    · exact wantDose_flushes (by decide) free

/-- The dose that the confirm of a stall asks for: the stall is none, and the dose waits for its channel or is taken by
it. -/
theorem wantDose_again (own : c = .ch0 ∨ c = .ch2) (wet : ¬fillStalls c s) :
    let u := wantDose c a (setStall .none s)
    Steady s u ∧ u.ret.descale.stall = .none ∧ u.ret.descale.phase = s.ret.descale.phase ∧
      (holdsDose s c = true → u.work.dose = some (c, a) ∧ chan u c = chan s c) ∧
      (holdsDose s c = false → u.work.dose = none ∧ chan u c = descaleDose c (amountPulses a s) s) := by
  dsimp only
  have still := (fillStalls_setStall .none s c).not.mpr wet
  obtain ⟨waits, taken⟩ := wantDose_facts (a := a) own still
  rw [holdsDose_setStall, chan_setStall] at waits
  rw [holdsDose_setStall] at taken
  rw [wantDose_record still, setStall_record]
  refine ⟨(setStall_steady .none s).trans (wantDose_steady ..), rfl, rfl, waits, fun free => ?_⟩
  obtain ⟨work, loaded⟩ := taken free
  exact ⟨work, loaded.trans (descaleLoad_kept (setStall_kept .none (.refl s)) ..)⟩

/-! ## The confirm of a stall (R125) -/

theorem confirmStall_level (level : s.ret.descale.stall = .level) :
    let u := confirmStall s
    Steady s u ∧ u.ret.descale.stall = .none ∧ u.ret.descale.phase = s.ret.descale.phase ∧
      (u.work.drain = true ∨ holdsDose u .ch3 = true) := by
  have drains : confirmStall s = wantDrain (setStall .none s) := by
    unfold confirmStall
    rw [level]
  have steady : Steady (setStall .none s) (wantDrain (setStall .none s)) :=
    (wantDrain_acts (c := .ch0) (by decide)).steady (wantDrain_kept (.refl _))
  dsimp only
  rw [drains, (wantDrain_record _).1, setStall_record]
  exact ⟨(setStall_steady .none s).trans steady, rfl, rfl, wantDrain_drains _⟩

theorem stalledChan_own (s : State) : stalledChan s = .ch0 ∨ stalledChan s = .ch2 := by
  unfold stalledChan
  split
  · exact .inr rfl
  · exact .inl rfl

theorem confirmStall_flow_eq (flow : s.ret.descale.stall = .flow) :
    confirmStall s = wantDose (stalledChan s) (.pulses s.work.faulted) (setStall .none s) := by
  unfold confirmStall
  rw [flow]

theorem confirmStall_flow (flow : s.ret.descale.stall = .flow) (wet : ¬fillStalls (stalledChan s) s) :
    let u := confirmStall s
    let c := stalledChan s
    Steady s u ∧ u.ret.descale.stall = .none ∧ u.ret.descale.phase = s.ret.descale.phase ∧
      (holdsDose s c = true → u.work.dose = some (c, .pulses s.work.faulted) ∧ chan u c = chan s c) ∧
      (holdsDose s c = false → u.work.dose = none ∧ chan u c = descaleDose c s.work.faulted s) := by
  dsimp only
  rw [confirmStall_flow_eq flow]
  exact wantDose_again (stalledChan_own s) wet

/-- The confirm of a FLOW stall of a rinse's fill leads to a DRY stall in DRY_FAULT (notes/assumptions/61.md). -/
theorem confirmStall_flow_dry (flow : s.ret.descale.stall = .flow) (fills : s.ret.descale.step = some .fill)
    (dry : s.boiler.state = .dryFault) :
    let u := confirmStall s
    Steady s u ∧ u.ret.descale = { s.ret.descale with stall := .dry } ∧ u.work.dose = none ∧ u.water = s.water := by
  dsimp only
  have zero : stalledChan s = .ch0 := by
    unfold stalledChan
    rw [fills]
    rfl
  have stalls : fillStalls .ch0 (setStall .none s) := (fillStalls_setStall .none s .ch0).mpr ⟨rfl, fills, dry⟩
  rw [confirmStall_flow_eq flow, zero]
  refine ⟨(setStall_steady .none s).trans (wantDose_steady ..), ?_⟩
  rw [wantDose_stalls stalls]
  exact ⟨(setStall_record ..).trans (by rw [setWork_ret, setStall_record]),
    congrArg DescaleWork.dose (setStall_work ..), (setStall_water ..).trans (setStall_water ..)⟩

theorem confirmStall_dry (stalled : s.ret.descale.stall = .dry) (wet : s.boiler.state ≠ .dryFault) :
    let u := confirmStall s
    Steady s u ∧ u.ret.descale.stall = .none ∧ u.ret.descale.phase = s.ret.descale.phase ∧
      (holdsDose s .ch0 = true → u.work.dose = some (.ch0, .millilitres 500) ∧ chan u .ch0 = chan s .ch0) ∧
      (holdsDose s .ch0 = false → u.work.dose = none ∧ u.boiler.state = .filling ∧
        chan u .ch0 = descaleLoad .block .boiler (volumePulses 500 s) s) := by
  dsimp only
  have anew : confirmStall s = wantDose .ch0 (.millilitres 500) (setStall .none s) := by
    unfold confirmStall
    rw [stalled]
  have fills : ¬fillStalls .ch0 s := fun stalls => wet stalls.2.2
  rw [anew]
  obtain ⟨steady, stall, phase, waits, taken⟩ := wantDose_again (a := .millilitres 500) (.inl rfl) fills
  refine ⟨steady, stall, phase, waits, fun free => ?_⟩
  obtain ⟨work, loaded⟩ := taken free
  obtain ⟨_, _, state⟩ := wantDose_fills (a := .millilitres 500) ((fillStalls_setStall .none s .ch0).not.mpr fills)
    ((holdsDose_setStall ..).trans free)
  rw [setStall_boiler, if_neg wet] at state
  exact ⟨work, state, loaded⟩

/-! ## The draw and the first rinse (R119, R122) -/

theorem enterPhase_steady (p : DescalePhase) (step : Option RinseStep) (s : State) :
    Steady s (enterPhase p step s) :=
  (enterPhase_acts (c := .ch0) p step).steady (enterPhase_kept p step (.refl s))

theorem chan_cancelDose {c : Chan} (h : c ≠ .ch3) (s : State) : chan (cancelDose c s) c = ⟨.idle, none⟩ := by
  unfold cancelDose
  rw [if_neg fun drain => h drain.1]
  dsimp only
  rw [chan_setChan, if_pos rfl]

/-- The entry of a phase during a descale cancels a top-up (R102). -/
theorem enterPhase_cancels {p : DescalePhase} (step : Option RinseStep) (descales : p ≠ .idle)
    (topUp : holdsFor s .ch0 .boilerControl = true ∧ modeIs .single (chan s .ch0) = true) :
    chan (enterPhase p step s) .ch0 = ⟨.idle, none⟩ := by
  unfold enterPhase
  generalize ht : followPrompt (setDescale { s.ret.descale with phase := p, step := step } s) = t
  have water : t.water = s.water := by
    rw [← ht]
    exact followCondition_water ..
  have phase : t.ret.descale.phase = p := by
    rw [← ht]
    exact congrArg (fun r : Retained => r.descale.phase) (followCondition_ret ..)
  have still : (holdsFor t .ch0 .boilerControl && modeIs .single (chan t .ch0)) = true := by
    unfold holdsFor holdsDose chan at *
    rw [water, topUp.1, topUp.2]
    rfl
  have cancelled : followTopUp t = cancelDose .ch0 t := by
    unfold followTopUp cancelTopUp
    rw [if_pos (by rw [phase, decide_eq_true descales, Bool.or_true]), if_pos still]
  unfold chan
  rw [cancelled, postBoiler_water]
  exact chan_cancelDose (by decide) t

/-- CH0 is free for the draw, once the top-up that it holds has been cancelled. -/
def drawTakes (s : State) : Prop :=
  holdsDose s .ch0 = false ∨ (holdsFor s .ch0 .boilerControl = true ∧ modeIs .single (chan s .ch0) = true)

theorem enterPhase_drawTakes {p : DescalePhase} (step : Option RinseStep) (descales : p ≠ .idle)
    (free : drawTakes s) : holdsDose (enterPhase p step s) .ch0 = false := by
  rcases free with idle | topUp
  · exact (holdsDose_congr (congrArg (fun w : Water => w.chans.get .ch0)
      (enterPhase_water p step (NoTopUp.of_free idle)))).trans idle
  · unfold holdsDose
    rw [enterPhase_cancels step descales topUp]
    rfl

theorem not_drawTakes (held : ¬drawTakes s) : holdsDose s .ch0 = true ∧ NoTopUp s := by
  obtain ⟨holds, other⟩ := not_or.mp held
  refine ⟨Bool.eq_true_of_not_eq_false holds, ?_⟩
  rcases not_and_or.mp other with requester | mode
  · exact .inl (Bool.eq_false_of_not_eq_true requester)
  · exact .inr (Bool.eq_false_of_not_eq_true mode)

/-- DRAW is entered, and its dose is taken by CH0 or waits for it (R119). -/
theorem enterDraw_facts (s : State) :
    let u := enterDraw s
    Steady s u ∧ u.ret.descale = { s.ret.descale with phase := .draw, step := none } ∧
      (drawTakes s → u.work.dose = none ∧
        u.boiler.state = (if s.boiler.state = .dryFault then .dryFault else .filling) ∧
        chan u .ch0 = descaleLoad .block .boiler (volumePulses 500 s) s) ∧
      (¬drawTakes s → u.work.dose = some (.ch0, .millilitres 500) ∧ chan u .ch0 = chan s .ch0) := by
  dsimp only
  unfold enterDraw
  have record := enterPhase_record .draw none s
  have wet : ¬fillStalls .ch0 (enterPhase .draw none s) := by
    unfold fillStalls
    rw [record]
    exact fun stalls => nomatch stalls.2.1
  refine ⟨(enterPhase_steady ..).trans (wantDose_steady ..), (wantDose_record wet).trans record, fun free => ?_,
    fun held => ?_⟩
  · obtain ⟨work, loaded, state⟩ := wantDose_fills (a := .millilitres 500) wet
      (enterPhase_drawTakes none (by decide) free)
    rw [enterPhase_boiler] at state
    exact ⟨work, state, loaded.trans (descaleLoad_kept (enterPhase_kept .draw none (.refl s)) ..)⟩
  · obtain ⟨holds, untopped⟩ := not_drawTakes held
    have same : chan (enterPhase .draw none s) .ch0 = chan s .ch0 :=
      congrArg (fun w : Water => w.chans.get .ch0) (enterPhase_water .draw none untopped)
    obtain ⟨work, record'⟩ := (wantDose_facts (a := .millilitres 500) (.inl rfl) wet).1
      ((holdsDose_congr same).trans holds)
    exact ⟨work, record'.trans same⟩

/-- A rinse is entered, and its flush is taken by CH2 or waits for it (R122). -/
theorem enterRinse_facts (p : DescalePhase) (s : State) :
    let u := enterRinse p s
    Steady s u ∧ u.ret.descale = { s.ret.descale with phase := p, step := some .flush } ∧
      (holdsDose s .ch2 = false → u.work.dose = none ∧
        chan u .ch2 = descaleLoad .flush .drainLine (volumePulses 150 s) s) ∧
      (holdsDose s .ch2 = true → u.work.dose = some (.ch2, .millilitres 150) ∧ chan u .ch2 = chan s .ch2) := by
  dsimp only
  unfold enterRinse
  have same := (enterPhase_acts (s := s) p (some .flush)).chan (.inl (show Chan.ch2 ≠ .ch0 by decide))
  have wet : ¬fillStalls .ch2 (enterPhase p (some .flush) s) := fun stalls => absurd stalls.1 (by decide)
  obtain ⟨waits, taken⟩ := wantDose_facts (a := .millilitres 150) (.inr rfl) wet
  rw [holdsDose_congr same, same] at waits
  rw [holdsDose_congr same] at taken
  refine ⟨(enterPhase_steady ..).trans (wantDose_steady ..),
    (wantDose_record wet).trans (enterPhase_record ..), fun free => ?_, waits⟩
  obtain ⟨work, loaded⟩ := taken free
  exact ⟨work, loaded.trans (descaleLoad_kept (enterPhase_kept p (some .flush) (.refl s)) ..)⟩

/-! ## DESCALE_START (R116) -/

theorem descaleBarred_iff (s : State) :
    descaleBarred s = true ↔
      FaultKind.thermalCutout ∈ s.events.faults ∨ FaultKind.heatRunaway ∈ s.events.faults ∨
        FaultKind.fanStall ∈ s.events.faults ∨ FaultKind.boilerDry ∈ s.events.faults ∨
        FaultKind.levelSense ∈ s.events.faults ∨ FaultKind.sensorBoiler ∈ s.events.faults := by
  have latched : (∃ f ∈ s.events.faults, FaultKind.latched f = true) ↔
      FaultKind.thermalCutout ∈ s.events.faults ∨ FaultKind.heatRunaway ∈ s.events.faults ∨
        FaultKind.fanStall ∈ s.events.faults ∨ FaultKind.boilerDry ∈ s.events.faults ∨
        FaultKind.levelSense ∈ s.events.faults := by
    constructor
    · rintro ⟨f, member, isLatched⟩
      cases f <;> simp_all [FaultKind.latched]
    · rintro (member | member | member | member | member) <;> exact ⟨_, member, rfl⟩
  unfold descaleBarred
  rw [Bool.or_eq_true, List.any_eq_true, latched, hasFault_iff]
  simp only [or_assoc]

theorem beginDescale_facts (s : State) :
    Steady s (beginDescale s) ∧
      (beginDescale s).ret.descale =
        { phase := .prepare, step := none, stall := .none, elapsed := 0, total := 0, aborted := false
          result := .none } := by
  have acts : WaterActs .ch0 s (beginDescale s) :=
    ((setDescale_acts _).trans (setStall_acts _)).trans (enterPhase_acts _ _)
  refine ⟨acts.steady (beginDescale_kept (.refl s)), ?_⟩
  unfold beginDescale
  rw [enterPhase_record, setStall_record]
  rfl

section
variable (idle : s.ret.descale.phase = .idle) (rests : s.ret.run.state = .idle)

theorem ownDescaleStart_active (active : s.ret.descale.phase ≠ .idle) :
    ownDescaleStart s = refuse .descaleActive s := if_pos active

include idle

theorem ownDescaleStart_inRun (runs : s.ret.run.state ≠ .idle) : ownDescaleStart s = refuse .runActive s :=
  (if_neg (not_not.mpr idle)).trans (if_pos runs)

include rests

theorem ownDescaleStart_barred (barred : descaleBarred s = true) : ownDescaleStart s = refuse .faultActive s :=
  (if_neg (not_not.mpr idle)).trans ((if_neg (not_not.mpr rests)).trans (if_pos barred))

theorem ownDescaleStart_hot (clear : ¬descaleBarred s = true) (hot : 600 ≤ s.meas.cavity ∨ 600 ≤ s.meas.boiler) :
    ownDescaleStart s = refuse .busy s := by
  unfold ownDescaleStart
  rw [if_neg (not_not.mpr idle), if_neg (not_not.mpr rests), if_neg clear, if_pos hot]

theorem ownDescaleStart_taken (clear : ¬descaleBarred s = true) (cavity : s.meas.cavity < 600)
    (boiler : s.meas.boiler < 600) : ownDescaleStart s = taken (Reply.bare .ok) (beginDescale s) := by
  unfold ownDescaleStart
  rw [if_neg (not_not.mpr idle), if_neg (not_not.mpr rests), if_neg clear, if_neg (by omega)]

end

/-! ## DESCALE_CONFIRM (R118) -/

theorem ownDescaleConfirm_stale {n : Nat} (stale : s.ret.descale.phase = .idle ∨ s.ret.descale.phase.number ≠ n) :
    ownDescaleConfirm n s = refuse .stale s := if_pos stale

section
variable {n : Nat} (active : s.ret.descale.phase ≠ .idle) (named : s.ret.descale.phase.number = n)
include active named

/-- The confirm names the phase that is in force. -/
theorem confirm_named : ¬(s.ret.descale.phase = .idle ∨ s.ret.descale.phase.number ≠ n) :=
  not_or.mpr ⟨active, not_not.mpr named⟩

theorem ownDescaleConfirm_missing (missing : tankPresent s = false) :
    ownDescaleConfirm n s = refuse .tankMissing s :=
  (if_neg (confirm_named active named)).trans (if_pos missing)

variable (present : tankPresent s = true)
include present

theorem ownDescaleConfirm_dry (stall : s.ret.descale.stall = .dry) (dry : s.boiler.state = .dryFault) :
    ownDescaleConfirm n s = refuse .faultActive s := by
  unfold ownDescaleConfirm
  rw [if_neg (confirm_named active named), if_neg (ne_false_of_eq_true present), if_pos ⟨stall, dry⟩]

theorem ownDescaleConfirm_stalled (stalled : s.ret.descale.stall ≠ .none)
    (wet : ¬(s.ret.descale.stall = .dry ∧ s.boiler.state = .dryFault)) :
    ownDescaleConfirm n s = taken (Reply.bare .ok) (confirmStall s) := by
  unfold ownDescaleConfirm
  rw [if_neg (confirm_named active named), if_neg (ne_false_of_eq_true present), if_neg wet, if_pos stalled]

variable (goes : s.ret.descale.stall = .none)
include goes

/-- Without a stall the phase alone decides. -/
theorem ownDescaleConfirm_goes (r : Reply × State)
    (agent : s.ret.descale.phase = .awaitAgent → taken (Reply.bare .ok) (enterDraw s) = r)
    (rinse : s.ret.descale.phase = .awaitRinse → taken (Reply.bare .ok) (enterRinse .rinse1 s) = r)
    (other : s.ret.descale.phase ≠ .awaitAgent → s.ret.descale.phase ≠ .awaitRinse → refuse .busy s = r) :
    ownDescaleConfirm n s = r := by
  have wet : ¬(s.ret.descale.stall = .dry ∧ s.boiler.state = .dryFault) := by simp [goes]
  unfold ownDescaleConfirm
  rw [if_neg (confirm_named active named), if_neg (ne_false_of_eq_true present), if_neg wet, if_neg (not_not.mpr goes)]
  split
  · next phase => exact agent phase
  · next phase => exact rinse phase
  · next notAgent notRinse => exact other notAgent notRinse

theorem ownDescaleConfirm_agent (agent : s.ret.descale.phase = .awaitAgent) :
    ownDescaleConfirm n s = taken (Reply.bare .ok) (enterDraw s) := by
  apply ownDescaleConfirm_goes active named present goes <;> simp [agent]

theorem ownDescaleConfirm_rinse (rinse : s.ret.descale.phase = .awaitRinse) :
    ownDescaleConfirm n s = taken (Reply.bare .ok) (enterRinse .rinse1 s) := by
  apply ownDescaleConfirm_goes active named present goes <;> simp [rinse]

theorem ownDescaleConfirm_busy (agent : s.ret.descale.phase ≠ .awaitAgent) (rinse : s.ret.descale.phase ≠ .awaitRinse) :
    ownDescaleConfirm n s = refuse .busy s := by
  apply ownDescaleConfirm_goes active named present goes <;> simp [agent, rinse]

end

end

end Sys2Proof.Machine
end

section
/-! SUPPORT. What the reactions of an abort carry on (R111, R113, R126): the agent marker, a commit that is asked for, a
level that is its deposit's, and an entry of DESCALE_ENDED. One lemma per shared operation. -/

namespace Sys2Proof.Machine

/-- The account's level is that of its deposit (R111). -/
def LevelSound (s : State) : Prop := s.scale.level = levelOf s.scale.deposit s.settings.scaleLimit

/-- What no reaction of an abort takes away. -/
structure BooksKept (s t : State) : Prop where
  marker : t.marker = s.marker
  asked : s.store.asked = true → t.store.asked = true
  level : LevelSound s → LevelSound t
  ended : ∀ (l : Link) (e : Entry), e.kind = .descaleEnded → e ∈ s.events.queues.get l → e ∈ t.events.queues.get l

section
variable {s t u : State}

theorem BooksKept.refl (s : State) : BooksKept s s := ⟨rfl, id, id, fun _ _ _ => id⟩

theorem BooksKept.trans (h : BooksKept s t) (k : BooksKept t u) : BooksKept s u where
  marker := k.marker.trans h.marker
  asked := k.asked ∘ h.asked
  level := k.level ∘ h.level
  ended l e kind := k.ended l e kind ∘ h.ended l e kind

theorem BooksKept.ite {b : Prop} [Decidable b] (ht : BooksKept s t) (hu : BooksKept s u) :
    BooksKept s (if b then t else u) := by
  split
  · exact ht
  · exact hu

/-- A raised event of DESCALE_ENDED stands with its argument in every state that keeps the books. -/
theorem BooksKept.raised {a : Option Byte} (h : BooksKept t u) (raised : RaisedTo .descaleEnded a s t) :
    RaisedTo .descaleEnded a s u := fun l steered => by
  obtain ⟨e, member, kind, fresh⟩ := raised l steered
  exact ⟨e, h.ended l e kind member, kind, fresh⟩

/-! ## Basic updates -/

theorem setDescale_booksKept (d : Descale) : BooksKept s (setDescale d s) := ⟨rfl, id, id, fun _ _ _ => id⟩

theorem setWork_booksKept (w : DescaleWork) : BooksKept s (setWork w s) := ⟨rfl, id, id, fun _ _ _ => id⟩

theorem setBoiler_booksKept (b : Boiler) : BooksKept s (setBoiler b s) := ⟨rfl, id, id, fun _ _ _ => id⟩

theorem setChan_booksKept (c : Chan) (x : Channel) : BooksKept s (setChan c x s) := ⟨rfl, id, id, fun _ _ _ => id⟩

theorem askCommit_booksKept : BooksKept s (askCommit s) := ⟨rfl, fun _ => rfl, id, fun _ _ _ => id⟩

/-- A raise takes no entry of another kind away. -/
theorem mem_placeEntry_other {k : EventKind} {e : Entry} (other : e.kind ≠ k) (a : Option Byte) (n : Nat)
    {q : List Entry} (h : e ∈ q) : e ∈ placeEntry k a n q := by
  induction q with
  | nil => exact nomatch h
  | cons x rest ih =>
    unfold placeEntry
    rcases List.mem_cons.mp h with rfl | later
    · rw [if_neg other]
      exact List.mem_cons_self
    · split
      · exact List.mem_cons_of_mem _ later
      · exact List.mem_cons_of_mem _ (ih later)

/-- The end of a condition takes no entry of another kind away. -/
theorem mem_endEntry_other {k : EventKind} {e : Entry} (other : e.kind ≠ k) {q : List Entry} (h : e ∈ q) :
    e ∈ endEntry k q := by
  induction q with
  | nil => exact nomatch h
  | cons x rest ih =>
    unfold endEntry
    rcases List.mem_cons.mp h with rfl | later
    · rw [if_neg other]
      exact List.mem_cons_self
    · split
      · split
        · exact later
        · exact List.mem_cons_of_mem _ later
      · exact List.mem_cons_of_mem _ (ih later)

theorem followCondition_booksKept {k : EventKind} (other : k ≠ .descaleEnded) (a : Option Byte) (b : Bool) :
    BooksKept s (followCondition k a b s) := by
  have differs : ∀ e : Entry, e.kind = .descaleEnded → e.kind ≠ k := fun e kind same => other (same.symm.trans kind)
  unfold followCondition
  refine .ite (.refl s) (.ite ⟨rfl, id, id, fun l e kind member => ?_⟩ ⟨rfl, id, id, fun l e kind member => ?_⟩)
  · rw [raiseEvent_queue]
    split
    · exact mem_placeEntry_other (differs e kind) _ _ member
    · exact member
  · have queue : (endCondition k s).events.queues.get l = endEntry k (s.events.queues.get l) := by cases l <;> rfl
    rw [queue]
    exact mem_endEntry_other (differs e kind) member

/-! ## The account and the channels -/

/-- Whatever the account has become, its evaluation leaves the level that is the deposit's (R111). -/
theorem evaluateLevel_booksKept (x : ScaleAccount) : BooksKept s (evaluateLevel { s with scale := x }) := by
  unfold evaluateLevel
  dsimp only
  split
  · next same => exact ⟨rfl, id, fun _ => same.symm, fun _ _ _ => id⟩
  · have level : BooksKept s { s with scale := { x with level := levelOf x.deposit s.settings.scaleLimit } } :=
      ⟨rfl, id, fun _ => rfl, fun _ _ _ => id⟩
    exact ((level.trans (followCondition_booksKept (by decide) _ _)).trans
      (followCondition_booksKept (by decide) _ _)).trans askCommit_booksKept

theorem chargeDelivered_booksKept (p : Nat) (d : Destination) : BooksKept s (chargeDelivered p d s) := by
  have charged : BooksKept s (chargeAccount p d s) := evaluateLevel_booksKept _
  unfold chargeDelivered
  rw [countSteam_eq]
  exact charged.trans ⟨rfl, id, id, fun _ _ _ => id⟩

theorem passPulses_booksKept (c : Chan) : BooksKept s (passPulses c s) := by
  unfold passPulses
  split
  · exact .refl s
  · exact .ite ((setChan_booksKept _ _).trans (chargeDelivered_booksKept _ _)) (setChan_booksKept _ _)

theorem cancelDose_booksKept (c : Chan) : BooksKept s (cancelDose c s) := by
  have released : ∀ t : State, BooksKept t (releasePath c t) := fun t => .ite ⟨rfl, id, id, fun _ _ _ => id⟩ (.refl t)
  unfold cancelDose
  exact .ite (.refl s) ((BooksKept.ite ((passPulses_booksKept c).trans (released _)) (.refl s)).trans
    (setChan_booksKept _ _))

/-! ## The boiler controller -/

theorem postBoiler_booksKept : BooksKept s (postBoiler s) := by
  rw [postBoiler_eq]
  exact ⟨rfl, id, id, fun _ _ _ => id⟩

theorem cancelTopUp_booksKept : BooksKept s (cancelTopUp s) := .ite (cancelDose_booksKept _) (.refl s)

theorem followTopUp_booksKept : BooksKept s (followTopUp s) := .ite cancelTopUp_booksKept (.refl s)

theorem enterBoiler_booksKept (st : BoilerState) : BooksKept s (enterBoiler st s) :=
  .ite (.refl s) ((BooksKept.ite (setBoiler_booksKept _)
    ((setBoiler_booksKept _).trans cancelTopUp_booksKept)).trans postBoiler_booksKept)

theorem markDrain_booksKept (b : Bool) : BooksKept s (markDrain b s) :=
  (BooksKept.ite ((setBoiler_booksKept _).trans cancelTopUp_booksKept) (setBoiler_booksKept _)).trans
    postBoiler_booksKept

theorem loadDrain_booksKept (r : Requester) : BooksKept s (loadDrain r s) := by
  have drains : ∀ t : State, BooksKept t (if t.boiler.state = .dryFault then t else enterBoiler .draining t) :=
    fun t => .ite (.refl t) (enterBoiler_booksKept _)
  have clocked : ∀ t : State, BooksKept t { t with water := { t.water with drainClock := 0 } } :=
    fun _ => ⟨rfl, id, id, fun _ _ _ => id⟩
  exact .ite (.refl s)
    ((((setChan_booksKept _ _).trans (clocked _)).trans (markDrain_booksKept false)).trans (drains _))

/-! ## The descale controller -/

theorem followPrompt_booksKept : BooksKept s (followPrompt s) := followCondition_booksKept (by decide) _ _

theorem enterPhase_booksKept (p : DescalePhase) (step : Option RinseStep) : BooksKept s (enterPhase p step s) :=
  (((setDescale_booksKept _).trans followPrompt_booksKept).trans followTopUp_booksKept).trans postBoiler_booksKept

theorem setStall_booksKept (x : Stall) : BooksKept s (setStall x s) :=
  (setDescale_booksKept _).trans followPrompt_booksKept

theorem withdrawSoakTarget_booksKept : BooksKept s (withdrawSoakTarget s) :=
  (setBoiler_booksKept _).trans postBoiler_booksKept

theorem wantDrain_booksKept : BooksKept s (wantDrain s) := by
  rw [wantDrain_eq]
  exact .ite ((setWork_booksKept _).trans (loadDrain_booksKept _)) (setWork_booksKept _)

theorem boilerAfterFill_booksKept : BooksKept s (boilerAfterFill s) := .ite (.refl s) (enterBoiler_booksKept _)

theorem cancelDescaleFill_booksKept : BooksKept s (cancelDescaleFill s) :=
  .ite ((cancelDose_booksKept _).trans boilerAfterFill_booksKept) (.refl s)

/-- The abort credit asks for a commit and leaves the level of the deposit (R111, R113). -/
theorem creditAbort_booksKept : BooksKept s (creditAbort s) :=
  (evaluateLevel_booksKept _).trans askCommit_booksKept

end

end Sys2Proof.Machine
end

section
/-! SUPPORT. DESCALE_ABORT with the marker clear (R126): the controller's doses are cancelled, the soak target withdrawn
and DESCALE_ENDED raised. -/

namespace Sys2Proof.Machine

/-! ## A channel without a dose of the controller -/

/-- Between `s` and `t` a channel that held no dose of the descale controller has not come to hold one. -/
def StaysFreed (c : Chan) (s t : State) : Prop := holdsFor s c .descale = false → holdsFor t c .descale = false

section
variable {c : Chan} {s t u : State}

theorem StaysFreed.refl (c : Chan) (s : State) : StaysFreed c s s := id

theorem StaysFreed.trans (h : StaysFreed c s t) (k : StaysFreed c t u) : StaysFreed c s u := k ∘ h

theorem StaysFreed.ite {b : Prop} [Decidable b] (ht : StaysFreed c s t) (hu : StaysFreed c s u) :
    StaysFreed c s (if b then t else u) := by
  split
  · exact ht
  · exact hu

theorem holdsFor_congr (r : Requester) (h : chan t c = chan s c) : holdsFor t c r = holdsFor s c r := by
  unfold holdsFor holdsDose
  rw [h]

theorem StaysFreed.same (h : t.water = s.water) : StaysFreed c s t := fun free =>
  (holdsFor_congr _ (congrArg (fun w : Water => w.chans.get c) h)).trans free

theorem holdsFor_idle (r : Requester) (h : chan s c = ⟨.idle, none⟩) : holdsFor s c r = false := by
  unfold holdsFor holdsDose
  rw [h]
  rfl

theorem cancelDose_staysFreed {c' : Chan} (h : c' ≠ .ch3) : StaysFreed c s (cancelDose c' s) := fun free => by
  by_cases same : c = c'
  · exact holdsFor_idle _ (same ▸ chan_cancelDose h s)
  · exact (holdsFor_congr _ (chan_cancelDose_other same s)).trans free

theorem cancelTopUp_staysFreed : StaysFreed c s (cancelTopUp s) := .ite (cancelDose_staysFreed (by decide)) (.refl c s)

theorem followTopUp_staysFreed : StaysFreed c s (followTopUp s) := .ite cancelTopUp_staysFreed (.refl c s)

theorem postBoiler_staysFreed : StaysFreed c s (postBoiler s) := .same (postBoiler_water s)

theorem enterBoiler_staysFreed (st : BoilerState) : StaysFreed c s (enterBoiler st s) := by
  have set : ∀ b : Boiler, StaysFreed c s (setBoiler b s) := fun _ => .same rfl
  exact .ite (.refl c s) ((StaysFreed.ite (set _) ((set _).trans cancelTopUp_staysFreed)).trans postBoiler_staysFreed)

theorem markDrain_staysFreed (b : Bool) : StaysFreed c s (markDrain b s) := by
  have set : StaysFreed c s (setBoiler { s.boiler with drainPending := b } s) := .same rfl
  exact (StaysFreed.ite (set.trans cancelTopUp_staysFreed) set).trans postBoiler_staysFreed

theorem enterPhase_staysFreed (p : DescalePhase) (step : Option RinseStep) : StaysFreed c s (enterPhase p step s) := by
  have prompted : StaysFreed c s (followPrompt (setDescale { s.ret.descale with phase := p, step := step } s)) :=
    .same (followCondition_water ..)
  exact (prompted.trans followTopUp_staysFreed).trans postBoiler_staysFreed

/-- The dose that the controller holds is cancelled (R126). -/
theorem cancelOwn_frees (h : c ≠ .ch3) (s : State) : holdsFor (cancelOwn c s) c .descale = false := by
  unfold cancelOwn
  split
  · exact holdsFor_idle _ (chan_cancelDose h s)
  · next none => exact Bool.eq_false_of_not_eq_true none

theorem cancelOwn_staysFreed {c' : Chan} (h : c' ≠ .ch3) : StaysFreed c s (cancelOwn c' s) :=
  .ite (cancelDose_staysFreed h) (.refl c s)

theorem cancelDescaleFill_frees (s : State) : holdsFor (cancelDescaleFill s) .ch0 .descale = false := by
  have stays : ∀ t : State, StaysFreed .ch0 t (boilerAfterFill t) :=
    fun t => .ite (.refl _ t) (enterBoiler_staysFreed _)
  unfold cancelDescaleFill
  split
  · exact stays _ (holdsFor_idle _ (chan_cancelDose (by decide) s))
  · next none => exact Bool.eq_false_of_not_eq_true none

/-- Cancelling a dose of the controller touches its channel alone, and none that holds no dose. -/
theorem cancelOwn_acts {c' : Chan} (h : c ≠ c' ∨ holdsDose s c = false) : BoilerActs c s (cancelOwn c' s) := by
  unfold cancelOwn
  split
  · next held =>
    refine (cancelDose_chargeOnly c' s).acts cancelDose_settling fun _ => chan_cancelDose_other ?_ s
    rintro rfl
    exact h.elim (fun other => other rfl) fun free => absurd (free.symm.trans (holdsFor_holds held)) (by decide)
  · exact .refl c s

theorem raiseEvent_acts (k : EventKind) (a : Option Byte) : BoilerActs c s (raiseEvent k a s) :=
  ⟨⟨rfl, rfl, rfl, id, fun _ => rfl⟩, rfl, rfl, rfl⟩

theorem markDrain_boiler (b : Bool) (s : State) :
    (markDrain b s).boiler = { s.boiler with drainPending := b } := by
  unfold markDrain
  rw [postBoiler_boiler]
  split
  · exact cancelTopUp_boiler _
  · rfl

theorem withdrawSoakTarget_boiler (s : State) :
    (withdrawSoakTarget s).boiler = { s.boiler with soakTarget := false } := postBoiler_boiler _

/-! ## The abort, step by step -/

/-- The abort has dropped the work that waits and cancelled the doses on CH0 and CH2. -/
def abortStopped (s : State) : State :=
  cancelOwn .ch2 (cancelDescaleFill (setWork { s.work with dose := none, drain := false } s))

/-- The abort has handed the boiler back: a drain is pending where BOILER_LOW is covered, and the soak target and the
stall are withdrawn. -/
def abortReleased (s : State) : State :=
  let t := abortStopped s
  setStall .none (withdrawSoakTarget (if lowCovered t then markDrain true t else t))

/-- DESCALE_ENDED is raised, and the result is ABORTED. -/
def endAborted (s : State) : State :=
  raiseEvent .descaleEnded none (setDescale { s.ret.descale with result := .aborted } s)

theorem abortClean_eq (s : State) : abortClean s = enterPhase .idle none (endAborted (abortReleased s)) := rfl

theorem endAborted_record (s : State) :
    (endAborted s).ret.descale = { s.ret.descale with result := .aborted } := rfl

theorem endAborted_work (s : State) : (endAborted s).work = s.work := rfl

theorem endAborted_boiler (s : State) : (endAborted s).boiler = s.boiler := rfl

theorem endAborted_staysFreed : StaysFreed c s (endAborted s) := .same rfl

theorem endAborted_acts : WaterActs c s (endAborted s) := (setDescale_acts _).trans (raiseEvent_acts _ _).toWaterActs

theorem endAborted_raised (s : State) : RaisedTo .descaleEnded none s (endAborted s) :=
  raiseEvent_raised .descaleEnded none (setDescale { s.ret.descale with result := .aborted } s)

/-- The doses are gone, and nothing else of the controller's has moved. -/
theorem abortStopped_facts (s : State) :
    (abortStopped s).ret.descale = s.ret.descale ∧
      (abortStopped s).work.dose = none ∧ (abortStopped s).work.drain = false ∧
      holdsFor (abortStopped s) .ch0 .descale = false ∧ holdsFor (abortStopped s) .ch2 .descale = false := by
  have filled := cancelDescaleFill_acts (c := .ch0) (s := setWork { s.work with dose := none, drain := false } s)
  have freed := cancelDescaleFill_frees (setWork { s.work with dose := none, drain := false } s)
  unfold abortStopped
  generalize cancelDescaleFill (setWork { s.work with dose := none, drain := false } s) = t at filled freed ⊢
  have flushed := cancelOwn_acts (c := .ch0) (s := t) (c' := .ch2) (.inl (by decide))
  have work := flushed.work.trans filled.work
  exact ⟨flushed.descale.trans filled.descale, congrArg DescaleWork.dose work, congrArg DescaleWork.drain work,
    cancelOwn_staysFreed (by decide) freed, cancelOwn_frees (by decide) t⟩

theorem abortStopped_acts (h : c ≠ .ch2 ∨ holdsDose s c = false) : WaterActs c s (abortStopped s) := by
  have filled : WaterActs c s (cancelDescaleFill (setWork { s.work with dose := none, drain := false } s)) :=
    (setWork_acts _).trans cancelDescaleFill_acts.toWaterActs
  refine filled.trans (cancelOwn_acts (h.imp_right fun free => ?_)).toWaterActs
  exact (holdsDose_congr (filled.chan (.inr free))).trans free

theorem abortReleased_acts : WaterActs c (abortStopped s) (abortReleased s) :=
  ((WaterActs.ite (markDrain_acts true).toWaterActs (BoilerActs.refl c _).toWaterActs).trans
    ((setBoiler_waterActs _).trans withdrawSoakTarget_reaches.toWaterActs)).trans (setStall_acts .none)

theorem abortClean_acts (h : c ≠ .ch2 ∨ holdsDose s c = false) : WaterActs c s (abortClean s) :=
  (((abortStopped_acts h).trans abortReleased_acts).trans endAborted_acts).trans (enterPhase_acts .idle none)

/-- The soak target and the stall are gone, and a covered boiler has its drain pending. -/
theorem abortReleased_facts (s : State) :
    (abortReleased s).ret.descale = { (abortStopped s).ret.descale with stall := .none } ∧
      (abortReleased s).work = (abortStopped s).work ∧ (abortReleased s).boiler.soakTarget = false ∧
      (lowCovered (abortStopped s) = true → (abortReleased s).boiler.drainPending = true) := by
  have marks : BoilerActs .ch0 (abortStopped s)
      (if lowCovered (abortStopped s) then markDrain true (abortStopped s) else abortStopped s) :=
    .ite (markDrain_acts true) (.refl _ _)
  have pending : lowCovered (abortStopped s) = true →
      (if lowCovered (abortStopped s) then markDrain true (abortStopped s)
        else abortStopped s).boiler.drainPending = true := fun covered => by
    rw [if_pos covered, markDrain_boiler]
  unfold abortReleased
  dsimp only
  generalize (if lowCovered (abortStopped s) then markDrain true (abortStopped s) else abortStopped s) = t
    at marks pending ⊢
  have withdrawn := withdrawSoakTarget_reaches (c := .ch0) (s := t)
  rw [setStall_record, setStall_boiler, setStall_work, withdrawSoakTarget_boiler]
  exact ⟨by rw [withdrawn.descale.trans marks.descale], withdrawn.work.trans marks.work, rfl, pending⟩

theorem abortReleased_staysFreed : StaysFreed c (abortStopped s) (abortReleased s) := by
  have withdrawn : ∀ t : State, StaysFreed c t (withdrawSoakTarget t) := fun t => .same (postBoiler_water _)
  exact ((StaysFreed.ite (markDrain_staysFreed true) (.refl c _)).trans (withdrawn _)).trans
    (.same (setStall_water .none _))

/-- The abort with the marker clear: DESCALE_ENDED is raised, and the controller is IDLE without work, without a soak
target and without a dose; a channel in FAULT stays so (R126; notes/assumptions/64.md). -/
theorem abortClean_facts (s : State) :
    let u := abortClean s
    Steady s u ∧ RaisedTo .descaleEnded none s u ∧
      u.ret.descale = { s.ret.descale with phase := .idle, step := none, stall := .none, result := .aborted } ∧
      u.boiler.soakTarget = false ∧ u.work.dose = none ∧ u.work.drain = false ∧
      (∀ c : Chan, c = .ch0 ∨ c = .ch2 → holdsFor u c .descale = false ∧
        (requesterIs .descale (chan s c) = true → (chan s c).state = .fault → chan u c = chan s c)) ∧
      (lowCovered s = true → u.boiler.drainPending = true) := by
  dsimp only
  obtain ⟨record, dose, drain, filled, flushed⟩ := abortStopped_facts s
  obtain ⟨released, work, soak, pending⟩ := abortReleased_facts s
  have before : WaterActs .ch0 s (abortReleased s) := (abortStopped_acts (.inl (by decide))).trans abortReleased_acts
  have stopped : Kept s (abortStopped s) :=
    cancelOwn_kept .ch2 (cancelDescaleFill_kept (setWork_kept _ (.refl s)))
  have raised : RaisedTo .descaleEnded none s (endAborted (abortReleased s)) := fun l steered =>
    endAborted_raised (abortReleased s) l (by rw [before.steering]; exact steered)
  have ended := (enterPhase_reaches (c := .ch0) (s := endAborted (abortReleased s)) .idle none).work
  rw [abortClean_eq, enterPhase_record, enterPhase_boiler, ended, endAborted_record, endAborted_boiler, setDescale_work,
    endAborted_work, work, released, record]
  refine ⟨(abortClean_acts (.inl (show Chan.ch0 ≠ .ch2 by decide))).steady (abortClean_kept (.refl s)),
    (enterPhase_booksKept .idle none).raised raised, rfl, soak, dose, drain, fun c own => ⟨?_, fun _ fault => ?_⟩,
    fun covered => pending ?_⟩
  · have freed : holdsFor (abortStopped s) c .descale = false := own.elim (· ▸ filled) (· ▸ flushed)
    exact enterPhase_staysFreed .idle none (endAborted_staysFreed (abortReleased_staysFreed freed))
  · have free : holdsDose s c = false := (holdsDose_false_iff s c).mpr (.inr (.inr fault))
    exact (abortClean_acts (.inr free)).chan (.inr free)
  · unfold lowCovered at covered ⊢
    rw [stopped.inputs]
    exact covered

end

end Sys2Proof.Machine
end

section
/-! SUPPORT. DESCALE_ABORT with the marker set (R113, R126): the draw is cancelled with its pulses charged, the credit
taken, and the drain of DRAIN_AGENT loaded or awaited. -/

namespace Sys2Proof.Machine

/-! ## The cancelled draw (R95, R96, R101) -/

section
variable {s t : State} {c : Chan} {d : Dose}

/-- A cancelled dose that runs hands on the pulses that it has not been charged with (R96). -/
theorem cancelDose_handsOn (h : c ≠ .ch3) (runs : (chan s c).state = .running) (dose : (chan s c).dose = some d) :
    HandsOn (d.delivered - d.charged) d s (cancelDose c s) := by
  have released : ∀ t : State, ChargesNothing t (releasePath c t) := fun t => by
    unfold releasePath
    split <;> exact ⟨rfl, rfl, rfl⟩
  unfold cancelDose
  rw [if_neg fun drain => h drain.1, if_pos runs]
  exact ((passPulses_handsOn dose).1.after (released _)).after ⟨rfl, rfl, rfl⟩

/-- A cancelled dose that holds the path has it settle (R85). -/
theorem cancelDose_releases (h : c ≠ .ch3) (runs : (chan s c).state = .running)
    (granted : s.water.path = .granted c) :
    (cancelDose c s).water.path = .settling ∧ (cancelDose c s).water.settleTimer = 0 := by
  have holds : holdsPath c (passPulses c s) = true := decide_eq_true ((passPulses_path c s).trans granted)
  unfold cancelDose
  rw [if_neg fun drain => h drain.1, if_pos runs]
  unfold releasePath
  rw [if_pos holds]
  exact ⟨rfl, rfl⟩

theorem not_running_of_free (free : holdsDose s c = false) : (chan s c).state ≠ .running := fun runs => by
  unfold holdsDose at free
  rw [runs] at free
  exact absurd free (by decide)

/-- With CH0 free a change of the boiler's state leaves the water unit and the account alone. -/
theorem enterBoiler_free (st : BoilerState) (free : holdsDose s .ch0 = false) :
    (enterBoiler st s).water = s.water ∧ (enterBoiler st s).scale = s.scale :=
  ⟨enterBoiler_water st (NoTopUp.of_free free), (enterBoiler_uncharged st (not_running_of_free free)).2.1⟩

theorem holdsDose_cancelDose (s : State) : holdsDose (cancelDose .ch0 s) .ch0 = false := by
  unfold holdsDose
  rw [chan_cancelDose (by decide)]
  rfl

/-- The boiler's state once a draw that CH0 holds has been cancelled: by its level, and DRY_FAULT stays (R101;
notes/assumptions/38.md). -/
def stateAfterDraw (s : State) : BoilerState :=
  if holdsFor s .ch0 .descale = true ∧ s.boiler.state ≠ .dryFault then boilerByLevel s else s.boiler.state

theorem cancelDescaleFill_state (s : State) : (cancelDescaleFill s).boiler.state = stateAfterDraw s := by
  have level : boilerByLevel (cancelDose .ch0 s) = boilerByLevel s := by
    unfold boilerByLevel lowCovered
    rw [(cancelDose_kept .ch0 (.refl s)).inputs]
  unfold cancelDescaleFill boilerAfterFill stateAfterDraw
  rw [cancelDose_boiler, level]
  by_cases draws : holdsFor s .ch0 .descale = true
  · by_cases dry : s.boiler.state = .dryFault
    · rw [if_pos draws, if_pos dry, if_neg fun wet => wet.2 dry, cancelDose_boiler]
    · rw [if_pos draws, if_neg dry, if_pos ⟨draws, dry⟩, enterBoiler_state]
  · rw [if_neg draws, if_neg fun wet => draws wet.1]

theorem cancelDescaleFill_draws (draws : holdsFor s .ch0 .descale = true) :
    (cancelDescaleFill s).water = (cancelDose .ch0 s).water ∧
      (cancelDescaleFill s).scale = (cancelDose .ch0 s).scale := by
  unfold cancelDescaleFill boilerAfterFill
  rw [if_pos draws]
  split
  · exact ⟨rfl, rfl⟩
  · exact enterBoiler_free _ (holdsDose_cancelDose s)

theorem cancelDescaleFill_idle (none : holdsFor s .ch0 .descale = false) : cancelDescaleFill s = s :=
  if_neg (ne_true_of_eq_false none)

/-! ## The credit (R113) -/

/-- The account after the abort credit on the soak's seconds. -/
def creditedScale (d : Descale) (limit : Nat) (a : ScaleAccount) : ScaleAccount :=
  let deposit := a.deposit - a.deposit * d.elapsed / d.total
  { deposit := deposit, carry := a.carry, level := levelOf deposit limit }

theorem creditAbort_only (s : State) :
    ∃ (e : EventBlock) (st : Store), creditAbort s =
      { s with
        scale := creditedScale s.ret.descale s.settings.scaleLimit s.scale, events := e
        store := { st with asked := true } } := by
  unfold creditAbort
  dsimp only
  generalize hx : State.mk _ _ _ _ _ _ _ _ _ _ _ _ _ _ _ _ _ _ _ _ _ _ = x
  obtain ⟨e, st, h⟩ := evaluateLevel_eq x
  refine ⟨e, st, ?_⟩
  rw [h, ← hx]
  rfl

theorem creditAbort_asked (s : State) : (creditAbort s).store.asked = true := rfl

/-- Once the draw is cancelled, the abort's credit is all that moves the account, and the soak target all that moves the
boiler's record, before DRAIN_AGENT is entered. -/
theorem abortCredited_units (s : State) :
    let a := cancelDescaleFill (setWork { s.work with dose := none } s)
    (abortCredited s).water = a.water ∧ (abortCredited s).boiler = { a.boiler with soakTarget := false } ∧
      (abortCredited s).scale = creditedScale s.ret.descale s.settings.scaleLimit a.scale ∧
      (abortCredited s).work = { s.work with dose := none } := by
  dsimp only
  have cancelled := cancelDescaleFill_acts (c := .ch0) (s := setWork { s.work with dose := none } s)
  have kept : Kept s (cancelDescaleFill (setWork { s.work with dose := none } s)) :=
    cancelDescaleFill_kept (setWork_kept _ (.refl s))
  unfold abortCredited
  dsimp only
  generalize cancelDescaleFill (setWork { s.work with dose := none } s) = a at cancelled kept ⊢
  have withdrawn : withdrawSoakTarget a =
      { a with boiler := { a.boiler with soakTarget := false }, share := (withdrawSoakTarget a).share } := by
    unfold withdrawSoakTarget
    rw [postBoiler_eq]
    rfl
  obtain ⟨e, st, credited⟩ := creditAbort_only (withdrawSoakTarget a)
  have scale : (setStall .none
      (setDescale { (creditAbort (withdrawSoakTarget a)).ret.descale with aborted := true }
        (creditAbort (withdrawSoakTarget a)))).scale = (creditAbort (withdrawSoakTarget a)).scale :=
    followCondition_scale ..
  rw [setStall_water, setStall_boiler, setStall_work, setDescale_water, setDescale_boiler, setDescale_work, scale,
    credited, withdrawn]
  refine ⟨rfl, rfl, ?_, cancelled.work⟩
  show creditedScale a.ret.descale a.settings.scaleLimit a.scale = _
  rw [cancelled.descale, kept.settings]
  rfl

/-! ## The drain of DRAIN_AGENT (R98, R106, R121) -/

/-- CH3 as the load of a drain leaves it. -/
def drainLoad (r : Requester) (s : State) : Channel :=
  ⟨if serviceHold s then .requesting else .running,
    some
      { mode := .block, destination := .out, source := none, base := 45, remaining := 45, delivered := 0
        charged := 0, reload := false, requester := r, portion := 0, portionLeft := 0 }⟩

theorem drainLoad_congr {r : Requester} (out : t.out = s.out) : drainLoad r t = drainLoad r s := by
  unfold drainLoad serviceHold override forceEntry inPulse
  rw [out]

/-- CH3 has taken a drain, and none is pending. -/
def drainTaken (r : Requester) (s : State) : State :=
  let t := setChan .ch3 (drainLoad r s) s
  markDrain false { t with water := { t.water with drainClock := 0 } }

theorem loadDrain_eq (r : Requester) (free : holdsDose s .ch3 = false) :
    loadDrain r s =
      if (drainTaken r s).boiler.state = .dryFault then drainTaken r s
      else enterBoiler .draining (drainTaken r s) := if_neg (ne_true_of_eq_false free)

theorem drainTaken_units (r : Requester) (s : State) :
    (drainTaken r s).water =
        { s.water with chans := s.water.chans.set .ch3 (drainLoad r s), drainClock := 0 } ∧
      (drainTaken r s).boiler = { s.boiler with drainPending := false } ∧ (drainTaken r s).scale = s.scale := by
  unfold drainTaken markDrain
  rw [postBoiler_eq]
  exact ⟨rfl, rfl, rfl⟩

theorem chan_drainTaken (r : Requester) (s : State) (c : Chan) :
    chan (drainTaken r s) c = if c = .ch3 then drainLoad r s else chan s c := by
  unfold chan
  rw [(drainTaken_units r s).1]
  exact Channels.get_set ..

/-- A drain that CH3 takes: it runs, unless a service hold applies, and none is pending any more. -/
theorem loadDrain_taken (r : Requester) (free : holdsDose s .ch3 = false) :
    (loadDrain r s).boiler.drainPending = false ∧ chan (loadDrain r s) .ch3 = drainLoad r s := by
  have pending : (drainTaken r s).boiler.drainPending = false := by rw [(drainTaken_units r s).2.1]
  have record : chan (drainTaken r s) .ch3 = drainLoad r s := (chan_drainTaken r s .ch3).trans (if_pos rfl)
  rw [loadDrain_eq r free]
  split
  · exact ⟨pending, record⟩
  · exact ⟨(enterBoiler_drainPending (by decide) _).trans pending,
      ((enterBoiler_acts _).chan (.inl (by decide))).trans record⟩

/-- With CH0 free the load of a drain leaves the path and the account alone. -/
theorem loadDrain_free (r : Requester) (free : holdsDose s .ch0 = false) :
    (loadDrain r s).water.path = s.water.path ∧ (loadDrain r s).water.settleTimer = s.water.settleTimer ∧
      (loadDrain r s).scale = s.scale := by
  cases taken : holdsDose s .ch3 with
  | true =>
    unfold loadDrain
    rw [if_pos taken]
    exact ⟨rfl, rfl, rfl⟩
  | false =>
    obtain ⟨water, _, scale⟩ := drainTaken_units r s
    have still : holdsDose (drainTaken r s) .ch0 = false := (holdsDose_congr (chan_drainTaken r s .ch0)).trans free
    rw [loadDrain_eq r taken]
    split
    · rw [water, scale]
      exact ⟨rfl, rfl, rfl⟩
    · obtain ⟨sameWater, sameScale⟩ := enterBoiler_free .draining still
      rw [sameWater, sameScale, water, scale]
      exact ⟨rfl, rfl, rfl⟩

/-- A drain can be loaded: CH3 is free and, with SUPPLY at TANK, the tank is in its bay (R121). -/
def drainFits (s : State) : Prop :=
  holdsDose s .ch3 = false ∧ (s.start.straps.supply = .tank → tankPresent s = true)

theorem drainFits_iff (s : State) :
    drainFits s ↔ (!holdsDose s .ch3 && (!tankOven s || tankPresent s)) = true := by
  unfold drainFits tankOven
  cases holdsDose s .ch3 <;> cases tankPresent s <;> simp

theorem wantDrain_fits (fits : drainFits s) :
    wantDrain s = loadDrain .descale (setWork { s.work with drain := false } s) := by
  rw [wantDrain_eq, if_pos ((drainFits_iff s).mp fits)]

theorem wantDrain_waits (waits : ¬drainFits s) : wantDrain s = setWork { s.work with drain := true } s := by
  rw [wantDrain_eq, if_neg (mt (drainFits_iff s).mpr waits)]

theorem wantDrain_dose (s : State) : (wantDrain s).work.dose = s.work.dose := by
  by_cases fits : drainFits s
  · rw [wantDrain_fits fits, (loadDrain_acts (c := .ch0) (by decide) _).work, setWork_work]
  · rw [wantDrain_waits fits]
    rfl

theorem wantDrain_free (free : holdsDose s .ch0 = false) :
    (wantDrain s).water.path = s.water.path ∧ (wantDrain s).water.settleTimer = s.water.settleTimer ∧
      (wantDrain s).scale = s.scale := by
  by_cases fits : drainFits s
  · rw [wantDrain_fits fits]
    exact loadDrain_free (s := setWork { s.work with drain := false } s) .descale free
  · rw [wantDrain_waits fits]
    exact ⟨rfl, rfl, rfl⟩

/-- With CH0 free the entry of DRAIN_AGENT leaves CH0, the path and the account alone. -/
theorem enterDrainAgent_free (free : holdsDose s .ch0 = false) :
    let u := enterDrainAgent s
    chan u .ch0 = chan s .ch0 ∧ u.water.path = s.water.path ∧ u.water.settleTimer = s.water.settleTimer ∧
      u.scale = s.scale := by
  dsimp only
  have water := enterPhase_water .drainAgent none (NoTopUp.of_free free)
  have scale := (enterPhase_uncharged .drainAgent none (not_running_of_free free)).2.1
  have same : chan (enterPhase .drainAgent none s) .ch0 = chan s .ch0 := by
    unfold chan
    rw [water]
  have still := (holdsDose_congr same).trans free
  obtain ⟨path, timer, account⟩ := wantDrain_free still
  refine ⟨?_, path.trans (by rw [water]), timer.trans (by rw [water]), account.trans scale⟩
  exact ((wantDrain_acts (by decide)).chan (.inr still)).trans same

/-- The drain of DRAIN_AGENT is loaded where it fits, and waits otherwise (R121; notes/assumptions/37.md). -/
theorem enterDrainAgent_drain (s : State) :
    let u := enterDrainAgent s
    (drainFits s → u.work.drain = false ∧ u.boiler.drainPending = false ∧
      u.boiler.state = (if s.boiler.state = .dryFault then .dryFault else .draining) ∧
      chan u .ch3 = drainLoad .descale s) ∧
    (¬drainFits s → u.work.drain = true ∧ u.boiler.state = s.boiler.state ∧ chan u .ch3 = chan s .ch3) := by
  dsimp only
  have acts := enterPhase_acts (c := .ch3) (s := s) .drainAgent none
  have same : chan (enterPhase .drainAgent none s) .ch3 = chan s .ch3 := acts.chan (.inl (by decide))
  have boiler := enterPhase_boiler .drainAgent none s
  have kept := enterPhase_kept .drainAgent none (.refl s)
  have fitsSame : drainFits (enterPhase .drainAgent none s) ↔ drainFits s := by
    unfold drainFits tankPresent
    rw [holdsDose_congr same, kept.start, kept.inputs]
  unfold enterDrainAgent
  refine ⟨fun fits => ?_, fun waits => ?_⟩
  · have there := fitsSame.mpr fits
    rw [wantDrain_fits there, ← boiler, ← drainLoad_congr acts.out]
    generalize enterPhase .drainAgent none s = t at there
    obtain ⟨pending, record⟩ := loadDrain_taken (s := setWork { t.work with drain := false } t) .descale there.1
    have state := (loadDrain_loaded (s := setWork { t.work with drain := false } t) .descale there.1).2
    exact ⟨congrArg DescaleWork.drain (loadDrain_acts (c := .ch0) (by decide) _).work, pending, state, record⟩
  · rw [wantDrain_waits (mt fitsSame.mp waits), ← boiler, ← same]
    exact ⟨rfl, rfl, rfl⟩

/-! ## The abort as a whole (R126) -/

/-- The abort leaves the marker set, asks for a commit and leaves the level of the deposit (R111, R126). -/
theorem abortWithCredit_books (s : State) :
    let u := abortWithCredit s
    u.marker = s.marker ∧ u.store.asked = true ∧ u.scale.level = levelOf u.scale.deposit s.settings.scaleLimit := by
  dsimp only
  have kept : Kept s (abortWithCredit s) := abortWithCredit_kept (.refl s)
  have before : BooksKept s (withdrawSoakTarget (cancelDescaleFill (setWork { s.work with dose := none } s))) :=
    ((setWork_booksKept _).trans cancelDescaleFill_booksKept).trans withdrawSoakTarget_booksKept
  rw [abortWithCredit_eq] at kept ⊢
  unfold abortCredited at kept ⊢
  dsimp only at kept ⊢
  generalize withdrawSoakTarget (cancelDescaleFill (setWork { s.work with dose := none } s)) = t at before kept ⊢
  obtain ⟨e, st, credited⟩ := creditAbort_only t
  have sound : LevelSound (creditAbort t) := by
    rw [credited]
    rfl
  have after : BooksKept (creditAbort t)
      (enterDrainAgent
        (setStall .none (setDescale { (creditAbort t).ret.descale with aborted := true } (creditAbort t)))) :=
    (((setDescale_booksKept _).trans (setStall_booksKept _)).trans (enterPhase_booksKept _ _)).trans
      wantDrain_booksKept
  refine ⟨after.marker.trans (creditAbort_booksKept.marker.trans before.marker),
    after.asked (creditAbort_asked t), ?_⟩
  have level := after.level sound
  unfold LevelSound at level
  rw [kept.settings] at level
  exact level

/-- The cancelled draw, the credit and the drain, seen from the state in which the abort begins. -/
theorem abortWithCredit_free
    (free : holdsDose (cancelDescaleFill (setWork { s.work with dose := none } s)) .ch0 = false) :
    let a := cancelDescaleFill (setWork { s.work with dose := none } s)
    let u := abortWithCredit s
    chan u .ch0 = chan a .ch0 ∧ u.water.path = a.water.path ∧ u.water.settleTimer = a.water.settleTimer ∧
      u.scale = creditedScale s.ret.descale s.settings.scaleLimit a.scale := by
  dsimp only
  obtain ⟨water, _, scale, _⟩ := abortCredited_units s
  have same : chan (abortCredited s) .ch0 = chan (cancelDescaleFill (setWork { s.work with dose := none } s)) .ch0 := by
    unfold chan
    rw [water]
  obtain ⟨record, path, timer, account⟩ := enterDrainAgent_free ((holdsDose_congr same).trans free)
  rw [abortWithCredit_eq]
  exact ⟨record.trans same, path.trans (by rw [water]), timer.trans (by rw [water]), account.trans scale⟩

/-- Where the draw holds CH0, it is cancelled, and the path that it holds settles (R85, R95). -/
theorem abortWithCredit_draws (draws : holdsFor s .ch0 .descale = true) :
    let u := abortWithCredit s
    chan u .ch0 = ⟨.idle, none⟩ ∧
      ((chan s .ch0).state = .running → s.water.path = .granted .ch0 →
        u.water.path = .settling ∧ u.water.settleTimer = 0) ∧
      u.scale = creditedScale s.ret.descale s.settings.scaleLimit
        (cancelDose .ch0 (setWork { s.work with dose := none } s)).scale := by
  dsimp only
  obtain ⟨water, scale⟩ := cancelDescaleFill_draws (s := setWork { s.work with dose := none } s) draws
  have idle : chan (cancelDescaleFill (setWork { s.work with dose := none } s)) .ch0 = ⟨.idle, none⟩ := by
    unfold chan
    rw [water]
    exact chan_cancelDose (by decide) _
  obtain ⟨record, path, timer, account⟩ := abortWithCredit_free (s := s) (by unfold holdsDose; rw [idle]; rfl)
  rw [water] at path timer
  rw [scale] at account
  refine ⟨record.trans idle, fun runs granted => ?_, account⟩
  obtain ⟨settles, zero⟩ :=
    cancelDose_releases (s := setWork { s.work with dose := none } s) (c := .ch0) (by decide) runs granted
  exact ⟨path.trans settles, timer.trans zero⟩

/-- A charge is reckoned from the account and the settings alone (R109). -/
theorem chargeAccount_congr {n : Nat} {dest : Destination} (scale : t.scale = s.scale)
    (settings : t.settings = s.settings) : (chargeAccount n dest t).scale = (chargeAccount n dest s).scale := by
  rw [chargeAccount_scale, chargeAccount_scale, scale, settings]

/-- The pulses of a running draw to the boiler are charged before the credit (R96, R113). -/
theorem abortWithCredit_charged {x : Dose} (draws : holdsFor s .ch0 .descale = true)
    (dose : (chan s .ch0).dose = some x) (runs : (chan s .ch0).state = .running) (counts : x.mode ≠ .flush)
    (boils : x.destination = .boiler) :
    (abortWithCredit s).scale = creditedScale s.ret.descale s.settings.scaleLimit
      (chargeAccount (x.delivered - x.charged) .boiler s).scale := by
  have handsOn :=
    (cancelDose_handsOn (s := setWork { s.work with dose := none } s) (c := .ch0) (by decide) runs dose).before
      (s := s) rfl rfl rfl rfl
  have charged := (handsOn.1 ⟨counts, .inl boils⟩).1
  rw [boils] at charged
  rw [(abortWithCredit_draws draws).2.2, charged]

/-- With CH0 free, or its draw not running, the credit is taken on the account as it stood. -/
theorem abortWithCredit_uncharged
    (quiet : holdsDose s .ch0 = false ∨ (holdsFor s .ch0 .descale = true ∧ (chan s .ch0).state ≠ .running)) :
    (abortWithCredit s).scale = creditedScale s.ret.descale s.settings.scaleLimit s.scale := by
  rcases quiet with free | ⟨draws, waits⟩
  · have none : cancelDescaleFill (setWork { s.work with dose := none } s) = setWork { s.work with dose := none } s :=
      cancelDescaleFill_idle (Bool.and_eq_false_imp.mpr fun held => absurd (free.symm.trans held) (by decide))
    have account := (abortWithCredit_free (s := s) (by rw [none]; exact free)).2.2.2
    rw [none] at account
    exact account
  · have nothing := (cancelDose_uncharged (s := setWork { s.work with dose := none } s) waits).2.1
    rw [(abortWithCredit_draws draws).2.2, nothing]
    rfl

/-- The drain of the agent, seen from the state in which the abort begins (R121, R126). -/
theorem abortWithCredit_drain (s : State) :
    let u := abortWithCredit s
    (drainFits s → u.work.drain = false ∧ u.boiler.drainPending = false ∧
      u.boiler.state = (if s.boiler.state = .dryFault then .dryFault else .draining) ∧
      chan u .ch3 = drainLoad .descale s) ∧
    (¬drainFits s → u.work.drain = true ∧ u.boiler.state = stateAfterDraw s ∧ chan u .ch3 = chan s .ch3) := by
  dsimp only
  obtain ⟨water, boiler, _, _⟩ := abortCredited_units s
  have cancelled : WaterActs .ch3 s (cancelDescaleFill (setWork { s.work with dose := none } s)) :=
    (setWork_acts _).trans cancelDescaleFill_acts.toWaterActs
  have credited : WaterActs .ch3 s (abortCredited s) :=
    (((cancelled.trans (setBoiler_waterActs _)).trans withdrawSoakTarget_reaches.toWaterActs).trans
      creditAbort_acts.toWaterActs).trans ((setDescale_acts _).trans (setStall_acts _))
  have kept : Kept s (abortCredited s) :=
    setStall_kept _ (setDescale_kept _ (creditAbort_kept (withdrawSoakTarget_kept
      (cancelDescaleFill_kept (setWork_kept _ (.refl s))))))
  have state : (abortCredited s).boiler.state = stateAfterDraw s := by
    rw [boiler]
    exact cancelDescaleFill_state (setWork { s.work with dose := none } s)
  have dry : stateAfterDraw s = .dryFault ↔ s.boiler.state = .dryFault := by
    unfold stateAfterDraw boilerByLevel
    split
    · next wet => split <;> simp [wet.2]
    · rfl
  have same : chan (abortCredited s) .ch3 = chan s .ch3 := credited.chan (.inl (by decide))
  have fitsSame : drainFits (abortCredited s) ↔ drainFits s := by
    unfold drainFits tankPresent
    rw [holdsDose_congr same, kept.start, kept.inputs]
  obtain ⟨loads, waits⟩ := enterDrainAgent_drain (abortCredited s)
  rw [fitsSame, state, drainLoad_congr credited.out] at loads
  rw [fitsSame, state, same] at waits
  simp only [dry] at loads
  exact ⟨loads, waits⟩

theorem abortWithCredit_dose (s : State) : (abortWithCredit s).work.dose = none := by
  have entered := (enterPhase_reaches (c := .ch0) (s := abortCredited s) .drainAgent none).work
  rw [abortWithCredit_eq]
  unfold enterDrainAgent
  rw [wantDrain_dose, entered, setDescale_work, (abortCredited_units s).2.2.2]

theorem abortWithCredit_steady (s : State) : Steady s (abortWithCredit s) :=
  (abortWithCredit_acts (c := .ch0) (by decide)).steady (abortWithCredit_kept (.refl s))

end

end Sys2Proof.Machine
end

section
/-! SUPPORT. DESCALE_START, DESCALE_CONFIRM and DESCALE_ABORT as a whole (R116, R118, R126). -/

namespace Sys2Proof.Machine

/-! ## The commands reach their owners -/

section
variable {l : Link} {s : State}

theorem descaleStart_decided (reaches : Reaches l 0x20 [] s) :
    DecidedBy (.descaleStart l []) l 0x20 ownDescaleStart s := ⟨rfl, reaches.1, reaches.2.1, reaches.2.2⟩

theorem descaleConfirm_decided {p : Byte} (reaches : Reaches l 0x21 [p] s) :
    DecidedBy (.descaleConfirm l [p]) l 0x21 (ownDescaleConfirm p.toNat) s :=
  ⟨rfl, reaches.1, reaches.2.1, reaches.2.2⟩

theorem descaleAbort_decided (reaches : Reaches l 0x22 [] s) :
    DecidedBy (.descaleAbort l []) l 0x22 ownDescaleAbort s := ⟨rfl, reaches.1, reaches.2.1, reaches.2.2⟩

end

/-! ## DESCALE_ABORT decided by its owner (R126) -/

section
variable {s : State}

theorem ownDescaleAbort_idle (idle : s.ret.descale.phase = .idle) : ownDescaleAbort s = refuse .notRunning s :=
  if_pos idle

section
variable (active : s.ret.descale.phase ≠ .idle)
include active

theorem ownDescaleAbort_clear (clear : s.marker = false) :
    ownDescaleAbort s = taken (Reply.bare .ok) (abortClean s) := (if_neg active).trans (if_pos clear)

theorem ownDescaleAbort_late (draws : s.ret.descale.phase ≠ .draw) (soaks : s.ret.descale.phase ≠ .soak)
    (marked : s.marker = true) : ownDescaleAbort s = refuse .agentPresent s := by
  unfold ownDescaleAbort
  rw [if_neg active, if_neg (by rw [marked]; decide), if_neg (not_or.mpr ⟨draws, soaks⟩)]

end

theorem ownDescaleAbort_marked (phase : s.ret.descale.phase = .draw ∨ s.ret.descale.phase = .soak)
    (marked : s.marker = true) : ownDescaleAbort s = taken (Reply.bare .ok) (abortWithCredit s) := by
  unfold ownDescaleAbort
  rw [if_neg (by rcases phase with h | h <;> rw [h] <;> decide), if_neg (by rw [marked]; decide), if_pos phase]

end

/-! ## The statement -/

/-- Settles O42: each command's cases in order, and what a taken one does. An accepted frame moves only what no case
reads, so each clause is its owner's, at the state in which the frame has been accepted. -/
theorem descaleCommands : Obligations.DescaleCommands := by
  refine ⟨fun l s reaches => ?_, fun l n s reaches => ?_, fun l s reaches => ?_⟩
  · obtain ⟨p, q, accepted, refuses, takes⟩ := (descaleStart_decided reaches).accepted
    rw [accepted]
    dsimp only
    rw [← descaleBarred_iff]
    exact ⟨fun active => refuses _ (ownDescaleStart_active active),
      fun idle runs => refuses _ (ownDescaleStart_inRun idle runs),
      fun idle rests barred => refuses _ (ownDescaleStart_barred idle rests barred),
      fun idle rests clear hot => refuses _ (ownDescaleStart_hot idle rests clear hot),
      fun idle rests clear cavity boiler =>
        ⟨_, takes _ (ownDescaleStart_taken idle rests clear cavity boiler), beginDescale_facts _⟩⟩
  · obtain ⟨p, q, accepted, refuses, takes⟩ := (descaleConfirm_decided reaches).accepted
    rw [accepted]
    refine ⟨fun stale => refuses _ (ownDescaleConfirm_stale stale),
      fun active named missing => refuses _ (ownDescaleConfirm_missing active named missing),
      fun active named present => ?_⟩
    have again := fun stalled wet => takes _ (ownDescaleConfirm_stalled active named present stalled wet)
    refine ⟨fun stall dry => refuses _ (ownDescaleConfirm_dry active named present stall dry), fun level => ?_,
      fun flow wet => ?_, fun flow fills dry => ?_, fun stall wet => ?_,
      fun goes agent => ⟨_, takes _ (ownDescaleConfirm_agent active named present goes agent), enterDraw_facts _⟩,
      fun goes rinse =>
        ⟨_, takes _ (ownDescaleConfirm_rinse active named present goes rinse), enterRinse_facts .rinse1 _⟩,
      fun goes agent rinse => refuses _ (ownDescaleConfirm_busy active named present goes agent rinse)⟩
    · exact ⟨_, again (by simp [level]) (by simp [level]), confirmStall_level level⟩
    · exact ⟨_, again (by simp [flow]) (by simp [flow]), confirmStall_flow flow wet⟩
    · exact ⟨_, again (by simp [flow]) (by simp [flow]), confirmStall_flow_dry flow fills dry⟩
    · exact ⟨_, again (by simp [stall]) (fun dry => wet dry.2), confirmStall_dry stall wet⟩
  · obtain ⟨p, q, accepted, refuses, takes⟩ := (descaleAbort_decided reaches).accepted
    rw [accepted]
    refine ⟨fun idle => refuses _ (ownDescaleAbort_idle idle),
      fun active clear => ⟨_, takes _ (ownDescaleAbort_clear active clear), abortClean_facts _⟩,
      fun phase marked => ⟨_, takes _ (ownDescaleAbort_marked phase marked), ?_⟩,
      fun active draws soaks marked => refuses _ (ownDescaleAbort_late active draws soaks marked)⟩
    obtain ⟨record, soak, _⟩ := abortWithCredit_facts { s with ports := p, prot := q }
    obtain ⟨marker, asked, level⟩ := abortWithCredit_books { s with ports := p, prot := q }
    obtain ⟨loads, waits⟩ := abortWithCredit_drain { s with ports := p, prot := q }
    refine ⟨abortWithCredit_steady _, record, marker.trans marked, asked, soak, abortWithCredit_dose _, fun draws => ?_,
      fun x draws dose runs counts boils => ?_, fun quiet => ?_, level, loads, waits⟩
    · obtain ⟨idle, settles, _⟩ := abortWithCredit_draws (s := { s with ports := p, prot := q }) draws
      exact ⟨idle, settles⟩
    · rw [abortWithCredit_charged (s := { s with ports := p, prot := q }) draws dose runs counts boils,
        chargeAccount_congr (t := { s with ports := p, prot := q }) (s := s) rfl rfl]
      exact ⟨rfl, rfl⟩
    · rw [abortWithCredit_uncharged (s := { s with ports := p, prot := q }) quiet]
      exact ⟨rfl, rfl⟩

end Sys2Proof.Machine
end

section
/-! SUPPORT. A command that its port receives and that no test before its owner refuses (R183), whatever its group: its
reply and its end are the owner's. -/

namespace Sys2Proof.Machine

/-- A command of the group `g`, decided by `own`, has reached its owner. -/
structure OwnedBy (i : Instr) (l : Link) (code : Byte) (g : Group) (own : State → Reply × State) (s : State) : Prop where
  runs : exec i s = onFrame l code (groupCommand g l true own) s
  opened : portOpen s l
  ready : s.start.ready = true
  unlocked : locked g l s = false

/-- A reply is built on the port that has accepted the frame, with what the owner's decision makes of the queues. -/
theorem answer_replies {l : Link} {code : Byte} {r : Reply} {s u : State} (h : u.ports = (acceptFrame l s).ports) :
    Replies l code r s (answer l code r u) := by
  have same : port u l = port (acceptFrame l s) l := congrArg (fun p : PerLink Port => p.get l) h
  unfold Replies answer
  rw [port_setPort, same, port_acceptFrame]
  rfl

theorem answer_ret (l : Link) (code : Byte) (r : Reply) (u : State) : (answer l code r u).ret = u.ret := rfl

section
variable {i : Instr} {l : Link} {code : Byte} {g : Group} {own : State → Reply × State} {s : State}

theorem OwnedBy.answered (h : OwnedBy i l code g own s) {r : Reply} {u : State}
    (decided : own (acceptFrame l s) = (r, u)) : exec i s = .next (answer l code r u) := by
  have ready : (acceptFrame l s).start.ready = true := by rw [acceptFrame_eq]; exact h.ready
  have owned : groupCommand g l true own (acceptFrame l s) = (r, u) := by
    unfold groupCommand decideCommand
    rw [locked_acceptFrame, h.unlocked, ready]
    exact decided
  rw [h.runs]
  unfold onFrame
  rw [if_pos h.opened, owned]

theorem OwnedBy.takes (h : OwnedBy i l code g own s) {r : Reply} {u : State}
    (decided : own (acceptFrame l s) = taken r u) : exec i s = .next (answer l code r (settle u)) :=
  h.answered decided

/-- A refused command leaves nothing behind but its reply. -/
theorem OwnedBy.refuses (h : OwnedBy i l code g own s) {st : Status}
    (decided : own (acceptFrame l s) = refuse st (acceptFrame l s)) : Refuses i l code st s := by
  refine ⟨_, h.answered decided, answer_replies rfl, ?_⟩
  unfold OnlyPorts answer
  rw [acceptFrame_eq]
  rfl

end

theorem runActive_acceptFrame (l : Link) (s : State) : runActive (acceptFrame l s) = runActive s := by
  rw [acceptFrame_eq]
  rfl

end Sys2Proof.Machine
end

section
/-! SUPPORT. What the climate regulator's shared operations move: its own record, the output timing unit, the posted
demands with the steam request, and of the events the end of FAULT_ACTIVE alone. -/

namespace Sys2Proof.Machine

/-- The entries of a kind stand as they are, its condition goes on, and the steering table is as before. -/
structure EntriesKept (k : EventKind) (s t : State) : Prop where
  steering : t.events.steering = s.events.steering
  entries : ∀ (l : Link) (e : Entry), e.kind = k → e ∈ s.events.queues.get l → e ∈ t.events.queues.get l
  condition : conditionHolds k s = true → conditionHolds k t = true

/-- What a regulator's operation leaves alone: every unit but the regulator, the outputs and the boiler's post, and every
event but FAULT_ACTIVE, which ends with the last member of the fault set. -/
structure RegulatorActs (s t : State) : Prop where
  only : t = { s with climate := t.climate, share := t.share, out := t.out, boiler := t.boiler, events := t.events }
  events : ∀ k : EventKind, k ≠ .faultActive → EntriesKept k s t

section
variable {k k' : EventKind} {s t u : State}

theorem EntriesKept.same (h : t.events = s.events) : EntriesKept k s t := by
  refine ⟨by rw [h], fun l e _ => ?_, fun holds => ?_⟩
  · rw [h]
    exact id
  · unfold conditionHolds
    rw [h]
    exact holds

theorem EntriesKept.trans (h : EntriesKept k s t) (h' : EntriesKept k t u) : EntriesKept k s u :=
  ⟨h'.steering.trans h.steering, fun l e kind => h'.entries l e kind ∘ h.entries l e kind, h'.condition ∘ h.condition⟩

/-- A raised event stands with its argument in every state that keeps the entries of its kind. -/
theorem EntriesKept.raised {a : Option Byte} (h : EntriesKept k t u) (raised : RaisedTo k a s t) : RaisedTo k a s u :=
  fun l steered => by
    obtain ⟨e, member, kind, fresh⟩ := raised l steered
    exact ⟨e, h.entries l e kind member, kind, fresh⟩

theorem raiseEvent_entriesKept (other : k ≠ k') (a : Option Byte) (s : State) : EntriesKept k s (raiseEvent k' a s) := by
  refine ⟨rfl, fun l e kind member => ?_, fun holds => ?_⟩
  · rw [raiseEvent_queue]
    split
    · exact mem_placeEntry_other (kind ▸ other) _ _ member
    · exact member
  · obtain ⟨c, member, kind⟩ := List.any_eq_true.mp holds
    have kept : c ∈ (raiseEvent k' a s).events.conditions := by
      have differs : c.kind ≠ k' := (of_decide_eq_true kind).symm ▸ other
      unfold raiseEvent holdCondition
      dsimp only
      split
      · exact List.mem_cons_of_mem _ (List.mem_filter.mpr ⟨member, decide_eq_true differs⟩)
      · exact member
    exact List.any_eq_true.mpr ⟨c, kept, kind⟩

theorem endCondition_entriesKept (other : k ≠ k') (s : State) : EntriesKept k s (endCondition k' s) := by
  refine ⟨rfl, fun l e kind member => ?_, fun holds => ?_⟩
  · have queue : (endCondition k' s).events.queues.get l = endEntry k' (s.events.queues.get l) := by cases l <;> rfl
    rw [queue]
    exact mem_endEntry_other (kind ▸ other) member
  · obtain ⟨c, member, kind⟩ := List.any_eq_true.mp holds
    have differs : c.kind ≠ k' := (of_decide_eq_true kind).symm ▸ other
    exact List.any_eq_true.mpr ⟨c, List.mem_filter.mpr ⟨member, decide_eq_true differs⟩, kind⟩

theorem leaveFault_entriesKept (other : k ≠ .faultActive) (f : FaultKind) (s : State) :
    EntriesKept k s (leaveFault f s) := by
  unfold leaveFault
  dsimp only
  split
  · split
    · refine EntriesKept.trans ?_ (endCondition_entriesKept other _)
      exact ⟨rfl, fun _ _ _ => id, id⟩
    · exact ⟨rfl, fun _ _ _ => id, id⟩
  · exact .same rfl

theorem RegulatorActs.refl (s : State) : RegulatorActs s s := ⟨rfl, fun _ _ => .same rfl⟩

theorem RegulatorActs.trans (h : RegulatorActs s t) (h' : RegulatorActs t u) : RegulatorActs s u := by
  refine ⟨?_, fun k other => (h.events k other).trans (h'.events k other)⟩
  have first := h.only
  have second := h'.only
  rw [first] at second
  exact second

theorem RegulatorActs.ite {b : Prop} [Decidable b] (ht : RegulatorActs s t) (hu : RegulatorActs s u) :
    RegulatorActs s (if b then t else u) := by
  split
  · exact ht
  · exact hu

/-- An update that leaves the events alone. -/
theorem RegulatorActs.silent
    (only : t = { s with climate := t.climate, share := t.share, out := t.out, boiler := t.boiler })
    : RegulatorActs s t := by
  have events : t.events = s.events := by rw [only]
  exact ⟨by rw [events]; exact only, fun _ _ => .same events⟩

/-- Between `s` and `t` the regulator moves no other unit. -/
theorem RegulatorActs.units (h : RegulatorActs s t) :
    t.ret = s.ret ∧ t.seq = s.seq ∧ t.water = s.water ∧ t.scale = s.scale ∧ t.inputs = s.inputs ∧ t.start = s.start := by
  rw [h.only]
  exact ⟨rfl, rfl, rfl, rfl, rfl, rfl⟩

theorem setClimate_acts (c : Climate) (s : State) : RegulatorActs s (setClimate c s) := .silent rfl

theorem handSteamRequest_acts (n : Nat) (s : State) : RegulatorActs s (handSteamRequest n s) := by
  rw [handSteamRequest_eq]
  exact .silent rfl

theorem postZeros_acts (s : State) : RegulatorActs s (postZeros s) := by
  rw [postZeros_eq]
  exact .silent rfl

theorem withholdSteam_acts (b : Bool) (s : State) : RegulatorActs s (withholdSteam b s) :=
  .ite ((setClimate_acts _ s).trans (handSteamRequest_acts 0 _)) (setClimate_acts _ s)

theorem requestVent_acts (e : VentEnd) (s : State) : RegulatorActs s (requestVent e s) := by
  have left : ∀ k : EventKind, k ≠ .faultActive → EntriesKept k s (leaveFault .ventStuck s) :=
    fun k other => leaveFault_entriesKept other _ s
  rw [requestVent_eq]
  refine ⟨rfl, fun k other => ?_⟩
  obtain ⟨steering, entries, condition⟩ := left k other
  split
  · exact ⟨steering, entries, condition⟩
  · exact .same rfl

theorem issueFan_acts (code : Nat) (closed : Bool) (s : State) : RegulatorActs s (issueFan code (askRelay closed s)) := by
  rw [issueFan_eq]
  exact .silent rfl

theorem requestModeVent_acts (s : State) : RegulatorActs s (requestModeVent s) := by
  unfold requestModeVent
  split
  · exact .refl s
  · split
    · exact .refl s
    · exact requestVent_acts _ s

theorem issueOutputs_acts (s : State) : RegulatorActs s (issueOutputs s) := by
  unfold issueOutputs
  split
  case h_1 => exact (issueFan_acts _ _ s).trans (requestModeVent_acts _)
  case h_2 => exact (issueFan_acts _ _ s).trans (requestModeVent_acts _)
  case h_3 => exact (issueFan_acts _ _ s).trans (requestVent_acts _ _)
  case h_4 => exact (issueFan_acts _ _ s).trans (requestVent_acts _ _)

theorem stageEntry_acts (sent : SentRecord) (s : State) : RegulatorActs s (stageEntry sent s).1 := by
  unfold stageEntry
  split
  · exact .refl s
  · dsimp only
    split
    · exact setClimate_acts _ s
    · dsimp only
      exact (setClimate_acts _ s).trans (issueOutputs_acts _)

theorem pauseClimate_acts (s : State) : RegulatorActs s (pauseClimate s) := by
  unfold pauseClimate
  split
  · exact ((setClimate_acts _ s).trans (postZeros_acts _)).trans (issueOutputs_acts _)
  · exact ((setClimate_acts _ s).trans (postZeros_acts _)).trans (issueOutputs_acts _)
  · exact .refl s

theorem endClimate_acts (s : State) : RegulatorActs s (endClimate s) := by
  have ended : ∀ c : Climate, RegulatorActs s (issueOutputs (postZeros (setClimate c s))) := fun c =>
    ((setClimate_acts c s).trans (postZeros_acts _)).trans (issueOutputs_acts _)
  unfold endClimate
  split
  · exact ended _
  · exact ended _
  · exact ended _
  · exact .refl s

end

end Sys2Proof.Machine
end

section
/-! SUPPORT. The end of a run (R157), and that the end of a step leaves an ended run as it is. -/

namespace Sys2Proof.Machine

/-! ## Reactions that leave the run's end alone -/

/-- The run state, the last-run record and the WATER condition as it was last considered stand. -/
structure RunRests (s t : State) : Prop where
  state : t.ret.run.state = s.ret.run.state
  lastRun : t.ret.lastRun = s.ret.lastRun
  condition : t.seq.waterCondition = s.seq.waterCondition

section
variable {s t u : State}

theorem RunRests.refl (s : State) : RunRests s s := ⟨rfl, rfl, rfl⟩

theorem RunRests.trans (h : RunRests s t) (k : RunRests t u) : RunRests s u :=
  ⟨k.state.trans h.state, k.lastRun.trans h.lastRun, k.condition.trans h.condition⟩

theorem RunRests.ite {b : Prop} [Decidable b] (ht : RunRests s t) (hu : RunRests s u) :
    RunRests s (if b then t else u) := by
  split
  · exact ht
  · exact hu

/-- An update outside the retained memory and the sequencer. -/
theorem RunRests.same (ret : t.ret = s.ret) (seq : t.seq = s.seq) : RunRests s t :=
  ⟨by rw [ret], by rw [ret], by rw [seq]⟩

theorem cancelDose_rests (c : Chan) : RunRests s (cancelDose c s) := by
  obtain ⟨n, r, run⟩ := (cancelDose_reacts c (.refl s)).run
  have only := (cancelDose_chargeOnly c s).only
  refine ⟨by rw [run], ?_, ?_⟩ <;> rw [only]

theorem postBoiler_rests : RunRests s (postBoiler s) := by
  rw [postBoiler_eq]
  exact .same rfl rfl

theorem cancelTopUp_rests : RunRests s (cancelTopUp s) := .ite (cancelDose_rests .ch0) (.refl s)

theorem followTopUp_rests : RunRests s (followTopUp s) := .ite cancelTopUp_rests (.refl s)

theorem enterBoiler_rests (st : BoilerState) : RunRests s (enterBoiler st s) :=
  have entered : ∀ b : Boiler, RunRests s (setBoiler b s) := fun _ => .same rfl rfl
  .ite (.refl s) ((RunRests.ite (entered _) ((entered _).trans cancelTopUp_rests)).trans postBoiler_rests)

theorem markDrain_rests (b : Bool) : RunRests s (markDrain b s) :=
  have marked : ∀ b : Boiler, RunRests s (setBoiler b s) := fun _ => .same rfl rfl
  (RunRests.ite ((marked _).trans cancelTopUp_rests) (marked _)).trans postBoiler_rests

theorem setWork_rests (w : DescaleWork) : RunRests s (setWork w s) := .same rfl rfl

theorem setChan_rests (c : Chan) (x : Channel) : RunRests s (setChan c x s) := .same rfl rfl

theorem loadDrain_rests (r : Requester) : RunRests s (loadDrain r s) := by
  have drains : ∀ t : State, RunRests t (if t.boiler.state = .dryFault then t else enterBoiler .draining t) :=
    fun t => .ite (.refl t) (enterBoiler_rests _)
  have clocked : ∀ t : State, RunRests t { t with water := { t.water with drainClock := 0 } } := fun _ => .same rfl rfl
  exact .ite (.refl s) ((((setChan_rests _ _).trans (clocked _)).trans (markDrain_rests false)).trans (drains _))

theorem wantDrain_rests : RunRests s (wantDrain s) := by
  rw [wantDrain_eq]
  exact .ite ((setWork_rests _).trans (loadDrain_rests _)) (setWork_rests _)

theorem enterPhase_rests (p : DescalePhase) (step : Option RinseStep) : RunRests s (enterPhase p step s) :=
  have prompted : ∀ t : State, RunRests t (followPrompt t) :=
    fun _ => .same (followCondition_ret ..) (followCondition_seq ..)
  have changed : ∀ d : Descale, RunRests s (setDescale d s) := fun _ => ⟨rfl, rfl, rfl⟩
  (((changed _).trans (prompted _)).trans followTopUp_rests).trans postBoiler_rests

theorem followNeed_rests : RunRests s (followNeed s) := .same rfl rfl

theorem followPrepare_rests : RunRests s (followPrepare s) := by
  unfold followPrepare
  refine .ite ?_ (.refl s)
  split
  · exact (setWork_rests _).trans (enterPhase_rests _ _)
  · exact .ite (.refl s) wantDrain_rests
  · exact .ite (.refl s) wantDrain_rests
  · exact .refl s

theorem removeForce_rests (o : Output) : RunRests s (removeForce o s) := by
  cases entered : (forceEntry o s).isSome
  · rw [removeForce_none entered]
    exact .refl s
  · rw [removeForce_eq entered]
    exact .same rfl rfl

theorem removeEach_rests (os : List Output) : RunRests s (os.foldl (fun s o => removeForce o s) s) := by
  induction os generalizing s with
  | nil => exact .refl s
  | cons o os ih => exact (removeForce_rests o).trans ih

theorem endPulse_rests : RunRests s (endPulse s) := by
  cases pulsed : s.out.pulse with
  | none =>
    rw [endPulse_none pulsed]
    exact .refl s
  | some p =>
    rw [endPulse_eq pulsed]
    exact .same rfl rfl

theorem yieldForces_rests : RunRests s (yieldForces s) := by
  unfold yieldForces endForces
  rw [removeForces_all]
  exact .ite (.refl s) ((removeEach_rests _).trans endPulse_rests)

/-! ## The end of a step after a run (R146, R150) -/

theorem runActive_idle (idle : s.ret.run.state = .idle) : runActive s = false := by
  unfold runActive
  rw [idle]
  exact Bool.and_false _

theorem followWater_idle (idle : s.ret.run.state = .idle) (condition : s.seq.waterCondition = false) :
    followWater s = s := by
  have stands : waterConditionHolds s = false := by
    unfold waterConditionHolds
    rw [runActive_idle idle]
    rfl
  unfold followWater
  rw [stands, condition]
  rfl

/-- With no run, and WATER not considered to hold, the end of a step leaves the run as it is. -/
theorem settle_rests (idle : s.ret.run.state = .idle) (condition : s.seq.waterCondition = false) :
    RunRests s (settle s) := by
  have faults : checkRunFaults s = s := by
    unfold checkRunFaults
    rw [runActive_idle idle]
    rfl
  have topUp : RunRests s (followTopUp s) := followTopUp_rests
  have before : RunRests s (beforeForces s) := by
    unfold beforeForces
    rw [faults, followWater_idle (topUp.state.trans idle) (topUp.condition.trans condition)]
    exact (topUp.trans followNeed_rests).trans followPrepare_rests
  obtain ⟨x, w, e, k, settled⟩ := settle_afterForces s
  rw [settled]
  exact (before.trans yieldForces_rests).trans (.same rfl rfl)

end

/-! ## The end of a run (R157, R158) -/

theorem RegulatorActs.rests {s t : State} (h : RegulatorActs s t) : RunRests s t :=
  .same h.units.1 h.units.2.1

/-- The run context and the last-run record once the run has ended. -/
structure RunEnded (result : RunResult) (fault : Option FaultKind) (s t : State) : Prop where
  idle : t.ret.run.state = .idle
  condition : t.seq.waterCondition = false
  record : ∃ r, t.ret.lastRun = some r ∧ r.result = result ∧ r.fault = fault ∧ r.runId = s.ret.run.runId ∧
    r.finalStage = s.ret.run.stageIndex

section
variable {result : RunResult} {fault : Option FaultKind} {s t u : State}

theorem RunEnded.after (h : RunEnded result fault s t) (k : RunRests t u) : RunEnded result fault s u :=
  ⟨k.state.trans h.idle, k.condition.trans h.condition, by rw [k.lastRun]; exact h.record⟩

/-- A stage's burst that is cancelled moves of the run the count of steam alone (R96). -/
theorem cancelBurst_reacts (s : State) : BoilerReacts s (cancelBurst s) :=
  .ite (cancelDose_reacts .ch1 (.refl s)) (.refl s)

theorem endRun_ended (result : RunResult) (fault : Option FaultKind) (s : State) :
    RunEnded result fault s (endRun result fault s) := by
  obtain ⟨n, r, run⟩ := (cancelBurst_reacts s).run
  have runId : (cancelBurst s).ret.run.runId = s.ret.run.runId := by rw [run]
  have stage : (cancelBurst s).ret.run.stageIndex = s.ret.run.stageIndex := by rw [run]
  have marks : ∀ (b : Prop) [Decidable b] (t : State), RunRests t (if b then markDrain true t else t) :=
    fun _ _ t => .ite (markDrain_rests true) (.refl t)
  have tail : ∀ (k : EventKind) (a : Option Byte) (t : State),
      RunRests t (endClimate (withholdSteam false (raiseEvent k a t))) := fun k a t =>
    have raised : RunRests t (raiseEvent k a t) := .same rfl rfl
    (raised.trans (withholdSteam_acts false _).rests).trans (endClimate_acts _).rests
  have asks : ∀ t : State, RunRests t (askCommit t) := fun _ => .same rfl rfl
  refine RunEnded.after ?_ (((tail _ _ _).trans (marks _ _)).trans (asks _))
  exact ⟨rfl, rfl, _, rfl, rfl, rfl, runId, stage⟩

end

end Sys2Proof.Machine
end

section
/-! SUPPORT. STOP (R156). -/

namespace Sys2Proof.Machine

/-- Settles O45: STOP is never locked, and its owner answers by the run state. The end of the step finds the run ended and
leaves it so. -/
theorem stopEndsTheRun : Obligations.StopEndsTheRun := by
  intro l s opened ready
  have owned : OwnedBy (.stop l []) l 0x13 .stop ownStop s := ⟨rfl, opened, ready, rfl⟩
  have active := runActive_acceptFrame l s
  refine ⟨fun idle => owned.refuses (if_neg ?_), fun runs => ?_⟩
  · rw [active, runActive_idle idle]
    decide
  · have decided : ownStop (acceptFrame l s) = taken (Reply.bare .ok) (endRun .userStop none (acceptFrame l s)) := by
      refine if_pos (active.trans ?_)
      unfold runActive
      rw [ready, decide_eq_true runs]
      rfl
    have ended := endRun_ended .userStop none (acceptFrame l s)
    obtain ⟨idle, -, r, last, result, fault, runId, stage⟩ := ended.after (settle_rests ended.idle ended.condition)
    have kept := settle_kept (endRun_kept .userStop none (.refl (acceptFrame l s)))
    rw [acceptFrame_eq] at runId stage
    refine ⟨_, owned.takes decided, answer_replies kept.ports, ?_⟩
    rw [answer_ret]
    exact ⟨idle, r, last, result, fault, runId, stage⟩

end Sys2Proof.Machine
end

section
/-! SUPPORT. The commands of the group RUN that name the current stage (R152): SKIP_STAGE, CONFIRM, ADJUST and INJECT reach
their owners, which find the run active and the stage current. -/

namespace Sys2Proof.Machine

section
variable {own : State → Reply × State} {s : State} {n k : Nat}

theorem onStage_idle (idle : runActive s = false) : onStage n k own s = refuse .notRunning s := if_pos idle

theorem onStage_stale (active : runActive s = true) (other : ¬(n = s.ret.run.runId ∧ k = s.ret.run.stageIndex)) :
    onStage n k own s = refuse .stale s := by
  unfold onStage
  rw [if_neg (by rw [active]; decide), if_pos (not_and_or.mp other)]

theorem onStage_named (active : runActive s = true) (named : n = s.ret.run.runId ∧ k = s.ret.run.stageIndex) :
    onStage n k own s = own s := by
  unfold onStage
  rw [if_neg (by rw [active]; decide), if_neg (by rw [← not_and_or]; exact not_not.mpr named)]

end

section
variable {i : Instr} {l : Link} {code : Byte} {own : State → Reply × State} {s : State} {n k : Nat}
  (h : OwnedBy i l code .run (onStage n k own) s)
include h

theorem OwnedBy.notRunning (idle : runActive s = false) : Refuses i l code .notRunning s :=
  h.refuses (onStage_idle ((runActive_acceptFrame l s).trans idle))

section
variable (active : runActive s = true)
include active

theorem OwnedBy.stale (other : ¬(n = s.ret.run.runId ∧ k = s.ret.run.stageIndex)) : Refuses i l code .stale s :=
  h.refuses (onStage_stale ((runActive_acceptFrame l s).trans active) (by rw [acceptFrame_eq]; exact other))

variable (named : n = s.ret.run.runId ∧ k = s.ret.run.stageIndex)
include named

omit h in
theorem onStage_acceptFrame : onStage n k own (acceptFrame l s) = own (acceptFrame l s) :=
  onStage_named ((runActive_acceptFrame l s).trans active) (by rw [acceptFrame_eq]; exact named)

theorem OwnedBy.refusesNamed {st : Status} (decided : own (acceptFrame l s) = refuse st (acceptFrame l s)) :
    Refuses i l code st s :=
  h.refuses ((onStage_acceptFrame active named).trans decided)

theorem OwnedBy.takesNamed {r : Reply} {u : State} (decided : own (acceptFrame l s) = taken r u) :
    exec i s = .next (answer l code r (settle u)) :=
  h.takes ((onStage_acceptFrame active named).trans decided)

end

end

/-! ## The commands reach their owners -/

section
variable {l : Link} {s : State} {r1 r0 b : Byte}

theorem skipStage_owned (reaches : Reaches l 0x15 [r1, r0, b] s) :
    OwnedBy (.skipStage l [r1, r0, b]) l 0x15 .run
      (onStage (number2 r1 r0) b.toNat (fun s => taken (Reply.bare .ok) (endStage s))) s :=
  ⟨rfl, reaches.1, reaches.2.1, reaches.2.2⟩

theorem confirm_owned (reaches : Reaches l 0x16 [r1, r0, b] s) :
    OwnedBy (.confirm l [r1, r0, b]) l 0x16 .run (onStage (number2 r1 r0) b.toNat ownConfirm) s :=
  ⟨rfl, reaches.1, reaches.2.1, reaches.2.2⟩

theorem adjust_owned {mask s1 s0 d3 d2 d1 d0 h : Byte}
    (reaches : Reaches l 0x14 [r1, r0, b, mask, s1, s0, d3, d2, d1, d0, h] s) :
    OwnedBy (.adjust l [r1, r0, b, mask, s1, s0, d3, d2, d1, d0, h]) l 0x14 .run
      (onStage (number2 r1 r0) b.toNat
        (ownAdjust (parseAdjustment mask.toNat (number2 s1 s0) (number4 d3 d2 d1 d0) h.toNat))) s :=
  ⟨rfl, reaches.1, reaches.2.1, reaches.2.2⟩

theorem inject_owned {v1 v0 : Byte} (reaches : Reaches l 0x17 [r1, r0, b, v1, v0] s) :
    OwnedBy (.inject l [r1, r0, b, v1, v0]) l 0x17 .run
      (onStage (number2 r1 r0) b.toNat (ownInject (number2 v1 v0))) s :=
  ⟨rfl, reaches.1, reaches.2.1, reaches.2.2⟩

end

end Sys2Proof.Machine
end

section
/-! SUPPORT. ADJUST (R25, R153): the record, the regulator and the run that a taken one leaves, and what counts as
clamped. -/

namespace Sys2Proof.Machine

/-! ## The adjust write (R25) -/

/-- The record with the adopted values of an adjustment. -/
def adjustedRecord (a : Adjustment) (r : SetpointRecord) : SetpointRecord :=
  { r with
    setpoint := (a.setpoint.map (adoptSetpoint r.mode)).getD r.setpoint
    moisture := if a.moisture.isSome then adoptMoisture r.mode a.moisture else r.moisture }

/-- The regulator once it has taken the adjust write. -/
def adjustedClimate (a : Adjustment) (r : SetpointRecord) (s : State) : Climate :=
  let c : Climate := { s.climate with record := some (adjustedRecord a r) }
  if a.setpoint.isSome then Climate.reenter { c with runaway := 0 } s.meas.cavity (adjustedRecord a r).setpoint else c

/-- A value of the adjustment is not adopted as it was sent. -/
def valueClamped (a : Adjustment) (m : Mode) : Bool :=
  (match a.setpoint with | none => false | some x => decide (adoptSetpoint m x ≠ x)) || moistureClamped m a.moisture

/-- A reached stage's cavity lies outside the band of the new setpoint `x` (R25). -/
def leavesBand (c : Climate) (reading x : Int) : Prop :=
  c.tempReached = true ∧ (reading < x - 50 ∨ x + 50 < reading)

theorem reenter_within {c : Climate} {reading x : Int} (h : ¬leavesBand c reading x) :
    c.reenter reading x =
      { c with direction := if c.tempReached = false then directionOf reading x else c.direction } := by
  unfold Climate.reenter
  cases reached : c.tempReached
  · rfl
  · rw [if_pos rfl, if_neg fun outside => h ⟨reached, outside⟩]
    cases c
    subst reached
    rfl

theorem reenter_outside {c : Climate} {reading x : Int} (h : leavesBand c reading x) :
    c.reenter reading x =
      { c with
        direction := directionOf reading x, runawayArmed := false
        state := if c.state = .hold then .preheat else c.state
        returnState := if c.state = .paused then some .preheat else c.returnState } := by
  obtain ⟨reached, outside⟩ := h
  unfold Climate.reenter
  rw [if_pos reached, if_pos outside]
  dsimp only
  cases c.state <;> rfl

section
variable {a : Adjustment} {r : SetpointRecord} {s : State}

theorem reenter_record (c : Climate) (reading x : Int) : (c.reenter reading x).record = c.record := by
  by_cases h : leavesBand c reading x
  · rw [reenter_outside h]
  · rw [reenter_within h]

theorem adjustedClimate_record (a : Adjustment) (r : SetpointRecord) (s : State) :
    (adjustedClimate a r s).record = some (adjustedRecord a r) := by
  unfold adjustedClimate
  dsimp only
  split
  · rw [reenter_record]
  · rfl

theorem adjustWrite_taken (record : s.climate.record = some r)
    (works : working s = true ∨ s.climate.state = .paused) :
    adjustWrite a.setpoint a.moisture s = (setClimate (adjustedClimate a r s) s, some (valueClamped a r.mode)) := by
  rw [working_iff] at works
  unfold adjustWrite
  rw [record]
  rcases works with (state | state) | state <;> rw [state] <;> rfl

theorem adjustWrite_rests (rests : s.climate.state = .off ∨ s.climate.state = .cooldown ∨ s.climate.state = .fault)
    (x y : Option Int) : adjustWrite x y s = (s, none) := by
  unfold adjustWrite
  rcases rests with state | state | state <;> rw [state]

/-! ## The stored values and the new duration (R153) -/

/-- The duration of the current stage under a delta that may be absent. -/
def newTime (delta : Option Int) (run : RunContext) : Option Nat :=
  match delta, run.duration with
  | some x, some d => some (newDuration d run.elapsed x).1
  | _, _ => run.duration

/-- The new duration is not the one that the delta asks for. -/
def deltaCut (delta : Option Int) (run : RunContext) : Bool :=
  match delta, run.duration with
  | some x, some d => (newDuration d run.elapsed x).2
  | _, _ => false

/-- The stage's adjusted values and its duration once the adjustment is taken. -/
def adjustedRun (a : Adjustment) (r : SetpointRecord) (run : RunContext) : RunContext :=
  { run with
    adjSetpoint := if a.setpoint.isSome then some (adjustedRecord a r).setpoint else run.adjSetpoint
    adjMoisture := if a.moisture.isSome then (adjustedRecord a r).moisture else run.adjMoisture
    duration := newTime a.delta run }

/-- The part once its regulator and its sequencer have taken the adjustment. -/
def adjusted (a : Adjustment) (r : SetpointRecord) (s : State) : State :=
  setRun (adjustedRun a r s.ret.run) (setClimate (adjustedClimate a r s) s)

/-- The values that the sequencer stores are those of the record that the regulator has adopted. -/
theorem storeAdjusted_written (a : Adjustment) (r : SetpointRecord) (s : State) :
    storeAdjusted a (setClimate (adjustedClimate a r s) s) =
      setRun
        { s.ret.run with
          adjSetpoint := if a.setpoint.isSome then some (adjustedRecord a r).setpoint else s.ret.run.adjSetpoint
          adjMoisture := if a.moisture.isSome then (adjustedRecord a r).moisture else s.ret.run.adjMoisture }
        (setClimate (adjustedClimate a r s) s) := by
  unfold storeAdjusted
  rw [setClimate_climate, adjustedClimate_record]
  rfl

/-- Without a value the write changes nothing. -/
theorem adjustedClimate_idle (record : s.climate.record = some r) (set : a.setpoint = none) (moist : a.moisture = none) :
    adjustedClimate a r s = s.climate := by
  unfold adjustedClimate adjustedRecord
  rw [set, moist]
  dsimp only
  exact congrArg (fun x => { s.climate with record := x }) record.symm

/-- The time delta changes the duration of the current stage alone. -/
theorem applyDelta_eq (delta : Option Int) (s : State) :
    applyDelta delta s =
      (setRun { s.ret.run with duration := newTime delta s.ret.run } s, deltaCut delta s.ret.run) := by
  rcases delta with _ | x
  · rfl
  · unfold applyDelta newTime deltaCut
    cases timed : s.ret.run.duration with
    | none =>
      dsimp only
      rw [← timed]
      rfl
    | some d => rfl

theorem applyAdjustment_taken (record : s.climate.record = some r)
    (works : working s = true ∨ s.climate.state = .paused) :
    applyAdjustment a s = some (adjusted a r s, valueClamped a r.mode || deltaCut a.delta s.ret.run) := by
  unfold applyAdjustment
  split
  · rw [adjustWrite_taken record works]
    dsimp only
    rw [applyDelta_eq, storeAdjusted_written]
    rfl
  · next none =>
    simp only [Bool.or_eq_true, not_or, Option.not_isSome_iff_eq_none] at none
    obtain ⟨set, moist⟩ := none
    have untouched : valueClamped a r.mode = false := by
      unfold valueClamped moistureClamped
      rw [set, moist]
      rfl
    rw [applyDelta_eq, untouched]
    unfold adjusted adjustedRun
    rw [adjustedClimate_idle record set moist, set, moist]
    rfl

/-! ## What a taken ADJUST leaves -/

theorem adjusted_steady (a : Adjustment) (r : SetpointRecord) (s : State) : Steady s (adjusted a r s) :=
  ⟨rfl, rfl, rfl, rfl, rfl, rfl, rfl, rfl, rfl, rfl, rfl, rfl, rfl, rfl, rfl, rfl, rfl⟩

theorem adjusted_climate (a : Adjustment) (r : SetpointRecord) (s : State) :
    (adjusted a r s).climate = adjustedClimate a r s := rfl

/-- Without a setpoint the write changes the record alone. -/
theorem adjustedClimate_unset (set : a.setpoint = none) :
    adjustedClimate a r s = { s.climate with record := some (adjustedRecord a r) } := by
  unfold adjustedClimate
  rw [set]
  rfl

/-- A setpoint starts the runaway timer at 0 and takes the stage's entry up again (R25). -/
theorem adjustedClimate_set {x : Int} (set : a.setpoint = some x) :
    adjustedClimate a r s =
      Climate.reenter { s.climate with record := some (adjustedRecord a r), runaway := 0 } s.meas.cavity
        (adoptSetpoint r.mode x) := by
  have adopted : (adjustedRecord a r).setpoint = adoptSetpoint r.mode x := by
    unfold adjustedRecord
    rw [set]
    rfl
  unfold adjustedClimate
  rw [adopted, set]
  rfl

theorem adjustedClimate_within {x : Int} (set : a.setpoint = some x)
    (within : ¬leavesBand s.climate s.meas.cavity (adoptSetpoint r.mode x)) :
    adjustedClimate a r s =
      { s.climate with
        record := some (adjustedRecord a r), runaway := 0
        direction :=
          if s.climate.tempReached = false then directionOf s.meas.cavity (adoptSetpoint r.mode x)
          else s.climate.direction } :=
  (adjustedClimate_set set).trans (reenter_within within)

theorem adjustedClimate_outside {x : Int} (set : a.setpoint = some x)
    (leaves : leavesBand s.climate s.meas.cavity (adoptSetpoint r.mode x)) :
    adjustedClimate a r s =
      { s.climate with
        record := some (adjustedRecord a r), runaway := 0, runawayArmed := false
        direction := directionOf s.meas.cavity (adoptSetpoint r.mode x)
        state := if s.climate.state = .hold then .preheat else s.climate.state
        returnState := if s.climate.state = .paused then some .preheat else s.climate.returnState } :=
  (adjustedClimate_set set).trans (reenter_outside leaves)

/-- The loop's accumulator and the reached marks stand. -/
theorem adjustedClimate_keeps (a : Adjustment) (r : SetpointRecord) (s : State) :
    (adjustedClimate a r s).iacc = s.climate.iacc ∧ (adjustedClimate a r s).tempReached = s.climate.tempReached ∧
      (adjustedClimate a r s).moistReached = s.climate.moistReached := by
  cases set : a.setpoint with
  | none =>
    rw [adjustedClimate_unset set]
    exact ⟨rfl, rfl, rfl⟩
  | some x =>
    by_cases leaves : leavesBand s.climate s.meas.cavity (adoptSetpoint r.mode x)
    · rw [adjustedClimate_outside set leaves]
      exact ⟨rfl, rfl, rfl⟩
    · rw [adjustedClimate_within set leaves]
      exact ⟨rfl, rfl, rfl⟩

/-- The runaway timer, the entry direction and the states under a new setpoint (R25). -/
theorem adjustedClimate_states {x : Int} (set : a.setpoint = some x) :
    let now := adoptSetpoint r.mode x
    let outside := s.meas.cavity < now - 50 ∨ now + 50 < s.meas.cavity
    let again := s.climate.tempReached = true ∧ outside
    let c := adjustedClimate a r s
    c.runaway = 0 ∧
      c.runawayArmed = (s.climate.runawayArmed && !decide again) ∧
      c.direction =
        (if again ∨ s.climate.tempReached = false then (if s.meas.cavity ≤ now then .up else .down)
        else s.climate.direction) ∧
      c.state = (if again ∧ s.climate.state = .hold then .preheat else s.climate.state) ∧
      c.returnState = (if again ∧ s.climate.state = .paused then some .preheat else s.climate.returnState) := by
  dsimp only
  by_cases again : leavesBand s.climate s.meas.cavity (adoptSetpoint r.mode x)
  · rw [adjustedClimate_outside set again]
    unfold leavesBand at again
    simp [again, directionOf]
  · rw [adjustedClimate_within set again]
    unfold leavesBand at again
    simp [again, directionOf]

/-- The results are the record's values and the time that is left (R153). -/
theorem adjustResults_adjusted (a : Adjustment) (r : SetpointRecord) (s : State) :
    adjustResults (adjusted a r s) =
      signedBytes2 (adjustedRecord a r).setpoint ++
        bytes1 (match (adjustedRecord a r).moisture with | none => 0xFF | some x => x.toNat) ++
        bytes4 (match (adjusted a r s).ret.run.duration with | none => 0xFFFFFFFF | some d => d - s.ret.run.elapsed) := by
  unfold adjustResults
  rw [adjusted_climate, adjustedClimate_record]
  have remains : (stageRemaining (adjusted a r s).ret.run).getD absent4 =
      (match (adjusted a r s).ret.run.duration with | none => 0xFFFFFFFF | some d => d - s.ret.run.elapsed) := by
    unfold stageRemaining
    cases (adjusted a r s).ret.run.duration <;> rfl
  have target : (((some (adjustedRecord a r)).bind SetpointRecord.moisture).map Int.toNat).getD absent1 =
      (match (adjustedRecord a r).moisture with | none => 0xFF | some x => x.toNat) := by
    rw [Option.bind_some]
    cases (adjustedRecord a r).moisture <;> rfl
  rw [remains, target]

end

/-! ## ADJUST decided by its owner (R153) -/

section
variable {a : Adjustment} {r : SetpointRecord} {s : State}

theorem ownAdjust_absent (absent : a.absentValue = true) : ownAdjust a s = refuse .badArgument s := if_pos absent

section
variable (present : a.absentValue = false)
include present

theorem ownAdjust_untimed (delta : a.delta.isSome = true) (untimed : s.ret.run.duration = none) :
    ownAdjust a s = refuse .badArgument s := by
  unfold ownAdjust
  rw [if_neg (by rw [present]; decide), if_pos ⟨delta, untimed⟩]

variable (timed : a.delta.isSome = true → s.ret.run.duration ≠ none)
include timed

theorem ownAdjust_applied {u : State} {clamped : Bool} (applied : applyAdjustment a s = some (u, clamped)) :
    ownAdjust a s = taken ⟨clampedStatus clamped, adjustResults u⟩ u := by
  unfold ownAdjust
  rw [if_neg (by rw [present]; decide), if_neg fun untimed => timed untimed.1 untimed.2, applied]

/-- With a value to write, a regulator that does not work refuses it (R25). -/
theorem ownAdjust_rests (value : a.setpoint.isSome = true ∨ a.moisture.isSome = true)
    (rests : s.climate.state = .off ∨ s.climate.state = .cooldown ∨ s.climate.state = .fault) :
    ownAdjust a s = refuse .faultActive s := by
  have unwritten : applyAdjustment a s = none := by
    unfold applyAdjustment
    rw [if_pos (Bool.or_eq_true_iff.mpr value), adjustWrite_rests rests]
  unfold ownAdjust
  rw [if_neg (by rw [present]; decide), if_neg fun untimed => timed untimed.1 untimed.2, unwritten]

theorem ownAdjust_taken (record : s.climate.record = some r)
    (works : working s = true ∨ s.climate.state = .paused) :
    ownAdjust a s =
      taken ⟨clampedStatus (valueClamped a r.mode || deltaCut a.delta s.ret.run), adjustResults (adjusted a r s)⟩
        (adjusted a r s) :=
  ownAdjust_applied present timed (applyAdjustment_taken record works)

end

theorem ownAdjust_empty (present : a.absentValue = false) (set : a.setpoint = none) (delta : a.delta = none)
    (moist : a.moisture = none) : ownAdjust a s = taken ⟨.ok, adjustResults s⟩ s := by
  have unmoved : applyAdjustment a s = some (s, false) := by
    unfold applyAdjustment
    rw [set, moist, delta]
    rfl
  exact ownAdjust_applied present (by rw [delta]; exact fun h => nomatch h) unmoved

end

end Sys2Proof.Machine
end

section
/-! SUPPORT. The request for a burst (R107), and INJECT decided by its owner (R155). -/

namespace Sys2Proof.Machine

section
variable {s : State} {ml : Nat}

/-! ## Bursts (R107) -/

/-- The water unit refuses a burst: the cavity is cold, a burst is in progress, or the account is BLOCKED (R107). -/
def burstRefused (s : State) : Prop := s.meas.cavity < 1500 ∨ holdsDose s .ch1 = true ∨ s.scale.level = .blocked

theorem burstRefusal_some (h : burstRefused s) : ∃ x, burstRefusal s = some x := by
  unfold burstRefusal
  split
  · exact ⟨_, rfl⟩
  · next warm =>
    split
    · exact ⟨_, rfl⟩
    · next free => exact ⟨_, if_pos ((h.resolve_left warm).resolve_left free)⟩

theorem burstRefusal_none (h : ¬burstRefused s) : burstRefusal s = none := by
  obtain ⟨warm, free, open_⟩ : ¬s.meas.cavity < 1500 ∧ ¬holdsDose s .ch1 = true ∧ ¬s.scale.level = .blocked := by
    unfold burstRefused at h
    simpa only [not_or] using h
  unfold burstRefusal
  rw [if_neg warm, if_neg free, if_neg open_]

/-- The program's doses draw from the tank with SUPPLY at TANK, from the inlet otherwise (R83). -/
theorem sourceFor_program (s : State) :
    sourceFor .program s = if s.start.straps.supply = .tank then Source.tank else .inlet := by
  unfold sourceFor tankOven
  simp

/-- CH1 with a burst that the water unit has taken. -/
def burstLoad (ml : Nat) (s : State) : Channel :=
  let source := if s.start.straps.supply = .tank then Source.tank else .inlet
  let n := (max 10 (min ml 200) * s.settings.flowConstant + 500) / 1000
  ⟨if sourceLow source s then .suspended else .requesting,
    some
      { mode := .block, destination := .nozzle, source := some source, base := n, remaining := n, delivered := 0
        charged := 0, reload := false, requester := .program, portion := 0, portionLeft := 0 }⟩

theorem requestBurst_refused (h : burstRefused s) : requestBurst ml s = raiseEvent .steamDegraded none s := by
  obtain ⟨x, refusal⟩ := burstRefusal_some h
  unfold requestBurst
  rw [refusal]

theorem requestBurst_taken (h : ¬burstRefused s) : requestBurst ml s = setChan .ch1 (burstLoad ml s) s := by
  have free : ¬holdsDose s .ch1 = true := fun held => h (.inr (.inl held))
  unfold requestBurst
  rw [burstRefusal_none h]
  dsimp only
  unfold loadDose
  rw [if_neg free, sourceFor_program]
  rfl

/-! ## INJECT decided by its owner (R155) -/

theorem ownInject_door (door : s.ret.run.causes.door = true) : ownInject ml s = refuse .busy s := if_pos door

section
variable (shut : s.ret.run.causes.door = false)
include shut

theorem ownInject_lost (lost : s.ret.run.degraded = true ∨ s.ret.run.steamLost = true) :
    ownInject ml s = refuse .steamBlocked s := by
  unfold ownInject
  rw [if_neg (by rw [shut]; decide), if_pos (Bool.or_eq_true_iff.mpr lost)]

variable (steams : ¬(s.ret.run.degraded = true ∨ s.ret.run.steamLost = true))
include steams

theorem ownInject_refused (h : burstRefused s) :
    ownInject ml s =
      taken (Reply.bare (if s.scale.level = .blocked then .steamBlocked else .busy))
        (raiseEvent .steamDegraded none s) := by
  obtain ⟨x, refusal⟩ := burstRefusal_some h
  unfold ownInject
  rw [if_neg (by rw [shut]; decide), if_neg (mt Bool.or_eq_true_iff.mp steams), refusal, requestBurst_refused h]

theorem ownInject_taken (h : ¬burstRefused s) :
    ownInject ml s =
      taken ⟨if max 10 (min ml 200) = ml then .ok else .clamped, bytes2 (max 10 (min ml 200))⟩
        (setChan .ch1 (burstLoad ml s) s) := by
  have status : clampedStatus (decide (burstVolume ml ≠ ml)) =
      if max 10 (min ml 200) = ml then .ok else .clamped := by
    unfold clampedStatus burstVolume clampNat
    simp
  unfold ownInject
  rw [if_neg (by rw [shut]; decide), if_neg (mt Bool.or_eq_true_iff.mp steams), burstRefusal_none h,
    requestBurst_taken h]
  dsimp only
  rw [status]
  rfl

end

end

end Sys2Proof.Machine
end

section
/-! SUPPORT. ADJUST and INJECT as a whole (R153, R155). -/

namespace Sys2Proof.Machine

/-! ## The fields of ADJUST -/

section
variable {m x d h : Nat}

theorem parseAdjustment_absent :
    (parseAdjustment m x d h).absentValue = true ↔
      (m.testBit 0 = true ∧ x = 0x8000) ∨ (m.testBit 2 = true ∧ h = 0xFF) := by
  unfold parseAdjustment absent1 absent2
  simp

theorem parseAdjustment_delta_isSome : (parseAdjustment m x d h).delta.isSome = true ↔ m.testBit 1 = true := by
  unfold parseAdjustment
  cases m.testBit 1 <;> simp

/-- What counts as clamped, in the terms of the fields (R153). -/
theorem parseAdjustment_clamped (mode : Mode) (run : RunContext) :
    (valueClamped (parseAdjustment m x d h) mode || deltaCut (parseAdjustment m x d h).delta run) = true ↔
      (m.testBit 0 = true ∧ adoptSetpoint mode (signed2 x) ≠ signed2 x) ∨
        (m.testBit 2 = true ∧ adoptMoisture mode (some (h : Int)) ≠ some (h : Int)) ∨
        ∃ n : Nat, m.testBit 1 = true ∧ run.duration = some n ∧
          min ((n : Int) + max (-((n : Int) - run.elapsed - 1)) (min (signed4 d) 3600)) 86400 ≠ n + signed4 d := by
  have value : valueClamped (parseAdjustment m x d h) mode = true ↔
      (m.testBit 0 = true ∧ adoptSetpoint mode (signed2 x) ≠ signed2 x) ∨
        (m.testBit 2 = true ∧ adoptMoisture mode (some (h : Int)) ≠ some (h : Int)) := by
    unfold valueClamped parseAdjustment moistureClamped
    cases m.testBit 0 <;> cases m.testBit 2 <;> simp
  have cut : deltaCut (parseAdjustment m x d h).delta run = true ↔
      ∃ n : Nat, m.testBit 1 = true ∧ run.duration = some n ∧
        min ((n : Int) + max (-((n : Int) - run.elapsed - 1)) (min (signed4 d) 3600)) 86400 ≠ n + signed4 d := by
    unfold deltaCut parseAdjustment
    cases m.testBit 1
    · simp
    · cases run.duration with
      | none => simp
      | some n => simp [newDuration, clampInt]
  rw [Bool.or_eq_true, value, cut, or_assoc]

end

theorem clampedStatus_iff {b : Bool} {p : Prop} (h : b = true ↔ p) :
    (p → clampedStatus b = .clamped) ∧ (¬p → clampedStatus b = .ok) :=
  ⟨fun yes => if_pos (h.mpr yes), fun no => if_neg (mt h.mp no)⟩

end Sys2Proof.Machine
end

section
/-! SUPPORT. ADJUST and INJECT settled. -/

namespace Sys2Proof.Machine

section
variable {i : Instr} {l : Link} {code : Byte} {own : State → Reply × State} {s : State} {n k : Nat}

/-- A command that names the current stage of an active run is decided in a state that differs from the one before in the
ports and the protection block alone. -/
theorem OwnedBy.acceptedNamed (h : OwnedBy i l code .run (onStage n k own) s) :
    ∃ p q, acceptFrame l s = { s with ports := p, prot := q } ∧
      (runActive s = true → n = s.ret.run.runId ∧ k = s.ret.run.stageIndex →
        (∀ st, own { s with ports := p, prot := q } = refuse st { s with ports := p, prot := q } →
          Refuses i l code st s) ∧
        ∀ r u, own { s with ports := p, prot := q } = taken r u → exec i s = .next (answer l code r (settle u))) := by
  obtain ⟨p, q, accepted⟩ := acceptFrame_only l s
  refine ⟨p, q, accepted, ?_⟩
  rw [← accepted]
  exact fun active named => ⟨fun _ => h.refusesNamed active named, fun _ _ => h.takesNamed active named⟩

end

/-- The regulator under an adjustment, in the terms of the fields. -/
theorem adjusted_regulator {m x d h : Nat} {r : SetpointRecord} {s : State} (record : s.climate.record = some r) :
    let c := adjustedClimate (parseAdjustment m x d h) r s
    (m.testBit 0 = false → c.state = s.climate.state ∧ c.returnState = s.climate.returnState ∧
      c.runaway = s.climate.runaway ∧ c.runawayArmed = s.climate.runawayArmed ∧ c.direction = s.climate.direction) ∧
    (m.testBit 0 = true →
      let now := adoptSetpoint r.mode (signed2 x)
      let outside := s.meas.cavity < now - 50 ∨ now + 50 < s.meas.cavity
      let again := s.climate.tempReached = true ∧ outside
      c.runaway = 0 ∧
        c.runawayArmed = (s.climate.runawayArmed && !decide again) ∧
        c.direction =
          (if again ∨ s.climate.tempReached = false then (if s.meas.cavity ≤ now then .up else .down)
          else s.climate.direction) ∧
        c.state = (if again ∧ s.climate.state = .hold then .preheat else s.climate.state) ∧
        c.returnState = (if again ∧ s.climate.state = .paused then some .preheat else s.climate.returnState)) ∧
    (m.testBit 0 = false → m.testBit 2 = false → c = s.climate) := by
  have unset : m.testBit 0 = false → (parseAdjustment m x d h).setpoint = none := fun bit => by
    unfold parseAdjustment
    rw [bit]
    rfl
  refine ⟨fun bit => ?_, fun bit => ?_, fun bit dry => adjustedClimate_idle record (unset bit) ?_⟩
  · rw [adjustedClimate_unset (unset bit)]
    exact ⟨rfl, rfl, rfl, rfl, rfl⟩
  · exact adjustedClimate_states (if_pos bit)
  · unfold parseAdjustment
    rw [dry]
    rfl

/-- The values of an adjustment in the record and in the run, in the terms of the fields. -/
theorem adjusted_values {m x d h : Nat} {r : SetpointRecord} (run : RunContext) :
    let a := parseAdjustment m x d h
    let r' := adjustedRecord a r
    let run' := adjustedRun a r run
    r'.mode = r.mode ∧ (m.testBit 0 = false → r'.setpoint = r.setpoint) ∧
      (m.testBit 0 = true →
        r'.setpoint = adoptSetpoint r.mode (signed2 x) ∧ run'.adjSetpoint = some r'.setpoint) ∧
      (m.testBit 0 = false → run'.adjSetpoint = run.adjSetpoint) ∧
      (m.testBit 2 = true →
        r'.moisture = adoptMoisture r.mode (some (h : Int)) ∧ run'.adjMoisture = r'.moisture) ∧
      (m.testBit 2 = false → r'.moisture = r.moisture ∧ run'.adjMoisture = run.adjMoisture) ∧
      r'.fanCode = r.fanCode ∧ r'.policy = r.policy := by
  unfold adjustedRun adjustedRecord parseAdjustment
  refine ⟨rfl, fun bit => ?_, fun bit => ?_, fun bit => ?_, fun bit => ?_, fun bit => ?_, rfl, rfl⟩ <;> simp [bit]

/-- The duration under an adjustment, in the terms of the fields. -/
theorem adjusted_duration {m x d h : Nat} {r : SetpointRecord} (run : RunContext) :
    (m.testBit 1 = false → (adjustedRun (parseAdjustment m x d h) r run).duration = run.duration) ∧
    ∀ n : Nat, m.testBit 1 = true → run.duration = some n →
      (adjustedRun (parseAdjustment m x d h) r run).duration =
        some (min ((n : Int) + max (-((n : Int) - run.elapsed - 1)) (min (signed4 d) 3600)) 86400).toNat := by
  unfold adjustedRun newTime parseAdjustment
  refine ⟨fun bit => ?_, fun n bit timed => ?_⟩
  · simp [bit]
  · simp [bit, timed, newDuration, clampInt]

/-- Settles O50: each command's cases in order, and what a taken one leaves. An accepted frame moves only what no case
reads. -/
theorem adjustAndInject : Obligations.AdjustAndInject := by
  refine ⟨fun m x => rfl, fun m h => ⟨fun dry => ?_, fun low high range => ?_⟩,
    fun l r1 r0 b mask s1 s0 d3 d2 d1 d0 h s reaches => ?_, fun l r1 r0 b v1 v0 s reaches => ?_⟩
  · unfold adoptMoisture
    rw [dry]
  · unfold adoptMoisture
    rw [range]
    rfl
  · have owned := adjust_owned reaches
    obtain ⟨p, q, accepted, decides⟩ := owned.acceptedNamed
    rw [accepted]
    have present : ∀ {m x d h : Nat}, ¬((m.testBit 0 = true ∧ x = 0x8000) ∨ (m.testBit 2 = true ∧ h = 0xFF)) →
        (parseAdjustment m x d h).absentValue = false := fun here =>
      Bool.eq_false_iff.mpr (mt parseAdjustment_absent.mp here)
    refine ⟨owned.notRunning, owned.stale, fun active named absent => ?_, fun active named here delta untimed => ?_,
      fun active named set delta moist => ?_, fun active named here timed value rests => ?_,
      fun active named here timed record recorded works => ?_⟩
    · exact (decides active named).1 _ (ownAdjust_absent (parseAdjustment_absent.mpr absent))
    · exact (decides active named).1 _
        (ownAdjust_untimed (present here) (parseAdjustment_delta_isSome.mpr delta) untimed)
    · refine (decides active named).2 _ _ (ownAdjust_empty (present ?_) ?_ ?_ ?_)
      · simp [set, moist]
      · unfold parseAdjustment
        rw [set]
        rfl
      · unfold parseAdjustment
        rw [delta]
        rfl
      · unfold parseAdjustment
        rw [moist]
        rfl
    · refine (decides active named).1 _
        (ownAdjust_rests (present here) (fun bit => timed (parseAdjustment_delta_isSome.mp bit)) ?_ rests)
      unfold parseAdjustment
      exact value.imp (fun bit => by rw [if_pos bit]; rfl) fun bit => by rw [if_pos bit]; rfl
    · have clamps := clampedStatus_iff (parseAdjustment_clamped (m := mask.toNat) (x := number2 s1 s0)
        (d := number4 d3 d2 d1 d0) (h := h.toNat) record.mode s.ret.run)
      have applied := ownAdjust_taken (s := { s with ports := p, prot := q }) (present (d := number4 d3 d2 d1 d0) here)
        (fun bit => timed (parseAdjustment_delta_isSome.mp bit)) recorded works
      have kept := adjustedClimate_keeps (parseAdjustment mask.toNat (number2 s1 s0) (number4 d3 d2 d1 d0) h.toNat)
        record { s with ports := p, prot := q }
      obtain ⟨iacc, temp, moist⟩ := kept
      obtain ⟨unset, states, idle⟩ := adjusted_regulator (m := mask.toNat) (x := number2 s1 s0)
        (d := number4 d3 d2 d1 d0) (h := h.toNat) (s := { s with ports := p, prot := q }) recorded
      obtain ⟨mode, keepsSet, storesSet, keepsRun, storesMoist, keepsMoist, fan, policy⟩ :=
        adjusted_values (m := mask.toNat) (x := number2 s1 s0) (d := number4 d3 d2 d1 d0) (h := h.toNat) (r := record)
          s.ret.run
      obtain ⟨sameTime, newTime⟩ :=
        adjusted_duration (m := mask.toNat) (x := number2 s1 s0) (d := number4 d3 d2 d1 d0) (h := h.toNat) (r := record)
          s.ret.run
      exact ⟨_, _, (decides active named).2 _ _ applied, clamps.1, clamps.2, adjusted_steady _ _ _, rfl, rfl, iacc, temp,
        moist, unset, states, idle,
        ⟨_, adjustedClimate_record _ _ _, mode, keepsSet, storesSet, keepsRun, storesMoist, keepsMoist, fan, policy,
          adjustResults_adjusted _ _ _⟩, sameTime, newTime⟩
  · have owned := inject_owned reaches
    obtain ⟨p, q, accepted, decides⟩ := owned.acceptedNamed
    rw [accepted]
    refine ⟨owned.notRunning, owned.stale, fun active named door => ?_, fun active named shut lost => ?_,
      fun active named shut steams blocked => ?_, fun active named shut steams clear cool => ?_,
      fun active named shut steams clear warm => ?_⟩
    · exact (decides active named).1 _ (ownInject_door door)
    · exact (decides active named).1 _ (ownInject_lost shut lost)
    · have refused := ownInject_refused (s := { s with ports := p, prot := q }) (ml := number2 v1 v0) shut steams
        (.inr (.inr blocked))
      rw [if_pos blocked] at refused
      exact (decides active named).2 _ _ refused
    · have refused := ownInject_refused (s := { s with ports := p, prot := q }) (ml := number2 v1 v0) shut steams
        (cool.imp_right .inl)
      rw [if_neg clear] at refused
      exact (decides active named).2 _ _ refused
    · have taken := ownInject_taken (s := { s with ports := p, prot := q }) (ml := number2 v1 v0) shut steams
        (fun refused => refused.elim (fun cold => warm (.inl cold)) fun h => h.elim (fun held => warm (.inr held)) clear)
      refine ⟨_, (decides active named).2 _ _ taken, rfl, rfl, ?_⟩
      rw [chan_setChan, if_pos rfl]
      unfold burstLoad tankOven
      simp only [decide_eq_true_eq]
      rfl

end Sys2Proof.Machine
end

section
/-! SUPPORT. What goes on of a stage while causes come and go (R144 to R147): the pause causes, the probe, the WATER cause
and the door, and the stage's burst. -/

namespace Sys2Proof.Machine

/-! ## Pause causes (R144) -/

theorem Causes.put_same {c : Causes} {p : PauseCause} {b : Bool} (h : c.has p = b) : c.put p b = c := by
  subst h
  cases p <;> rfl

theorem runState_ite {p : Prop} [Decidable p] {x y : RunState} (hx : x ≠ .idle) (hy : y ≠ .idle) :
    (if p then x else y) ≠ .idle := by
  split
  · exact hx
  · exact hy

section
variable (p : PauseCause) (s : State)

/-- A cause that is added leaves a run that is not IDLE so, and moves the run state alone besides. -/
theorem addCause_moves :
    ∃ st, (addCause p s).ret.run = { s.ret.run with causes := s.ret.run.causes.put p true, state := st } ∧
      (s.ret.run.state ≠ .idle → st ≠ .idle) := by
  rw [addCause_context]
  split
  · next has => exact ⟨s.ret.run.state, by rw [Causes.put_same has], id⟩
  · exact ⟨_, rfl, runState_ite (by decide)⟩

theorem removeCause_moves :
    ∃ st, (removeCause p s).ret.run = { s.ret.run with causes := s.ret.run.causes.put p false, state := st } ∧
      (s.ret.run.state ≠ .idle → st ≠ .idle) := by
  rw [removeCause_context]
  split
  · exact ⟨_, rfl, runState_ite (by decide)⟩
  · next has => exact ⟨s.ret.run.state, by rw [Causes.put_same (Bool.eq_false_iff.mpr has)], id⟩

theorem addCause_causes : (addCause p s).ret.run.causes = s.ret.run.causes.put p true := by
  obtain ⟨st, run, -⟩ := addCause_moves p s
  rw [run]

theorem removeCause_causes : (removeCause p s).ret.run.causes = s.ret.run.causes.put p false := by
  obtain ⟨st, run, -⟩ := removeCause_moves p s
  rw [run]

end

/-! ## What stays of a stage -/

/-- The run context without what pauses and a waiting burst move. -/
def RunContext.stageShare (r : RunContext) : RunContext :=
  { r with state := .running, causes := .none, doorTimer := 0, waterTimer := 0, deferredBurst := none }

/-- The kinds of events that come with pauses and with the regulator's answer to them. -/
def EventKind.ofPauses : EventKind → Bool
  | .programPaused | .programResumed | .faultActive => true
  | _ => false

theorem EventKind.ne_ofPauses {k k' : EventKind} (h : k.ofPauses = false) (h' : k'.ofPauses = true) : k ≠ k' := by
  rintro rfl
  exact absurd (h.symm.trans h') (by decide)

/-- Between `s` and `t` the run stays in its stage: only pauses and a waiting burst move its context, the regulator's
record is as it was, and the entries of the kind `k` stand. -/
structure StageStays (k : EventKind) (s t : State) : Prop where
  kept : Kept s t
  slots : t.ret.slots = s.ret.slots
  run : t.ret.run.stageShare = s.ret.run.stageShare
  active : s.ret.run.state ≠ .idle → t.ret.run.state ≠ .idle
  record : t.climate.record = s.climate.record
  events : EntriesKept k s t

/-- The water unit, the account and the waiting burst are as they were, too. -/
structure StageGoesOn (k : EventKind) (s t : State) : Prop extends StageStays k s t where
  deferred : t.ret.run.deferredBurst = s.ret.run.deferredBurst
  water : t.water = s.water
  scale : t.scale = s.scale

section
variable {k k' : EventKind} {s t u : State}

theorem StageStays.trans (h : StageStays k s t) (h' : StageStays k t u) : StageStays k s u where
  kept := h.kept.trans h'.kept
  slots := h'.slots.trans h.slots
  run := h'.run.trans h.run
  active := h'.active ∘ h.active
  record := h'.record.trans h.record
  events := h.events.trans h'.events

theorem StageGoesOn.refl (k : EventKind) (s : State) : StageGoesOn k s s :=
  ⟨⟨.refl s, rfl, rfl, id, rfl, .same rfl⟩, rfl, rfl, rfl⟩

theorem StageGoesOn.trans (h : StageGoesOn k s t) (h' : StageGoesOn k t u) : StageGoesOn k s u where
  toStageStays := h.toStageStays.trans h'.toStageStays
  deferred := h'.deferred.trans h.deferred
  water := h'.water.trans h.water
  scale := h'.scale.trans h.scale

theorem StageGoesOn.ite {b : Prop} [Decidable b] (ht : StageGoesOn k s t) (hu : StageGoesOn k s u) :
    StageGoesOn k s (if b then t else u) := by
  split
  · exact ht
  · exact hu

/-- A field of the run context that pauses and a waiting burst do not move. -/
theorem StageStays.field {α : Type} (h : StageStays k s t) (f : RunContext → α)
    (share : ∀ r : RunContext, f r.stageShare = f r := by exact fun _ => rfl) : f t.ret.run = f s.ret.run := by
  rw [← share t.ret.run, h.run, share]

theorem StageStays.stage (h : StageStays k s t) : currentStage t = currentStage s := by
  unfold currentStage stageAt runStages
  rw [h.slots, h.field RunContext.slot, h.field RunContext.stageIndex]

theorem runActive_iff (s : State) : runActive s = true ↔ s.start.ready = true ∧ s.ret.run.state ≠ .idle := by
  unfold runActive
  simp only [Bool.and_eq_true, decide_eq_true_eq]

theorem StageStays.runs (h : StageStays k s t) (active : runActive s = true) : runActive t = true := by
  rw [runActive_iff] at active ⊢
  rw [h.kept.start]
  exact ⟨active.1, h.active active.2⟩

/-! ## Basic updates -/

theorem setRun_goesOn {r : RunContext} (share : r.stageShare = s.ret.run.stageShare)
    (active : s.ret.run.state ≠ .idle → r.state ≠ .idle) (deferred : r.deferredBurst = s.ret.run.deferredBurst) :
    StageGoesOn k s (setRun r s) :=
  ⟨⟨setRun_kept r (.refl s), rfl, share, active, rfl, .same rfl⟩, deferred, rfl, rfl⟩

/-- What the sequencer makes of the WATER condition stands outside the run (R146). -/
theorem setSeq_goesOn (x : Sequencer) : StageGoesOn k s { s with seq := x } :=
  ⟨⟨Kept.with_seq (.refl s), rfl, rfl, id, rfl, .same rfl⟩, rfl, rfl, rfl⟩

theorem raiseEvent_goesOn (other : k ≠ k') (a : Option Byte) : StageGoesOn k s (raiseEvent k' a s) :=
  ⟨⟨raiseEvent_kept k' a (.refl s), rfl, rfl, id, rfl, raiseEvent_entriesKept other a s⟩, rfl, rfl, rfl⟩

section
variable (other : k.ofPauses = false)
include other

theorem addCause_goesOn (p : PauseCause) : StageGoesOn k s (addCause p s) := by
  unfold addCause
  refine .ite (.refl k s) (.ite ?_ ?_)
  · refine StageGoesOn.trans ?_ (raiseEvent_goesOn (EventKind.ne_ofPauses other rfl) _)
    exact setRun_goesOn (s := s) rfl (fun _ => nofun) rfl
  · exact setRun_goesOn rfl id rfl

theorem removeCause_goesOn (p : PauseCause) : StageGoesOn k s (removeCause p s) := by
  unfold removeCause
  refine .ite (.ite ?_ ?_) (.refl k s)
  · refine StageGoesOn.trans ?_ (raiseEvent_goesOn (EventKind.ne_ofPauses other rfl) _)
    exact setRun_goesOn (s := s) rfl (fun _ => nofun) rfl
  · exact setRun_goesOn rfl id rfl

theorem RegulatorActs.goesOn (h : RegulatorActs s t) (kept : Kept s t) (record : t.climate.record = s.climate.record) :
    StageGoesOn k s t := by
  obtain ⟨ret, -, water, scale, -⟩ := h.units
  exact ⟨⟨kept, by rw [ret], by rw [ret], by rw [ret]; exact id, record,
    h.events k (EventKind.ne_ofPauses other rfl)⟩, by rw [ret], water, scale⟩

end

/-! ## The regulator (R26, R27) -/

theorem issueOutputs_climate (s : State) : ∃ b, (issueOutputs s).climate = { s.climate with relayAsk := b } := by
  unfold issueOutputs
  split <;> simp [askRelay, renewHeaterRequest]

theorem withholdSteam_climate (b : Bool) (s : State) :
    (withholdSteam b s).climate = { s.climate with steamWithheld := b } := by
  unfold withholdSteam
  dsimp only
  split
  · rw [handSteamRequest_climate]
    rfl
  · rfl

/-- A pause of the regulator leaves its record and the withholding of steam alone. -/
theorem pauseClimate_keeps (s : State) :
    (pauseClimate s).climate.record = s.climate.record ∧
      (pauseClimate s).climate.steamWithheld = s.climate.steamWithheld := by
  have issued : ∀ t : State, (issueOutputs t).climate.record = t.climate.record ∧
      (issueOutputs t).climate.steamWithheld = t.climate.steamWithheld := fun t => by
    obtain ⟨b, same⟩ := issueOutputs_climate t
    rw [same]
    exact ⟨rfl, rfl⟩
  unfold pauseClimate
  split
  · rw [(issued _).1, (issued _).2, postZeros_climate]
    exact ⟨rfl, rfl⟩
  · rw [(issued _).1, (issued _).2, postZeros_climate]
    exact ⟨rfl, rfl⟩
  · exact ⟨rfl, rfl⟩

section
variable (other : k.ofPauses = false)
include other

theorem withholdSteam_goesOn (b : Bool) : StageGoesOn k s (withholdSteam b s) :=
  (withholdSteam_acts b s).goesOn other (withholdSteam_kept b (.refl s)) (by rw [withholdSteam_climate])

theorem pauseClimate_goesOn : StageGoesOn k s (pauseClimate s) :=
  (pauseClimate_acts s).goesOn other (pauseClimate_kept (.refl s)) (pauseClimate_keeps s).1

/-! ## The causes of a stage (R145 to R147) -/

theorem followProbe_goesOn : StageGoesOn k s (followProbe s) := by
  unfold followProbe
  exact .ite (.ite (addCause_goesOn other _) (removeCause_goesOn other _)) (.refl k s)

theorem followWater_goesOn : StageGoesOn k s (followWater s) := by
  unfold followWater
  refine .ite (.refl k s) (.ite ?_ (.ite ?_ (setSeq_goesOn _)))
  · refine StageGoesOn.trans ?_ (withholdSteam_goesOn other _)
    refine StageGoesOn.trans ?_ (addCause_goesOn other _)
    exact (setSeq_goesOn _).trans (setRun_goesOn rfl id rfl)
  · refine StageGoesOn.trans ?_ (withholdSteam_goesOn other _)
    refine StageGoesOn.trans ?_ (setRun_goesOn rfl id rfl)
    exact (setSeq_goesOn _).trans (removeCause_goesOn other _)

theorem addDoor_goesOn : StageGoesOn k s (addDoor s) := by
  refine StageGoesOn.trans ?_ (pauseClimate_goesOn other)
  refine StageGoesOn.trans ?_ (addCause_goesOn other .door)
  exact setRun_goesOn rfl id rfl

end

end

end Sys2Proof.Machine
end

section
/-! SUPPORT. The causes that an entry considers (R138, R145 to R147), and that WATER and the withholding of steam stand as
the stage calls for. -/

namespace Sys2Proof.Machine

section
variable {k : EventKind} {s t : State}

/-! ## The conditions that the causes follow -/

theorem sourceLow_congr (inputs : t.inputs = s.inputs) (src : Source) : sourceLow src t = sourceLow src s := by
  unfold sourceLow tankPresent tankFloatLow inletPresent
  rw [inputs]

/-- A stage that goes on needs water as before, and gets it as before (R146). -/
theorem waterConditionHolds_congr (h : StageGoesOn k s t) (active : runActive s = true) :
    waterConditionHolds t = waterConditionHolds s := by
  have chans : ∀ c : Chan, chan t c = chan s c := fun c => congrArg (fun w : Water => w.chans.get c) h.water
  have source : sourceFor .program t = sourceFor .program s := by rw [sourceFor_program, sourceFor_program, h.kept.start]
  unfold waterConditionHolds stageNeedsWater steamDoseSuspended
  simp only [active, h.runs active, h.stage, h.field RunContext.degraded, holdsDose_congr (chans _), source,
    sourceLow_congr h.kept.inputs, chans]

/-- The run has WATER exactly while its condition holds, as it was considered last, and steam is withheld for it and for a
degraded stage (R27, R146, R149). -/
structure WaterStands (s : State) : Prop where
  followed : s.seq.waterCondition = s.ret.run.causes.water
  withheld : s.climate.steamWithheld = (s.ret.run.causes.water || s.ret.run.degraded)
  holds : s.ret.run.causes.water = waterConditionHolds s

theorem WaterStands.goesOn (h : WaterStands s) (g : StageGoesOn k s t) (active : runActive s = true)
    (seq : t.seq = s.seq) (water : t.ret.run.causes.water = s.ret.run.causes.water)
    (withheld : t.climate.steamWithheld = s.climate.steamWithheld) : WaterStands t := by
  refine ⟨?_, ?_, ?_⟩
  · rw [seq, water]
    exact h.followed
  · rw [withheld, water, g.field RunContext.degraded]
    exact h.withheld
  · rw [water, waterConditionHolds_congr g active]
    exact h.holds

/-! ## PROBE, WATER, DOOR and MAINS considered -/

theorem followProbe_causes (s : State) :
    (followProbe s).ret.run.causes =
      if runActive s then
        s.ret.run.causes.put .probe (decide ((currentStage s).ending = .core) && !s.meas.probePresent)
      else s.ret.run.causes := by
  unfold followProbe
  split
  · split
    · next absent => rw [addCause_causes, absent]
    · next present => rw [removeCause_causes, Bool.eq_false_iff.mpr present]
  · rfl

theorem RunOnly.seq (h : RunOnly s t) : t.seq = s.seq := by rw [h.only]

theorem withholdSteam_units (b : Bool) (s : State) : (withholdSteam b s).ret = s.ret ∧ (withholdSteam b s).seq = s.seq :=
  ⟨(withholdSteam_acts b s).units.1, (withholdSteam_acts b s).units.2.1⟩

/-- WATER is added, its timer at 0 (R146). -/
def waterAdded (s : State) : State :=
  withholdSteam true
    (addCause .water
      (setRun { s.ret.run with waterTimer := 0 } { s with seq := { s.seq with waterCondition := true } }))

/-- WATER is removed (R146). -/
def waterRemoved (s : State) : State :=
  let dry := removeCause .water { s with seq := { s.seq with waterCondition := false } }
  withholdSteam dry.ret.run.degraded (setRun { dry.ret.run with waterTimer := 0 } dry)

theorem followWater_same (h : waterConditionHolds s = s.seq.waterCondition) : followWater s = s := if_pos h

theorem followWater_adds (holds : waterConditionHolds s = true) (was : s.seq.waterCondition = false) :
    followWater s = waterAdded s := by
  unfold followWater
  rw [holds, was]
  rfl

theorem followWater_removes (ends : waterConditionHolds s = false) (was : s.seq.waterCondition = true)
    (water : s.ret.run.causes.water = true) : followWater s = waterRemoved s := by
  unfold followWater
  rw [ends, was]
  exact if_pos water

theorem followWater_ignores (ends : waterConditionHolds s = false) (was : s.seq.waterCondition = true)
    (dry : s.ret.run.causes.water = false) :
    followWater s = { s with seq := { s.seq with waterCondition := false } } := by
  unfold followWater
  rw [ends, was]
  exact if_neg (Bool.eq_false_iff.mp dry)

theorem waterAdded_facts (s : State) :
    (waterAdded s).seq.waterCondition = true ∧ (waterAdded s).ret.run.causes = s.ret.run.causes.put .water true ∧
      (waterAdded s).climate.steamWithheld = true := by
  unfold waterAdded
  rw [(withholdSteam_units ..).1, (withholdSteam_units ..).2, withholdSteam_climate, (addCause_runOnly ..).seq,
    addCause_causes]
  exact ⟨rfl, rfl, rfl⟩

theorem waterRemoved_facts (s : State) :
    (waterRemoved s).seq.waterCondition = false ∧ (waterRemoved s).ret.run.causes = s.ret.run.causes.put .water false ∧
      (waterRemoved s).climate.steamWithheld = s.ret.run.degraded := by
  obtain ⟨st, run, -⟩ := removeCause_moves .water { s with seq := { s.seq with waterCondition := false } }
  unfold waterRemoved
  dsimp only
  rw [(withholdSteam_units ..).1, (withholdSteam_units ..).2, withholdSteam_climate, setRun_seq,
    (removeCause_runOnly ..).seq, run]
  exact ⟨rfl, rfl, rfl⟩

/-- Of the causes, only WATER moves with its condition. -/
theorem followWater_causes (s : State) : ∃ w, (followWater s).ret.run.causes = s.ret.run.causes.put .water w := by
  by_cases same : waterConditionHolds s = s.seq.waterCondition
  · rw [followWater_same same]
    exact ⟨_, (Causes.put_same (p := .water) rfl).symm⟩
  · cases holds : waterConditionHolds s
    · have was : s.seq.waterCondition = true := by
        rw [holds] at same
        exact Bool.eq_true_of_not_eq_false fun off => same off.symm
      cases water : s.ret.run.causes.water
      · rw [followWater_ignores holds was water]
        exact ⟨false, (Causes.put_same (p := .water) water).symm⟩
      · exact ⟨false, by rw [followWater_removes holds was water, (waterRemoved_facts s).2.1]⟩
    · have was : s.seq.waterCondition = false := by
        rw [holds] at same
        exact Bool.eq_false_of_not_eq_true fun on => same on.symm
      exact ⟨true, by rw [followWater_adds holds was, (waterAdded_facts s).2.1]⟩

/-- Where WATER is as it was considered last, considering it anew leaves it as its condition is (R146). -/
theorem followWater_follows (followed : s.seq.waterCondition = s.ret.run.causes.water) :
    (followWater s).seq.waterCondition = waterConditionHolds s ∧
      (followWater s).ret.run.causes = s.ret.run.causes.put .water (waterConditionHolds s) ∧
      (s.climate.steamWithheld = (s.ret.run.causes.water || s.ret.run.degraded) →
        (followWater s).climate.steamWithheld = (waterConditionHolds s || s.ret.run.degraded)) := by
  by_cases same : waterConditionHolds s = s.ret.run.causes.water
  · rw [followWater_same (same.trans followed.symm), same]
    exact ⟨followed, (Causes.put_same (p := .water) rfl).symm, id⟩
  · cases holds : waterConditionHolds s
    · have water : s.ret.run.causes.water = true := by
        rw [holds] at same
        exact Bool.eq_true_of_not_eq_false fun off => same off.symm
      obtain ⟨seq, causes, withheld⟩ := waterRemoved_facts s
      rw [followWater_removes holds (followed.trans water) water]
      exact ⟨seq, causes, fun _ => withheld⟩
    · have water : s.ret.run.causes.water = false := by
        rw [holds] at same
        exact Bool.eq_false_of_not_eq_true fun on => same on.symm
      obtain ⟨seq, causes, withheld⟩ := waterAdded_facts s
      rw [followWater_adds holds (followed.trans water)]
      exact ⟨seq, causes, fun _ => withheld⟩

theorem followWater_stands (active : runActive s = true) (followed : s.seq.waterCondition = s.ret.run.causes.water)
    (withheld : s.climate.steamWithheld = (s.ret.run.causes.water || s.ret.run.degraded)) :
    WaterStands (followWater s) := by
  have g : StageGoesOn .stageStarted s (followWater s) := followWater_goesOn rfl
  obtain ⟨seq, causes, steam⟩ := followWater_follows followed
  have water : (followWater s).ret.run.causes.water = waterConditionHolds s := congrArg Causes.water causes
  refine ⟨seq.trans water.symm, ?_, ?_⟩
  · rw [water, g.field RunContext.degraded]
    exact steam withheld
  · rw [water, waterConditionHolds_congr g active]

/-- The condition is the one the statements name (R83, R146). -/
theorem waterConditionHolds_iff (active : runActive s = true) : waterConditionHolds s = true ↔ WaterWanting s := by
  have modes : ∀ m : Mode, m.isSteam = true ↔ m = .steam ∨ m = .combi ∨ m = .proof := fun m => by
    cases m <;> simp [Mode.isSteam]
  have suspended : steamDoseSuspended s = true ↔
      ∃ c : Chan, c ≠ .ch3 ∧ (chan s c).state = .suspended ∧
        (requesterIs .boilerControl (chan s c) = true ∨ requesterIs .program (chan s c) = true) := by
    have among : ∀ c : Chan, c ∈ [Chan.ch0, .ch1, .ch2] ↔ c ≠ .ch3 := fun c => by cases c <;> decide
    unfold steamDoseSuspended
    simp only [List.any_eq_true, among, Bool.and_eq_true, Bool.or_eq_true, decide_eq_true_eq]
  unfold waterConditionHolds stageNeedsWater WaterWanting
  simp only [active, Bool.true_and, Bool.and_eq_true, Bool.or_eq_true, suspended, modes, sourceFor_program,
    Bool.not_eq_true']

/-! ## The causes at a stage entry (R138) -/

/-- WATER as the run has it is what the new stage's condition is compared with. -/
def waterTaken (s : State) : State := { s with seq := { s.seq with waterCondition := s.ret.run.causes.water } }

/-- PROBE and WATER considered for a new stage. -/
def causesConsidered (s : State) : State := followWater (followProbe (waterTaken s))

/-- DOOR added where a START finds the door open. -/
def doorConsidered (s : State) : State := if doorOpen s then addDoor s else s

/-- DOOR and MAINS considered at a START. -/
def startConsidered (s : State) : State :=
  if (doorConsidered s).meas.mainsPresent then doorConsidered s else addCause .mains (doorConsidered s)

theorem enterCauses_eq (atStart : Bool) (s : State) :
    enterCauses atStart s = if atStart then startConsidered (causesConsidered s) else causesConsidered s := rfl

section
variable (other : k.ofPauses = false)
include other

theorem causesConsidered_goesOn : StageGoesOn k s (causesConsidered s) := by
  refine StageGoesOn.trans ?_ (followWater_goesOn other)
  exact (setSeq_goesOn _).trans (followProbe_goesOn other)

theorem doorConsidered_goesOn : StageGoesOn k s (doorConsidered s) := .ite (addDoor_goesOn other) (.refl k s)

theorem startConsidered_goesOn : StageGoesOn k s (startConsidered s) :=
  .ite (doorConsidered_goesOn other) ((doorConsidered_goesOn other).trans (addCause_goesOn other _))

theorem enterCauses_goesOn (atStart : Bool) : StageGoesOn k s (enterCauses atStart s) := by
  rw [enterCauses_eq]
  exact .ite ((causesConsidered_goesOn other).trans (startConsidered_goesOn other)) (causesConsidered_goesOn other)

end

theorem followProbe_followed (s : State) :
    (followProbe (waterTaken s)).seq.waterCondition = (followProbe (waterTaken s)).ret.run.causes.water := by
  rw [(followProbe_runOnly _).seq, followProbe_causes]
  split <;> rfl

/-- PROBE and WATER follow the new stage, DOOR and MAINS stay as they are (R138, R146, R147). -/
theorem causesConsidered_causes (s : State) :
    ∃ w, (causesConsidered s).ret.run.causes =
      { s.ret.run.causes with
        water := w
        probe :=
          if runActive s then decide ((currentStage s).ending = .core) && !s.meas.probePresent
          else s.ret.run.causes.probe } := by
  refine ⟨waterConditionHolds (followProbe (waterTaken s)), ?_⟩
  have probe := followProbe_causes (waterTaken s)
  have water := (followWater_follows (followProbe_followed s)).2.1
  unfold causesConsidered
  rw [water, probe]
  split
  · next active =>
    rw [if_pos (show runActive s = true from active)]
    rfl
  · next idle =>
    rw [if_neg (show ¬runActive s = true from idle)]
    rfl

theorem causesConsidered_stands (active : runActive s = true)
    (withheld : s.climate.steamWithheld = (s.ret.run.causes.water || s.ret.run.degraded)) :
    WaterStands (causesConsidered s) := by
  have g : StageGoesOn .stageStarted s (followProbe (waterTaken s)) := (setSeq_goesOn _).trans (followProbe_goesOn rfl)
  have water : (followProbe (waterTaken s)).ret.run.causes.water = s.ret.run.causes.water := by
    rw [followProbe_causes]
    split <;> rfl
  refine followWater_stands (g.runs active) (followProbe_followed s) ?_
  rw [followProbe_climate, water, g.field RunContext.degraded]
  exact withheld

/-- DOOR and MAINS alone are added at a START, and steam stays withheld as it was (R138, R145). -/
theorem startConsidered_facts (s : State) :
    (startConsidered s).ret.run.causes =
        { s.ret.run.causes with
          door := s.ret.run.causes.door || doorOpen s, mains := s.ret.run.causes.mains || !s.meas.mainsPresent } ∧
      (startConsidered s).seq = s.seq ∧ (startConsidered s).climate.steamWithheld = s.climate.steamWithheld := by
  have door : (doorConsidered s).ret.run.causes =
        { s.ret.run.causes with door := s.ret.run.causes.door || doorOpen s } ∧
      (doorConsidered s).seq = s.seq ∧ (doorConsidered s).climate.steamWithheld = s.climate.steamWithheld := by
    unfold doorConsidered
    cases opened : doorOpen s
    · refine ⟨?_, rfl, rfl⟩
      rw [Bool.or_false]
      rfl
    · rw [if_pos rfl, Bool.or_true]
      unfold addDoor
      rw [(pauseClimate_acts _).units.1, (pauseClimate_acts _).units.2.1, (pauseClimate_keeps _).2, addCause_causes,
        (addCause_runOnly ..).seq, addCause_climate]
      exact ⟨rfl, rfl, rfl⟩
  obtain ⟨causes, seq, withheld⟩ := door
  have meas : (doorConsidered s).meas = s.meas :=
    (doorConsidered_goesOn (k := .stageStarted) rfl).toStageStays.kept.meas
  unfold startConsidered
  rw [meas]
  cases mains : s.meas.mainsPresent
  · rw [if_neg (by decide), addCause_causes, (addCause_runOnly ..).seq, addCause_climate, causes]
    exact ⟨by rw [Bool.not_false, Bool.or_true]; rfl, seq, withheld⟩
  · rw [if_pos rfl, causes, Bool.not_true, Bool.or_false]
    exact ⟨rfl, seq, withheld⟩

theorem startConsidered_stands (active : runActive s = true) (stands : WaterStands s) :
    WaterStands (startConsidered s) := by
  obtain ⟨causes, seq, withheld⟩ := startConsidered_facts s
  exact stands.goesOn (k := .stageStarted) (startConsidered_goesOn rfl) active seq (by rw [causes]) withheld

/-- The causes that an entry leaves (R138): at a START DOOR and MAINS are added besides. -/
theorem enterCauses_causes (atStart : Bool) (s : State) :
    ∃ w, (enterCauses atStart s).ret.run.causes =
      { door := s.ret.run.causes.door || (atStart && doorOpen s), water := w
        probe :=
          if runActive s then decide ((currentStage s).ending = .core) && !s.meas.probePresent
          else s.ret.run.causes.probe
        mains := s.ret.run.causes.mains || (atStart && !s.meas.mainsPresent) } := by
  obtain ⟨w, causes⟩ := causesConsidered_causes s
  have kept := (causesConsidered_goesOn (k := .stageStarted) (s := s) rfl).toStageStays.kept
  refine ⟨w, ?_⟩
  rw [enterCauses_eq]
  cases atStart
  · rw [if_neg (by decide), causes]
    simp only [Bool.false_and, Bool.or_false]
  · have door : doorOpen (causesConsidered s) = doorOpen s := by
      unfold doorOpen
      rw [kept.inputs]
    rw [if_pos rfl, (startConsidered_facts _).1, causes, door, kept.meas]
    rfl

theorem enterCauses_stands (atStart : Bool) (active : runActive s = true)
    (withheld : s.climate.steamWithheld = (s.ret.run.causes.water || s.ret.run.degraded)) :
    WaterStands (enterCauses atStart s) := by
  have stands := causesConsidered_stands active withheld
  have runs := (causesConsidered_goesOn (k := .stageStarted) (s := s) rfl).runs active
  rw [enterCauses_eq]
  split
  · exact startConsidered_stands runs stands
  · exact stands

/-! ## The burst of a stage (R107, R138, R143) -/

/-- A request for a burst moves CH1 or raises STEAM_DEGRADED. -/
theorem requestBurst_only (ml : Nat) (s : State) :
    requestBurst ml s = { s with water := (requestBurst ml s).water, events := (requestBurst ml s).events } := by
  by_cases refused : burstRefused s
  · rw [requestBurst_refused refused]
    rfl
  · rw [requestBurst_taken refused]
    rfl

theorem requestBurst_stays (degrades : k ≠ .steamDegraded) (ml : Nat) (s : State) :
    StageStays k s (requestBurst ml s) := by
  have events : EntriesKept k s (requestBurst ml s) := by
    by_cases refused : burstRefused s
    · rw [requestBurst_refused refused]
      exact raiseEvent_entriesKept degrades _ s
    · rw [requestBurst_taken refused]
      exact .same rfl
  have ret : (requestBurst ml s).ret = s.ret := by rw [requestBurst_only]
  exact ⟨requestBurst_kept ml (.refl s), by rw [ret], by rw [ret], by rw [ret]; exact id, by rw [requestBurst_climate],
    events⟩

/-! ## The burst at a stage entry (R138, R143) -/

theorem enterBurst_none (h : (currentStage s).burst = none ∨ s.ret.run.degraded = true) : enterBurst s = s := by
  unfold enterBurst
  cases burst : (currentStage s).burst with
  | none => rfl
  | some ml => exact if_pos (h.resolve_left (by rw [burst]; exact nofun))

section
variable {ml : Nat} (burst : (currentStage s).burst = some ml) (steams : s.ret.run.degraded = false)
include burst steams

theorem enterBurst_waits (door : s.ret.run.causes.door = true) :
    enterBurst s = setRun { s.ret.run with deferredBurst := some ml } s := by
  unfold enterBurst
  rw [burst]
  exact (if_neg (by rw [steams]; decide)).trans (if_pos door)

theorem enterBurst_asks (shut : s.ret.run.causes.door = false) :
    enterBurst s = followWater (requestBurst ml s) := by
  unfold enterBurst
  rw [burst]
  exact (if_neg (by rw [steams]; decide)).trans (if_neg (by rw [shut]; decide))

end

/-- The burst of an entered stage is none, waits for the door, or is requested. -/
theorem enterBurst_cases {P : State → Prop} (s : State) (none : P s)
    (waits : ∀ ml, P (setRun { s.ret.run with deferredBurst := some ml } s))
    (asks : ∀ ml, P (followWater (requestBurst ml s))) : P (enterBurst s) := by
  cases burst : (currentStage s).burst with
  | none =>
    rw [enterBurst_none (.inl burst)]
    exact none
  | some ml =>
    cases steams : s.ret.run.degraded
    · cases door : s.ret.run.causes.door
      · rw [enterBurst_asks burst steams door]
        exact asks ml
      · rw [enterBurst_waits burst steams door]
        exact waits ml
    · rw [enterBurst_none (.inr steams)]
      exact none

theorem enterBurst_stays (other : k.ofPauses = false) (degrades : k ≠ .steamDegraded) (s : State) :
    StageStays k s (enterBurst s) := by
  refine enterBurst_cases s (StageGoesOn.refl k s).toStageStays (fun ml => ?_) fun ml => ?_
  · exact ⟨setRun_kept _ (.refl s), rfl, rfl, id, rfl, .same rfl⟩
  · exact (requestBurst_stays degrades ml s).trans (followWater_goesOn other).toStageStays

theorem enterBurst_causes (s : State) : ∃ w, (enterBurst s).ret.run.causes = s.ret.run.causes.put .water w := by
  have same : ∃ w, s.ret.run.causes = s.ret.run.causes.put .water w := ⟨_, (Causes.put_same (p := .water) rfl).symm⟩
  refine enterBurst_cases (P := fun t => ∃ w, t.ret.run.causes = s.ret.run.causes.put .water w) s same (fun _ => same)
    fun ml => ?_
  obtain ⟨w, causes⟩ := followWater_causes (requestBurst ml s)
  refine ⟨w, causes.trans ?_⟩
  rw [requestBurst_only]

/-- WATER and the withholding of steam stand after the burst's request, too. -/
theorem enterBurst_stands (active : runActive s = true) (stands : WaterStands s) : WaterStands (enterBurst s) := by
  refine enterBurst_cases s stands (fun ml => ⟨stands.followed, stands.withheld, stands.holds⟩) fun ml => ?_
  have runs := (requestBurst_stays (k := .stageStarted) (by decide) ml s).runs active
  refine followWater_stands runs ?_ ?_
  · rw [requestBurst_only]
    exact stands.followed
  · rw [requestBurst_only]
    exact stands.withheld

end

end Sys2Proof.Machine
end

section
/-! SUPPORT. The entry of a stage up to its announcement (R138, R149): the stage is made current, degraded where steam is
lost, written to the regulator and told by STAGE_STARTED and CONFIRM_AWAITED. -/

namespace Sys2Proof.Machine

section
variable {k : Nat} {s : State}

/-! ## A stage becomes degraded (R149) -/

theorem degradeStage_same (h : ¬((currentStage s).usesSteam = true ∧ s.ret.run.degraded = false)) :
    degradeStage s = s := by
  refine if_neg fun uses => h ?_
  rwa [Bool.and_eq_true, Bool.not_eq_true'] at uses

/-- The stage is marked, told and without steam. -/
def stageMarked (s : State) : State :=
  withholdSteam true
    (raiseEvent .steamDegraded (stageArg s) (setRun { s.ret.run with degraded := true, degradedAny := true } s))

/-- The marked stage has no burst. -/
def burstDropped (s : State) : State := dropDeferred (cancelBurst (stageMarked s))

theorem degradeStage_eq (uses : (currentStage s).usesSteam = true) (fresh : s.ret.run.degraded = false) :
    degradeStage s =
      setRun { (removeCause .water (burstDropped s)).ret.run with waterTimer := 0 }
        (removeCause .water (burstDropped s)) := by
  refine if_pos ?_
  rw [uses, fresh]
  rfl

theorem stageMarked_ret (s : State) :
    (stageMarked s).ret = { s.ret with run := { s.ret.run with degraded := true, degradedAny := true } } := by
  unfold stageMarked
  rw [(withholdSteam_units ..).1]
  rfl

/-- A degraded stage moves of the run its pauses, the count of steam and its marks alone. -/
theorem degradeStage_degrades (uses : (currentStage s).usesSteam = true) (fresh : s.ret.run.degraded = false) :
    (degradeStage s).ret.slots = s.ret.slots ∧ (degradeStage s).climate.state = s.climate.state ∧
      (degradeStage s).events.steering = s.events.steering ∧
      ∃ st n m, (degradeStage s).ret.run =
          { s.ret.run with
            state := st, causes := s.ret.run.causes.put .water false, waterTimer := 0, degraded := true
            degradedAny := true, deferredBurst := none, steamUsed := n, steamRemainder := m } ∧
        (s.ret.run.state ≠ .idle → st ≠ .idle) := by
  have burst := cancelBurst_reacts (stageMarked s)
  obtain ⟨n, m, run⟩ := burst.run
  have slots : (burstDropped s).ret.slots = s.ret.slots := burst.slots.trans (by rw [stageMarked_ret])
  have steering : (burstDropped s).events.steering = s.events.steering :=
    burst.events.steering.trans
      ((withholdSteam_acts true _).events .stageStarted (by decide)).steering
  have climate : (burstDropped s).climate = { s.climate with steamWithheld := true } :=
    burst.climate.trans (withholdSteam_climate true _)
  have dropped : (burstDropped s).ret.run =
      { s.ret.run with
        degraded := true, degradedAny := true, deferredBurst := none, steamUsed := n, steamRemainder := m } := by
    have moved : (burstDropped s).ret.run = { (cancelBurst (stageMarked s)).ret.run with deferredBurst := none } := rfl
    rw [moved, run, stageMarked_ret]
  obtain ⟨st, moved, active⟩ := removeCause_moves .water (burstDropped s)
  have ret := (removeCause_runOnly .water (burstDropped s)).only
  rw [degradeStage_eq uses fresh]
  refine ⟨?_, ?_, ?_, st, n, m, ?_, ?_⟩
  · rw [setRun_ret, ret]
    exact slots
  · rw [setRun_climate, removeCause_climate, climate]
  · rw [setRun_events, (removeCause_runOnly ..).events.steering]
    exact steering
  · rw [setRun_ret, moved, dropped]
  · rw [dropped] at active
    exact active

/-! ## The stage made current (R138, R150) -/

/-- Step 1 of an entry: the run is in stage `k`. -/
def stageTaken (k : Nat) (s : State) : State := setRun (s.ret.run.atStage k (stageAt s k)) s

/-- The stage is degraded where the run has lost steam. -/
def lossTaken (k : Nat) (s : State) : State :=
  if (stageTaken k s).ret.run.steamLost then degradeStage (stageTaken k s) else stageTaken k s

theorem currentStage_stageTaken (k : Nat) (s : State) : currentStage (stageTaken k s) = stageAt s k := rfl

theorem lossTaken_same (h : ¬(s.ret.run.steamLost = true ∧ (stageAt s k).usesSteam = true)) :
    lossTaken k s = stageTaken k s := by
  unfold lossTaken
  split
  · next lost =>
    refine degradeStage_same fun uses => h ⟨lost, ?_⟩
    rw [currentStage_stageTaken] at uses
    exact uses.1
  · rfl

theorem lossTaken_kept (k : Nat) (s : State) : Kept s (lossTaken k s) := by
  unfold lossTaken
  exact kept_ite (degradeStage_kept (setRun_kept _ (.refl s))) (setRun_kept _ (.refl s))

/-- The run once its stage is current: only the pauses and the count of steam differ from the context of the entry. -/
theorem lossTaken_facts (k : Nat) (s : State) :
    (lossTaken k s).ret.slots = s.ret.slots ∧ (lossTaken k s).climate.state = s.climate.state ∧
      (lossTaken k s).events.steering = s.events.steering ∧
      ∃ st w x d n m, (lossTaken k s).ret.run =
          { s.ret.run.atStage k (stageAt s k) with
            state := st, causes := s.ret.run.causes.put .water w, waterTimer := x
            degraded := s.ret.run.steamLost && (stageAt s k).usesSteam, degradedAny := d, steamUsed := n
            steamRemainder := m } ∧
        (s.ret.run.state ≠ .idle → st ≠ .idle) := by
  by_cases h : s.ret.run.steamLost = true ∧ (stageAt s k).usesSteam = true
  · obtain ⟨lost, uses⟩ := h
    obtain ⟨slots, climate, steering, st, n, m, run, active⟩ :=
      degradeStage_degrades (s := stageTaken k s) ((congrArg Stage.usesSteam (currentStage_stageTaken k s)).trans uses) rfl
    unfold lossTaken
    rw [if_pos (show (stageTaken k s).ret.run.steamLost = true from lost), lost, uses]
    exact ⟨slots, climate, steering, st, false, 0, true, n, m, run, active⟩
  · have clear : (s.ret.run.steamLost && (stageAt s k).usesSteam) = false := by
      rw [Bool.and_eq_false_iff, ← Bool.not_eq_true, ← Bool.not_eq_true]
      exact not_and_or.mp h
    rw [lossTaken_same h, clear]
    refine ⟨rfl, rfl, rfl, s.ret.run.state, s.ret.run.causes.water, s.ret.run.waterTimer, s.ret.run.degradedAny,
      s.ret.run.steamUsed, s.ret.run.steamRemainder, ?_, id⟩
    rw [Causes.put_same (c := s.ret.run.causes) (p := .water) (b := s.ret.run.causes.water) rfl]
    rfl

/-! ## The stage written and announced (R23, R138) -/

/-- The record that the entry of stage `k` writes. -/
def entryRecord (k : Nat) (s : State) : SentRecord := stageRecord (stageAt s k) (lossTaken k s).ret.run

theorem entryRecord_eq (k : Nat) (s : State) :
    entryRecord k s =
      { mode := (stageAt s k).mode, setpoint := (stageAt s k).setpoint, moisture := (stageAt s k).moisture
        fanCode := (stageAt s k).fanCode, policy := (stageAt s k).policy } := by
  obtain ⟨-, -, -, st, w, x, d, n, m, run, -⟩ := lossTaken_facts k s
  unfold entryRecord stageRecord
  rw [run]
  rfl

/-- A stage entry that the regulator takes sets its record (R23). -/
theorem stageEntry_taken {sent : SentRecord} (works : s.climate.state ≠ .fault) :
    (stageEntry sent s).2 = some (completeRecord sent).2 ∧
      (stageEntry sent s).1.climate.record = some (completeRecord sent).1 := by
  have issued : ∀ t : State, (issueOutputs t).climate.record = t.climate.record := fun t => by
    obtain ⟨b, same⟩ := issueOutputs_climate t
    rw [same]
  unfold stageEntry
  rw [if_neg works]
  dsimp only
  split
  · exact ⟨rfl, rfl⟩
  · exact ⟨rfl, (issued _).trans rfl⟩

/-- The stage's record has been written. -/
def stageWritten (k : Nat) (s : State) : State := (stageEntry (entryRecord k s) (lossTaken k s)).1

/-- Steam is withheld where the run holds WATER or the stage is degraded. -/
def steamSettled (k : Nat) (s : State) : State :=
  withholdSteam ((stageWritten k s).ret.run.causes.water || (stageWritten k s).ret.run.degraded) (stageWritten k s)

/-- STAGE_STARTED has been raised. -/
def stageStarted (k : Nat) (s : State) : State := raiseEvent .stageStarted (numberArg k) (steamSettled k s)

/-- The entered stage is announced, with CONFIRM_AWAITED where it waits for one. -/
def stageAnnounced (k : Nat) (s : State) : State :=
  if (stageAt s k).ending = .confirm then raiseEvent .confirmAwaited (numberArg k) (stageStarted k s)
  else stageStarted k s

theorem enterStage_entered (atStart : Bool) (calm : fatalFault (stageTaken k s) = none)
    (works : s.climate.state ≠ .fault) :
    enterStage k atStart s = (enterBurst (enterCauses atStart (stageAnnounced k s)), true) := by
  obtain ⟨-, climate, -⟩ := lossTaken_facts k s
  have written : stageEntry (entryRecord k s) (lossTaken k s) =
      (stageWritten k s, some (completeRecord (entryRecord k s)).2) :=
    Prod.ext rfl (stageEntry_taken (by rw [climate]; exact works)).1
  unfold entryRecord lossTaken stageTaken at written
  unfold stageTaken at calm
  unfold enterStage
  dsimp only
  rw [calm]
  dsimp only
  rw [written]
  rfl

/-- An entry that is not carried through ends the run (R138, R151). -/
theorem enterStage_fails {atStart : Bool} (h : fatalFault (stageTaken k s) ≠ none ∨ s.climate.state = .fault) :
    ∃ f u, enterStage k atStart s = (endRun .fault (some f) u, false) := by
  cases fault : fatalFault (stageTaken k s) with
  | some f =>
    unfold stageTaken at fault
    unfold enterStage
    dsimp only
    rw [fault]
    exact ⟨f, _, rfl⟩
  | none =>
    obtain ⟨-, climate, -⟩ := lossTaken_facts k s
    have refused : stageEntry (entryRecord k s) (lossTaken k s) = (lossTaken k s, none) :=
      if_pos (climate.trans (h.resolve_left fun differs => differs fault))
    unfold entryRecord lossTaken stageTaken at refused
    unfold stageTaken at fault
    unfold enterStage
    dsimp only
    rw [fault]
    dsimp only
    rw [refused]
    exact ⟨_, _, rfl⟩

/-! ## The announced stage -/

theorem steamSettled_acts (k : Nat) (s : State) : RegulatorActs (lossTaken k s) (steamSettled k s) :=
  (stageEntry_acts _ _).trans (withholdSteam_acts _ _)

theorem stageAnnounced_only (k : Nat) (s : State) :
    stageAnnounced k s = { steamSettled k s with events := (stageAnnounced k s).events } := by
  unfold stageAnnounced
  split <;> rfl

theorem stageAnnounced_units (k : Nat) (s : State) :
    (stageAnnounced k s).ret = (lossTaken k s).ret ∧ (stageAnnounced k s).water = (lossTaken k s).water ∧
      (stageAnnounced k s).scale = (lossTaken k s).scale := by
  obtain ⟨ret, -, water, scale, -⟩ := (steamSettled_acts k s).units
  rw [stageAnnounced_only]
  exact ⟨ret, water, scale⟩

theorem stageAnnounced_kept (k : Nat) (s : State) : Kept s (stageAnnounced k s) := by
  have written : Kept s (stageWritten k s) := stageEntry_kept _ (lossTaken_kept k s)
  have started : Kept s (stageStarted k s) := raiseEvent_kept _ _ (withholdSteam_kept _ written)
  unfold stageAnnounced
  exact kept_ite (raiseEvent_kept _ _ started) started

theorem stageAnnounced_withheld (k : Nat) (s : State) :
    (stageAnnounced k s).climate.steamWithheld =
      ((stageAnnounced k s).ret.run.causes.water || (stageAnnounced k s).ret.run.degraded) := by
  have ret : (stageWritten k s).ret = (lossTaken k s).ret := (stageEntry_acts _ _).units.1
  rw [(stageAnnounced_units k s).1, ← ret, stageAnnounced_only]
  exact congrArg Climate.steamWithheld (withholdSteam_climate _ _)

theorem stageAnnounced_record (works : s.climate.state ≠ .fault) :
    (stageAnnounced k s).climate.record = some (completeRecord (entryRecord k s)).1 := by
  have calm : (lossTaken k s).climate.state ≠ .fault := by
    rw [(lossTaken_facts k s).2.1]
    exact works
  have settled : (steamSettled k s).climate.record = (stageWritten k s).climate.record := by
    unfold steamSettled
    rw [withholdSteam_climate]
  rw [stageAnnounced_only]
  exact settled.trans (stageEntry_taken calm).2

/-- A stage that is not degraded is entered with the water unit and the account as they are. -/
theorem stageAnnounced_fresh (fresh : (stageAnnounced k s).ret.run.degraded = false) :
    (stageAnnounced k s).water = s.water ∧ (stageAnnounced k s).scale = s.scale := by
  obtain ⟨ret, water, scale⟩ := stageAnnounced_units k s
  obtain ⟨-, -, -, st, w, x, d, n, m, run, -⟩ := lossTaken_facts k s
  have steams : lossTaken k s = stageTaken k s := by
    refine lossTaken_same fun lost => ?_
    rw [ret, run] at fresh
    exact absurd ((Bool.and_eq_true_iff.mpr lost).symm.trans fresh) (by decide)
  rw [water, scale, steams]
  exact ⟨rfl, rfl⟩

theorem steamSettled_steering (k : Nat) (s : State) : (steamSettled k s).events.steering = s.events.steering :=
  ((steamSettled_acts k s).events .stageStarted (by decide)).steering.trans (lossTaken_facts k s).2.2.1

/-- A raise is seen from every earlier state of the same steering. -/
theorem RaisedTo.from {k : EventKind} {a : Option Byte} {s t u : State} (h : RaisedTo k a t u)
    (steering : t.events.steering = s.events.steering) : RaisedTo k a s u := by
  intro l steered
  rw [← steering] at steered
  exact h l steered

theorem stageAnnounced_raised (k : Nat) (s : State) :
    RaisedTo .stageStarted (some (BitVec.ofNat 8 k)) s (stageAnnounced k s) := by
  have raised : RaisedTo .stageStarted (some (BitVec.ofNat 8 k)) s (stageStarted k s) :=
    (raiseEvent_raised _ _ (steamSettled k s)).from (steamSettled_steering k s)
  unfold stageAnnounced
  split
  · exact (raiseEvent_entriesKept (by decide) _ _).raised raised
  · exact raised

theorem stageAnnounced_awaited (waits : (stageAt s k).ending = .confirm) :
    RaisedTo .confirmAwaited (some (BitVec.ofNat 8 k)) s (stageAnnounced k s) ∧
      conditionHolds .confirmAwaited (stageAnnounced k s) = true := by
  unfold stageAnnounced
  rw [if_pos waits]
  exact ⟨(raiseEvent_raised _ _ (stageStarted k s)).from (steamSettled_steering k s), rfl⟩

theorem stageAnnounced_steering (k : Nat) (s : State) : (stageAnnounced k s).events.steering = s.events.steering := by
  unfold stageAnnounced
  split
  · exact steamSettled_steering k s
  · exact steamSettled_steering k s

theorem stageAnnounced_stage (k : Nat) (s : State) : currentStage (stageAnnounced k s) = stageAt s k := by
  obtain ⟨slots, -, -, st, w, x, d, n, m, run, -⟩ := lossTaken_facts k s
  unfold currentStage stageAt runStages
  rw [(stageAnnounced_units k s).1, slots, run]
  rfl

end

end Sys2Proof.Machine
end

section
/-! SUPPORT. An entered stage (R138, R143, R146, R147): what its entry leaves of the run, and that the causes and the burst
are taken up. -/

namespace Sys2Proof.Machine

section
variable {k : Nat} {atStart : Bool} {s : State}

/-- The announced stage with its causes. -/
def causesEntered (k : Nat) (atStart : Bool) (s : State) : State := enterCauses atStart (stageAnnounced k s)

/-- The state that an entry leaves which is carried through. -/
def stageEntered (k : Nat) (atStart : Bool) (s : State) : State := enterBurst (causesEntered k atStart s)

theorem causesEntered_goesOn {e : EventKind} (other : e.ofPauses = false) :
    StageGoesOn e (stageAnnounced k s) (causesEntered k atStart s) := enterCauses_goesOn other atStart

theorem stageEntered_stays {e : EventKind} (other : e.ofPauses = false) (degrades : e ≠ .steamDegraded) :
    StageStays e (stageAnnounced k s) (stageEntered k atStart s) :=
  (causesEntered_goesOn other).toStageStays.trans (enterBurst_stays other degrades _)

/-- What the entry of stage `k` sets in the run context (R138). -/
theorem stageEntered_run (k : Nat) (atStart : Bool) (s : State) :
    let r := (stageEntered k atStart s).ret.run
    (stageEntered k atStart s).ret.slots = s.ret.slots ∧ r.slot = s.ret.run.slot ∧ r.stageIndex = k ∧ r.elapsed = 0 ∧
      r.duration = (stageAt s k).duration ∧ r.adjSetpoint = none ∧ r.adjMoisture = none ∧ r.tempReached = false ∧
      r.moistReached = false ∧ r.coreReached = false ∧
      r.degraded = (s.ret.run.steamLost && (stageAt s k).usesSteam) := by
  obtain ⟨slots, -, -, st, w, x, d, n, m, run, -⟩ := lossTaken_facts k s
  have ret := (stageAnnounced_units k s).1
  have stays : StageStays .stageStarted (stageAnnounced k s) (stageEntered k atStart s) :=
    stageEntered_stays rfl (by decide)
  dsimp only
  rw [stays.slots, stays.field RunContext.slot, stays.field RunContext.stageIndex, stays.field RunContext.elapsed,
    stays.field RunContext.duration, stays.field RunContext.adjSetpoint, stays.field RunContext.adjMoisture,
    stays.field RunContext.tempReached, stays.field RunContext.moistReached, stays.field RunContext.coreReached,
    stays.field RunContext.degraded, ret, run, slots]
  exact ⟨rfl, rfl, rfl, rfl, rfl, rfl, rfl, rfl, rfl, rfl, rfl⟩

/-- The causes that the entry leaves: PROBE by the new stage, DOOR and MAINS as they were but for a START (R138). -/
theorem stageEntered_causes (k : Nat) (atStart : Bool) (s : State) :
    let c := (stageEntered k atStart s).ret.run.causes
    c.door = (s.ret.run.causes.door || (atStart && doorOpen s)) ∧
      c.mains = (s.ret.run.causes.mains || (atStart && !s.meas.mainsPresent)) ∧
      (runActive s = true → c.probe = (decide ((stageAt s k).ending = .core) && !s.meas.probePresent)) := by
  obtain ⟨-, -, -, st, w, x, d, n, m, run, active⟩ := lossTaken_facts k s
  obtain ⟨w', considered⟩ := enterCauses_causes atStart (stageAnnounced k s)
  obtain ⟨w'', causes⟩ := enterBurst_causes (causesEntered k atStart s)
  have kept := stageAnnounced_kept k s
  have door : doorOpen (stageAnnounced k s) = doorOpen s := by
    unfold doorOpen
    rw [kept.inputs]
  unfold stageEntered
  rw [causes]
  unfold causesEntered
  rw [considered, door, kept.meas, stageAnnounced_stage, (stageAnnounced_units k s).1, run]
  refine ⟨rfl, rfl, fun runs => ?_⟩
  have still : runActive (stageAnnounced k s) = true := by
    rw [runActive_iff] at runs ⊢
    rw [kept.start, (stageAnnounced_units k s).1, run]
    exact ⟨runs.1, active runs.2⟩
  exact if_pos still

theorem stageAnnounced_runs (active : runActive s = true) : runActive (stageAnnounced k s) = true := by
  obtain ⟨-, -, -, st, w, x, d, n, m, run, goesOn⟩ := lossTaken_facts k s
  rw [runActive_iff] at active ⊢
  rw [(stageAnnounced_kept k s).start, (stageAnnounced_units k s).1, run]
  exact ⟨active.1, goesOn active.2⟩

theorem burstLoad_congr {t : State} (kept : Kept s t) (ml : Nat) : burstLoad ml t = burstLoad ml s := by
  unfold burstLoad
  rw [kept.start, kept.settings]
  simp only [sourceLow_congr kept.inputs]

/-- Where the water unit stands as it did in `s`, a request made later is one that was made in `s` (R107). -/
theorem requestBurst_asked {t : State} (kept : Kept s t) (water : t.water = s.water) (scale : t.scale = s.scale)
    (steering : t.events.steering = s.events.steering) (ml : Nat) :
    BurstAsked ml s (followWater (requestBurst ml t)) := by
  have follows : StageGoesOn .steamDegraded (requestBurst ml t) (followWater (requestBurst ml t)) := followWater_goesOn rfl
  have chans : ∀ c : Chan, chan (followWater (requestBurst ml t)) c = chan (requestBurst ml t) c := fun c =>
    congrArg (fun w : Water => w.chans.get c) follows.water
  have same : chan t .ch1 = chan s .ch1 := congrArg (fun w : Water => w.chans.get .ch1) water
  have refusal : burstRefused t ↔ burstRefused s := by
    unfold burstRefused
    rw [kept.meas, holdsDose_congr same, scale]
  unfold BurstAsked
  rw [chans]
  refine ⟨fun refused => ?_, fun granted => ?_⟩
  · have request : requestBurst ml t = raiseEvent .steamDegraded none t := requestBurst_refused (refusal.mpr refused)
    refine ⟨?_, follows.events.raised ?_⟩
    · rw [request]
      exact same
    · rw [request]
      exact (raiseEvent_raised .steamDegraded none t).from steering
  · rw [requestBurst_taken (mt refusal.mp granted), chan_setChan, if_pos rfl, burstLoad_congr kept]
    rfl

/-! ## The causes and the burst of an entered stage -/

theorem causesEntered_stage (k : Nat) (atStart : Bool) (s : State) :
    currentStage (causesEntered k atStart s) = stageAt s k :=
  (causesEntered_goesOn (e := .stageStarted) rfl).stage.trans (stageAnnounced_stage k s)

theorem causesEntered_deferred (k : Nat) (atStart : Bool) (s : State) :
    (causesEntered k atStart s).ret.run.deferredBurst = none := by
  obtain ⟨-, -, -, st, w, x, d, n, m, run, -⟩ := lossTaken_facts k s
  rw [(causesEntered_goesOn (e := .stageStarted) rfl).deferred, (stageAnnounced_units k s).1, run]
  rfl

/-- A stage that is not degraded finds the water unit and the account as they are. -/
theorem causesEntered_fresh (steams : (causesEntered k atStart s).ret.run.degraded = false) :
    (causesEntered k atStart s).water = s.water ∧ (causesEntered k atStart s).scale = s.scale ∧
      chan (causesEntered k atStart s) .ch1 = chan s .ch1 := by
  have considered : StageGoesOn .stageStarted (stageAnnounced k s) (causesEntered k atStart s) := causesEntered_goesOn rfl
  obtain ⟨water, scale⟩ := stageAnnounced_fresh ((considered.field RunContext.degraded).symm.trans steams)
  have same : (causesEntered k atStart s).water = s.water := considered.water.trans water
  exact ⟨same, considered.scale.trans scale, congrArg (fun w : Water => w.chans.get .ch1) same⟩

/-- The burst's request leaves the mark of a degraded stage and DOOR as the entry has them. -/
theorem stageEntered_marks (k : Nat) (atStart : Bool) (s : State) :
    (stageEntered k atStart s).ret.run.degraded = (causesEntered k atStart s).ret.run.degraded ∧
      (stageEntered k atStart s).ret.run.causes.door = (causesEntered k atStart s).ret.run.causes.door := by
  obtain ⟨w, causes⟩ := enterBurst_causes (causesEntered k atStart s)
  exact ⟨(enterBurst_stays (k := .stageStarted) rfl (by decide) (causesEntered k atStart s)).field RunContext.degraded,
    (congrArg Causes.door causes).trans rfl⟩

theorem stageEntered_stands (active : runActive s = true) : WaterStands (stageEntered k atStart s) := by
  have announced := stageAnnounced_runs (k := k) active
  exact enterBurst_stands ((causesEntered_goesOn (e := .stageStarted) rfl).runs announced)
    (enterCauses_stands atStart announced (stageAnnounced_withheld k s))

/-- A stage without a burst, or one that is degraded, asks for none. -/
theorem stageEntered_none (h : (stageAt s k).burst = none ∨ (stageEntered k atStart s).ret.run.degraded = true) :
    stageEntered k atStart s = causesEntered k atStart s := by
  rw [(stageEntered_marks k atStart s).1] at h
  exact enterBurst_none (by rw [causesEntered_stage]; exact h)

/-- The burst of a stage waits for the door, or is requested (R138, R143). -/
theorem stageEntered_burst {ml : Nat} (burst : (stageAt s k).burst = some ml)
    (steams : (stageEntered k atStart s).ret.run.degraded = false) :
    let t := stageEntered k atStart s
    (t.ret.run.causes.door = true → t.ret.run.deferredBurst = some ml ∧ chan t .ch1 = chan s .ch1) ∧
      (t.ret.run.causes.door = false → t.ret.run.deferredBurst = none ∧ BurstAsked ml s t) := by
  obtain ⟨degraded, door⟩ := stageEntered_marks k atStart s
  have fresh := degraded.symm.trans steams
  have own : (currentStage (causesEntered k atStart s)).burst = some ml := by
    rw [causesEntered_stage]
    exact burst
  obtain ⟨water, scale, channel⟩ := causesEntered_fresh fresh
  dsimp only
  rw [door]
  refine ⟨fun opened => ?_, fun shut => ?_⟩
  · have waits : stageEntered k atStart s = setRun _ (causesEntered k atStart s) := enterBurst_waits own fresh opened
    rw [waits]
    exact ⟨rfl, channel⟩
  · have asks : stageEntered k atStart s = followWater (requestBurst ml (causesEntered k atStart s)) :=
      enterBurst_asks own fresh shut
    have considered : StageGoesOn .stageStarted (stageAnnounced k s) (causesEntered k atStart s) :=
      causesEntered_goesOn rfl
    rw [asks]
    refine ⟨?_, requestBurst_asked ((stageAnnounced_kept k s).trans considered.kept) water scale
      (considered.events.steering.trans (stageAnnounced_steering k s)) ml⟩
    rw [(followWater_goesOn (k := .stageStarted) rfl).deferred, requestBurst_only]
    exact causesEntered_deferred k atStart s

/-- The causes and the burst of an entered stage are as the statements name them (R138, R143, R146, R147). -/
theorem stageEntered_takesUp (active : runActive s = true) : TakesUp (stageAt s k) s (stageEntered k atStart s) := by
  have stands : WaterStands (stageEntered k atStart s) := stageEntered_stands active
  have runs : runActive (stageEntered k atStart s) = true :=
    (stageEntered_stays (e := .stageStarted) rfl (by decide)).runs (stageAnnounced_runs active)
  refine ⟨?_, ?_, stands.withheld, fun none => ?_, fun none steams => ?_, fun ml burst steams =>
    stageEntered_burst burst steams⟩
  · rw [(stageEntered_causes k atStart s).2.2 active]
    simp
  · rw [stands.holds]
    exact waterConditionHolds_iff runs
  · rw [stageEntered_none none]
    exact causesEntered_deferred k atStart s
  · have same := stageEntered_none (atStart := atStart) (.inl none)
    rw [same] at steams ⊢
    exact (causesEntered_fresh steams).2.2

end

end Sys2Proof.Machine
end

section
/-! SUPPORT. The end of a stage (R96, R142): its burst is charged, its causes and its waiting confirm end with it, and the
stages that are at their end as soon as they are entered end one after the other. -/

namespace Sys2Proof.Machine

section
variable {s : State}

/-! ## What ends with a stage -/

/-- The stage's burst is gone, and so is its waiting burst; what a confirm waited for has ended. -/
def burstEnded (s : State) : State := endCondition .confirmAwaited (dropDeferred (cancelBurst s))

theorem closeStage_eq (s : State) : closeStage s = removeCause .probe (burstEnded s) := rfl

theorem burstEnded_run (s : State) :
    ∃ n m, (burstEnded s).ret.run = { s.ret.run with deferredBurst := none, steamUsed := n, steamRemainder := m } := by
  obtain ⟨n, m, run⟩ := (cancelBurst_reacts s).run
  have dropped : (burstEnded s).ret.run = { (cancelBurst s).ret.run with deferredBurst := none } := rfl
  exact ⟨n, m, by rw [dropped, run]⟩

/-- Of the run, the end of a stage moves its pauses, the waiting burst and the count of steam. -/
theorem closeStage_run (s : State) :
    (closeStage s).ret.slots = s.ret.slots ∧
      ∃ st n m, (closeStage s).ret.run =
        { s.ret.run with
          state := st, causes := s.ret.run.causes.put .probe false, deferredBurst := none, steamUsed := n
          steamRemainder := m } := by
  obtain ⟨n, m, run⟩ := burstEnded_run s
  obtain ⟨st, moved, -⟩ := removeCause_moves .probe (burstEnded s)
  refine ⟨?_, st, n, m, ?_⟩
  · rw [closeStage_eq, (removeCause_runOnly ..).only]
    exact (cancelBurst_reacts s).slots
  · rw [closeStage_eq, moved, run]

theorem closeStage_stages (s : State) : runStages (closeStage s) = runStages s := by
  obtain ⟨slots, st, n, m, run⟩ := closeStage_run s
  unfold runStages
  rw [slots, run]

theorem closeStage_index (s : State) : (closeStage s).ret.run.stageIndex = s.ret.run.stageIndex := by
  obtain ⟨-, st, n, m, run⟩ := closeStage_run s
  rw [run]

theorem closeStage_burst (s : State) : holdsDose (closeStage s) .ch1 = false := by
  have water : (closeStage s).water = (cancelBurst s).water := by
    rw [closeStage_eq, (removeCause_runOnly ..).only]
    rfl
  have channel : chan (closeStage s) .ch1 = chan (cancelBurst s) .ch1 := congrArg (fun w : Water => w.chans.get .ch1) water
  rw [holdsDose_congr channel]
  unfold cancelBurst
  cases held : holdsDose s .ch1
  · exact held
  · rw [if_pos rfl]
    unfold holdsDose
    rw [chan_cancelDose (by decide)]
    rfl

theorem conditionHolds_endCondition (k : EventKind) (s : State) : conditionHolds k (endCondition k s) = false := by
  unfold conditionHolds endCondition
  simp

theorem conditionHolds_of_raiseEvent {k k' : EventKind} (other : k ≠ k') {a : Option Byte}
    (holds : conditionHolds k (raiseEvent k' a s) = true) : conditionHolds k s = true := by
  obtain ⟨c, member, kind⟩ := List.any_eq_true.mp holds
  have differs : c ≠ ⟨k', a⟩ := by
    rintro rfl
    exact other (of_decide_eq_true kind).symm
  have held : c ∈ s.events.conditions := by
    unfold raiseEvent holdCondition at member
    dsimp only at member
    split at member
    · exact (List.mem_filter.mp ((List.mem_cons.mp member).resolve_left differs)).1
    · exact member
  exact List.any_eq_true.mpr ⟨c, held, kind⟩

theorem conditionHolds_of_removeCause {k : EventKind} (other : k ≠ .programResumed) {p : PauseCause}
    (holds : conditionHolds k (removeCause p s) = true) : conditionHolds k s = true := by
  unfold removeCause at holds
  split at holds
  · dsimp only at holds
    split at holds
    · exact conditionHolds_of_raiseEvent other holds
    · exact holds
  · exact holds

theorem closeStage_confirms (s : State) : conditionHolds .confirmAwaited (closeStage s) = false := by
  refine Bool.eq_false_iff.mpr fun holds => ?_
  rw [closeStage_eq] at holds
  have held : conditionHolds .confirmAwaited (burstEnded s) = true := conditionHolds_of_removeCause (by decide) holds
  exact Bool.false_ne_true ((conditionHolds_endCondition _ _).symm.trans held)

/-! ## What the stage's burst has delivered is charged (R96) -/

theorem closeStage_after (s : State) : ChargesNothing (cancelBurst s) (closeStage s) := by
  obtain ⟨st, run, -⟩ := removeCause_moves .probe (burstEnded s)
  rw [closeStage_eq]
  refine ⟨?_, ?_, ?_⟩
  · rw [(removeCause_runOnly ..).only]
    rfl
  · rw [run]
    rfl
  · rw [run]
    rfl

theorem closeStage_charges {d : Dose} (runs : (chan s .ch1).state = .running) (dose : (chan s .ch1).dose = some d) :
    HandsOn (d.delivered - d.charged) d s (closeStage s) := by
  have held : holdsDose s .ch1 = true := by
    unfold holdsDose
    rw [runs]
    rfl
  have cancelled : cancelBurst s = cancelDose .ch1 s := if_pos held
  refine HandsOn.after ?_ (closeStage_after s)
  rw [cancelled]
  exact cancelDose_handsOn (by decide) runs dose

theorem closeStage_chargesNothing (rests : (chan s .ch1).state ≠ .running) : ChargesNothing s (closeStage s) := by
  have cancelled : ChargesNothing s (cancelBurst s) := by
    have free : cancelDose .ch1 s = setChan .ch1 ⟨.idle, none⟩ s := by
      unfold cancelDose
      rw [if_neg (fun drain => nomatch drain.1), if_neg rests]
    unfold cancelBurst
    split
    · rw [free]
      exact ⟨rfl, rfl, rfl⟩
    · exact .refl s
  exact cancelled.trans (closeStage_after s)

/-! ## One stage after the other (R138, R142) -/

/-- The entry that follows the end of the current stage. -/
def entryAfter (s : State) : State × Bool := enterStage (s.ret.run.stageIndex + 1) false (closeStage s)

/-- A stage of the run follows the current one. -/
def hasFollowing (s : State) : Prop := s.ret.run.stageIndex + 1 < (runStages s).length

theorem endStages_last (n : Nat) (last : ¬hasFollowing s) :
    endStages (n + 1) s = endRun .completed none (closeStage s) := by
  unfold endStages
  dsimp only
  rw [closeStage_stages, closeStage_index, if_pos (Nat.le_of_not_lt last)]

theorem endStages_following (n : Nat) (following : hasFollowing s) :
    endStages (n + 1) s =
      if (entryAfter s).2 = true ∧ stageEndMet (entryAfter s).1 = true then endStages n (entryAfter s).1
      else (entryAfter s).1 := by
  have continues : ∀ e : State × Bool,
      (match e with
        | (s, true) => if stageEndMet s then endStages n s else s
        | (s, false) => s) =
        if e.2 = true ∧ stageEndMet e.1 = true then endStages n e.1 else e.1 := by
    rintro ⟨u, b⟩
    cases b
    · rw [if_neg fun h => nomatch h.1]
    · simp only [true_and]
  rw [endStages, closeStage_stages, closeStage_index, if_neg (Nat.not_le_of_lt following)]
  exact continues (entryAfter s)

/-- Any number of stages may still be entered, but for none. -/
theorem endStages_settled (n : Nat) (following : hasFollowing s)
    (settled : (entryAfter s).2 = false ∨ stageEndMet (entryAfter s).1 = false) :
    endStages (n + 1) s = (entryAfter s).1 := by
  rw [endStages_following n following, if_neg]
  rintro ⟨entered, met⟩
  exact settled.elim (fun failed => nomatch failed.symm.trans entered) fun unmet => nomatch unmet.symm.trans met

theorem endStages_chains (n : Nat) (following : hasFollowing s) (entered : (entryAfter s).2 = true)
    (met : stageEndMet (entryAfter s).1 = true) : endStages (n + 1) s = endStages n (entryAfter s).1 :=
  (endStages_following n following).trans (if_pos ⟨entered, met⟩)

/-- An entry is carried through, or it ends the run (R138, R150, R151). -/
theorem enterStage_outcome (k : Nat) (atStart : Bool) (s : State) :
    enterStage k atStart s = (stageEntered k atStart s, true) ∨
      ∃ f u, enterStage k atStart s = (endRun .fault (some f) u, false) := by
  by_cases calm : fatalFault (stageTaken k s) = none
  · by_cases broken : s.climate.state = .fault
    · exact .inr (enterStage_fails (.inr broken))
    · exact .inl (enterStage_entered atStart calm broken)
  · exact .inr (enterStage_fails (.inl calm))

theorem entryAfter_abandoned (failed : (entryAfter s).2 = false) : (entryAfter s).1.ret.run.state = .idle := by
  unfold entryAfter at failed ⊢
  rcases enterStage_outcome (s.ret.run.stageIndex + 1) false (closeStage s) with entered | ⟨f, u, abandoned⟩
  · rw [entered] at failed
    exact nomatch failed
  · rw [abandoned]
    exact (endRun_ended .fault (some f) u).idle

/-- The entered stage is the next one of the same program. -/
theorem entryAfter_next (entered : (entryAfter s).2 = true) :
    (entryAfter s).1.ret.run.stageIndex = s.ret.run.stageIndex + 1 ∧
      runStages (entryAfter s).1 = runStages s := by
  unfold entryAfter at entered ⊢
  rcases enterStage_outcome (s.ret.run.stageIndex + 1) false (closeStage s) with done | ⟨f, u, abandoned⟩
  · obtain ⟨slots, slot, index, -⟩ := stageEntered_run (s.ret.run.stageIndex + 1) false (closeStage s)
    rw [done]
    refine ⟨index, ?_⟩
    rw [← closeStage_stages s]
    unfold runStages
    rw [slots, slot]
  · rw [abandoned] at entered
    exact nomatch entered

end

/-! ## When a stage is at its end (R142) -/

section
variable {s : State}

theorem stageEndMet_core (ending : (currentStage s).ending = .core) : stageEndMet s = s.ret.run.coreReached := by
  unfold stageEndMet
  dsimp only
  rw [ending]

theorem stageEndMet_reached (ending : (currentStage s).ending = .reached) :
    stageEndMet s =
      if s.ret.run.degraded then s.ret.run.tempReached || decide ((currentStage s).mode = .steam)
      else if (currentStage s).mode.hasMoistureLoop then s.ret.run.tempReached && s.ret.run.moistReached
      else s.ret.run.tempReached := by
  unfold stageEndMet
  dsimp only
  rw [ending]

theorem stageEndMet_never (ending : (currentStage s).ending = .time ∨ (currentStage s).ending = .confirm) :
    stageEndMet s = false := by
  unfold stageEndMet
  dsimp only
  rcases ending with time | confirm
  · rw [time]
  · rw [confirm]

/-- The table of R142 for the stages that end by what they have reached. -/
theorem stageEndMet_reached_iff (ending : (currentStage s).ending = .reached) :
    let r := s.ret.run
    let mode := (currentStage s).mode
    (r.degraded = true → (stageEndMet s = true ↔ r.tempReached = true ∨ mode = .steam)) ∧
      (r.degraded = false → mode = .combi ∨ mode = .proof →
        (stageEndMet s = true ↔ r.tempReached = true ∧ r.moistReached = true)) ∧
      (r.degraded = false → mode ≠ .combi → mode ≠ .proof → (stageEndMet s = true ↔ r.tempReached = true)) := by
  dsimp only
  rw [stageEndMet_reached ending]
  refine ⟨fun degraded => ?_, fun steams moist => ?_, fun steams combi proof => ?_⟩
  · rw [if_pos degraded, Bool.or_eq_true, decide_eq_true_eq]
  · rw [if_neg (Bool.eq_false_iff.mp steams), if_pos ((hasMoistureLoop_iff _).mpr moist), Bool.and_eq_true]
  · have dry : ¬(currentStage s).mode.hasMoistureLoop = true := fun moist =>
      ((hasMoistureLoop_iff _).mp moist).elim combi proof
    rw [if_neg (Bool.eq_false_iff.mp steams), if_neg dry]

theorem stageTimeDue_iff (s : State) :
    stageTimeDue s = true ↔ runActive s = true ∧ ∃ d, s.ret.run.duration = some d ∧ d ≤ s.ret.run.elapsed := by
  unfold stageTimeDue
  rw [Bool.and_eq_true]
  cases s.ret.run.duration with
  | none => simp
  | some d => simp

end

end Sys2Proof.Machine
end
section
/-! STAGES. How stages end and the next ones are entered (R138, R142, R154). -/

namespace Sys2Proof.Machine

section
variable {s : State}

/-! ## SKIP_STAGE and CONFIRM (R154) -/

theorem currentStage_acceptFrame (l : Link) (s : State) : currentStage (acceptFrame l s) = currentStage s := by
  rw [acceptFrame_eq]
  rfl

section
variable {l : Link} {r1 r0 b : Byte} (active : runActive s = true)
  (named : number2 r1 r0 = s.ret.run.runId ∧ b.toNat = s.ret.run.stageIndex)
include active named

theorem skipStage_ends (reaches : Reaches l 0x15 [r1, r0, b] s) :
    exec (.skipStage l [r1, r0, b]) s = .next (answer l 0x15 (Reply.bare .ok) (settle (endStage (acceptFrame l s)))) :=
  (skipStage_owned reaches).takesNamed active named rfl

theorem confirm_refused (reaches : Reaches l 0x16 [r1, r0, b] s) (other : (currentStage s).ending ≠ .confirm) :
    Refuses (.confirm l [r1, r0, b]) l 0x16 .badArgument s := by
  refine (confirm_owned reaches).refusesNamed active named (if_neg ?_)
  rw [currentStage_acceptFrame]
  exact other

theorem confirm_ends (reaches : Reaches l 0x16 [r1, r0, b] s) (waits : (currentStage s).ending = .confirm) :
    exec (.confirm l [r1, r0, b]) s = .next (answer l 0x16 (Reply.bare .ok) (settle (endStage (acceptFrame l s)))) := by
  refine (confirm_owned reaches).takesNamed active named (if_pos ?_)
  rw [currentStage_acceptFrame]
  exact waits

end

/-! ## The next stage, and the one after it (R138, R142) -/

theorem endStage_last (last : (runStages s).length ≤ s.ret.run.stageIndex + 1) :
    endStage s = endRun .completed none (closeStage s) := endStages_last 11 (Nat.not_lt_of_le last)

/-- A stage that is at its end as soon as it is entered ends, too, and the one after it is entered. -/
theorem endStage_chains (following : hasFollowing s) (entered : (entryAfter s).2 = true)
    (met : stageEndMet (entryAfter s).1 = true) :
    ((runStages s).length ≤ s.ret.run.stageIndex + 2 →
        endStage s = endRun .completed none (closeStage (entryAfter s).1)) ∧
      (s.ret.run.stageIndex + 2 < (runStages s).length →
        let next := enterStage (s.ret.run.stageIndex + 2) false (closeStage (entryAfter s).1)
        next.2 = false ∨ stageEndMet next.1 = false → endStage s = next.1) := by
  obtain ⟨index, stages⟩ := entryAfter_next entered
  have chained : endStage s = endStages 11 (entryAfter s).1 := endStages_chains 11 following entered met
  have more : hasFollowing (entryAfter s).1 ↔ s.ret.run.stageIndex + 2 < (runStages s).length := by
    unfold hasFollowing
    rw [index, stages]
  have next : entryAfter (entryAfter s).1 =
      enterStage (s.ret.run.stageIndex + 2) false (closeStage (entryAfter s).1) := by
    rw [entryAfter.eq_1 (entryAfter s).1, index]
  dsimp only
  rw [chained, ← next]
  exact ⟨fun last => endStages_last 10 (mt more.mp (Nat.not_lt_of_le last)),
    fun follows => endStages_settled 10 (more.mpr follows)⟩

/-! ## The entered stage (R23, R138) -/

section
variable {k : Nat} {atStart : Bool}

theorem stageEntered_record (works : s.climate.state ≠ .fault) :
    (stageEntered k atStart s).climate.record =
      some (completeRecord
        { mode := (stageAt s k).mode, setpoint := (stageAt s k).setpoint, moisture := (stageAt s k).moisture
          fanCode := (stageAt s k).fanCode, policy := (stageAt s k).policy }).1 := by
  have stays : StageStays .stageStarted (stageAnnounced k s) (stageEntered k atStart s) :=
    stageEntered_stays rfl (by decide)
  rw [stays.record, stageAnnounced_record works, entryRecord_eq]

theorem stageEntered_raised :
    RaisedTo .stageStarted (some (BitVec.ofNat 8 k)) s (stageEntered k atStart s) :=
  (stageEntered_stays rfl (by decide)).events.raised (stageAnnounced_raised k s)

theorem stageEntered_awaited (waits : (stageAt s k).ending = .confirm) :
    RaisedTo .confirmAwaited (some (BitVec.ofNat 8 k)) s (stageEntered k atStart s) ∧
      conditionHolds .confirmAwaited (stageEntered k atStart s) = true := by
  have stays : StageStays .confirmAwaited (stageAnnounced k s) (stageEntered k atStart s) :=
    stageEntered_stays rfl (by decide)
  obtain ⟨raised, holds⟩ := stageAnnounced_awaited waits
  exact ⟨stays.events.raised raised, stays.events.condition holds⟩

end

end

/-- Settles O44: an end of a stage is `closeStage` and, as long as stages follow, an entry (`endStages_settled`,
`endStages_chains`); an entry that is carried through is `stageEntered`, which leaves announced what the stage
calls for. -/
theorem stagesEnd : Obligations.StagesEnd := by
  refine ⟨stageTimeDue_iff, fun s idle => ?notDue, fun s d active duration elapsed => ?due,
    fun l r1 r0 b s reaches => ?skips, fun l r1 r0 b s reaches => ?confirms, fun s last => endStage_last last,
    fun s following => ?follows, fun s => ?closes, fun s => ?met, fun k atStart s calm works => ?enters⟩
  case notDue => exact if_neg (Bool.eq_false_iff.mp idle)
  case due => exact if_pos ((stageTimeDue_iff s).mpr ⟨active, d, duration, elapsed⟩)
  case skips =>
    exact ⟨(skipStage_owned reaches).notRunning, (skipStage_owned reaches).stale, fun active named =>
      skipStage_ends active named reaches⟩
  case confirms =>
    exact ⟨(confirm_owned reaches).notRunning, (confirm_owned reaches).stale, fun active named =>
      confirm_refused active named reaches, fun active named => confirm_ends active named reaches⟩
  case follows =>
    exact ⟨fun failed => ⟨endStages_settled 11 following (.inl failed), entryAfter_abandoned failed⟩,
      fun _ unmet => endStages_settled 11 following (.inr unmet), endStage_chains following⟩
  case closes =>
    obtain ⟨-, st, n, m, run⟩ := closeStage_run s
    refine ⟨closeStage_burst s, ?_, ?_, closeStage_confirms s, fun _ => closeStage_charges,
      closeStage_chargesNothing⟩
    · rw [run]
    · rw [run]
      rfl
  case met =>
    have table := fun ending => stageEndMet_reached_iff (s := s) ending
    refine ⟨stageEndMet_never, fun core => by rw [stageEndMet_core core], fun reached => (table reached).1,
      fun reached => (table reached).2.1, fun reached => (table reached).2.2, ?_⟩
    unfold checkStageEnd
    simp only [Bool.and_eq_true]
  case enters =>
    obtain ⟨-, -, index, elapsed, duration, setpoint, moisture, temp, moist, core, degraded⟩ :=
      stageEntered_run k atStart s
    obtain ⟨door, mains, -⟩ := stageEntered_causes k atStart s
    have entry : enterStage k atStart s = (stageEntered k atStart s, true) := enterStage_entered atStart calm works
    dsimp only
    rw [entry]
    refine ⟨rfl, index, elapsed, duration, setpoint, moisture, temp, moist, core, ?_, stageEntered_record works, ?_,
      ?_, stageEntered_takesUp, stageEntered_raised, stageEntered_awaited⟩
    · rw [degraded, Bool.and_eq_true]
    · rw [door, Bool.or_eq_true, Bool.and_eq_true]
    · rw [mains, Bool.or_eq_true, Bool.and_eq_true, Bool.not_eq_true']

end Sys2Proof.Machine
end

section
/-! SUPPORT. INPUT_CHANGE up to the units that act on it (R161): when the row is due, the reading that it takes, and what no
unit's answer to an input moves. -/

namespace Sys2Proof.Machine

section
variable {i : Input} {s t u : State}

/-- The input's reading has taken its raw level; no unit has acted on it yet. -/
def inputRead (i : Input) (s : State) : State := setInput i (s.inputs.get i).become s

/-- Every unit that acts on the input has taken its change; the step still has to end. -/
def inputTaken (i : Input) (s : State) : State := inputBecomes i s (inputRead i s)

theorem exec_rawLevelChange (i : Input) (level : Bool) (s : State) :
    exec (.rawLevelChange i level) s = .next (setInput i ((s.inputs.get i).drive level) s) := by rfl

theorem exec_inputChange (i : Input) (s : State) :
    exec (.inputChange i) s = if inputChangeDue i s then .next (settle (inputTaken i s)) else .next s := by rfl

theorem inputChangeDue_iff (i : Input) (s : State) :
    inputChangeDue i s = true ↔
      watched s i = true ∧ (s.inputs.get i).raw ≠ (s.inputs.get i).reading ∧
        debounceTime i ≤ (s.inputs.get i).timer := by
  unfold inputChangeDue
  simp only [Bool.and_eq_true, decide_eq_true_eq, and_assoc]

theorem inputRead_inputs (i : Input) (s : State) :
    (inputRead i s).inputs = s.inputs.set i ⟨(s.inputs.get i).raw, (s.inputs.get i).raw, 0⟩ := rfl

/-- What no unit's answer to an input moves. -/
structure InputFrame (s t : State) : Prop where
  inputs : t.inputs = s.inputs
  settings : t.settings = s.settings
  meas : t.meas = s.meas
  ports : t.ports = s.ports
  pending : t.pending = s.pending

theorem InputFrame.refl (s : State) : InputFrame s s := ⟨rfl, rfl, rfl, rfl, rfl⟩

theorem InputFrame.trans (h : InputFrame s t) (k : InputFrame t u) : InputFrame s u :=
  ⟨k.inputs.trans h.inputs, k.settings.trans h.settings, k.meas.trans h.meas, k.ports.trans h.ports,
    k.pending.trans h.pending⟩

theorem Kept.inputFrame (h : Kept s t) : InputFrame s t := ⟨h.inputs, h.settings, h.meas, h.ports, h.pending⟩

theorem InputFrame.ite {b : Prop} [Decidable b] (ht : InputFrame s t) (hu : InputFrame s u) :
    InputFrame s (if b then t else u) := by
  split
  · exact ht
  · exact hu

theorem withdrawRemote_inputFrame (s : State) : InputFrame s (withdrawRemote s) :=
  .ite ⟨rfl, rfl, rfl, rfl, rfl⟩ (.refl s)

theorem endServiceUnlock_inputFrame (s : State) : InputFrame s (endServiceUnlock s) :=
  .ite ⟨rfl, rfl, rfl, rfl, rfl⟩ (.refl s)

theorem doorOpens_inputFrame (s : State) : InputFrame s (doorOpens s) := by
  have cut : ∀ t : State, InputFrame t (cutCavity t) := fun _ => ⟨rfl, rfl, rfl, rfl, rfl⟩
  have opened : InputFrame s
      (removeForces isCavityOutput (holdFan (cutCavity (withdrawRemote (raiseEvent .doorOpened none s))))) :=
    (((raiseEvent_kept _ _ (.refl s)).inputFrame.trans (withdrawRemote_inputFrame _)).trans (cut _)).trans
      (removeForces_kept _ (holdFan_kept (.refl _))).inputFrame
  exact .ite (opened.trans (addDoor_kept (.refl _)).inputFrame) opened

theorem cutoutOpens_inputFrame (s : State) : InputFrame s (cutoutOpens s) := by
  have entered : InputFrame s (enterFault .thermalCutout s) := by
    rw [enterFault_only]
    exact ⟨rfl, rfl, rfl, rfl, rfl⟩
  have cut : ∀ t : State, InputFrame t (cutAll t) := fun _ => ⟨rfl, rfl, rfl, rfl, rfl⟩
  exact (entered.trans (cut _)).trans (removeForces_kept _ (.refl _)).inputFrame

/-- No unit's answer to an input's change touches the inputs, the settings, the measurement, the ports or the queue. -/
theorem inputTaken_frame (i : Input) (s : State) : InputFrame (inputRead i s) (inputTaken i s) := by
  unfold inputTaken
  generalize inputRead i s = r
  cases i with
  | door => exact .ite (doorOpens_inputFrame r) (doorCloses_kept (.refl r)).inputFrame
  | thermalCutout => exact .ite (cutoutOpens_inputFrame r) (.refl r)
  | tankPresent => exact (tankChanges_kept s (.refl r)).inputFrame
  | tankFloat => exact (tankChanges_kept s (.refl r)).inputFrame
  | trayFull => exact (followTray_kept (.refl r)).inputFrame
  | boilerLow =>
    have cut : InputFrame r (cutBoiler r) := ⟨rfl, rfl, rfl, rfl, rfl⟩
    exact (InputFrame.ite (.refl r) cut).trans (postBoiler_kept (.refl _)).inputFrame
  | boilerHigh => exact .ite (highBecomesCovered_kept (.refl r)).inputFrame (.refl r)
  | ventOpenEnd => exact (endChanges_kept .opened s (.refl r)).inputFrame
  | ventClosedEnd => exact (endChanges_kept .closed s (.refl r)).inputFrame
  | inletPressure => exact (followSource_kept .inlet _ (.refl r)).inputFrame
  | servicePresent => exact .ite (.refl r) (endServiceUnlock_inputFrame r)

end

end Sys2Proof.Machine
end

section
/-! SUPPORT. The answers of the heat channels, the force table, the flap, the event block and the protection block to their
inputs (R66 to R68, R77, R81, R163, R175, R177). -/

namespace Sys2Proof.Machine

section
variable {s t u : State}

/-! ## Forces of outputs other than the vent drives (R81) -/

theorem removeForce_quiet {o : Output} (rests : isVentDrive o = false) (s : State) :
    ∃ sh r, removeForce o s =
      { s with share := sh, out := { s.out with forces := withoutForce o s, heaterRelay := r } } := by
  cases entered : (forceEntry o s).isSome
  · have forces := removeForce_forces o s
    rw [removeForce_none entered] at forces ⊢
    exact ⟨s.share, s.out.heaterRelay, by rw [← forces]⟩
  · rw [removeForce_eq entered, rests]
    exact ⟨_, _, rfl⟩

section
variable {which : Output → Bool} (rests : ∀ o, which o = true → isVentDrive o = false)
include rests

theorem removeEach_quiet (os : List Output) (s : State) :
    ∃ sh r, os.foldl (fun s o => if which o then removeForce o s else s) s =
      { s with
        share := sh
        out := { s.out with
          forces := s.out.forces.filter (fun e => !(which e.output && decide (e.output ∈ os))), heaterRelay := r } } := by
  induction os generalizing s with
  | nil => exact ⟨s.share, s.out.heaterRelay, by simp⟩
  | cons o os ih =>
    rw [List.foldl_cons]
    cases named : which o with
    | false =>
      have others : ∀ e : ForceEntry, (!(which e.output && decide (e.output ∈ o :: os))) =
          !(which e.output && decide (e.output ∈ os)) := fun e => by
        by_cases he : e.output = o
        · rw [he, named, Bool.false_and, Bool.false_and]
        · simp [he]
      simp only [others]
      exact ih s
    | true =>
      have others : ∀ e : ForceEntry, (!(which e.output && decide (e.output ∈ o :: os))) =
          ((!(which e.output && decide (e.output ∈ os))) && decide (e.output ≠ o)) := fun e => by
        by_cases he : e.output = o
        · simp [he, named]
        · simp [he]
      obtain ⟨sh, r, removed⟩ := removeForce_quiet (rests o named) s
      obtain ⟨sh', r', same⟩ := ih (removeForce o s)
      refine ⟨sh', r', ?_⟩
      simp only [others]
      rw [if_pos trivial, same, removed, ← List.filter_filter]
      rfl

/-- Entries of outputs that are no vent drives go with their claims and with the heater supply relay's request, and with
nothing else. -/
theorem removeForces_quiet (s : State) :
    ∃ sh r, removeForces which s =
      { s with
        share := sh, out := { s.out with forces := s.out.forces.filter (fun e => !which e.output), heaterRelay := r } } := by
  obtain ⟨sh, r, same⟩ := removeEach_quiet rests allOutputs s
  refine ⟨sh, r, same.trans ?_⟩
  simp only [mem_allOutputs, decide_true, Bool.and_true]

end

theorem isCavityOutput_rests (o : Output) (cavity : isCavityOutput o = true) : isVentDrive o = false := by
  cases o with
  | ventOpenDrive => exact absurd cavity (by decide)
  | ventCloseDrive => exact absurd cavity (by decide)
  | _ => rfl

theorem isHeatOutput_rests (o : Output) (heat : isHeatOutput o = true) : isVentDrive o = false := by
  cases o with
  | ventOpenDrive => exact absurd heat (by decide)
  | ventCloseDrive => exact absurd heat (by decide)
  | _ => rfl

/-! ## The cutout and the low electrode (R67, R68) -/

theorem cutAll_runs (s : State) (l : Load) :
    ((cutAll s).out.heat.get l).active = Run.empty ∧ ((cutAll s).out.heat.get l).pending = Run.empty := by
  have cut : (cutAll s).out.heat.get l = (s.out.heat.get l).cut := PerLoad.get_map ..
  rw [cut]
  exact ⟨rfl, rfl⟩

/-- THERMAL_CUTOUT is in the fault set, every run is discarded and no heat load is forced (R68, R81, R163). -/
theorem cutoutOpens_facts (s : State) :
    hasFault .thermalCutout (cutoutOpens s) = true ∧
      (∀ l : Load, ((cutoutOpens s).out.heat.get l).active = Run.empty ∧
        ((cutoutOpens s).out.heat.get l).pending = Run.empty) ∧
      ∀ e ∈ (cutoutOpens s).out.forces, isHeatOutput e.output = false := by
  obtain ⟨sh, r, removed⟩ := removeForces_quiet isHeatOutput_rests (cutAll (enterFault .thermalCutout s))
  have entered : hasFault .thermalCutout (enterFault .thermalCutout s) = true := by
    rw [hasFault_enterFault, decide_eq_true rfl, Bool.or_true]
  unfold cutoutOpens
  rw [removed]
  refine ⟨entered, cutAll_runs _, fun e member => ?_⟩
  simpa using (List.mem_filter.mp member).2

/-- With BOILER_LOW uncovered the boiler's demand is 0 (R103). -/
theorem postedDemand_uncovered (uncovered : lowCovered s = false) (ready : s.start.ready = true) : postedDemand s = 0 := by
  unfold postedDemand boilerDemand
  rw [if_pos ready, if_pos uncovered]

/-- The boiler channel's runs are discarded and its demand is posted as 0; the cavity channels go on (R67, R103). -/
theorem cutBoiler_posted (uncovered : lowCovered s = false) :
    let u := postBoiler (cutBoiler s)
    u.out.heat.boiler.active = Run.empty ∧ u.out.heat.boiler.pending = Run.empty ∧
      (s.start.ready = true → u.share.demands.boiler = 0) ∧
      ∀ l : Load, l.isCavity = true → u.out.heat.get l = s.out.heat.get l := by
  dsimp only
  rw [postBoiler_eq]
  refine ⟨rfl, rfl, postedDemand_uncovered (s := cutBoiler s) uncovered, fun l cavity => ?_⟩
  cases l with
  | boiler => exact absurd cavity (by decide)
  | _ => rfl

/-! ## The tray, the service connector and the end switches (R77, R163, R177) -/

/-- A level kind's condition stands as its owner finds it (R164). -/
theorem conditionHolds_followCondition {k : EventKind} (level : k.isLevel = true) (a : Option Byte) (b : Bool)
    (s : State) :
    conditionHolds k (followCondition k a b s) = b := by
  unfold followCondition
  split
  · next same => exact same.symm
  · cases b with
    | false => exact conditionHolds_endCondition k s
    | true =>
      show (holdCondition k a s.events.conditions).any (fun c => decide (c.kind = k)) = true
      unfold holdCondition
      rw [if_pos level, List.any_cons, decide_eq_true rfl, Bool.true_or]

/-- The connector's removal leaves service unlock inactive, and tells it where it was active (R177). -/
theorem endServiceUnlock_facts (s : State) :
    (endServiceUnlock s).prot.serviceUnlock = false ∧
      (s.prot.serviceUnlock = true →
        (endServiceUnlock s).prot.silence = 0 ∧ RaisedTo .lockChanged (some 2) s (endServiceUnlock s)) := by
  unfold endServiceUnlock
  cases unlocked : s.prot.serviceUnlock with
  | false => exact ⟨unlocked, fun locked => absurd locked Bool.false_ne_true⟩
  | true => exact ⟨rfl, fun _ => ⟨rfl, raiseEvent_raised .lockChanged (some 2) (setProt _ s)⟩⟩

/-- An end that is reached with the motor stopped or running toward it is the flap's, which is no longer STUCK (R77). -/
theorem reachEnd_arrives (e : VentEnd) (before s : State) :
    motorToward e.other before = false →
      (reachEnd e before s).out.vent.state = (match e with | .opened => .opened | .closed => .closed) ∧
        hasFault .ventStuck (reachEnd e before s) = false := by
  intro free
  unfold reachEnd
  rw [if_neg (Bool.eq_false_iff.mp free), endDrive_out]
  unfold arriveVent
  have stuck : hasFault .ventStuck (leaveFault .ventStuck s) = false := by
    rw [hasFault_leaveFault, decide_eq_false fun other => other rfl, Bool.and_false]
  rw [leaveFault_setVent]
  exact ⟨rfl, stuck⟩

end

end Sys2Proof.Machine
end

section
/-! SUPPORT. BOILER_HIGH becomes covered (R90, R96, R100 to R102): the fill and a descale dose end on it, and a top-up is
cancelled. -/

namespace Sys2Proof.Machine

section
variable {c : Chan} {st : ChanState} {d : Dose} {s : State}

/-- A dose that ends, whether or not it holds the path, is charged with all it has delivered (R96). -/
theorem endDose_charges (st : ChanState) (dose : (chan s c).dose = some d) :
    chan (endDose c st s) c = ⟨st, some { d with charged := d.delivered }⟩ ∧
      HandsOn (d.delivered - d.charged) d s (endDose c st s) := by
  obtain ⟨handsOn, water⟩ := passPulses_handsOn dose
  have passed : chan (passPulses c s) c = { chan s c with dose := some { d with charged := d.delivered } } :=
    (congrArg (fun w : Water => w.chans.get c) water).trans ((chan_setChan ..).trans (if_pos rfl))
  have released : ∀ t : State, ChargesNothing t (releasePath c t) := fun t => by
    unfold releasePath
    split <;> exact ⟨rfl, rfl, rfl⟩
  unfold endDose setChanState
  rw [chan_setChan, if_pos rfl, chan_releasePath, passed]
  exact ⟨rfl, handsOn.after (released _)⟩

theorem endDose_state (c : Chan) (st : ChanState) (s : State) : (chan (endDose c st s) c).state = st := by
  unfold endDose setChanState
  rw [chan_setChan, if_pos rfl]

/-- A dose that ends and held the path has it settle (R85). -/
theorem endDose_settles (st : ChanState) (dose : (chan s c).dose = some d) (granted : s.water.path = .granted c) :
    (endDose c st s).water.path = .settling := (endDose_facts st granted dose).1

/-! ## The fill, the descale dose and the top-up -/

theorem requesterIs_other {r r' : Requester} {x : Channel} (own : requesterIs r x = true) (other : r' ≠ r) :
    requesterIs r' x = false := by
  unfold requesterIs at own ⊢
  split at own
  · exact absurd own Bool.false_ne_true
  · exact decide_eq_false fun h => other (h.symm.trans (of_decide_eq_true own))

theorem modeIs_other {m m' : DoseMode} {x : Channel} (own : modeIs m x = true) (other : m' ≠ m) : modeIs m' x = false := by
  unfold modeIs at own ⊢
  split at own
  · exact absurd own Bool.false_ne_true
  · exact decide_eq_false fun h => other (h.symm.trans (of_decide_eq_true own))

theorem holdsFor_other {r r' : Requester} (own : holdsFor s c r = true) (other : r' ≠ r) : holdsFor s c r' = false := by
  unfold holdsFor at own ⊢
  rw [requesterIs_other (Bool.and_eq_true_iff.mp own).2 other, Bool.and_false]

/-- The fill ends on its condition: HEATING, with the dose charged and the path released (R90, R96, R100). -/
theorem highBecomesCovered_fill (own : holdsFor s .ch0 .boilerControl = true)
    (fills : modeIs .demand (chan s .ch0) = true) :
    let u := highBecomesCovered s
    (chan u .ch0).state = .done ∧ u.boiler.state = .heating ∧
      ∀ d : Dose, (chan s .ch0).dose = some d →
        (chan u .ch0).dose = some { d with charged := d.delivered } ∧ HandsOn (d.delivered - d.charged) d s u ∧
          (s.water.path = .granted .ch0 → u.water.path = .settling) := by
  have ended : highBecomesCovered s = enterBoiler .heating (endDose .ch0 .done s) :=
    if_pos (Bool.and_eq_true_iff.mpr ⟨own, fills⟩)
  have state := endDose_state .ch0 .done s
  have free : holdsDose (endDose .ch0 .done s) .ch0 = false := by
    unfold holdsDose
    rw [state]
    rfl
  have acts : BoilerActs .ch0 (endDose .ch0 .done s) (enterBoiler .heating (endDose .ch0 .done s)) :=
    enterBoiler_acts .heating
  have charged := enterBoiler_uncharged (s := endDose .ch0 .done s) .heating (not_running_of_free free)
  dsimp only
  rw [ended, acts.chan (.inr free)]
  refine ⟨state, enterBoiler_state _ _, fun d dose => ?_⟩
  obtain ⟨record, handsOn⟩ := endDose_charges .done dose
  exact ⟨congrArg Channel.dose record, handsOn.after charged.2,
    fun granted => acts.path (endDose_settles .done dose granted)⟩

/-- A dose of the descale controller is stopped at the high level, and the controller goes on from there (R101). -/
theorem highBecomesCovered_descale (own : holdsFor s .ch0 .descale = true) (awake : (chan s .ch0).state ≠ .suspended) :
    ∃ w, highBecomesCovered s = descaleFillEnded w ∧ (chan w .ch0).state = .done ∧ w.ret.descale = s.ret.descale ∧
      w.boiler = s.boiler ∧ w.work = s.work ∧ w.inputs = s.inputs ∧ w.events.faults = s.events.faults ∧
      (s.water.path = .granted .ch0 → w.water.path = .settling) ∧
      ∀ d : Dose, (chan s .ch0).dose = some d →
        (chan w .ch0).dose = some { d with charged := d.delivered } ∧ HandsOn (d.delivered - d.charged) d s w := by
  have ended : highBecomesCovered s = descaleFillEnded (endDose .ch0 .done s) := by
    unfold highBecomesCovered
    rw [holdsFor_other own (r' := .boilerControl) (by decide), own, decide_eq_true awake]
    rfl
  have only := endDose_chargeOnly .ch0 .done s
  obtain ⟨d, dose⟩ : ∃ d, (chan s .ch0).dose = some d := by
    have asked : requesterIs .descale (chan s .ch0) = true := (Bool.and_eq_true_iff.mp own).2
    unfold requesterIs at asked
    split at asked
    · exact absurd asked Bool.false_ne_true
    · next d dose => exact ⟨d, dose⟩
  refine ⟨endDose .ch0 .done s, ended, endDose_state .ch0 .done s, ?_, ?_, ?_, ?_, only.faults,
    endDose_settles .done dose, fun d dose => ?_⟩
  · rw [only.only]
  · rw [only.only]
  · rw [only.only]
  · rw [only.only]
  · obtain ⟨record, handsOn⟩ := endDose_charges .done dose
    exact ⟨congrArg Channel.dose record, handsOn⟩

/-- A top-up is cancelled, and charged where it runs (R95, R96, R102). -/
theorem highBecomesCovered_topUp (own : holdsFor s .ch0 .boilerControl = true)
    (single : modeIs .single (chan s .ch0) = true) :
    chan (highBecomesCovered s) .ch0 = ⟨.idle, none⟩ ∧
      ∀ d : Dose, (chan s .ch0).dose = some d → (chan s .ch0).state = .running →
        HandsOn (d.delivered - d.charged) d s (highBecomesCovered s) := by
  have cancelled : highBecomesCovered s = cancelDose .ch0 s := by
    unfold highBecomesCovered cancelTopUp
    rw [own, modeIs_other single (m' := .demand) (by decide), holdsFor_other own (r' := .descale) (by decide), single]
    rfl
  rw [cancelled]
  exact ⟨chan_cancelDose (by decide) s, fun d dose runs => cancelDose_handsOn (by decide) runs dose⟩

end

end Sys2Proof.Machine
end

section
/-! SUPPORT. What a source that becomes low, or stops being low, makes of the dosing channels (R93, R94, R96). -/

namespace Sys2Proof.Machine

/-! ## Suspension (R93) -/

/-- A channel that draws from a source that becomes low: waiting or running, it is suspended, the running one charged. -/
def suspendedBy (src : Source) (x : Channel) : Channel :=
  if sourceIs src x then
    match x.state with
    | .running => ⟨.suspended, x.dose.map (fun d => { d with charged := d.delivered })⟩
    | .requesting => { x with state := .suspended }
    | _ => x
  else x

/-- One channel of `suspendSource`. -/
def suspendOne (src : Source) (s : State) (c : Chan) : State := if sourceIs src (chan s c) then suspendDose c s else s

/-- The channels of a list, one after the other. -/
def suspendEach (src : Source) (cs : List Chan) (s : State) : State := cs.foldl (suspendOne src) s

theorem suspendSource_eq (src : Source) (s : State) : suspendSource src s = suspendEach src [.ch0, .ch1, .ch2] s := rfl

section
variable {src : Source} {c c' : Chan} {d : Dose} {s t u : State}

theorem sourceIs_dose {x : Channel} (drawn : sourceIs src x = true) : ∃ d, x.dose = some d ∧ d.source = some src := by
  unfold sourceIs at drawn
  split at drawn
  · exact absurd drawn Bool.false_ne_true
  · next d dose => exact ⟨d, dose, of_decide_eq_true drawn⟩

theorem sourceIs_of_dose {x : Channel} (dose : x.dose = some d) (drawn : d.source = some src) :
    sourceIs src x = true := by
  unfold sourceIs
  rw [dose]
  exact decide_eq_true drawn

theorem suspendedBy_other {x : Channel} (other : ¬sourceIs src x = true) : suspendedBy src x = x := if_neg other

/-- No channel begins to run by a suspension. -/
theorem suspendedBy_rests {x : Channel} (rests : x.state ≠ .running) : (suspendedBy src x).state ≠ .running := by
  unfold suspendedBy
  split
  · split
    · exact nofun
    · exact nofun
    · exact rests
  · exact rests

theorem suspendDose_running (runs : (chan s c).state = .running) : suspendDose c s = endDose c .suspended s := by
  unfold suspendDose
  rw [runs]
  rfl

theorem suspendDose_requesting (waits : (chan s c).state = .requesting) :
    suspendDose c s = setChan c { chan s c with state := .suspended } s := by
  unfold suspendDose
  rw [waits]
  rfl

theorem suspendDose_other (rests : (chan s c).state ≠ .running) (idle : (chan s c).state ≠ .requesting) :
    suspendDose c s = s := by
  unfold suspendDose
  split
  · next runs => exact absurd runs rests
  · next waits => exact absurd waits idle
  · rfl

theorem chan_suspendOne (src : Source) (s : State) (c' c : Chan) :
    chan (suspendOne src s c') c = if c = c' then suspendedBy src (chan s c) else chan s c := by
  unfold suspendOne suspendedBy
  by_cases drawn : sourceIs src (chan s c') = true
  · rw [if_pos drawn]
    obtain ⟨d, dose, -⟩ := sourceIs_dose drawn
    by_cases runs : (chan s c').state = .running
    · rw [suspendDose_running runs]
      split
      · next same =>
        subst same
        rw [(endDose_charges .suspended dose).1, if_pos drawn, runs, dose]
        rfl
      · next other =>
        unfold endDose setChanState
        rw [chan_setChan, if_neg other, chan_releasePath, chan_passPulses_other other]
    · by_cases waits : (chan s c').state = .requesting
      · rw [suspendDose_requesting waits, chan_setChan]
        split
        · next same =>
          subst same
          rw [if_pos drawn, waits]
        · rfl
      · rw [suspendDose_other runs waits]
        split
        · next same =>
          subst same
          rw [if_pos drawn]
          split
          · next h => exact absurd h runs
          · next h => exact absurd h waits
          · rfl
        · rfl
  · rw [if_neg drawn]
    split
    · next same =>
      subst same
      rw [if_neg drawn]
    · rfl

theorem chan_suspendSource (src : Source) (c : Chan) (s : State) :
    chan (suspendSource src s) c = if c = .ch3 then chan s c else suspendedBy src (chan s c) := by
  simp only [suspendSource_eq, suspendEach, List.foldl_cons, List.foldl_nil, chan_suspendOne]
  cases c <;> rfl

/-! ## What a suspension charges (R96) -/

/-- The channels' records alone have moved. -/
def ChannelsOnly (s t : State) : Prop := t = { s with water := { s.water with chans := t.water.chans } }

theorem ChannelsOnly.refl (s : State) : ChannelsOnly s s := rfl

theorem ChannelsOnly.trans (h : ChannelsOnly s t) (k : ChannelsOnly t u) : ChannelsOnly s u := by
  unfold ChannelsOnly at h k ⊢
  rw [h] at k
  exact k

theorem ChannelsOnly.setChan (c : Chan) (x : Channel) (s : State) : ChannelsOnly s (setChan c x s) := rfl

theorem ChannelsOnly.chargeOnly (h : ChannelsOnly s t) : ChargeOnly s t := by
  rw [h]
  exact .water _ s

theorem ChannelsOnly.chargesNothing (h : ChannelsOnly s t) : ChargesNothing s t := by
  rw [h]
  exact ⟨rfl, rfl, rfl⟩

theorem ChannelsOnly.path (h : ChannelsOnly s t) :
    t.water.path = s.water.path ∧ t.water.settleTimer = s.water.settleTimer := by
  rw [h]
  exact ⟨rfl, rfl⟩

theorem ChannelsOnly.handsOn {p : Nat} (h : ChannelsOnly s t) (charged : HandsOn p d t u) : HandsOn p d s u :=
  charged.before (by rw [h]) (by rw [h]) (by rw [h]) (by rw [h])

/-- Where no channel of the list runs on the source, the suspension is no charging point and leaves the path alone. -/
theorem suspendEach_rests (cs : List Chan) (s : State)
    (rests : ∀ c ∈ cs, sourceIs src (chan s c) = true → (chan s c).state ≠ .running) :
    ChannelsOnly s (suspendEach src cs s) := by
  induction cs generalizing s with
  | nil => exact .refl s
  | cons c cs ih =>
    have one : ChannelsOnly s (suspendOne src s c) := by
      unfold suspendOne
      split
      · next drawn =>
        by_cases waits : (chan s c).state = .requesting
        · rw [suspendDose_requesting waits]
          exact .setChan ..
        · rw [suspendDose_other (rests c List.mem_cons_self drawn) waits]
          exact .refl s
      · exact .refl s
    refine one.trans (ih _ fun c' member drawn => ?_)
    have was := rests c' (List.mem_cons_of_mem _ member)
    rw [chan_suspendOne] at drawn ⊢
    split at drawn
    · next same =>
      rw [if_pos same]
      by_cases own : sourceIs src (chan s c') = true
      · exact suspendedBy_rests (was own)
      · rw [suspendedBy_other own] at drawn
        exact absurd drawn own
    · next other =>
      rw [if_neg other]
      exact was drawn

/-- The channel that the path is granted to, running on the source, is charged and releases the path; the others of the list
charge nothing. -/
theorem suspendEach_charges (cs : List Chan) (s : State) (listed : c ∈ cs) (granted : s.water.path = .granted c)
    (runs : (chan s c).state = .running) (dose : (chan s c).dose = some d) (drawn : d.source = some src)
    (rests : ∀ c' ∈ cs, c' ≠ c → (chan s c').state ≠ .running) :
    (suspendEach src cs s).water.path = .settling ∧ (suspendEach src cs s).water.settleTimer = 0 ∧
      HandsOn (d.delivered - d.charged) d s (suspendEach src cs s) := by
  have own : sourceIs src (chan s c) = true := sourceIs_of_dose dose drawn
  induction cs generalizing s with
  | nil => exact absurd listed List.not_mem_nil
  | cons c' cs ih =>
    by_cases same : c' = c
    · subst same
      have first : suspendOne src s c' = endDose c' .suspended s := (if_pos own).trans (suspendDose_running runs)
      obtain ⟨path, timer, chans, handsOn⟩ := endDose_facts .suspended granted dose
      have after : ChannelsOnly (endDose c' .suspended s) (suspendEach src cs (endDose c' .suspended s)) := by
        refine suspendEach_rests cs _ fun c'' member _ => ?_
        rw [chans]
        split
        · exact nofun
        · next other => exact rests c'' (List.mem_cons_of_mem _ member) other
      have all : suspendEach src (c' :: cs) s = suspendEach src cs (endDose c' .suspended s) := by rw [← first]; rfl
      rw [all]
      exact ⟨after.path.1.trans path, after.path.2.trans timer, handsOn.after after.chargesNothing⟩
    · have kept : chan (suspendOne src s c') c = chan s c := by
        rw [chan_suspendOne, if_neg fun h => same h.symm]
      have one : ChannelsOnly s (suspendOne src s c') :=
        suspendEach_rests [c'] s fun x member _ => by
          rw [List.mem_singleton.mp member]
          exact rests c' List.mem_cons_self same
      have others : ∀ x ∈ cs, x ≠ c → (chan (suspendOne src s c') x).state ≠ .running := fun x member other => by
        have still := rests x (List.mem_cons_of_mem _ member) other
        rw [chan_suspendOne]
        split
        · exact suspendedBy_rests still
        · exact still
      obtain ⟨path, timer, handsOn⟩ := ih (suspendOne src s c')
        ((List.mem_cons.mp listed).resolve_left fun h => same h.symm) (one.path.1.trans granted) (kept ▸ runs)
        (kept ▸ dose) others (kept ▸ own)
      exact ⟨path, timer, one.handsOn handsOn⟩

/-- With a sound path the channels but CH3 that run are those that the path is granted to. -/
theorem PathSound.runs (sound : PathSound s) (supply : c ≠ .ch3) (runs : (chan s c).state = .running) :
    s.water.path = .granted c := (sound.1 c supply).mp runs

theorem PathSound.rests (sound : PathSound s) (granted : s.water.path = .granted c) (supply : c' ≠ .ch3)
    (other : c' ≠ c) : (chan s c').state ≠ .running := fun runs => by
  have also := sound.runs supply runs
  rw [granted] at also
  exact other (PathState.granted.inj also).symm

theorem mem_supplyChannels (supply : c ≠ .ch3) : c ∈ [Chan.ch0, .ch1, .ch2] := by
  cases c with
  | ch3 => exact absurd rfl supply
  | _ => decide

theorem supplyChannels_ne (member : c ∈ [Chan.ch0, .ch1, .ch2]) : c ≠ .ch3 := by
  rintro rfl
  exact absurd member (by decide)

theorem suspendSource_rests (sound : PathSound s)
    (undrawn : ∀ c : Chan, s.water.path = .granted c → sourceIs src (chan s c) = false) :
    ChannelsOnly s (suspendSource src s) :=
  suspendEach_rests _ s fun c member drawn runs =>
    absurd ((undrawn c (sound.runs (supplyChannels_ne member) runs)).symm.trans drawn) Bool.false_ne_true

theorem suspendSource_charges (sound : PathSound s) (granted : s.water.path = .granted c)
    (dose : (chan s c).dose = some d) (drawn : d.source = some src) :
    (suspendSource src s).water.path = .settling ∧ (suspendSource src s).water.settleTimer = 0 ∧
      HandsOn (d.delivered - d.charged) d s (suspendSource src s) := by
  have supply : c ≠ .ch3 := fun h => sound.2 (h ▸ granted)
  exact suspendEach_charges _ s (mem_supplyChannels supply) granted ((sound.1 c supply).mpr granted) dose drawn
    fun c' member other => sound.rests granted (supplyChannels_ne member) other

theorem suspendedBy_state {x : Channel} (drawn : sourceIs src x = true)
    (held : x.state = .requesting ∨ x.state = .running) : (suspendedBy src x).state = .suspended := by
  unfold suspendedBy
  rw [if_pos drawn]
  rcases held with waits | runs
  · rw [waits]
  · rw [runs]

/-- The channels that draw from a source that becomes low are suspended, and the RUNNING one is charged (R93, R96). -/
theorem suspendSource_suspends (src : Source) (s : State) :
    (∀ c : Chan, c ≠ .ch3 → sourceIs src (chan s c) = true →
      (chan s c).state = .requesting ∨ (chan s c).state = .running → (chan (suspendSource src s) c).state = .suspended) ∧
    (PathSound s → Suspends src s (suspendSource src s)) := by
  refine ⟨fun c supply drawn held => ?_, fun sound => ⟨fun c d granted dose drawn => ?_, fun undrawn => ?_⟩⟩
  · rw [chan_suspendSource, if_neg supply]
    exact suspendedBy_state drawn held
  · have supply : c ≠ .ch3 := fun h => sound.2 (h ▸ granted)
    refine ⟨?_, suspendSource_charges sound granted dose drawn⟩
    have runs : (chan s c).state = .running := (sound.1 c supply).mpr granted
    rw [chan_suspendSource, if_neg supply]
    unfold suspendedBy
    rw [if_pos (sourceIs_of_dose dose drawn), runs, dose]
    rfl
  · exact (suspendSource_rests sound undrawn).chargesNothing

/-! ## Priming (R94) -/

/-- CH2 with the 20 ml of a source that is primed. -/
def primeLoad (src : Source) (s : State) : Channel :=
  let n := (20 * s.settings.flowConstant + 500) / 1000
  ⟨.requesting,
    some
      { mode := .flush, destination := .drainLine, source := some src, base := n, remaining := n
        delivered := 0, charged := 0, reload := false, requester := .prime, portion := 0, portionLeft := 0 }⟩

theorem primeSource_loads (full : sourceLow src s = false) (free : holdsDose s .ch2 = false) :
    primeSource src s = setChan .ch2 (primeLoad src s) s := by
  unfold primeSource loadDose
  rw [if_neg (ne_true_of_eq_false free), if_neg (ne_true_of_eq_false free), full]
  rfl

/-- CH2 holds a priming dose of the source. -/
def primesFrom (src : Source) (s : State) : Prop :=
  requesterIs .prime (chan s .ch2) = true ∧ sourceIs src (chan s .ch2) = true

theorem primeSource_waits (held : holdsDose s .ch2 = true) (own : primesFrom src s) :
    primeSource src s =
      if (chan s .ch2).state = .suspended then setChan .ch2 { chan s .ch2 with state := .requesting } s else s := by
  unfold primeSource
  rw [if_pos held, if_pos (Bool.and_eq_true_iff.mpr own)]
  rfl

theorem primeSource_resumes (held : holdsDose s .ch2 = true) (other : ¬primesFrom src s) :
    primeSource src s = resumeSource src s := by
  unfold primeSource
  rw [if_pos held, if_neg fun h => other (Bool.and_eq_true_iff.mp h)]

theorem primeSource_channelsOnly (full : sourceLow src s = false) : ChannelsOnly s (primeSource src s) := by
  cases held : holdsDose s .ch2 with
  | false =>
    rw [primeSource_loads full held]
    exact .setChan ..
  | true =>
    by_cases own : primesFrom src s
    · rw [primeSource_waits held own]
      split
      · exact .setChan ..
      · exact .refl s
    · rw [primeSource_resumes held own]
      exact resumeSource_only src s

/-- What a source that stops being low makes of the channels, seen from a later state in which CH0 may have been freed
since (R94). -/
def Primes (freed : Prop) (src : Source) (s t : State) : Prop :=
  (holdsDose s .ch2 = false →
    chan t .ch2 = primeLoad src s ∧ (¬freed → chan t .ch0 = chan s .ch0) ∧ chan t .ch1 = chan s .ch1) ∧
  (holdsDose s .ch2 = true → primesFrom src s →
    ((chan s .ch2).state = .suspended → (chan t .ch2).state = .requesting) ∧
      (¬freed → chan t .ch0 = chan s .ch0) ∧ chan t .ch1 = chan s .ch1) ∧
  (holdsDose s .ch2 = true → ¬primesFrom src s →
    ∀ c : Chan, c ≠ .ch3 → (c = .ch0 → ¬freed) → sourceIs src (chan s c) = true →
      (chan s c).state = .suspended → (chan t c).state = .requesting)

theorem primeSource_primes (full : sourceLow src s = false) : Primes False src s (primeSource src s) := by
  refine ⟨fun free => ?_, fun held own => ?_, fun held other c supply _ drawn waits => ?_⟩
  · rw [primeSource_loads full free]
    exact ⟨by simp, fun _ => by simp, by simp⟩
  · rw [primeSource_waits held own]
    split
    · exact ⟨fun _ => by simp, fun _ => by simp, by simp⟩
    · next awake => exact ⟨fun waits => absurd waits awake, fun _ => rfl, rfl⟩
  · rw [primeSource_resumes held other, chan_resumeSource, if_neg supply]
    unfold resumed
    rw [drawn, waits]
    rfl

/-- Only CH0's record depends on whether it was freed. -/
theorem Primes.weaken {freed freed' : Prop} (h : Primes freed src s t) (frees : freed → freed') : Primes freed' src s t := by
  obtain ⟨loads, waits, resumes⟩ := h
  refine ⟨fun free => ?_, fun held own => ?_, fun held other c supply stays => ?_⟩
  · obtain ⟨record, first, second⟩ := loads free
    exact ⟨record, fun stays => first (mt frees stays), second⟩
  · obtain ⟨record, first, second⟩ := waits held own
    exact ⟨record, fun stays => first (mt frees stays), second⟩
  · exact resumes held other c supply fun same => mt frees (stays same)

/-- Whatever leaves the supply's channels alone, unless it frees CH0. -/
theorem Primes.later {freed : Prop} (h : Primes False src s t)
    (supply : ∀ c : Chan, c ≠ .ch3 → (c = .ch0 → ¬freed) → chan u c = chan t c) : Primes freed src s u := by
  obtain ⟨loads, waits, resumes⟩ := h
  have ch1 : chan u .ch1 = chan t .ch1 := supply .ch1 (by decide) fun h => absurd h (by decide)
  have ch2 : chan u .ch2 = chan t .ch2 := supply .ch2 (by decide) fun h => absurd h (by decide)
  have ch0 : ¬freed → chan u .ch0 = chan t .ch0 := fun held => supply .ch0 (by decide) fun _ => held
  refine ⟨fun free => ?_, fun held own => ?_, fun held other c hc still drawn was => ?_⟩
  · obtain ⟨record, first, second⟩ := loads free
    exact ⟨ch2.trans record, fun held => (ch0 held).trans (first id), ch1.trans second⟩
  · obtain ⟨record, first, second⟩ := waits held own
    exact ⟨fun was => ch2 ▸ record was, fun held => (ch0 held).trans (first id), ch1.trans second⟩
  · rw [supply c hc still]
    exact resumes held other c hc (fun _ => id) drawn was

/-! ## The source's change as a whole (R93, R94) -/

theorem followSource_empties (low : sourceLow src s = true) : followSource src false s = suspendSource src s := by
  unfold followSource
  rw [low]
  rfl

theorem followSource_fills (full : sourceLow src s = false) (inUse : primes src s = true) :
    followSource src true s = primeSource src s := by
  unfold followSource
  rw [full, inUse]
  rfl

/-- A source's change is a suspension, a priming or nothing. -/
theorem followSource_cases {P : State → Prop} (src : Source) (was : Bool) (s : State) (same : P s)
    (empties : sourceLow src s = true → P (suspendSource src s))
    (fills : sourceLow src s = false → P (primeSource src s)) : P (followSource src was s) := by
  unfold followSource
  split
  · exact same
  · split
    · next low => exact empties low
    · next full =>
      split
      · exact fills (Bool.eq_false_iff.mpr full)
      · exact same

theorem suspendSource_chargeOnly (src : Source) (s : State) : ChargeOnly s (suspendSource src s) := by
  have dose : ∀ (t : State) (c : Chan), ChargeOnly t (suspendDose c t) := fun t c => by
    unfold suspendDose
    split
    · exact endDose_chargeOnly c .suspended t
    · exact .water _ t
    · exact .refl t
  have one : ∀ (t : State) (c : Chan), ChargeOnly t (suspendOne src t c) := fun t c => by
    unfold suspendOne
    split
    · exact dose t c
    · exact .refl t
  exact ((one s .ch0).trans (one _ .ch1)).trans (one _ .ch2)

theorem followSource_chargeOnly (src : Source) (was : Bool) (s : State) : ChargeOnly s (followSource src was s) :=
  followSource_cases (P := ChargeOnly s) src was s (.refl s) (fun _ => suspendSource_chargeOnly src s)
    fun full => (primeSource_channelsOnly full).chargeOnly

theorem chan_primeSource_drain (full : sourceLow src s = false) : chan (primeSource src s) .ch3 = chan s .ch3 := by
  cases held : holdsDose s .ch2 with
  | false =>
    rw [primeSource_loads full held]
    simp
  | true =>
    by_cases own : primesFrom src s
    · rw [primeSource_waits held own]
      split
      · simp
      · rfl
    · rw [primeSource_resumes held own, chan_resumeSource]
      rfl

/-- The drain's channel draws from no source. -/
theorem chan_followSource_drain (src : Source) (was : Bool) (s : State) : chan (followSource src was s) .ch3 = chan s .ch3 :=
  followSource_cases (P := fun t => chan t .ch3 = chan s .ch3) src was s rfl
    (fun _ => by rw [chan_suspendSource, if_pos rfl]) chan_primeSource_drain

end

end Sys2Proof.Machine
end

section
/-! SUPPORT. A tank input's change (R83, R93, R94, R121): the tank as a source, and the drain that the descale controller has
waiting, whose load moves the boiler to DRAINING and so ends a top-up (R102, R106). -/

namespace Sys2Proof.Machine

section
variable {r : Requester} {c : Chan} {d : Dose} {s t : State}

/-! ## The load of a drain and the top-up (R98, R102, R106) -/

/-- CH0 holds a top-up that a change of the boiler's state to DRAINING cancels. -/
def endsTopUp (s : State) : Prop :=
  holdsFor s .ch0 .boilerControl = true ∧ modeIs .single (chan s .ch0) = true ∧ s.boiler.state ≠ .draining ∧
    s.boiler.state ≠ .dryFault

theorem noTopUp_of_not_endsTopUp (stays : ¬endsTopUp s) (wet : s.boiler.state ≠ .dryFault)
    (rests : s.boiler.state ≠ .draining) : NoTopUp s := by
  unfold NoTopUp
  rw [← Bool.not_eq_true, ← Bool.not_eq_true, ← not_and_or]
  exact fun held => stays ⟨held.1, held.2, rests, wet⟩

theorem enterBoiler_only (st : BoilerState) (h : NoTopUp s) :
    ∃ b sh, enterBoiler st s = { s with boiler := b, share := sh } := by
  have idle : ∀ b : Boiler, cancelTopUp (setBoiler b s) = setBoiler b s := fun b => cancelTopUp_idle (h.congr rfl)
  unfold enterBoiler
  simp only [idle, ite_self]
  split
  · exact ⟨s.boiler, s.share, rfl⟩
  · rw [postBoiler_eq]
    exact ⟨_, _, rfl⟩

theorem drainTaken_only (r : Requester) (s : State) :
    ∃ b sh, drainTaken r s = { s with water := (drainTaken r s).water, boiler := b, share := sh } := by
  unfold drainTaken markDrain
  rw [postBoiler_eq]
  exact ⟨_, _, rfl⟩

theorem drainTaken_state (r : Requester) (s : State) : (drainTaken r s).boiler.state = s.boiler.state := by
  rw [(drainTaken_units r s).2.1]

/-- What neither moves the path nor the other channels' records, and is no charging point. -/
structure SupplyRests (s t : State) : Prop where
  chans : ∀ c : Chan, c ≠ .ch3 → chan t c = chan s c
  path : t.water.path = s.water.path
  timer : t.water.settleTimer = s.water.settleTimer
  charges : ChargesNothing s t

theorem SupplyRests.refl (s : State) : SupplyRests s s := ⟨fun _ _ => rfl, rfl, rfl, .refl s⟩

theorem SupplyRests.trans {u : State} (h : SupplyRests s t) (k : SupplyRests t u) : SupplyRests s u :=
  ⟨fun c supply => (k.chans c supply).trans (h.chans c supply), k.path.trans h.path, k.timer.trans h.timer,
    h.charges.trans k.charges⟩

theorem drainTaken_rests (r : Requester) (s : State) : SupplyRests s (drainTaken r s) := by
  obtain ⟨b, sh, only⟩ := drainTaken_only r s
  have water := (drainTaken_units r s).1
  refine ⟨fun c supply => (chan_drainTaken r s c).trans (if_neg supply), by rw [water], by rw [water], ?_⟩
  rw [only]
  exact ⟨rfl, rfl, rfl⟩

/-- Where it ends no top-up, the load of a drain moves CH3 and the boiler controller alone. -/
theorem loadDrain_supplyRests (r : Requester) (stays : ¬endsTopUp s) : SupplyRests s (loadDrain r s) := by
  cases free : holdsDose s .ch3 with
  | true =>
    unfold loadDrain
    rw [if_pos free]
    exact .refl s
  | false =>
    rw [loadDrain_eq r free, drainTaken_state]
    have taken := drainTaken_rests r s
    split
    · exact taken
    · next wet =>
      refine taken.trans ?_
      by_cases drains : s.boiler.state = .draining
      · unfold enterBoiler
        rw [if_pos ((drainTaken_state r s).trans drains)]
        exact .refl _
      · have same : chan (drainTaken r s) .ch0 = chan s .ch0 := taken.chans .ch0 (by decide)
        have none : NoTopUp (drainTaken r s) := by
          unfold NoTopUp holdsFor holdsDose
          rw [same]
          exact noTopUp_of_not_endsTopUp stays wet drains
        obtain ⟨b, sh, only⟩ := enterBoiler_only .draining none
        rw [only]
        exact ⟨fun _ _ => rfl, rfl, rfl, rfl, rfl, rfl⟩

/-- A load that ends a top-up cancels it once CH3 has its drain. -/
theorem loadDrain_cancels (r : Requester) (free : holdsDose s .ch3 = false) (ends : endsTopUp s) :
    ∃ x, loadDrain r s = postBoiler (cancelDose .ch0 x) ∧ SupplyRests s x ∧ x.ret = s.ret ∧ x.settings = s.settings ∧
      x.start = s.start := by
  obtain ⟨own, single, rests, wet⟩ := ends
  have taken := drainTaken_rests r s
  have same : chan (drainTaken r s) .ch0 = chan s .ch0 := taken.chans .ch0 (by decide)
  have state := drainTaken_state r s
  have cancels : ∀ b : Boiler,
      cancelTopUp (setBoiler b (drainTaken r s)) = cancelDose .ch0 (setBoiler b (drainTaken r s)) := fun b => if_pos (by
      show ((chan (drainTaken r s) .ch0).state.holds && requesterIs .boilerControl (chan (drainTaken r s) .ch0) &&
        modeIs .single (chan (drainTaken r s) .ch0)) = true
      rw [same]
      exact Bool.and_eq_true_iff.mpr ⟨own, single⟩)
  obtain ⟨b, sh, only⟩ := drainTaken_only r s
  rw [loadDrain_eq r free, state, if_neg wet]
  unfold enterBoiler
  rw [state, if_neg rests]
  dsimp only
  rw [if_neg (by decide), cancels]
  refine ⟨_, rfl, ⟨taken.chans, taken.path, taken.timer, taken.charges⟩, ?_, ?_, ?_⟩
  · rw [setBoiler_ret, only]
  · rw [setBoiler_settings, only]
  · rw [setBoiler_start, only]

/-! ## What a source's change leaves of a channel's dose -/

/-- A channel holds a dose or not as before, of the same requester and mode. -/
structure SamePurpose (x y : Channel) : Prop where
  holds : y.state.holds = x.state.holds
  requester : ∀ r : Requester, requesterIs r y = requesterIs r x
  mode : ∀ m : DoseMode, modeIs m y = modeIs m x

theorem SamePurpose.refl (x : Channel) : SamePurpose x x := ⟨rfl, fun _ => rfl, fun _ => rfl⟩

theorem suspendedBy_samePurpose (src : Source) (x : Channel) : SamePurpose x (suspendedBy src x) := by
  unfold suspendedBy
  split
  · split
    · next runs => exact ⟨by rw [runs]; rfl, fun r => by cases dose : x.dose <;> simp [requesterIs, dose],
        fun m => by cases dose : x.dose <;> simp [modeIs, dose]⟩
    · next waits => exact ⟨by rw [waits]; rfl, fun _ => rfl, fun _ => rfl⟩
    · exact .refl x
  · exact .refl x

theorem resumed_samePurpose (src : Source) (x : Channel) : SamePurpose x (resumed src x) := by
  unfold resumed
  split
  · next waits =>
    have state : x.state = .suspended := of_decide_eq_true (Bool.and_eq_true_iff.mp waits).2
    exact ⟨by rw [state]; rfl, fun _ => rfl, fun _ => rfl⟩
  · exact .refl x

/-- Priming leaves CH0 as it is, or resumes it. -/
theorem chan_primeSource_boiler {src : Source} (full : sourceLow src s = false) :
    chan (primeSource src s) .ch0 = chan s .ch0 ∨ chan (primeSource src s) .ch0 = resumed src (chan s .ch0) := by
  obtain ⟨loads, waits, -⟩ := primeSource_primes full
  cases held : holdsDose s .ch2 with
  | false => exact .inl ((loads held).2.1 id)
  | true =>
    by_cases own : primesFrom src s
    · exact .inl ((waits held own).2.1 id)
    · rw [primeSource_resumes held own, chan_resumeSource]
      exact .inr rfl

theorem followSource_samePurpose (src : Source) (was : Bool) (s : State) :
    SamePurpose (chan s .ch0) (chan (followSource src was s) .ch0) := by
  refine followSource_cases (P := fun t => SamePurpose (chan s .ch0) (chan t .ch0)) src was s (.refl _) (fun _ => ?_)
    fun full => ?_
  · rw [chan_suspendSource]
    exact suspendedBy_samePurpose src _
  · rcases chan_primeSource_boiler full with same | again
    · rw [same]
      exact .refl _
    · rw [again]
      exact resumed_samePurpose src _

/-- The dose `d`, RUNNING on CH0 in `s`, is charged and suspended in `t`, or it goes on as it is, with nothing charged. -/
def ChargedOrRuns (d : Dose) (s t : State) : Prop :=
  (HandsOn (d.delivered - d.charged) d s t ∧ t.water.path = .settling ∧ (chan t .ch0).state ≠ .running) ∨
    (ChannelsOnly s t ∧ chan t .ch0 = chan s .ch0)

theorem followSource_running (src : Source) (was : Bool) (sound : PathSound s) (runs : (chan s .ch0).state = .running)
    (dose : (chan s .ch0).dose = some d) : ChargedOrRuns d s (followSource src was s) := by
  have granted := sound.runs (by decide) runs
  refine followSource_cases (P := ChargedOrRuns d s) src was s (.inr ⟨.refl s, rfl⟩) (fun _ => ?_) fun full => ?_
  · unfold ChargedOrRuns
    rw [chan_suspendSource, if_neg (by decide)]
    by_cases drawn : d.source = some src
    · obtain ⟨path, -, handsOn⟩ := suspendSource_charges sound granted dose drawn
      refine .inl ⟨handsOn, path, ?_⟩
      rw [suspendedBy_state (sourceIs_of_dose dose drawn) (.inr runs)]
      exact nofun
    · have undrawn : sourceIs src (chan s .ch0) = false := by
        unfold sourceIs
        rw [dose]
        exact decide_eq_false drawn
      refine .inr ⟨suspendSource_rests sound fun c also => ?_, suspendedBy_other (ne_true_of_eq_false undrawn)⟩
      rw [granted] at also
      rw [← PathState.granted.inj also]
      exact undrawn
  · refine .inr ⟨primeSource_channelsOnly full, ?_⟩
    rcases chan_primeSource_boiler full with same | again
    · exact same
    · rw [again]
      unfold resumed
      rw [runs, decide_eq_false (by decide), Bool.and_false]
      rfl

/-! ## The waiting drain (R121) -/

/-- The descale controller has a drain waiting that can be loaded. -/
def drainLoads (s : State) : Prop := s.work.drain = true ∧ drainFits s

/-- The waiting drain is taken up. -/
def drainAsked (s : State) : State := setWork { s.work with drain := false } s

theorem tryDescaleDrain_loads (loads : drainLoads s) : tryDescaleDrain s = loadDrain .descale (drainAsked s) := by
  unfold tryDescaleDrain
  exact if_pos (by rw [Bool.and_assoc, loads.1, Bool.true_and]; exact (drainFits_iff s).mp loads.2)

theorem tryDescaleDrain_waits (waits : ¬drainLoads s) : tryDescaleDrain s = s := by
  unfold tryDescaleDrain
  refine if_neg fun loads => waits ?_
  rw [Bool.and_assoc] at loads
  obtain ⟨wanted, fits⟩ := Bool.and_eq_true_iff.mp loads
  exact ⟨wanted, (drainFits_iff s).mpr fits⟩

section
variable (was : Bool) (s : State)

theorem followSource_drainLoads : drainLoads (followSource .tank was s) ↔ drainLoads s := by
  have only := (followSource_chargeOnly .tank was s).only
  have free := holdsDose_congr (chan_followSource_drain .tank was s)
  unfold drainLoads drainFits tankPresent
  rw [free, only]

theorem followSource_endsTopUp : endsTopUp (drainAsked (followSource .tank was s)) ↔ endsTopUp s := by
  have only := (followSource_chargeOnly .tank was s).only
  have boiler : (followSource .tank was s).boiler = s.boiler := by rw [only]
  obtain ⟨holds, requester, mode⟩ := followSource_samePurpose .tank was s
  show (holdsDose (followSource .tank was s) .ch0 && requesterIs .boilerControl (chan (followSource .tank was s) .ch0)) = true ∧
    modeIs .single (chan (followSource .tank was s) .ch0) = true ∧ (followSource .tank was s).boiler.state ≠ .draining ∧
      (followSource .tank was s).boiler.state ≠ .dryFault ↔ endsTopUp s
  unfold holdsDose
  rw [holds, requester, mode, boiler]
  rfl

end

end

/-! ## The tank's change as a whole -/

section
variable {before s : State} {c : Chan} {d : Dose}

/-- The tank's change with a drain that is loaded, and without one. -/
theorem tankChanges_loads (loads : drainLoads s) :
    tankChanges before s = loadDrain .descale (drainAsked (followSource .tank (sourceLow .tank before) s)) :=
  tryDescaleDrain_loads ((followSource_drainLoads _ s).mpr loads)

theorem tankChanges_waits (waits : ¬drainLoads s) : tankChanges before s = followSource .tank (sourceLow .tank before) s :=
  tryDescaleDrain_waits (mt (followSource_drainLoads _ s).mp waits)

/-- The drain that was waiting is on CH3, and the boiler is DRAINING from its load on, unless it is in DRY_FAULT. -/
theorem tankChanges_drains (before : State) (loads : drainLoads s) :
    let u := tankChanges before s
    u.work.drain = false ∧ u.boiler.drainPending = false ∧
      u.boiler.state = (if s.boiler.state = .dryFault then .dryFault else .draining) ∧
      chan u .ch3 = drainLoad .descale s := by
  dsimp only
  rw [tankChanges_loads loads]
  have only := (followSource_chargeOnly .tank (sourceLow .tank before) s).only
  have free := ((followSource_drainLoads (sourceLow .tank before) s).mpr loads).2.1
  have out : (followSource .tank (sourceLow .tank before) s).out = s.out := by rw [only]
  have boiler : (followSource .tank (sourceLow .tank before) s).boiler = s.boiler := by rw [only]
  generalize followSource .tank (sourceLow .tank before) s = t at free out boiler
  obtain ⟨pending, record⟩ := loadDrain_taken (s := drainAsked t) .descale free
  have state := (loadDrain_loaded (s := drainAsked t) .descale free).2
  rw [← boiler]
  exact ⟨congrArg DescaleWork.drain (loadDrain_acts (c := .ch0) (by decide) _).work, pending, state,
    record.trans (drainLoad_congr (t := drainAsked t) out)⟩

/-- A drain that waits goes on waiting, or there is none. -/
theorem tankChanges_undrained (before : State) (waits : ¬drainLoads s) :
    let u := tankChanges before s
    u.work.drain = s.work.drain ∧ u.boiler = s.boiler ∧ chan u .ch3 = chan s .ch3 := by
  dsimp only
  rw [tankChanges_waits waits]
  have only := (followSource_chargeOnly .tank (sourceLow .tank before) s).only
  exact ⟨by rw [only], by rw [only], chan_followSource_drain _ _ s⟩

/-- Where no top-up is ended, a drain's load leaves what the tank's change made of the supply. -/
theorem tankChanges_supplyRests (before : State) (stays : ¬(drainLoads s ∧ endsTopUp s)) :
    SupplyRests (followSource .tank (sourceLow .tank before) s) (tankChanges before s) := by
  by_cases loads : drainLoads s
  · rw [tankChanges_loads loads]
    have none := mt (followSource_endsTopUp (sourceLow .tank before) s).mp fun ends => stays ⟨loads, ends⟩
    have asked : ∀ t : State, SupplyRests t (drainAsked t) := fun _ => ⟨fun _ _ => rfl, rfl, rfl, rfl, rfl, rfl⟩
    exact (asked _).trans (loadDrain_supplyRests .descale none)
  · rw [tankChanges_waits loads]
    exact .refl _

/-- The load of a drain moves CH0 only to end a top-up. -/
theorem chan_tankChanges (before : State) (supply : c ≠ .ch3) (stays : c = .ch0 → ¬(drainLoads s ∧ endsTopUp s)) :
    chan (tankChanges before s) c = chan (followSource .tank (sourceLow .tank before) s) c := by
  by_cases ends : drainLoads s ∧ endsTopUp s
  · have other : c ≠ .ch0 := fun same => stays same ends
    rw [tankChanges_loads ends.1]
    exact (loadDrain_acts supply .descale).chan (.inl other)
  · exact (tankChanges_supplyRests before ends).chans c supply

/-- A top-up that the drain's load ends is gone, and charged once where it ran (R95, R96, R102). -/
theorem tankChanges_endsTopUp (before : State) (loads : drainLoads s) (ends : endsTopUp s) :
    let u := tankChanges before s
    chan u .ch0 = ⟨.idle, none⟩ ∧
      ∀ d : Dose, (chan s .ch0).dose = some d → (chan s .ch0).state = .running → PathSound s →
        HandsOn (d.delivered - d.charged) d s u ∧ u.water.path = .settling := by
  dsimp only
  rw [tankChanges_loads loads]
  have running := fun d => @followSource_running d s .tank (sourceLow .tank before)
  have free := ((followSource_drainLoads (sourceLow .tank before) s).mpr loads).2.1
  have still := (followSource_endsTopUp (sourceLow .tank before) s).mpr ends
  generalize followSource .tank (sourceLow .tank before) s = t at running free still
  obtain ⟨x, cancelled, rests, ret, settings, start⟩ := loadDrain_cancels .descale (s := drainAsked t) free still
  have water : (loadDrain .descale (drainAsked t)).water = (cancelDose .ch0 x).water := by
    rw [cancelled, postBoiler_water]
  have charges : ChargesNothing (cancelDose .ch0 x) (loadDrain .descale (drainAsked t)) := by
    rw [cancelled, postBoiler_eq]
    exact ⟨rfl, rfl, rfl⟩
  have same : chan x .ch0 = chan t .ch0 := rests.chans .ch0 (by decide)
  refine ⟨?_, fun d dose runs sound => ?_⟩
  · have record : chan (loadDrain .descale (drainAsked t)) .ch0 = chan (cancelDose .ch0 x) .ch0 := by
      unfold chan
      rw [water]
    exact record.trans (chan_cancelDose (by decide) x)
  · rw [water]
    rcases running d sound runs dose with ⟨handsOn, path, idle⟩ | ⟨only, goesOn⟩
    · have cancels := (cancelDose_uncharged (s := x) (by rw [same]; exact idle)).2
      exact ⟨((handsOn.after rests.charges).after cancels).after charges, cancelDose_settling (rests.path.trans path)⟩
    · have runsOn : (chan x .ch0).state = .running := by rw [same, goesOn]; exact runs
      have doseOn : (chan x .ch0).dose = some d := by rw [same, goesOn]; exact dose
      have granted : x.water.path = .granted .ch0 :=
        (rests.path.trans only.path.1).trans (sound.runs (by decide) runs)
      have handsOn := (cancelDose_handsOn (by decide) runsOn doseOn).before (s := t) rests.charges.1 ret settings start
      exact ⟨(only.handsOn handsOn).after charges, (cancelDose_releases (by decide) runsOn granted).1⟩

/-- The tank becomes low (R93, R96). -/
theorem tankChanges_suspends (was : sourceLow .tank before = false) (low : sourceLow .tank s = true) :
    (∀ c : Chan, c ≠ .ch3 → (c = .ch0 → ¬(drainLoads s ∧ endsTopUp s)) → sourceIs .tank (chan s c) = true →
      (chan s c).state = .requesting ∨ (chan s c).state = .running → (chan (tankChanges before s) c).state = .suspended) ∧
    (PathSound s → ¬(drainLoads s ∧ endsTopUp s) → Suspends .tank s (tankChanges before s)) := by
  obtain ⟨states, charges⟩ := suspendSource_suspends .tank s
  have empties : followSource .tank (sourceLow .tank before) s = suspendSource .tank s := by
    rw [was]
    exact followSource_empties low
  refine ⟨fun c supply stays drawn held => ?_, fun sound stays => ?_⟩
  · rw [chan_tankChanges before supply stays, empties]
    exact states c supply drawn held
  · have rests := tankChanges_supplyRests before stays
    rw [empties] at rests
    obtain ⟨running, none⟩ := charges sound
    refine ⟨fun c d granted dose drawn => ?_, fun undrawn => (none undrawn).trans rests.charges⟩
    obtain ⟨record, path, timer, handsOn⟩ := running c d granted dose drawn
    have supply : c ≠ .ch3 := fun h => sound.2 (h ▸ granted)
    exact ⟨by rw [rests.chans c supply]; exact record, rests.path.trans path, rests.timer.trans timer,
      handsOn.after rests.charges⟩

/-- The tank, in use, stops being low (R94). -/
theorem tankChanges_primes (was : sourceLow .tank before = true) (full : sourceLow .tank s = false)
    (inUse : tankInUse s = true) : Primes (drainLoads s ∧ endsTopUp s) .tank s (tankChanges before s) := by
  have fills : followSource .tank (sourceLow .tank before) s = primeSource .tank s := by
    rw [was]
    exact followSource_fills full inUse
  refine (primeSource_primes full).later fun c supply stays => ?_
  rw [chan_tankChanges before supply stays, fills]

end

end Sys2Proof.Machine
end

section
/-! SUPPORT. The door opens (R26, R38, R44, R66, R73, R81, R145, R175): what is cut at that moment, the lock that is withdrawn,
and the pause of the run and of the regulator. -/

namespace Sys2Proof.Machine

section
variable {k : EventKind} {s t : State}

/-! ## What the door cuts (R66, R73, R81) -/

/-- A fan drive that a hold begins for. -/
def FanDrive.held (f : FanDrive) : FanDrive := if f.phase = .running then f.stop else { f with duty := 0 }

theorem FanDrive.held_duty (f : FanDrive) : f.held.duty = 0 := by
  unfold FanDrive.held
  split <;> rfl

theorem holdFan_eq (s : State) : holdFan s = setFan s.out.fan.held s := by
  unfold holdFan FanDrive.held
  split <;> rfl

theorem withdrawRemote_eq (s : State) :
    withdrawRemote s =
      { s with prot := { s.prot with remotePermission := false }, events := (withdrawRemote s).events } := by
  unfold withdrawRemote
  split
  · rfl
  · next without =>
    have same : { s.prot with remotePermission := false } = s.prot := by rw [← Bool.eq_false_iff.mpr without]
    rw [same]

theorem withdrawRemote_tells (s : State) :
    (∀ k : EventKind, k ≠ .lockChanged → EntriesKept k s (withdrawRemote s)) ∧
      (s.prot.remotePermission = true → RaisedTo .lockChanged (some 1) s (withdrawRemote s)) := by
  have told : ∀ (k : EventKind) (p : Protection), k ≠ .lockChanged → EntriesKept k s (raiseLock 1 (setProt p s)) :=
    fun k p other => EntriesKept.trans (t := setProt p s) (.same rfl) (raiseEvent_entriesKept other _ _)
  unfold withdrawRemote
  refine ⟨fun k other => ?_, fun remote => ?_⟩
  · split
    · exact told k _ other
    · exact .same rfl
  · rw [if_pos remote]
    exact raiseEvent_raised .lockChanged (some 1) (setProt _ s)

theorem cutCavity_runs (s : State) {l : Load} (cavity : l.isCavity = true) :
    ((cutCavity s).out.heat.get l).active = Run.empty ∧ ((cutCavity s).out.heat.get l).pending = Run.empty := by
  cases l with
  | boiler => exact absurd cavity (by decide)
  | _ => exact ⟨rfl, rfl⟩

/-- The door is open for every unit but the sequencer. -/
def doorOpened (s : State) : State :=
  removeForces isCavityOutput (holdFan (cutCavity (withdrawRemote (raiseEvent .doorOpened none s))))

theorem doorOpens_eq (s : State) :
    doorOpens s = if runActive (doorOpened s) then addDoor (doorOpened s) else doorOpened s := rfl

theorem doorOpened_eq (s : State) :
    ∃ sh r, doorOpened s =
      { s with
        share := sh
        prot := { s.prot with remotePermission := false }
        events := (withdrawRemote (raiseEvent .doorOpened none s)).events
        out := { s.out with
          heat := (cutCavity s).out.heat, fan := s.out.fan.held
          forces := s.out.forces.filter (fun e => !isCavityOutput e.output), heaterRelay := r } } := by
  unfold doorOpened
  rw [holdFan_eq, withdrawRemote_eq]
  exact removeForces_quiet isCavityOutput_rests _

theorem doorOpened_events (s : State) :
    (∀ k : EventKind, k ≠ .doorOpened → k ≠ .lockChanged → EntriesKept k s (doorOpened s)) ∧
      RaisedTo .doorOpened none s (doorOpened s) ∧
      (s.prot.remotePermission = true → RaisedTo .lockChanged (some 1) s (doorOpened s)) := by
  obtain ⟨sh, r, opened⟩ := doorOpened_eq s
  obtain ⟨stands, tells⟩ := withdrawRemote_tells (raiseEvent .doorOpened none s)
  have events : (doorOpened s).events = (withdrawRemote (raiseEvent .doorOpened none s)).events := by rw [opened]
  have after : ∀ k, EntriesKept k (withdrawRemote (raiseEvent .doorOpened none s)) (doorOpened s) := fun _ => .same events
  refine ⟨fun k other lock => ?_, ?_, fun remote => ?_⟩
  · exact ((raiseEvent_entriesKept other none s).trans (stands k lock)).trans (after k)
  · exact ((stands .doorOpened (by decide)).trans (after _)).raised (raiseEvent_raised .doorOpened none s)
  · exact (after _).raised ((tells remote).from rfl)

/-! ## The pause of the regulator (R26, R38, R44) -/

theorem issueOutputs_paused (h : s.climate.state = .paused) : issueOutputs s = restOutputs .opened s := by
  unfold issueOutputs
  rw [h]
  rfl

/-- Of the outputs, what a state calls for moves the relay's request, the fan drive and the flap alone. -/
theorem issueOutputs_out (s : State) :
    ∃ r f v, (issueOutputs s).out = { s.out with heaterRelay := r, fan := f, vent := v } := by
  have issued : ∀ (code : Nat) (closed : Bool), ∃ r f, (issueFan code (askRelay closed s)).out =
      { s.out with heaterRelay := r, fan := f } := fun code closed => by
    rw [issueFan_eq]
    exact ⟨_, _, rfl⟩
  have moded : ∀ t : State, ∃ v, (requestModeVent t).out = { t.out with vent := v } := fun t => by
    unfold requestModeVent
    split
    · exact ⟨t.out.vent, rfl⟩
    · split
      · exact ⟨t.out.vent, rfl⟩
      · exact ⟨_, requestVent_out _ t⟩
  have works : ∀ code : Nat, ∃ r f v, (requestModeVent (issueFan code (askRelay true s))).out =
      { s.out with heaterRelay := r, fan := f, vent := v } := fun code => by
    obtain ⟨r, f, fan⟩ := issued code true
    obtain ⟨v, vent⟩ := moded (issueFan code (askRelay true s))
    rw [vent, fan]
    exact ⟨_, _, _, rfl⟩
  have rests : ∀ e : VentEnd, ∃ r f v, (requestVent e (issueFan 0 (askRelay false s))).out =
      { s.out with heaterRelay := r, fan := f, vent := v } := fun e => by
    obtain ⟨r, f, fan⟩ := issued 0 false
    rw [requestVent_out, fan]
    exact ⟨_, _, _, rfl⟩
  unfold issueOutputs
  split
  case h_1 => exact works _
  case h_2 => exact works _
  case h_3 => exact rests .closed
  case h_4 => exact rests .opened

/-- A fan code of 0 leaves a duty of 0 there. -/
theorem issueFan_zero_duty (still : s.out.fan.duty = 0) : (issueFan 0 s).out.fan.duty = 0 := by
  unfold issueFan
  dsimp only
  rw [if_pos rfl]
  split
  · rfl
  · exact still

/-- The regulator as a pause leaves it, with the state it returns to. -/
def pausedRegulator (s : State) : State :=
  setClimate
    { s.climate with
      state := .paused, returnState := some (if s.climate.state = .hold then .hold else .preheat) } s

theorem pauseClimate_rests (idle : working s = false) : pauseClimate s = s := by
  unfold working at idle
  unfold pauseClimate
  split
  · next preheats => exact absurd idle (by rw [preheats]; decide)
  · next holds => exact absurd idle (by rw [holds]; decide)
  · rfl

theorem pauseClimate_working (works : working s = true) :
    pauseClimate s = restOutputs .opened (postZeros (pausedRegulator s)) := by
  rw [← issueOutputs_paused (by rw [postZeros_climate]; rfl)]
  unfold pauseClimate pausedRegulator
  split
  · next preheats => rw [if_neg (by rw [preheats]; decide)]
  · next holds => rw [if_pos holds]
  · next preheats holds =>
    unfold working at works
    rcases Bool.or_eq_true_iff.mp works with h | h
    · exact absurd (of_decide_eq_true h) preheats
    · exact absurd (of_decide_eq_true h) holds

/-- The regulator, which worked in `s`, is paused in `u`: the relay is let go, the fan code is 0, no demand and no steam
are asked for, and the flap has taken the request to open. -/
def RegulatorPauses (s u : State) : Prop :=
  u.climate.state = .paused ∧
    u.climate.returnState = some (if s.climate.state = .hold then WorkingState.hold else .preheat) ∧
    u.climate.relayAsk = false ∧ u.out.fan.code = 0 ∧ u.boiler.steamRequest = 0 ∧ u.share.demands.top = 0 ∧
    u.share.demands.bottom = 0 ∧ u.share.demands.ring = 0 ∧ u.share.demands.grill = 0 ∧
    u.out.vent.state.isFor .opened = true ∧ VentAsked .opened s u

/-- Such a pause is one of any state with the same regulator, flap and end switches. -/
theorem RegulatorPauses.of_same {u : State} (h : RegulatorPauses t u) (climate : t.climate = s.climate)
    (vent : t.out.vent = s.out.vent) (inputs : t.inputs = s.inputs) : RegulatorPauses s u := by
  unfold RegulatorPauses VentAsked at h ⊢
  rw [climate, vent, inputs] at h
  exact h

theorem pauseClimate_pauses (works : working s = true) : RegulatorPauses s (pauseClimate s) := by
  rw [pauseClimate_working works]
  obtain ⟨share, boiler, -⟩ := restOutputs_units .opened (postZeros (pausedRegulator s))
  unfold RegulatorPauses
  rw [ventAsked_iff, restOutputs_climate, restOutputs_fanCode, restOutputs_vent, share, boiler, postZeros_eq]
  exact ⟨rfl, rfl, rfl, rfl, rfl, rfl, rfl, rfl, rfl, ventAfter_isFor .opened _, ventAfter_congr .opened rfl rfl⟩

theorem pauseClimate_out (s : State) :
    (∃ r f v, (pauseClimate s).out = { s.out with heaterRelay := r, fan := f, vent := v }) ∧
      (s.out.fan.duty = 0 → (pauseClimate s).out.fan.duty = 0) := by
  cases works : working s with
  | false =>
    rw [pauseClimate_rests works]
    exact ⟨⟨_, _, _, rfl⟩, id⟩
  | true =>
    have out : (postZeros (pausedRegulator s)).out = s.out := by rw [postZeros_eq]; rfl
    rw [pauseClimate_working works]
    refine ⟨?_, fun still => ?_⟩
    · rw [← issueOutputs_paused (by rw [postZeros_climate]; rfl), ← out]
      exact issueOutputs_out _
    · unfold restOutputs
      rw [requestVent_out]
      exact issueFan_zero_duty (s := askRelay false (postZeros (pausedRegulator s)))
        ((congrArg (·.fan.duty) out).trans still)

/-! ## DOOR in the run (R144, R145) -/

/-- The first cause pauses the run, and tells it (R144). -/
theorem addCause_pauses (p : PauseCause) (empty : s.ret.run.causes.isEmpty = true) :
    (addCause p s).ret.run.state = .paused ∧ RaisedTo .programPaused (stageArg s) s (addCause p s) := by
  have absent : s.ret.run.causes.has p = false := by
    simp only [Causes.isEmpty, Bool.and_eq_true, Bool.not_eq_true'] at empty
    obtain ⟨⟨⟨door, water⟩, probe⟩, mains⟩ := empty
    cases p
    · exact door
    · exact water
    · exact probe
    · exact mains
  unfold addCause
  rw [if_neg (ne_true_of_eq_false absent)]
  dsimp only
  rw [if_pos empty]
  exact ⟨rfl, (raiseEvent_raised .programPaused _ _).from rfl⟩

/-- The run as DOOR leaves it, the regulator still to be told. -/
def doorCaused (s : State) : State := addCause .door (setRun { s.ret.run with doorTimer := 0 } s)

theorem addDoor_eq (s : State) : addDoor s = pauseClimate (doorCaused s) := rfl

theorem doorCaused_runOnly (s : State) : RunOnly s (doorCaused s) := (setRun_runOnly _ s).trans (addCause_runOnly _ _)

theorem addDoor_ret (s : State) : (addDoor s).ret = (doorCaused s).ret := (pauseClimate_acts _).units.1

/-- DOOR is present with its timer at 0, and a run that no other cause pauses is paused by it (R144, R145). -/
theorem addDoor_run (s : State) :
    (addDoor s).ret.run.causes.door = true ∧ (addDoor s).ret.run.doorTimer = 0 ∧
      (s.ret.run.causes.isEmpty = true →
        (addDoor s).ret.run.state = .paused ∧ RaisedTo .programPaused (stageArg s) s (addDoor s)) := by
  obtain ⟨st, run, -⟩ := addCause_moves .door (setRun { s.ret.run with doorTimer := 0 } s)
  rw [addDoor_ret]
  refine ⟨?_, ?_, fun empty => ?_⟩
  · exact congrArg (·.causes.door) run
  · exact congrArg RunContext.doorTimer run
  · obtain ⟨state, raised⟩ := addCause_pauses (s := setRun { s.ret.run with doorTimer := 0 } s) .door empty
    exact ⟨state, ((pauseClimate_acts _).events .programPaused (by decide)).raised raised⟩

theorem doorCaused_only (s : State) :
    (doorCaused s).climate = s.climate ∧ (doorCaused s).out = s.out ∧ (doorCaused s).inputs = s.inputs := by
  have only := (doorCaused_runOnly s).only
  exact ⟨by rw [only], by rw [only], by rw [only]⟩

theorem working_congr (h : t.climate = s.climate) : working t = working s := by
  unfold working
  rw [h]

/-- DOOR, added, pauses a working regulator (R26). -/
theorem addDoor_climate (s : State) :
    (working s = true → RegulatorPauses s (addDoor s)) ∧ (working s = false → (addDoor s).climate = s.climate) := by
  obtain ⟨climate, out, inputs⟩ := doorCaused_only s
  rw [addDoor_eq]
  refine ⟨fun works => ?_, fun idle => ?_⟩
  · have pauses := pauseClimate_pauses ((working_congr climate).trans works)
    exact pauses.of_same climate (congrArg OutputTiming.vent out) inputs
  · rw [pauseClimate_rests ((working_congr climate).trans idle), climate]

theorem addDoor_out (s : State) :
    (∃ r f v, (addDoor s).out = { s.out with heaterRelay := r, fan := f, vent := v }) ∧
      (s.out.fan.duty = 0 → (addDoor s).out.fan.duty = 0) := by
  have out := pauseClimate_out (doorCaused s)
  rw [(doorCaused_only s).2.1] at out
  exact out

theorem addDoor_prot (s : State) : (addDoor s).prot = s.prot := (addDoor_kept (.refl s)).prot

/-! ## The door opens -/

theorem runActive_congr (ret : t.ret = s.ret) (start : t.start = s.start) : runActive t = runActive s := by
  unfold runActive
  rw [ret, start]

theorem runActive_doorOpened (s : State) : runActive (doorOpened s) = runActive s := by
  obtain ⟨sh, r, opened⟩ := doorOpened_eq s
  exact runActive_congr (by rw [opened]) (by rw [opened])

/-- Without a run the door's opening leaves the regulator and the run as they are. -/
theorem doorOpens_idle (idle : runActive s = false) :
    (doorOpens s).climate = s.climate ∧ (doorOpens s).ret.run = s.ret.run := by
  obtain ⟨sh, r, opened⟩ := doorOpened_eq s
  rw [doorOpens_eq, runActive_doorOpened, if_neg (ne_true_of_eq_false idle), opened]
  exact ⟨rfl, rfl⟩

theorem doorOpens_active (active : runActive s = true) : doorOpens s = addDoor (doorOpened s) := by
  rw [doorOpens_eq, runActive_doorOpened, if_pos active]

/-- A property of the opened door that DOOR, added to the run, keeps. -/
theorem doorOpens_keeps {P : State → Prop} (opened : P (doorOpened s)) (added : ∀ t, P t → P (addDoor t)) :
    P (doorOpens s) := by
  rw [doorOpens_eq]
  split
  · exact added _ opened
  · exact opened

/-- The cavity's runs are discarded and the fan's duty is 0, no cavity load is forced, and remote permission is withdrawn
(R66, R73, R81, R175). -/
def DoorCuts (s u : State) : Prop :=
  (∀ l : Load, l.isCavity = true →
    (u.out.heat.get l).active = Run.empty ∧ (u.out.heat.get l).pending = Run.empty) ∧
    u.out.heat.boiler = s.out.heat.boiler ∧ u.out.fan.duty = 0 ∧ u.prot.remotePermission = false ∧
    ∀ e ∈ u.out.forces, isCavityOutput e.output = false

theorem doorOpens_cuts (s : State) : DoorCuts s (doorOpens s) := by
  refine doorOpens_keeps (P := DoorCuts s) ?_ fun t cut => ?_
  · unfold DoorCuts
    obtain ⟨sh, r, opened⟩ := doorOpened_eq s
    rw [opened]
    refine ⟨fun l => cutCavity_runs s, rfl, s.out.fan.held_duty, rfl, fun e member => ?_⟩
    simpa using (List.mem_filter.mp member).2
  · obtain ⟨runs, boiler, duty, remote, forces⟩ := cut
    obtain ⟨⟨r, f, v, out⟩, still⟩ := addDoor_out t
    refine ⟨?_, ?_, still duty, ?_, ?_⟩
    · rw [out]
      exact runs
    · rw [out]
      exact boiler
    · rw [addDoor_prot]
      exact remote
    · rw [out]
      exact forces

/-- DOOR_OPENED is raised, and LOCK_CHANGED where remote permission was given (R163, R175). -/
theorem doorOpens_raised (s : State) :
    RaisedTo .doorOpened none s (doorOpens s) ∧
      (s.prot.remotePermission = true → RaisedTo .lockChanged (some 1) s (doorOpens s)) := by
  obtain ⟨-, raised, tells⟩ := doorOpened_events s
  refine ⟨doorOpens_keeps (P := RaisedTo .doorOpened none s) raised fun t h => (addDoor_goesOn rfl).events.raised h,
    fun remote => doorOpens_keeps (P := RaisedTo .lockChanged (some 1) s) (tells remote) fun t h =>
      (addDoor_goesOn rfl).events.raised h⟩

/-- The run takes DOOR (R144, R145). -/
theorem doorOpens_pauses (active : runActive s = true) :
    let u := doorOpens s
    u.ret.run.causes.door = true ∧ u.ret.run.doorTimer = 0 ∧
      (s.ret.run.causes.isEmpty = true → u.ret.run.state = .paused ∧ RaisedTo .programPaused (stageArg s) s u) := by
  obtain ⟨sh, r, opened⟩ := doorOpened_eq s
  obtain ⟨door, timer, pauses⟩ := addDoor_run (doorOpened s)
  have ret : (doorOpened s).ret = s.ret := by rw [opened]
  have steering : (doorOpened s).events.steering = s.events.steering :=
    ((doorOpened_events s).1 .programPaused (by decide) (by decide)).steering
  dsimp only
  rw [doorOpens_active active]
  refine ⟨door, timer, fun empty => ?_⟩
  obtain ⟨state, raised⟩ := pauses (by rw [ret]; exact empty)
  unfold stageArg at raised ⊢
  rw [ret] at raised
  exact ⟨state, raised.from steering⟩

/-- The regulator takes the pause (R26). -/
theorem doorOpens_climate (active : runActive s = true) :
    (working s = true → RegulatorPauses s (doorOpens s)) ∧ (working s = false → (doorOpens s).climate = s.climate) := by
  obtain ⟨sh, r, opened⟩ := doorOpened_eq s
  have climate : (doorOpened s).climate = s.climate := by rw [opened]
  obtain ⟨pauses, idles⟩ := addDoor_climate (doorOpened s)
  rw [doorOpens_active active]
  refine ⟨fun works => ?_, fun idle => (idles ((working_congr climate).trans idle)).trans climate⟩
  exact (pauses ((working_congr climate).trans works)).of_same climate (by rw [opened]) (by rw [opened])

end

end Sys2Proof.Machine
end

section
/-! SUPPORT. The door closes (R26, R38, R44, R73, R78, R143, R145): the lamp and the fan, DOOR's removal from the run with the
regulator's return to its work, and the burst that waited for it. -/

namespace Sys2Proof.Machine

section
variable {k : EventKind} {m : Mode} {ml : Nat} {s t s' t' : State}

/-! ## The WATER cause considered once more (R146) -/

/-- What holds of the run as it is, with WATER added, with WATER removed and with its condition noted alone holds once the
cause has been considered. -/
theorem followWater_cases {P : State → Prop} (s : State) (same : P s) (adds : P (waterAdded s))
    (removes : P (waterRemoved s)) (ignores : P { s with seq := { s.seq with waterCondition := false } }) : P (followWater s) := by
  cases was : s.seq.waterCondition <;> cases holds : waterConditionHolds s
  · rw [followWater_same (holds.trans was.symm)]
    exact same
  · rw [followWater_adds holds was]
    exact adds
  · cases water : s.ret.run.causes.water
    · rw [followWater_ignores holds was water]
      exact ignores
    · rw [followWater_removes holds was water]
      exact removes
  · rw [followWater_same (holds.trans was.symm)]
    exact same

/-- Of the regulator, WATER moves the withholding of steam alone (R27). -/
theorem followWater_climate (s : State) : ∃ b, (followWater s).climate = { s.climate with steamWithheld := b } := by
  refine followWater_cases (P := fun t => ∃ b, t.climate = { s.climate with steamWithheld := b }) s ⟨_, rfl⟩ ⟨true, ?_⟩
    ?_ ⟨_, rfl⟩
  · unfold waterAdded
    rw [withholdSteam_climate, (addCause_runOnly ..).climate]
    rfl
  · unfold waterRemoved
    dsimp only
    rw [withholdSteam_climate, setRun_climate, (removeCause_runOnly ..).climate]
    exact ⟨_, rfl⟩

/-- Of the run, WATER moves the run state, its own membership and its timer alone (R146). -/
theorem followWater_run (s : State) :
    ∃ st w n, (followWater s).ret.run =
      { s.ret.run with state := st, causes := s.ret.run.causes.put .water w, waterTimer := n } := by
  have still : ∃ st w n, s.ret.run =
      { s.ret.run with state := st, causes := s.ret.run.causes.put .water w, waterTimer := n } :=
    ⟨s.ret.run.state, s.ret.run.causes.water, s.ret.run.waterTimer, rfl⟩
  refine followWater_cases (P := fun t => ∃ st w n, t.ret.run =
    { s.ret.run with state := st, causes := s.ret.run.causes.put .water w, waterTimer := n }) s still ?_ ?_ still
  · obtain ⟨st, run, -⟩ := addCause_moves .water
      (setRun { s.ret.run with waterTimer := 0 } { s with seq := { s.seq with waterCondition := true } })
    unfold waterAdded
    rw [(withholdSteam_units ..).1, run]
    exact ⟨_, _, _, rfl⟩
  · obtain ⟨st, run, -⟩ := removeCause_moves .water { s with seq := { s.seq with waterCondition := false } }
    unfold waterRemoved
    dsimp only
    rw [(withholdSteam_units ..).1, setRun_ret, run]
    exact ⟨_, _, _, rfl⟩

/-! ## The regulator goes on (R26, R38, R44) -/

theorem ModeVentAsked.of_same (h : ModeVentAsked m s t) (vent : s'.out.vent = s.out.vent) (inputs : s'.inputs = s.inputs)
    (later : t'.out.vent = t.out.vent) : ModeVentAsked m s' t' := by
  unfold ModeVentAsked VentAsked at h ⊢
  simp only [vent, inputs, later]
  exact h

/-- The flap takes the vent request of the record's mode. -/
theorem requestModeVent_asked {r : SetpointRecord} (record : s.climate.record = some r) :
    ModeVentAsked r.mode s (requestModeVent s) := by
  have asked : ∀ e : VentEnd, VentAsked e s (requestVent e s) := fun e =>
    (ventAsked_iff e s _).mpr (by rw [requestVent_out])
  have moded : ∀ m : Mode,
      ModeVentAsked m s (match (modeRow m).vent with | none => s | some e => requestVent e s) := fun m => by
    cases m with
    | steam => exact asked .closed
    | combi => rfl
    | proof => rfl
    | _ => exact asked .opened
  unfold requestModeVent
  rw [record]
  exact moded r.mode

theorem issueOutputs_working (works : working s = true) :
    issueOutputs s =
      requestModeVent (issueFan ((s.climate.record.map SetpointRecord.fanCode).getD 0) (askRelay true s)) := by
  unfold working at works
  unfold issueOutputs
  rcases Bool.or_eq_true_iff.mp works with h | h
  · rw [of_decide_eq_true h]
  · rw [of_decide_eq_true h]

theorem requestModeVent_fanCode (s : State) : (requestModeVent s).out.fan.code = s.out.fan.code := by
  unfold requestModeVent
  split
  · rfl
  · split
    · rfl
    · rw [requestVent_out]

/-- A working state calls for the relay, for the record's fan code and for the vent request of its mode. -/
theorem issueOutputs_works (works : working s = true) :
    (issueOutputs s).climate = { s.climate with relayAsk := true } ∧
      ∀ r : SetpointRecord, s.climate.record = some r →
        (issueOutputs s).out.fan.code = r.fanCode ∧ ModeVentAsked r.mode s (issueOutputs s) := by
  rw [issueOutputs_working works]
  refine ⟨by rw [requestModeVent_climate, issueFan_climate]; rfl, fun r record => ?_⟩
  rw [record]
  have fan : issueFan r.fanCode (askRelay true s) =
      { askRelay true s with
        out := { (askRelay true s).out with fan := (issueFan r.fanCode (askRelay true s)).out.fan } } := issueFan_eq _ _
  refine ⟨(requestModeVent_fanCode _).trans (issueFan_code _ _), ?_⟩
  refine (requestModeVent_asked (s := issueFan r.fanCode (askRelay true s)) ?_).of_same ?_ ?_ rfl
  · rw [fan]
    exact record
  · rw [fan]
    rfl
  · rw [fan]
    rfl

theorem unpauseClimate_acts (s : State) : RegulatorActs s (unpauseClimate s) :=
  .ite ((setClimate_acts _ s).trans (issueOutputs_acts _)) (.refl s)

theorem unpauseClimate_out (s : State) :
    ∃ r f v, (unpauseClimate s).out = { s.out with heaterRelay := r, fan := f, vent := v } := by
  unfold unpauseClimate
  split
  · exact issueOutputs_out (setClimate _ s)
  · exact ⟨_, _, _, rfl⟩

theorem unpauseClimate_record (s : State) : (unpauseClimate s).climate.record = s.climate.record := by
  unfold unpauseClimate
  split
  · obtain ⟨b, climate⟩ := issueOutputs_climate
      (setClimate { s.climate with state := (s.climate.returnState.getD .preheat).state, returnState := none } s)
    rw [climate]
    rfl
  · rfl

theorem unpauseClimate_goesOn (other : k.ofPauses = false) : StageGoesOn k s (unpauseClimate s) :=
  (unpauseClimate_acts s).goesOn other (unpauseClimate_kept (.refl s)) (unpauseClimate_record s)

theorem unpauseClimate_rests (awake : s.climate.state ≠ .paused) : unpauseClimate s = s := if_neg awake

/-- A paused regulator goes on in the state it returns to. -/
theorem unpauseClimate_resumes {w : WorkingState} (paused : s.climate.state = .paused)
    (back : s.climate.returnState = some w) :
    (unpauseClimate s).climate = { s.climate with state := w.state, returnState := none, relayAsk := true } ∧
      ∀ r : SetpointRecord, s.climate.record = some r →
        (unpauseClimate s).out.fan.code = r.fanCode ∧ ModeVentAsked r.mode s (unpauseClimate s) := by
  have resumed : unpauseClimate s =
      issueOutputs (setClimate { s.climate with state := w.state, returnState := none } s) := by
    unfold unpauseClimate
    rw [if_pos paused, back]
    rfl
  have works : working (setClimate { s.climate with state := w.state, returnState := none } s) = true := by
    cases w <;> rfl
  obtain ⟨climate, outputs⟩ := issueOutputs_works works
  rw [resumed]
  refine ⟨climate, fun r record => ?_⟩
  obtain ⟨fan, vent⟩ := outputs r record
  exact ⟨fan, vent.of_same rfl rfl rfl⟩

/-! ## The burst that waited (R107, R143) -/

theorem requestDeferred_none (none : s.ret.run.deferredBurst = none) : requestDeferred s = s := by
  unfold requestDeferred
  rw [none]

theorem requestDeferred_some (waits : s.ret.run.deferredBurst = some ml) :
    requestDeferred s = followWater (requestBurst ml (dropDeferred s)) := by
  unfold requestDeferred
  rw [waits]

/-- What the request of a waiting burst leaves: the outputs, the regulator but for the withholding of steam, DOOR with its
timer, and the entries of the door. -/
theorem requestDeferred_leaves (s : State) :
    let u := requestDeferred s
    u.out = s.out ∧ (∃ b, u.climate = { s.climate with steamWithheld := b }) ∧
      u.ret.run.causes.door = s.ret.run.causes.door ∧ u.ret.run.doorTimer = s.ret.run.doorTimer ∧
      u.ret.run.deferredBurst = none ∧ EntriesKept .doorClosed s u := by
  dsimp only
  cases waits : s.ret.run.deferredBurst with
  | none =>
    rw [requestDeferred_none waits]
    exact ⟨rfl, ⟨_, rfl⟩, rfl, rfl, waits, .same rfl⟩
  | some ml =>
    have stays : StageStays .doorClosed (dropDeferred s) (requestBurst ml (dropDeferred s)) :=
      requestBurst_stays (by decide) ml _
    have ret : (requestBurst ml (dropDeferred s)).ret = (dropDeferred s).ret := by rw [requestBurst_only]
    obtain ⟨st, w, n, run⟩ := followWater_run (requestBurst ml (dropDeferred s))
    rw [requestDeferred_some waits, run, ret]
    refine ⟨?_, ?_, rfl, rfl, rfl, ?_⟩
    · rw [followWater_out, requestBurst_out]
      rfl
    · obtain ⟨b, climate⟩ := followWater_climate (requestBurst ml (dropDeferred s))
      rw [climate, requestBurst_climate]
      exact ⟨b, rfl⟩
    · have dropped : EntriesKept .doorClosed s (dropDeferred s) := .same rfl
      exact (dropped.trans stays.events).trans (followWater_goesOn rfl).events

/-! ## DOOR is removed (R144, R145) -/

/-- The last cause, removed, lets the run go on, and tells it (R144). -/
theorem removeCause_resumes {p : PauseCause} (has : s.ret.run.causes.has p = true)
    (last : (s.ret.run.causes.put p false).isEmpty = true) :
    (removeCause p s).ret.run.state = .running ∧ RaisedTo .programResumed (stageArg s) s (removeCause p s) := by
  have resumes : removeCause p s = raiseEvent .programResumed (stageArg s)
      (setRun { s.ret.run with causes := s.ret.run.causes.put p false, state := .running } s) :=
    (if_pos has).trans (if_pos last)
  rw [resumes]
  exact ⟨rfl, (raiseEvent_raised .programResumed _ _).from rfl⟩

/-- DOOR is removed from the run and its timer returns to 0; the regulator is still to be told. -/
def doorUncaused (s : State) : State := removeCause .door (setRun { s.ret.run with doorTimer := 0 } s)

/-- The regulator is told; a burst that waited is still to be requested. -/
def doorLifted (s : State) : State := unpauseClimate (doorUncaused s)

theorem dropDoor_eq (s : State) : dropDoor s = if s.ret.run.causes.door then requestDeferred (doorLifted s) else s := rfl

theorem doorUncaused_runOnly (s : State) : RunOnly s (doorUncaused s) :=
  (setRun_runOnly _ s).trans (removeCause_runOnly .door _)

theorem doorUncaused_only (s : State) :
    (doorUncaused s).climate = s.climate ∧ (doorUncaused s).out = s.out ∧ (doorUncaused s).inputs = s.inputs := by
  have only := (doorUncaused_runOnly s).only
  exact ⟨by rw [only], by rw [only], by rw [only]⟩

theorem doorLifted_goesOn (other : k.ofPauses = false) : StageGoesOn k s (doorLifted s) := by
  have timed : StageGoesOn k s (setRun { s.ret.run with doorTimer := 0 } s) := setRun_goesOn rfl id rfl
  exact (timed.trans (removeCause_goesOn other .door)).trans (unpauseClimate_goesOn other)

theorem doorLifted_run (s : State) :
    ∃ st, (doorLifted s).ret.run =
      { s.ret.run with doorTimer := 0, causes := s.ret.run.causes.put .door false, state := st } := by
  obtain ⟨st, run, -⟩ := removeCause_moves .door (setRun { s.ret.run with doorTimer := 0 } s)
  exact ⟨st, (congrArg Retained.run (unpauseClimate_acts _).units.1).trans run⟩

/-- A run that DOOR alone pauses goes on. -/
theorem doorLifted_resumes (alone : s.ret.run.causes = ⟨true, false, false, false⟩) :
    (doorLifted s).ret.run.state = .running ∧ RaisedTo .programResumed (stageArg s) s (doorLifted s) := by
  have causes : (setRun { s.ret.run with doorTimer := 0 } s).ret.run.causes = ⟨true, false, false, false⟩ := alone
  obtain ⟨state, raised⟩ := removeCause_resumes (s := setRun { s.ret.run with doorTimer := 0 } s) (p := .door)
    (by rw [causes]; rfl) (by rw [causes]; rfl)
  have acts := unpauseClimate_acts (doorUncaused s)
  exact ⟨(congrArg (fun r : Retained => r.run.state) acts.units.1).trans state,
    (acts.events .programResumed (by decide)).raised raised⟩

/-- DOOR's removal leaves the door's entries, the heat runs and the lamp, and leaves no DOOR with a timer of 0. -/
theorem dropDoor_leaves (door : s.ret.run.causes.door = true) :
    let u := dropDoor s
    u.ret.run.causes.door = false ∧ u.ret.run.doorTimer = 0 ∧
      (s.ret.run.deferredBurst = none → u = doorLifted s) ∧ u.out = (doorLifted s).out ∧
      (∃ b, u.climate = { (doorLifted s).climate with steamWithheld := b }) ∧ u.ret.run.deferredBurst = none := by
  obtain ⟨st, run⟩ := doorLifted_run s
  obtain ⟨out, climate, cause, timer, deferred, -⟩ := requestDeferred_leaves (doorLifted s)
  dsimp only
  rw [dropDoor_eq, if_pos door, cause, timer, run]
  exact ⟨rfl, rfl, fun none => requestDeferred_none (by rw [run]; exact none), out, climate, deferred⟩

theorem dropDoor_entries (s : State) : EntriesKept .doorClosed s (dropDoor s) := by
  rw [dropDoor_eq]
  split
  · obtain ⟨-, -, -, -, -, entries⟩ := requestDeferred_leaves (doorLifted s)
    exact (doorLifted_goesOn rfl).events.trans entries
  · exact .same rfl

theorem dropDoor_out (s : State) :
    (dropDoor s).out.heat = s.out.heat ∧ (dropDoor s).out.lampShot = s.out.lampShot := by
  cases door : s.ret.run.causes.door with
  | false =>
    rw [dropDoor_eq, door]
    exact ⟨rfl, rfl⟩
  | true =>
    obtain ⟨-, -, -, out, -⟩ := dropDoor_leaves door
    obtain ⟨r, f, v, lifted⟩ := unpauseClimate_out (doorUncaused s)
    rw [out, doorLifted, lifted, (doorUncaused_only s).2.1]
    exact ⟨rfl, rfl⟩

/-- A waiting burst is requested as of any state since which the water unit and the account have stood (R143). -/
theorem dropDoor_burst (kept : Kept s' s) (water : s.water = s'.water) (scale : s.scale = s'.scale)
    (steering : s.events.steering = s'.events.steering) (door : s.ret.run.causes.door = true)
    (waits : s.ret.run.deferredBurst = some ml) : BurstAsked ml s' (dropDoor s) := by
  have lifted : StageGoesOn .steamDegraded s (doorLifted s) := doorLifted_goesOn rfl
  obtain ⟨st, run⟩ := doorLifted_run s
  rw [dropDoor_eq, if_pos door, requestDeferred_some (ml := ml) (by rw [run]; exact waits)]
  exact requestBurst_asked (t := dropDeferred (doorLifted s)) (kept.trans (lifted.kept.trans (setRun_kept _ (.refl _))))
    (lifted.water.trans water) (lifted.scale.trans scale) (lifted.events.steering.trans steering) ml

/-- A paused regulator takes up its work again (R26, R38, R44). -/
theorem dropDoor_resumes {w : WorkingState} (door : s.ret.run.causes.door = true) (paused : s.climate.state = .paused)
    (back : s.climate.returnState = some w) :
    let u := dropDoor s
    u.climate.state = w.state ∧ u.climate.returnState = none ∧ u.climate.relayAsk = true ∧
      ∀ r : SetpointRecord, s.climate.record = some r → u.out.fan.code = r.fanCode ∧ ModeVentAsked r.mode s u := by
  obtain ⟨-, -, -, out, ⟨b, climate⟩, -⟩ := dropDoor_leaves door
  obtain ⟨same, sameOut, inputs⟩ := doorUncaused_only s
  obtain ⟨resumed, outputs⟩ := unpauseClimate_resumes (s := doorUncaused s) (by rw [same]; exact paused)
    (by rw [same]; exact back)
  dsimp only
  rw [climate, doorLifted, resumed]
  refine ⟨rfl, rfl, rfl, fun r record => ?_⟩
  obtain ⟨fan, vent⟩ := outputs r (by rw [same]; exact record)
  rw [out]
  exact ⟨fan, vent.of_same (by rw [sameOut]) inputs.symm (by rw [out, doorLifted])⟩

theorem dropDoor_climate (door : s.ret.run.causes.door = true) (awake : s.climate.state ≠ .paused)
    (none : s.ret.run.deferredBurst = none) : (dropDoor s).climate = s.climate := by
  obtain ⟨-, -, lifted, -⟩ := dropDoor_leaves door
  obtain ⟨same, -⟩ := doorUncaused_only s
  rw [lifted none, doorLifted, unpauseClimate_rests (by rw [same]; exact awake), same]

/-! ## The door closes -/

/-- The door is closed for every unit but the sequencer. -/
def doorShut (s : State) : State := startFan (startLamp (raiseEvent .doorClosed none s))

theorem doorCloses_eq (s : State) :
    doorCloses s = if runActive (doorShut s) then dropDoor (doorShut s) else doorShut s := rfl

theorem startFan_eq (s : State) : ∃ f, startFan s = { s with out := { s.out with fan := f } } := by
  unfold startFan
  split
  · exact ⟨_, rfl⟩
  · exact ⟨_, rfl⟩

theorem doorShut_eq (s : State) :
    ∃ f, doorShut s =
      { s with events := (raiseEvent .doorClosed none s).events, out := { s.out with lampShot := some 0, fan := f } } := by
  obtain ⟨f, started⟩ := startFan_eq (startLamp (raiseEvent .doorClosed none s))
  exact ⟨f, started⟩

theorem runActive_doorShut (s : State) : runActive (doorShut s) = runActive s := by
  obtain ⟨f, shut⟩ := doorShut_eq s
  exact runActive_congr (by rw [shut]) (by rw [shut])

/-- The lamp's one-shot runs, DOOR_CLOSED is raised and the heat runs go on (R78, R163). -/
theorem doorCloses_leaves (s : State) :
    (doorCloses s).out.heat = s.out.heat ∧ (doorCloses s).out.lampShot = some 0 ∧
      RaisedTo .doorClosed none s (doorCloses s) := by
  obtain ⟨f, shut⟩ := doorShut_eq s
  have heat : (doorShut s).out.heat = s.out.heat := by rw [shut]
  have lamp : (doorShut s).out.lampShot = some 0 := by rw [shut]
  have raised : RaisedTo .doorClosed none s (doorShut s) := by
    rw [shut]
    exact raiseEvent_raised .doorClosed none s
  rw [doorCloses_eq]
  split
  · obtain ⟨sameHeat, sameLamp⟩ := dropDoor_out (doorShut s)
    exact ⟨sameHeat.trans heat, sameLamp.trans lamp, (dropDoor_entries _).raised raised⟩
  · exact ⟨heat, lamp, raised⟩

/-- Without a run, or in one that DOOR does not pause, the regulator and the run stay as they are. -/
theorem doorCloses_idle (idle : runActive s = false ∨ s.ret.run.causes.door = false) :
    (doorCloses s).climate = s.climate ∧ (doorCloses s).ret.run = s.ret.run := by
  obtain ⟨f, shut⟩ := doorShut_eq s
  have same : doorCloses s = doorShut s := by
    rw [doorCloses_eq, runActive_doorShut]
    rcases idle with none | open_
    · rw [none]
      rfl
    · have cause : (doorShut s).ret.run.causes.door = false := by rw [shut]; exact open_
      rw [dropDoor_eq, cause]
      exact ite_self _
  rw [same, shut]
  exact ⟨rfl, rfl⟩

/-- A run that holds DOOR goes on without it (R26, R143, R144, R145). -/
theorem doorCloses_resumes (active : runActive s = true) (door : s.ret.run.causes.door = true) :
    let u := doorCloses s
    u.ret.run.causes.door = false ∧ u.ret.run.doorTimer = 0 ∧
      (s.ret.run.causes = ⟨true, false, false, false⟩ → s.ret.run.deferredBurst = none →
        u.ret.run.state = .running ∧ RaisedTo .programResumed (stageArg s) s u) ∧
      (∀ w : WorkingState, s.climate.state = .paused → s.climate.returnState = some w →
        u.climate.state = w.state ∧ u.climate.returnState = none ∧ u.climate.relayAsk = true ∧
          ∀ r : SetpointRecord, s.climate.record = some r → u.out.fan.code = r.fanCode ∧ ModeVentAsked r.mode s u) ∧
      (∀ ml : Nat, s.ret.run.deferredBurst = some ml → u.ret.run.deferredBurst = none ∧ BurstAsked ml s u) ∧
      (s.climate.state ≠ .paused → s.ret.run.deferredBurst = none → u.climate = s.climate) := by
  obtain ⟨f, shut⟩ := doorShut_eq s
  have dropped : doorCloses s = dropDoor (doorShut s) := by rw [doorCloses_eq, runActive_doorShut, if_pos active]
  have ret : (doorShut s).ret = s.ret := by rw [shut]
  have climate : (doorShut s).climate = s.climate := by rw [shut]
  have cause : (doorShut s).ret.run.causes.door = true := by rw [ret]; exact door
  obtain ⟨gone, timer, lifted, -, -, deferred⟩ := dropDoor_leaves cause
  dsimp only
  rw [dropped]
  refine ⟨gone, timer, fun alone none => ?_, fun w paused back => ?_, fun ml waits => ⟨deferred, ?_⟩,
    fun awake none => ?_⟩
  · rw [lifted (by rw [ret]; exact none)]
    obtain ⟨state, raised⟩ := doorLifted_resumes (s := doorShut s) (by rw [ret]; exact alone)
    unfold stageArg at raised ⊢
    rw [ret] at raised
    exact ⟨state, raised.from (by rw [shut]; rfl)⟩
  · obtain ⟨state, returned, relay, outputs⟩ :=
      dropDoor_resumes cause (by rw [climate]; exact paused) (by rw [climate]; exact back)
    refine ⟨state, returned, relay, fun r record => ?_⟩
    obtain ⟨fan, vent⟩ := outputs r (by rw [climate]; exact record)
    exact ⟨fan, vent.of_same (by rw [shut]) (by rw [shut]) rfl⟩
  · have kept : Kept s (doorShut s) := startFan_kept (startLamp_kept (raiseEvent_kept _ _ (.refl s)))
    exact dropDoor_burst kept (by rw [shut]) (by rw [shut]) (by rw [shut]; rfl) cause (by rw [ret]; exact waits)
  · exact (dropDoor_climate cause (by rw [climate]; exact awake) (by rw [ret]; exact none)).trans climate

end

end Sys2Proof.Machine
end

section
/-! SUPPORT. RAW_LEVEL_CHANGE and INPUT_CHANGE as a whole (R161): each input's answer, seen from the state before its reading
changed. -/

namespace Sys2Proof.Machine

section
variable {i : Input} {src : Source} {p : Nat} {d : Dose} {s u : State}

/-! ## What the reading itself does not move -/

theorem HandsOn.ofReading (h : HandsOn p d (inputRead i s) u) : HandsOn p d s u := h.before rfl rfl rfl rfl

theorem Suspends.ofReading (h : Suspends src (inputRead i s) u) : Suspends src s u := by
  obtain ⟨charged, free⟩ := h
  refine ⟨fun c d granted dose drawn => ?_, free⟩
  obtain ⟨record, path, timer, handsOn⟩ := charged c d granted dose drawn
  exact ⟨record, path, timer, handsOn.ofReading⟩

theorem tankPresent_inputRead (i : Input) (s : State) :
    tankPresent (inputRead i s) = if i = .tankPresent then (s.inputs.get i).raw else s.inputs.tankPresent.reading := by
  have reading : tankPresent (inputRead i s) = ((inputRead i s).inputs.get .tankPresent).reading := rfl
  rw [reading, inputRead_inputs, Inputs.get_set]
  by_cases own : i = .tankPresent
  · rw [if_pos own.symm, if_pos own]
  · rw [if_neg fun h => own h.symm, if_neg own]
    rfl

/-- The waiting drain can be loaded once the reading is taken. -/
theorem drainLoads_inputRead (i : Input) (s : State) :
    drainLoads (inputRead i s) ↔ s.work.drain = true ∧ holdsDose s .ch3 = false ∧
      (s.start.straps.supply = .tank →
        (if i = .tankPresent then (s.inputs.get i).raw else s.inputs.tankPresent.reading) = true) := by
  unfold drainLoads drainFits
  rw [tankPresent_inputRead]
  rfl

theorem sourceLow_inputTaken (src : Source) (i : Input) (s : State) :
    sourceLow src (inputTaken i s) = sourceLow src (inputRead i s) :=
  sourceLow_congr (inputTaken_frame i s).inputs src

/-! ## Each input's answer -/

theorem inputTaken_doorOpens (now : (s.inputs.get .door).raw = true) : inputTaken .door s = doorOpens (inputRead .door s) :=
  if_pos now

theorem inputTaken_doorCloses (now : (s.inputs.get .door).raw = false) :
    inputTaken .door s = doorCloses (inputRead .door s) := if_neg (ne_true_of_eq_false now)

theorem inputTaken_cutout (now : (s.inputs.get .thermalCutout).raw = true) :
    inputTaken .thermalCutout s = cutoutOpens (inputRead .thermalCutout s) := if_pos now

theorem inputTaken_high (now : (s.inputs.get .boilerHigh).raw = true) :
    inputTaken .boilerHigh s = highBecomesCovered (inputRead .boilerHigh s) := if_pos now

theorem inputTaken_uncovered (now : (s.inputs.get .boilerLow).raw = false) :
    inputTaken .boilerLow s = postBoiler (cutBoiler (inputRead .boilerLow s)) :=
  congrArg postBoiler (if_neg (ne_true_of_eq_false now))

theorem inputTaken_service (now : (s.inputs.get .servicePresent).raw = false) :
    inputTaken .servicePresent s = endServiceUnlock (inputRead .servicePresent s) := if_neg (ne_true_of_eq_false now)

theorem inputTaken_ventOpen (now : (s.inputs.get .ventOpenEnd).raw = true) :
    inputTaken .ventOpenEnd s = reachEnd .opened s (inputRead .ventOpenEnd s) := if_pos now

theorem inputTaken_ventClosed (now : (s.inputs.get .ventClosedEnd).raw = true) :
    inputTaken .ventClosedEnd s = reachEnd .closed s (inputRead .ventClosedEnd s) := if_pos now

theorem inputTaken_tank (tank : i = .tankPresent ∨ i = .tankFloat) : inputTaken i s = tankChanges s (inputRead i s) := by
  rcases tank with rfl | rfl <;> rfl

theorem inputTaken_tray (s : State) :
    conditionHolds .trayFull (inputTaken .trayFull s) = (s.inputs.get .trayFull).raw :=
  conditionHolds_followCondition rfl none _ (inputRead .trayFull s)

/-- The inlet, which the descale controller's drain does not wait for, stops being low (R94). -/
theorem inputTaken_inlet_primes (was : sourceLow .inlet s = true)
    (full : sourceLow .inlet (inputTaken .inletPressure s) = false) : Primes False .inlet s (inputTaken .inletPressure s) := by
  rw [sourceLow_inputTaken] at full
  have fills : inputTaken .inletPressure s = primeSource .inlet (inputRead .inletPressure s) := by
    show followSource .inlet (sourceLow .inlet s) _ = _
    rw [was]
    exact followSource_fills full rfl
  rw [fills]
  exact primeSource_primes full

theorem inputTaken_inlet_suspends (was : sourceLow .inlet s = false)
    (low : sourceLow .inlet (inputTaken .inletPressure s) = true) :
    inputTaken .inletPressure s = suspendSource .inlet (inputRead .inletPressure s) := by
  rw [sourceLow_inputTaken] at low
  show followSource .inlet (sourceLow .inlet s) _ = _
  rw [was]
  exact followSource_empties low

/-- A source that stops being low, at either kind of input (R94). -/
theorem inputTaken_primes {freed : Prop}
    (own : (src = .tank ∧ (i = .tankPresent ∨ i = .tankFloat) ∧ tankInUse s = true) ∨
      (src = .inlet ∧ i = .inletPressure))
    (was : sourceLow src s = true) (full : sourceLow src (inputTaken i s) = false)
    (ends : (i = .tankPresent ∨ i = .tankFloat) → drainLoads (inputRead i s) ∧ endsTopUp s → freed) :
    Primes freed src s (inputTaken i s) := by
  rcases own with ⟨rfl, tank, inUse⟩ | ⟨rfl, rfl⟩
  · have primed : Primes (drainLoads (inputRead i s) ∧ endsTopUp (inputRead i s)) .tank (inputRead i s)
        (inputTaken i s) := by
      rw [sourceLow_inputTaken] at full
      rw [inputTaken_tank tank]
      exact tankChanges_primes was full inUse
    exact primed.weaken (ends tank)
  · exact (inputTaken_inlet_primes was full).weaken False.elim

end

end Sys2Proof.Machine
end

section
/-! INPUTS. RAW_LEVEL_CHANGE and INPUT_CHANGE settled (R161). -/

namespace Sys2Proof.Machine

/-- Settles O51: a row that is due is `inputTaken`, and each clause is what the unit that acts on the input makes of it
(`doorOpens_pauses`, `doorCloses_resumes`, `highBecomesCovered_fill`, `tankChanges_suspends`, `inputTaken_primes` and their
neighbours), read from the state before. -/
theorem inputsChange : Obligations.InputsChange := by
  refine ⟨fun i level s => exec_rawLevelChange i level s, rfl, inputChangeDue_iff, fun i s idle => ?_,
    fun i s watches differs timed => ?_⟩
  · rw [exec_inputChange, if_neg (ne_true_of_eq_false idle)]
  intro now tank present loads topUpEnds
  have due : inputChangeDue i s = true := (inputChangeDue_iff i s).mpr ⟨watches, differs, timed⟩
  obtain ⟨inputs, settings, meas, ports, pending⟩ := inputTaken_frame i s
  have loaded : tank → (loads ↔ drainLoads (inputRead i s)) := fun own =>
    ⟨fun h => (drainLoads_inputRead i s).mpr h.2, fun h => ⟨own, (drainLoads_inputRead i s).mp h⟩⟩
  have ended : tank → (topUpEnds ↔ drainLoads (inputRead i s) ∧ endsTopUp (inputRead i s)) := fun own =>
    and_congr_left fun _ => loaded own
  refine ⟨inputTaken i s, by rw [exec_inputChange, if_pos due], inputs, settings, meas, ports, pending,
    ?opens, ?closes, ?cutout, ?uncovered, ?fill, ?descale, ?topUp, ?tray, ?service, ?ventOpen, ?ventClosed, ?drains,
    ?undrained, ?ends, ?tankLow, ?inletLow, ?primes⟩
  case opens =>
    rintro rfl opened
    rw [inputTaken_doorOpens opened]
    obtain ⟨runs, boiler, duty, remote, forces⟩ := doorOpens_cuts (inputRead .door s)
    obtain ⟨raised, tells⟩ := doorOpens_raised (inputRead .door s)
    refine ⟨runs, boiler, duty, remote, forces, raised, tells, fun active => ?_, doorOpens_idle (s := inputRead .door s)⟩
    obtain ⟨door, timer, pauses⟩ := doorOpens_pauses (s := inputRead .door s) active
    exact ⟨door, timer, pauses, doorOpens_climate (s := inputRead .door s) active⟩
  case closes =>
    rintro rfl closed
    rw [inputTaken_doorCloses closed]
    obtain ⟨heat, lamp, raised⟩ := doorCloses_leaves (inputRead .door s)
    exact ⟨heat, lamp, raised, doorCloses_resumes (s := inputRead .door s), doorCloses_idle (s := inputRead .door s)⟩
  case cutout =>
    rintro rfl opened
    rw [inputTaken_cutout opened]
    exact cutoutOpens_facts _
  case uncovered =>
    rintro rfl low
    rw [inputTaken_uncovered low]
    exact cutBoiler_posted low
  case fill =>
    rintro rfl high own fills
    rw [inputTaken_high high]
    obtain ⟨state, heats, charges⟩ := highBecomesCovered_fill (s := inputRead .boilerHigh s) own fills
    refine ⟨state, heats, fun d dose => ?_⟩
    obtain ⟨record, handsOn, path⟩ := charges d dose
    exact ⟨record, handsOn.ofReading, path⟩
  case descale =>
    rintro rfl high own awake
    rw [inputs, inputTaken_high high]
    obtain ⟨w, fillEnds, state, descale, boiler, work, read, faults, path, charges⟩ :=
      highBecomesCovered_descale (s := inputRead .boilerHigh s) own awake
    refine ⟨w, fillEnds, state, descale, boiler, work, read, faults, path, fun d dose => ?_⟩
    obtain ⟨record, handsOn⟩ := charges d dose
    exact ⟨record, handsOn.ofReading⟩
  case topUp =>
    rintro rfl high own single
    rw [inputTaken_high high]
    obtain ⟨record, charges⟩ := highBecomesCovered_topUp (s := inputRead .boilerHigh s) own single
    exact ⟨record, fun d dose runs => (charges d dose runs).ofReading⟩
  case tray =>
    rintro rfl
    exact inputTaken_tray s
  case service =>
    rintro rfl removed
    rw [inputTaken_service removed]
    exact endServiceUnlock_facts (inputRead .servicePresent s)
  case ventOpen =>
    rintro rfl reached free
    rw [inputTaken_ventOpen reached]
    exact reachEnd_arrives .opened s _ free
  case ventClosed =>
    rintro rfl reached free
    rw [inputTaken_ventClosed reached]
    exact reachEnd_arrives .closed s _ free
  case drains =>
    intro h
    rw [inputTaken_tank h.1]
    exact tankChanges_drains s ((loaded h.1).mp h)
  case undrained =>
    intro own waits
    rw [inputTaken_tank own]
    exact tankChanges_undrained s (mt (loaded own).mpr waits)
  case ends =>
    intro h
    obtain ⟨drains, ends⟩ := (ended h.1.1).mp h
    rw [inputTaken_tank h.1.1]
    obtain ⟨record, charges⟩ := tankChanges_endsTopUp s drains ends
    refine ⟨record, fun d dose runs sound => ?_⟩
    obtain ⟨handsOn, path⟩ := charges d dose runs sound
    exact ⟨handsOn.ofReading, path⟩
  case tankLow =>
    intro own was low
    rw [sourceLow_inputTaken] at low
    rw [inputTaken_tank own]
    obtain ⟨states, charges⟩ := tankChanges_suspends was low
    exact ⟨fun c supply stays => states c supply fun first => mt (ended own).mpr (stays first),
      fun sound stays => (charges sound (mt (ended own).mpr stays)).ofReading⟩
  case inletLow =>
    rintro rfl was low
    rw [inputTaken_inlet_suspends was low]
    obtain ⟨states, charges⟩ := suspendSource_suspends .inlet (inputRead .inletPressure s)
    exact ⟨states, fun sound => (charges sound).ofReading⟩
  case primes =>
    intro src own was full
    exact inputTaken_primes own was full fun tanks => (ended tanks).mpr

end Sys2Proof.Machine
end

section
/-! SUPPORT. The kinds of events that a reaction of the units neither raises nor ends: their entries stand in every queue
and their conditions are as they were. -/

namespace Sys2Proof.Machine

/-- The entries of a kind in a link's queue. -/
def entriesOf (k : EventKind) (l : Link) (s : State) : List Entry :=
  (s.events.queues.get l).filter (fun e => decide (e.kind = k))

theorem mem_entriesOf {k : EventKind} {l : Link} {s : State} {e : Entry} :
    e ∈ entriesOf k l s ↔ e ∈ s.events.queues.get l ∧ e.kind = k := by
  simp [entriesOf, List.mem_filter]

/-- The kind's entries and its condition are in `t` what they are in `s`. -/
structure KindRests (k : EventKind) (s t : State) : Prop where
  entries : ∀ l : Link, entriesOf k l t = entriesOf k l s
  condition : conditionHolds k t = conditionHolds k s

section
variable {k k' : EventKind} {s t u : State}

theorem KindRests.same (h : t.events = s.events) : KindRests k s t :=
  ⟨fun l => by unfold entriesOf; rw [h], by unfold conditionHolds; rw [h]⟩

theorem KindRests.trans (h : KindRests k s t) (h' : KindRests k t u) : KindRests k s u :=
  ⟨fun l => (h'.entries l).trans (h.entries l), h'.condition.trans h.condition⟩

/-- An entry of the kind is in a queue of `t` exactly where it is in that of `s`. -/
theorem KindRests.mem_iff (h : KindRests k s t) {l : Link} {e : Entry} (kind : e.kind = k) :
    e ∈ t.events.queues.get l ↔ e ∈ s.events.queues.get l := by
  have member := fun v : State => mem_entriesOf (k := k) (l := l) (s := v) (e := e)
  rw [← and_iff_left (a := e ∈ t.events.queues.get l) kind, ← member t, h.entries, member s, and_iff_left kind]

/-- What was raised before stays raised. -/
theorem KindRests.raised {a : Option Byte} (h : KindRests k t u) (raised : RaisedTo k a s t) : RaisedTo k a s u :=
  fun l steered => by
    obtain ⟨e, member, kind, fresh⟩ := raised l steered
    exact ⟨e, (h.mem_iff kind).mpr member, kind, fresh⟩

theorem filter_placeEntry_other (other : k ≠ k') (a : Option Byte) (n : Nat) (q : List Entry) :
    (placeEntry k' a n q).filter (fun e => decide (e.kind = k)) = q.filter (fun e => decide (e.kind = k)) := by
  have differs : ¬k' = k := fun same => other same.symm
  induction q with
  | nil => simp [placeEntry, differs]
  | cons x rest ih =>
    unfold placeEntry
    split
    · next own => simp [own, differs]
    · rw [List.filter_cons, List.filter_cons, ih]

theorem filter_endEntry_other (other : k ≠ k') (q : List Entry) :
    (endEntry k' q).filter (fun e => decide (e.kind = k)) = q.filter (fun e => decide (e.kind = k)) := by
  have differs : ¬k' = k := fun same => other same.symm
  induction q with
  | nil => rfl
  | cons x rest ih =>
    unfold endEntry
    split
    · next own => split <;> simp [own, differs]
    · rw [List.filter_cons, List.filter_cons, ih]

theorem endCondition_queue (k : EventKind) (s : State) (l : Link) :
    (endCondition k s).events.queues.get l = endEntry k (s.events.queues.get l) := by
  cases l <;> rfl

theorem conditionHolds_of_endCondition (holds : conditionHolds k (endCondition k' s) = true) :
    conditionHolds k s = true := by
  obtain ⟨c, member, kind⟩ := List.any_eq_true.mp holds
  exact List.any_eq_true.mpr ⟨c, (List.mem_filter.mp member).1, kind⟩

theorem raiseEvent_kindRests (other : k ≠ k') (a : Option Byte) (s : State) : KindRests k s (raiseEvent k' a s) where
  entries l := by
    unfold entriesOf
    rw [raiseEvent_queue]
    split
    · exact filter_placeEntry_other other _ _ _
    · rfl
  condition := Bool.eq_iff_iff.mpr
    ⟨conditionHolds_of_raiseEvent other, (raiseEvent_entriesKept other a s).condition⟩

theorem endCondition_kindRests (other : k ≠ k') (s : State) : KindRests k s (endCondition k' s) where
  entries l := by
    unfold entriesOf
    rw [endCondition_queue]
    exact filter_endEntry_other other _
  condition := Bool.eq_iff_iff.mpr ⟨conditionHolds_of_endCondition, (endCondition_entriesKept other s).condition⟩

theorem followCondition_kindRests (other : k ≠ k') (a : Option Byte) (b : Bool) (s : State) :
    KindRests k s (followCondition k' a b s) := by
  unfold followCondition
  split
  · exact .same rfl
  · split
    · exact raiseEvent_kindRests other a s
    · exact endCondition_kindRests other s

/-- A member that leaves the fault set ends FAULT_ACTIVE at most (R170). -/
theorem leaveFault_kindRests (other : k ≠ .faultActive) (f : FaultKind) (s : State) :
    KindRests k s (leaveFault f s) := by
  have moved : ∀ fs : List FaultKind, KindRests k s { s with events := { s.events with faults := fs } } :=
    fun _ => ⟨fun _ => rfl, rfl⟩
  unfold leaveFault
  dsimp only
  split
  · split
    · exact (moved _).trans (endCondition_kindRests other _)
    · exact moved _
  · exact .same rfl

end

end Sys2Proof.Machine
end

section
/-! SUPPORT. What the operations of the sequencer, the regulator and the boiler controller leave alone, whatever becomes
of the run. One lemma per shared operation. -/

namespace Sys2Proof.Machine

/-- The kinds of events that no reaction of the units raises or ends: those of a reset's recovery, of a descale's end and
of the two conditions of the water unit. -/
def EventKind.aside : EventKind → Bool
  | .waterEmpty | .tankMissing | .descaleEnded | .resumedAfterDip => true
  | _ => false

/-- The kinds that stand aside rest, and so do the steering and every member of the fault set but VENT_STUCK. -/
structure EventsAside (s t : State) : Prop where
  steering : t.events.steering = s.events.steering
  faults : ∀ f : FaultKind, f ≠ .ventStuck → (f ∈ t.events.faults ↔ f ∈ s.events.faults)
  kinds : ∀ k : EventKind, k.aside = true → KindRests k s t

/-- The parts of the state that stand aside. -/
structure Aside where
  marker : Bool
  work : DescaleWork
  descale : Descale
  runId : Nat
  writing : Option StoreRecord
  lampShot : Option Nat
  fanRelay : Relay
  shortfall : PerCavity Nat
  coolingFan : Bool
  share : PowerShare

/-- What the operations on a run do not touch: of the arbiter they move the demands alone. -/
def State.aside (s : State) : Aside :=
  { marker := s.marker, work := s.work, descale := s.ret.descale, runId := s.ret.run.runId, writing := s.store.writing
    lampShot := s.out.lampShot, fanRelay := s.out.fanRelay, shortfall := s.climate.shortfall
    coolingFan := s.climate.coolingFan, share := { s.share with demands := .all 0 } }

/-- CH1 does not run, and no other channel holds a dose, so that no cancelled dose has anything to charge. -/
def Still (s : State) : Prop := (chan s .ch1).state ≠ .running ∧ ∀ c : Chan, c ≠ .ch1 → holdsDose s c = false

/-- What the operations on a run leave alone; with the channels still, they charge nothing. -/
structure SequencerActs (s t : State) : Prop where
  aside : t.aside = s.aside
  events : EventsAside s t
  still : Still s → Still t ∧ t.scale = s.scale

section
variable {s t u : State}

/-! ## Composition -/

theorem EventsAside.same (h : t.events = s.events) : EventsAside s t :=
  ⟨by rw [h], fun _ _ => by rw [h], fun _ _ => .same h⟩

theorem EventsAside.trans (h : EventsAside s t) (h' : EventsAside t u) : EventsAside s u :=
  ⟨h'.steering.trans h.steering, fun f other => (h'.faults f other).trans (h.faults f other),
    fun k own => (h.kinds k own).trans (h'.kinds k own)⟩

theorem SequencerActs.refl (s : State) : SequencerActs s s := ⟨rfl, .same rfl, fun still => ⟨still, rfl⟩⟩

theorem SequencerActs.trans (h : SequencerActs s t) (h' : SequencerActs t u) : SequencerActs s u where
  aside := h'.aside.trans h.aside
  events := h.events.trans h'.events
  still rests := by
    obtain ⟨first, scale⟩ := h.still rests
    obtain ⟨second, scale'⟩ := h'.still first
    exact ⟨second, scale'.trans scale⟩

theorem SequencerActs.ite {b : Prop} [Decidable b] (ht : SequencerActs s t) (hu : SequencerActs s u) :
    SequencerActs s (if b then t else u) := by
  split
  · exact ht
  · exact hu

theorem Still.congr (h : Still s) (water : t.water = s.water) : Still t := by
  unfold Still holdsDose chan at h ⊢
  rw [water]
  exact h

/-- An update outside the water unit and the account that moves only such events. -/
theorem SequencerActs.of_events (aside : t.aside = s.aside) (events : EventsAside s t)
    (water : t.water = s.water) (scale : t.scale = s.scale) : SequencerActs s t :=
  ⟨aside, events, fun still => ⟨still.congr water, scale⟩⟩

/-- An update outside the events, the water unit and the account. -/
theorem SequencerActs.same (aside : t.aside = s.aside) (events : t.events = s.events) (water : t.water = s.water)
    (scale : t.scale = s.scale) : SequencerActs s t := .of_events aside (.same events) water scale

/-! ## Events -/

theorem EventKind.ne_of_aside {k k' : EventKind} (own : k.aside = true) (other : k'.aside = false) : k ≠ k' := by
  rintro rfl
  exact Bool.false_ne_true (other.symm.trans own)

theorem raiseEvent_aside {k : EventKind} (other : k.aside = false) (a : Option Byte) (s : State) :
    EventsAside s (raiseEvent k a s) :=
  ⟨rfl, fun _ _ => .rfl, fun _ own => raiseEvent_kindRests (EventKind.ne_of_aside own other) a s⟩

theorem endCondition_aside {k : EventKind} (other : k.aside = false) (s : State) : EventsAside s (endCondition k s) :=
  ⟨rfl, fun _ _ => .rfl, fun _ own => endCondition_kindRests (EventKind.ne_of_aside own other) s⟩

theorem leaveFault_aside (s : State) : EventsAside s (leaveFault .ventStuck s) where
  steering := (leaveFault_eventsKept .ventStuck s).steering
  faults f other := by
    rw [← hasFault_iff, ← hasFault_iff, hasFault_leaveFault]
    simp [other]
  kinds _ own := leaveFault_kindRests (EventKind.ne_of_aside own rfl) .ventStuck s

theorem raiseEvent_sequencer {k : EventKind} (other : k.aside = false) (a : Option Byte) (s : State) :
    SequencerActs s (raiseEvent k a s) := .of_events rfl (raiseEvent_aside other a s) rfl rfl

theorem endCondition_sequencer {k : EventKind} (other : k.aside = false) (s : State) :
    SequencerActs s (endCondition k s) := .of_events rfl (endCondition_aside other s) rfl rfl

theorem followCondition_sequencer {k : EventKind} (other : k.aside = false) (a : Option Byte) (b : Bool) (s : State) :
    SequencerActs s (followCondition k a b s) :=
  .ite (.refl s) (.ite (raiseEvent_sequencer other a s) (endCondition_sequencer other s))

/-! ## Doses that are cancelled (R95, R96) -/

/-- Still channels stay so where CH1 takes a record that does not run, or another one a record without a dose. -/
theorem Still.setChan (h : Still s) {c : Chan} {x : Channel} (rests : x.state ≠ .running)
    (free : c ≠ .ch1 → x.state.holds = false) : Still (setChan c x s) := by
  obtain ⟨burst, others⟩ := h
  refine ⟨?_, fun c' other => ?_⟩
  · rw [chan_setChan]
    split
    · exact rests
    · exact burst
  · unfold holdsDose
    rw [chan_setChan]
    split
    · next same => exact free (same ▸ other)
    · exact others c' other

theorem Still.rests (h : Still s) (c : Chan) : (chan s c).state ≠ .running := by
  by_cases burst : c = .ch1
  · rw [burst]
    exact h.1
  · intro runs
    have free := h.2 c burst
    unfold holdsDose at free
    rw [runs] at free
    exact nomatch free

section
variable {k : EventKind}

/-- The level of the scale account raises and ends its own two events alone (R111). -/
theorem evaluateLevel_kindRests (due : k ≠ .scaleDue) (blocked : k ≠ .scaleBlocked) (s : State) :
    KindRests k s (evaluateLevel s) := by
  have told : ∀ t : State, KindRests k t (followLevel t) := fun t =>
    (followCondition_kindRests due _ _ t).trans (followCondition_kindRests blocked _ _ _)
  have scaled : KindRests k s { s with scale := { s.scale with level := levelOf s.scale.deposit s.settings.scaleLimit } } :=
    .same rfl
  unfold evaluateLevel
  dsimp only
  split
  · exact .same rfl
  · exact (scaled.trans (told _)).trans (.same (askCommit_events _))

theorem chargeDelivered_kindRests (due : k ≠ .scaleDue) (blocked : k ≠ .scaleBlocked) (p : Nat) (d : Destination)
    (s : State) : KindRests k s (chargeDelivered p d s) := by
  have scaled : ∀ a : ScaleAccount, KindRests k s { s with scale := a } := fun _ => .same rfl
  have account : KindRests k s (chargeAccount p d s) := by
    unfold chargeAccount
    exact (scaled _).trans (evaluateLevel_kindRests due blocked _)
  have counted : ∀ t : State, KindRests k t (countSteam p t) := fun t => by
    unfold countSteam
    split <;> exact .same rfl
  exact account.trans (counted _)

theorem passPulses_kindRests (due : k ≠ .scaleDue) (blocked : k ≠ .scaleBlocked) (c : Chan) (s : State) :
    KindRests k s (passPulses c s) := by
  have counted : ∀ d : Dose, KindRests k s (setDose c d s) := fun _ => .same rfl
  unfold passPulses
  split
  · exact .same rfl
  · dsimp only
    split
    · exact (counted _).trans (chargeDelivered_kindRests due blocked _ _ _)
    · exact counted _

/-- The charge of a cancelled dose reaches the scale account, whose level raises its own two events (R96, R111). -/
theorem cancelDose_kindRests (due : k ≠ .scaleDue) (blocked : k ≠ .scaleBlocked) (c : Chan) (s : State) :
    KindRests k s (cancelDose c s) := by
  have freed : ∀ t : State, KindRests k t (setChan c ⟨.idle, none⟩ t) := fun _ => .same rfl
  have released : ∀ t : State, KindRests k t (releasePath c t) := fun t => by
    unfold releasePath
    split <;> exact .same rfl
  unfold cancelDose
  dsimp only
  split
  · exact .same rfl
  · split
    · exact ((passPulses_kindRests due blocked c s).trans (released _)).trans (freed _)
    · exact freed s

end

/-- A dose that does not run is cancelled without a charge. -/
theorem cancelDose_still (h : Still s) (c : Chan) : cancelDose c s = setChan c ⟨.idle, none⟩ s := by
  unfold cancelDose
  rw [if_neg, if_neg (h.rests c)]
  rintro ⟨rfl, held⟩
  exact Bool.false_ne_true ((h.2 .ch3 (by decide)).symm.trans held)

theorem cancelDose_sequencer (c : Chan) (s : State) : SequencerActs s (cancelDose c s) where
  aside := by
    obtain ⟨n, r, run⟩ := (cancelDose_reacts c (.refl s)).run
    have moved : (cancelDose c s).aside = { s.aside with runId := (cancelDose c s).ret.run.runId } := by
      rw [(cancelDose_chargeOnly c s).only]
      rfl
    rw [moved, run]
    rfl
  events :=
    ⟨(cancelDose_chargeOnly c s).steering, fun _ _ => by rw [(cancelDose_chargeOnly c s).faults], fun _ own =>
      cancelDose_kindRests (EventKind.ne_of_aside own rfl) (EventKind.ne_of_aside own rfl) c s⟩
  still h := by
    rw [cancelDose_still h]
    exact ⟨h.setChan (by decide) fun _ => rfl, rfl⟩

theorem cancelBurst_sequencer (s : State) : SequencerActs s (cancelBurst s) :=
  .ite (cancelDose_sequencer .ch1 s) (.refl s)

theorem cancelTopUp_sequencer (s : State) : SequencerActs s (cancelTopUp s) :=
  .ite (cancelDose_sequencer .ch0 s) (.refl s)

/-! ## The boiler's posts and the regulator (R26 to R28, R34, R38, R103, R106) -/

theorem postBoiler_sequencer (s : State) : SequencerActs s (postBoiler s) := by
  rw [postBoiler_eq]
  exact .same rfl rfl rfl rfl

theorem markDrain_sequencer (b : Bool) (s : State) : SequencerActs s (markDrain b s) := by
  have marked : SequencerActs s (setBoiler { s.boiler with drainPending := b } s) := .same rfl rfl rfl rfl
  exact (SequencerActs.ite (marked.trans (cancelTopUp_sequencer _)) marked).trans (postBoiler_sequencer _)

theorem handSteamRequest_sequencer (n : Nat) (s : State) : SequencerActs s (handSteamRequest n s) := by
  rw [handSteamRequest_eq]
  exact .same rfl rfl rfl rfl

theorem postZeros_sequencer (s : State) : SequencerActs s (postZeros s) := by
  rw [postZeros_eq]
  exact .same rfl rfl rfl rfl

/-- The regulator takes a record that decides neither the shortfall nor the cooling fan. -/
theorem setClimate_sequencer {c : Climate} (shortfall : c.shortfall = s.climate.shortfall)
    (fan : c.coolingFan = s.climate.coolingFan) : SequencerActs s (setClimate c s) := by
  refine .same ?_ rfl rfl rfl
  unfold State.aside
  rw [setClimate_climate, shortfall, fan]
  rfl

theorem withholdSteam_sequencer (b : Bool) (s : State) : SequencerActs s (withholdSteam b s) := by
  have told : SequencerActs s (setClimate { s.climate with steamWithheld := b } s) := setClimate_sequencer rfl rfl
  exact .ite (told.trans (handSteamRequest_sequencer 0 _)) told

theorem requestVent_sequencer (e : VentEnd) (s : State) : SequencerActs s (requestVent e s) := by
  obtain ⟨steering, faults, kinds⟩ := leaveFault_aside s
  rw [requestVent_eq]
  refine .of_events rfl ?_ rfl rfl
  split
  · exact ⟨steering, faults, fun k own => ⟨(kinds k own).entries, (kinds k own).condition⟩⟩
  · exact .same rfl

theorem requestModeVent_sequencer (s : State) : SequencerActs s (requestModeVent s) := by
  unfold requestModeVent
  split
  · exact .refl s
  · split
    · exact .refl s
    · exact requestVent_sequencer _ s

theorem issueFan_sequencer (code : Nat) (closed : Bool) (s : State) :
    SequencerActs s (issueFan code (askRelay closed s)) := by
  rw [issueFan_eq]
  exact .same rfl rfl rfl rfl

theorem issueOutputs_sequencer (s : State) : SequencerActs s (issueOutputs s) := by
  unfold issueOutputs
  split
  case h_1 => exact (issueFan_sequencer _ _ s).trans (requestModeVent_sequencer _)
  case h_2 => exact (issueFan_sequencer _ _ s).trans (requestModeVent_sequencer _)
  case h_3 => exact (issueFan_sequencer _ _ s).trans (requestVent_sequencer _ _)
  case h_4 => exact (issueFan_sequencer _ _ s).trans (requestVent_sequencer _ _)

theorem stageEntry_sequencer (sent : SentRecord) (s : State) : SequencerActs s (stageEntry sent s).1 := by
  have issued : ∀ c : Climate, c.shortfall = s.climate.shortfall → c.coolingFan = s.climate.coolingFan →
      SequencerActs s (issueOutputs (setClimate c s)) := fun c shortfall fan =>
    (setClimate_sequencer shortfall fan).trans (issueOutputs_sequencer _)
  have paused : ∀ c : Climate, c.shortfall = s.climate.shortfall → c.coolingFan = s.climate.coolingFan →
      SequencerActs s (setClimate c s) := fun _ shortfall fan => setClimate_sequencer shortfall fan
  unfold stageEntry
  split
  · exact .refl s
  · dsimp only
    split
    · exact paused _ rfl rfl
    · dsimp only
      exact issued _ rfl rfl

theorem endClimate_sequencer (s : State) : SequencerActs s (endClimate s) := by
  have discarded : ∀ st : ClimateState, SequencerActs s (setClimate (s.climate.discard st) s) :=
    fun _ => setClimate_sequencer rfl rfl
  have ended : ∀ st : ClimateState, SequencerActs s (issueOutputs (postZeros (setClimate (s.climate.discard st) s))) :=
    fun st => ((discarded st).trans (postZeros_sequencer _)).trans (issueOutputs_sequencer _)
  unfold endClimate
  split
  · exact ended _
  · exact ended _
  · exact ended _
  · exact .refl s

/-! ## The run (R142 to R149) -/

theorem setRun_sequencer {r : RunContext} (runId : r.runId = s.ret.run.runId) : SequencerActs s (setRun r s) := by
  refine .same ?_ rfl rfl rfl
  unfold State.aside
  rw [setRun_ret, runId]
  rfl

theorem addCause_sequencer (p : PauseCause) (s : State) : SequencerActs s (addCause p s) := by
  have added : ∀ (st : RunState) (c : Causes), SequencerActs s (setRun { s.ret.run with state := st, causes := c } s) :=
    fun _ _ => setRun_sequencer rfl
  exact .ite (.refl s) (.ite ((added _ _).trans (raiseEvent_sequencer rfl _ _)) (added _ _))

theorem removeCause_sequencer (p : PauseCause) (s : State) : SequencerActs s (removeCause p s) := by
  have removed : ∀ (st : RunState) (c : Causes), SequencerActs s (setRun { s.ret.run with state := st, causes := c } s) :=
    fun _ _ => setRun_sequencer rfl
  exact .ite (.ite ((removed _ _).trans (raiseEvent_sequencer rfl _ _)) (removed _ _)) (.refl s)

theorem followProbe_sequencer (s : State) : SequencerActs s (followProbe s) :=
  .ite (.ite (addCause_sequencer .probe s) (removeCause_sequencer .probe s)) (.refl s)

/-- What the sequencer makes of its own condition. -/
theorem setSeq_sequencer (x : Sequencer) (s : State) : SequencerActs s { s with seq := x } := .same rfl rfl rfl rfl

/-- The timer of WATER begins anew. -/
theorem waterTimer_sequencer (s : State) : SequencerActs s (setRun { s.ret.run with waterTimer := 0 } s) :=
  setRun_sequencer rfl

theorem followWater_sequencer (s : State) : SequencerActs s (followWater s) := by
  have noted : ∀ b : Bool, SequencerActs s { s with seq := { s.seq with waterCondition := b } } := fun _ =>
    setSeq_sequencer _ s
  refine followWater_cases s (.refl s) ?_ ?_ (noted false)
  · refine SequencerActs.trans ?_ (withholdSteam_sequencer true _)
    exact ((noted true).trans (waterTimer_sequencer _)).trans (addCause_sequencer .water _)
  · refine SequencerActs.trans ?_ (withholdSteam_sequencer _ _)
    exact ((noted false).trans (removeCause_sequencer .water _)).trans (waterTimer_sequencer _)

theorem requestBurst_sequencer (ml : Nat) (s : State) : SequencerActs s (requestBurst ml s) := by
  by_cases refused : burstRefused s
  · rw [requestBurst_refused refused]
    exact raiseEvent_sequencer rfl none s
  · rw [requestBurst_taken refused]
    have waits : (burstLoad ml s).state ≠ .running := by
      have either : ∀ low : Bool, (if low then ChanState.suspended else .requesting) ≠ .running := by decide
      exact either _
    exact ⟨rfl, .same rfl, fun still => ⟨still.setChan waits fun other => absurd rfl other, rfl⟩⟩

theorem dropDeferred_sequencer (s : State) : SequencerActs s (dropDeferred s) := setRun_sequencer rfl

theorem degradeStage_sequencer (s : State) : SequencerActs s (degradeStage s) := by
  have noted : SequencerActs s (setRun { s.ret.run with degraded := true, degradedAny := true } s) := setRun_sequencer rfl
  have marked : SequencerActs s (stageMarked s) :=
    ((noted.trans (raiseEvent_sequencer rfl _ _)).trans (withholdSteam_sequencer true _))
  have dropped : SequencerActs s (burstDropped s) :=
    (marked.trans (cancelBurst_sequencer _)).trans (dropDeferred_sequencer _)
  exact .ite ((dropped.trans (removeCause_sequencer .water _)).trans (waterTimer_sequencer _)) (.refl s)

theorem endRun_sequencer (result : RunResult) (fault : Option FaultKind) (s : State) :
    SequencerActs s (endRun result fault s) := by
  have dropped : SequencerActs s (burstEnded s) :=
    ((cancelBurst_sequencer s).trans (dropDeferred_sequencer _)).trans (endCondition_sequencer rfl _)
  have idled : ∀ (t : State) (slots : PerSlot Slot) (last : Option LastRun) (x : Sequencer),
      SequencerActs t
        { t with ret := { t.ret with run := t.ret.run.idle, slots := slots, lastRun := last }, seq := x } :=
    fun _ _ _ _ => .same rfl rfl rfl rfl
  have marked : ∀ (b : Prop) [Decidable b] (t : State), SequencerActs t (if b then markDrain true t else t) :=
    fun _ _ t => .ite (markDrain_sequencer true t) (.refl t)
  have asked : ∀ t : State, SequencerActs t (askCommit t) := fun _ => .same rfl rfl rfl rfl
  refine SequencerActs.trans ?_ (asked _)
  refine SequencerActs.trans ?_ (marked _ _)
  refine SequencerActs.trans ?_ (endClimate_sequencer _)
  refine SequencerActs.trans ?_ (withholdSteam_sequencer false _)
  refine SequencerActs.trans ?_ (raiseEvent_sequencer rfl _ _)
  exact dropped.trans (idled _ _ _ _)

/-! ## Stages (R138, R142) -/

theorem enterCauses_sequencer (s : State) : SequencerActs s (enterCauses false s) :=
  ((setSeq_sequencer _ s).trans (followProbe_sequencer _)).trans (followWater_sequencer _)

theorem enterBurst_sequencer (s : State) : SequencerActs s (enterBurst s) :=
  enterBurst_cases s (.refl s) (fun _ => setRun_sequencer rfl) fun ml =>
    (requestBurst_sequencer ml s).trans (followWater_sequencer _)

theorem closeStage_sequencer (s : State) : SequencerActs s (closeStage s) :=
  (((cancelBurst_sequencer s).trans (dropDeferred_sequencer _)).trans (endCondition_sequencer rfl _)).trans
    (removeCause_sequencer .probe _)

theorem stageTaken_sequencer (k : Nat) (s : State) : SequencerActs s (stageTaken k s) := setRun_sequencer rfl

theorem lossTaken_sequencer (k : Nat) (s : State) : SequencerActs s (lossTaken k s) :=
  .ite ((stageTaken_sequencer k s).trans (degradeStage_sequencer _)) (stageTaken_sequencer k s)

theorem stageAnnounced_sequencer (k : Nat) (s : State) : SequencerActs s (stageAnnounced k s) := by
  have written : SequencerActs s (stageWritten k s) := (lossTaken_sequencer k s).trans (stageEntry_sequencer _ _)
  have started : SequencerActs s (stageStarted k s) :=
    (written.trans (withholdSteam_sequencer _ _)).trans (raiseEvent_sequencer rfl _ _)
  exact .ite (started.trans (raiseEvent_sequencer rfl _ _)) started

theorem stageEntered_sequencer (k : Nat) (s : State) : SequencerActs s (stageEntered k false s) :=
  ((stageAnnounced_sequencer k s).trans (enterCauses_sequencer _)).trans (enterBurst_sequencer _)

/-- The run that a failed entry ends is in the stage that was to be entered. -/
theorem enterStage_abandoned {k : Nat} {atStart : Bool}
    (fails : fatalFault (stageTaken k s) ≠ none ∨ s.climate.state = .fault) :
    ∃ f u, enterStage k atStart s = (endRun .fault (some f) u, false) ∧ (u = stageTaken k s ∨ u = lossTaken k s) := by
  cases fault : fatalFault (stageTaken k s) with
  | some f =>
    refine ⟨f, _, ?_, .inl rfl⟩
    unfold stageTaken at fault ⊢
    unfold enterStage
    dsimp only
    rw [fault]
  | none =>
    obtain ⟨-, climate, -⟩ := lossTaken_facts k s
    have refused : stageEntry (entryRecord k s) (lossTaken k s) = (lossTaken k s, none) :=
      if_pos (climate.trans (fails.resolve_left fun differs => differs fault))
    refine ⟨.heatRunaway, _, ?_, .inr rfl⟩
    unfold entryRecord lossTaken stageTaken at refused
    unfold stageTaken at fault
    unfold lossTaken stageTaken enterStage
    dsimp only
    rw [fault]
    dsimp only
    rw [refused]

/-- A stage entry, carried through or given up with the run (R138, R151). -/
theorem enterStage_sequencer (k : Nat) (s : State) : SequencerActs s (enterStage k false s).1 := by
  have written : SequencerActs s (stageWritten k s) := (lossTaken_sequencer k s).trans (stageEntry_sequencer _ _)
  by_cases fails : fatalFault (stageTaken k s) ≠ none ∨ s.climate.state = .fault
  · obtain ⟨f, u, abandoned, reached⟩ := enterStage_abandoned (atStart := false) fails
    rw [abandoned]
    refine SequencerActs.trans ?_ (endRun_sequencer _ _ u)
    rcases reached with rfl | rfl
    · exact stageTaken_sequencer k s
    · exact lossTaken_sequencer k s
  · obtain ⟨calm, works⟩ := not_or.mp fails
    rw [enterStage_entered false (not_not.mp calm) works]
    exact stageEntered_sequencer k s

theorem endStages_sequencer (fuel : Nat) (s : State) : SequencerActs s (endStages fuel s) := by
  induction fuel generalizing s with
  | zero => exact .refl s
  | succ n ih =>
    by_cases following : hasFollowing s
    · have entered : SequencerActs s (entryAfter s).1 := (closeStage_sequencer s).trans (enterStage_sequencer _ _)
      rw [endStages_following n following]
      exact .ite (entered.trans (ih _)) entered
    · rw [endStages_last n following]
      exact (closeStage_sequencer s).trans (endRun_sequencer _ _ _)

theorem checkStageEnd_sequencer (s : State) : SequencerActs s (checkStageEnd s) :=
  .ite (endStages_sequencer 12 s) (.refl s)

theorem checkRunFaults_sequencer (s : State) : SequencerActs s (checkRunFaults s) := by
  have lost : SequencerActs s (setRun { s.ret.run with steamLost := true } s) := setRun_sequencer rfl
  unfold checkRunFaults
  split
  · split
    · exact endRun_sequencer _ _ s
    · exact .ite ((lost.trans (degradeStage_sequencer _)).trans (checkStageEnd_sequencer _)) (.refl s)
  · exact .refl s

end

end Sys2Proof.Machine
end

section
/-! SUPPORT. What the end of a step leaves alone in every state, and how it considers WATER_EMPTY and TANK_MISSING. -/

namespace Sys2Proof.Machine

/-- Of what stands aside, the part that neither the descale controller's phases, nor the end of a
force, nor the step's commit moves. -/
def Aside.rest (a : Aside) : Aside :=
  { a with
    work := { dose := none, drain := false, faulted := 0 }
    writing := none
    descale := { a.descale with phase := .idle, step := none }
    share := { a.share with claim := none, allocation := none } }

/-- The allocation in progress is the same, but perhaps for the claim it has placed (R81). -/
def AllocationStands (a b : Option Allocation) : Prop := b = a ∨ b = a.map (fun x => { x with placed := none })

/-- What the units do at the end of a step, the two conditions of the water unit apart. -/
structure StepActs (s t : State) : Prop where
  rest : t.aside.rest = s.aside.rest
  allocation : AllocationStands s.share.allocation t.share.allocation
  events : EventsAside s t

section
variable {s t u : State}

/-! ## Composition -/

theorem AllocationStands.trans {a b c : Option Allocation} (h : AllocationStands a b) (h' : AllocationStands b c) :
    AllocationStands a c := by
  rcases h' with rfl | rfl
  · exact h
  · rcases h with rfl | rfl
    · exact .inr rfl
    · refine .inr ?_
      rw [Option.map_map]
      rfl

theorem StepActs.refl (s : State) : StepActs s s := ⟨rfl, .inl rfl, .same rfl⟩

theorem StepActs.trans (h : StepActs s t) (h' : StepActs t u) : StepActs s u :=
  ⟨h'.rest.trans h.rest, h.allocation.trans h'.allocation, h.events.trans h'.events⟩

theorem StepActs.ite {b : Prop} [Decidable b] (ht : StepActs s t) (hu : StepActs s u) :
    StepActs s (if b then t else u) := by
  split
  · exact ht
  · exact hu

theorem SequencerActs.step (h : SequencerActs s t) : StepActs s t :=
  ⟨congrArg Aside.rest h.aside, .inl (congrArg (fun a : Aside => a.share.allocation) h.aside), h.events⟩

/-- What stands aside, part by part. -/
theorem aside_rest (rest : t.aside.rest = s.aside.rest) :
    t.marker = s.marker ∧ t.out.lampShot = s.out.lampShot ∧ t.climate.shortfall = s.climate.shortfall ∧
      t.climate.coolingFan = s.climate.coolingFan ∧ t.ret.run.runId = s.ret.run.runId ∧
      t.ret.descale.elapsed = s.ret.descale.elapsed ∧ t.ret.descale.total = s.ret.descale.total ∧
      t.share =
        { s.share with demands := t.share.demands, claim := t.share.claim, allocation := t.share.allocation } :=
  ⟨congrArg Aside.marker rest, congrArg Aside.lampShot rest, congrArg Aside.shortfall rest,
    congrArg Aside.coolingFan rest, congrArg Aside.runId rest, congrArg (fun a : Aside => a.descale.elapsed) rest,
    congrArg (fun a : Aside => a.descale.total) rest,
    congrArg (fun a : Aside =>
      { a.share with demands := t.share.demands, claim := t.share.claim, allocation := t.share.allocation }) rest⟩

/-! ## The boiler and PREPARE (R100, R106, R117, R121) -/

theorem followTopUp_sequencer (s : State) : SequencerActs s (followTopUp s) := .ite (cancelTopUp_sequencer s) (.refl s)

theorem followNeed_sequencer (s : State) : SequencerActs s (followNeed s) := .same rfl rfl rfl rfl

theorem enterBoiler_sequencer (st : BoilerState) (s : State) : SequencerActs s (enterBoiler st s) := by
  have entered : ∀ b : Boiler, SequencerActs s (setBoiler b s) := fun _ => .same rfl rfl rfl rfl
  unfold enterBoiler
  refine .ite (.refl s) (SequencerActs.trans ?_ (postBoiler_sequencer _))
  exact .ite (entered _) ((entered _).trans (cancelTopUp_sequencer _))

theorem loadDrain_step (r : Requester) (s : State) : StepActs s (loadDrain r s) := by
  have loaded : ∀ w : Water, StepActs s { s with water := w } := fun _ => ⟨rfl, .inl rfl, .same rfl⟩
  have taken : StepActs s (drainTaken r s) := (loaded _).trans (markDrain_sequencer false _).step
  by_cases free : holdsDose s .ch3 = false
  · rw [loadDrain_eq r free]
    exact .ite taken (taken.trans (enterBoiler_sequencer .draining _).step)
  · unfold loadDrain
    rw [if_pos (Bool.not_eq_false _ ▸ free)]
    exact .refl s

theorem setWork_step (w : DescaleWork) (s : State) : StepActs s (setWork w s) := ⟨rfl, .inl rfl, .same rfl⟩

theorem wantDrain_step (s : State) : StepActs s (wantDrain s) := by
  rw [wantDrain_eq]
  exact .ite ((setWork_step _ s).trans (loadDrain_step _ _)) (setWork_step _ s)

theorem enterPhase_step (p : DescalePhase) (step : Option RinseStep) (s : State) : StepActs s (enterPhase p step s) := by
  have phase : StepActs s (setDescale { s.ret.descale with phase := p, step := step } s) := ⟨rfl, .inl rfl, .same rfl⟩
  have prompt : ∀ t : State, SequencerActs t (followPrompt t) := fun t => followCondition_sequencer rfl _ _ t
  exact phase.trans (((prompt _).trans (followTopUp_sequencer _)).trans (postBoiler_sequencer _)).step

theorem followPrepare_step (s : State) : StepActs s (followPrepare s) := by
  unfold followPrepare
  refine .ite ?_ (.refl s)
  split
  · exact (setWork_step _ s).trans (enterPhase_step _ _ _)
  · exact .ite (.refl s) (wantDrain_step s)
  · exact .ite (.refl s) (wantDrain_step s)
  · exact .refl s

theorem beforeForces_step (s : State) : StepActs s (beforeForces s) := by
  have sequenced : SequencerActs s (followNeed (followWater (followTopUp (checkRunFaults s)))) :=
    (((checkRunFaults_sequencer s).trans (followTopUp_sequencer _)).trans (followWater_sequencer _)).trans
      (followNeed_sequencer _)
  exact sequenced.step.trans (followPrepare_step _)

/-! ## Forces give way (R81, R82) -/

theorem returnedEvents_aside (h : t.events = returnedEvents s) : EventsAside s t := by
  cases reached : endReached s.out.vent.target s with
  | true =>
    obtain ⟨steering, faults, kinds⟩ := leaveFault_aside s
    rw [returnedEvents_reached reached] at h
    refine ⟨by rw [h, steering], fun f other => by rw [h, faults f other], fun k own => ?_⟩
    exact (kinds k own).trans (.same h)
  | false =>
    rw [returnedEvents_away reached] at h
    exact .same h

theorem removeForce_step (o : Output) (s : State) : StepActs s (removeForce o s) := by
  cases entered : (forceEntry o s).isSome
  · rw [removeForce_none entered]
    exact .refl s
  · rw [removeForce_eq entered]
    constructor
    · dsimp only [State.aside, Aside.rest]
      split <;> rfl
    · dsimp only
      split
      · exact .inr rfl
      · exact .inl rfl
    · by_cases drive : isVentDrive o = true
      · exact returnedEvents_aside (if_pos drive)
      · exact .same (if_neg drive)

theorem removeEach_step (os : List Output) (s : State) : StepActs s (os.foldl (fun s o => removeForce o s) s) := by
  induction os generalizing s with
  | nil => exact .refl s
  | cons o os ih => exact (removeForce_step o s).trans (ih _)

theorem endPulse_step (s : State) : StepActs s (endPulse s) := by
  cases pulsed : s.out.pulse with
  | none =>
    rw [endPulse_none pulsed]
    exact .refl s
  | some p =>
    rw [endPulse_eq pulsed]
    refine ⟨rfl, .inl rfl, ?_⟩
    by_cases drive : p.outputs.any isVentDrive = true
    · exact returnedEvents_aside (if_pos drive)
    · exact .same (if_neg drive)

theorem yieldForces_step (s : State) : StepActs s (yieldForces s) := by
  have ended : StepActs s (endForces s) := by
    unfold endForces
    rw [removeForces_all]
    exact (removeEach_step _ s).trans (endPulse_step _)
  exact .ite (.refl s) ended

/-! ## The conditions of the water unit (R83, R93) -/

/-- The end of a step, up to the two conditions of the water unit. -/
def beforeConditions (s : State) : State := renewHeaterRequest (yieldForces (beforeForces s))

theorem settle_eq (s : State) :
    settle s = flushCommit (arbitrate (followWaterConditions (beforeConditions s))) := rfl

theorem beforeConditions_step (s : State) : StepActs s (beforeConditions s) := by
  have renewed : ∀ t : State, StepActs t (renewHeaterRequest t) := fun _ => ⟨rfl, .inl rfl, .same rfl⟩
  exact ((beforeForces_step s).trans (yieldForces_step _)).trans (renewed _)

/-- The arbiter, the store and the two conditions move events, the water unit and the store alone. -/
theorem settle_only (s : State) :
    settle s = { beforeConditions s with
      events := (followWaterConditions (beforeConditions s)).events, water := (settle s).water
      store := (settle s).store } := by
  rw [settle_eq, flushCommit_only, arbitrate_only, followWaterConditions_only]

theorem grantPath_state (c' c : Chan) (s : State) :
    (chan (grantPath c' s) c).state = if c = c' then .running else (chan s c).state := by
  unfold grantPath setChanState
  dsimp only
  split
  · rw [chan_setChan]
    split <;> rfl
  · rw [chan_setChan]
    split <;> rfl

/-- The path is granted to no SUSPENDED channel, and by no grant does a channel become SUSPENDED (R85, R98). -/
theorem arbitrate_suspended (s : State) (c : Chan) :
    (chan (arbitrate s) c).state = .suspended ↔ (chan s c).state = .suspended := by
  have runs : ∀ (c' : Chan) (t u : State), (chan t c').state = .requesting →
      (chan u c).state = (if c = c' then .running else (chan t c).state) →
      ((chan u c).state = .suspended ↔ (chan t c).state = .suspended) := fun c' t u requests taken => by
    rw [taken]
    split
    · next same =>
      rw [same, requests]
      decide
    · rfl
  have granted : ∀ (c' : Chan) (t : State), (chan t c').state = .requesting →
      ((chan (grantPath c' t) c).state = .suspended ↔ (chan t c).state = .suspended) := fun c' t requests =>
    runs c' t _ requests (grantPath_state c' c t)
  have drained : ∀ t : State,
      (chan (if (chan t .ch3).state = .requesting then setChanState .ch3 .running t else t) c).state = .suspended ↔
        (chan t c).state = .suspended := fun t => by
    split
    · next requests =>
      refine runs .ch3 t _ requests ?_
      unfold setChanState
      rw [chan_setChan]
      split <;> rfl
    · rfl
  unfold arbitrate
  split
  · rfl
  · have drain := drained s
    dsimp only
    generalize (if (chan s .ch3).state = .requesting then setChanState .ch3 .running s else s) = t at drain ⊢
    split
    · split
      · next requests => exact (granted .ch2 t requests).trans drain
      · split
        · next requests => exact (granted .ch0 t requests).trans drain
        · split
          · next requests => exact (granted .ch1 t requests).trans drain
          · exact drain
    · exact drain

/-- A channel among CH0 to CH2 waits for its source. -/
theorem anySuspended_iff (s : State) : anySuspended s = true ↔ ∃ c : Chan, c ≠ .ch3 ∧ (chan s c).state = .suspended := by
  unfold anySuspended
  simp only [List.any_cons, List.any_nil, Bool.or_false, Bool.or_eq_true, decide_eq_true_eq]
  constructor
  · rintro (h | h | h)
    · exact ⟨.ch0, by decide, h⟩
    · exact ⟨.ch1, by decide, h⟩
    · exact ⟨.ch2, by decide, h⟩
  · rintro ⟨c, own, h⟩
    cases c with
    | ch0 => exact .inl h
    | ch1 => exact .inr (.inl h)
    | ch2 => exact .inr (.inr h)
    | ch3 => exact absurd rfl own

theorem tankInUse_iff (s : State) :
    tankInUse s = true ↔ s.start.straps.supply = .tank ∨ s.ret.descale.phase ≠ .idle := by
  unfold tankInUse tankOven
  simp

/-- A raised entry of a level kind is there, unread, and its condition holds. -/
theorem placeEntry_holding {k : EventKind} (level : k.isLevel = true) (a : Option Byte) (n : Nat) (q : List Entry) :
    ∃ e ∈ placeEntry k a n q, e.kind = k ∧ e.standing = .holding ∧ e.reported = false := by
  have standing : raisedStanding k = .holding := if_pos level
  induction q with
  | nil => exact ⟨_, List.mem_singleton_self _, rfl, standing, rfl⟩
  | cons x rest ih =>
    unfold placeEntry
    split
    · next own => exact ⟨_, List.mem_cons_self, own, standing, rfl⟩
    · obtain ⟨e, member, facts⟩ := ih
      exact ⟨e, List.mem_cons_of_mem _ member, facts⟩

/-- With one entry for a kind at most, an entry of the kind that outlives the end of its condition is unread and ENDED. -/
theorem endEntry_ended {k : EventKind} {q : List Entry} (once : (q.map Entry.kind).Nodup) {e : Entry}
    (member : e ∈ endEntry k q) (own : e.kind = k) : e.standing = .ended ∧ e.reported = false := by
  induction q with
  | nil => exact absurd member List.not_mem_nil
  | cons x rest ih =>
    rw [List.map_cons, List.nodup_cons] at once
    obtain ⟨fresh, once⟩ := once
    unfold endEntry at member
    split at member
    · next same =>
      have absent : e ∉ rest := fun later => fresh (List.mem_map.mpr ⟨e, later, own.trans same.symm⟩)
      split at member
      · exact absurd member absent
      · next unread =>
        rcases List.mem_cons.mp member with rfl | later
        · exact ⟨rfl, Bool.eq_false_iff.mpr unread⟩
        · exact absurd later absent
    · next differs =>
      rcases List.mem_cons.mp member with rfl | later
      · exact absurd own differs
      · exact ih once later

/-- A level kind's condition that a step has found holding or not: what its beginning raises and its end tells. -/
structure ConditionTold (k : EventKind) (s t : State) : Prop where
  began : conditionHolds k s = false → conditionHolds k t = true →
    ∀ l : Link, (steeringOf s.events.steering k).get l = true →
      ∃ e ∈ t.events.queues.get l, e.kind = k ∧ e.standing = .holding ∧ e.reported = false
  ended : QueuesSound s → conditionHolds k s = true → conditionHolds k t = false →
    ∀ l : Link, ∀ e ∈ t.events.queues.get l, e.kind = k → e.standing = .ended ∧ e.reported = false

theorem followCondition_told {k : EventKind} (level : k.isLevel = true) (a : Option Byte) (b : Bool) (s : State) :
    ConditionTold k s (followCondition k a b s) := by
  have holds : conditionHolds k (followCondition k a b s) = b := conditionHolds_followCondition level a b s
  constructor
  · intro was now l steered
    have follows : followCondition k a b s = raiseEvent k a s := by
      unfold followCondition
      rw [← holds, now, was]
      rfl
    rw [follows, raiseEvent_queue, if_pos steered]
    exact placeEntry_holding level a _ _
  · intro sound was now l e member own
    have follows : followCondition k a b s = endCondition k s := by
      unfold followCondition
      rw [← holds, now, was]
      rfl
    rw [follows, endCondition_queue] at member
    exact endEntry_ended (sound l).1 member own

/-- What has been told of a kind stays told while the kind rests, before and after. -/
theorem ConditionTold.after {k : EventKind} {v : State} (told : ConditionTold k t u) (before : KindRests k s t)
    (steering : t.events.steering = s.events.steering) (sound : QueuesSound s → QueuesSound t) (after : KindRests k u v) :
    ConditionTold k s v where
  began was now l steered := by
    rw [← before.condition] at was
    rw [after.condition] at now
    rw [← steering] at steered
    obtain ⟨e, member, own, facts⟩ := told.began was now l steered
    exact ⟨e, (after.mem_iff own).mpr member, own, facts⟩
  ended queues was now l e member own := by
    rw [← before.condition] at was
    rw [after.condition] at now
    exact told.ended (sound queues) was now l e ((after.mem_iff own).mp member) own

/-! ## WATER_EMPTY and TANK_MISSING when a step ends -/

theorem settle_suspended (s : State) (c : Chan) :
    (chan (settle s) c).state = .suspended ↔ (chan (beforeConditions s) c).state = .suspended := by
  have arbitrated : chan (settle s) c = chan (arbitrate (followWaterConditions (beforeConditions s))) c := by
    rw [settle_eq, flushCommit_only]
    rfl
  rw [arbitrated, arbitrate_suspended, followWaterConditions_only]
  rfl

theorem settle_events (s : State) : (settle s).events = (followWaterConditions (beforeConditions s)).events := by
  rw [settle_only]

theorem settle_waterEmpty (s : State) :
    conditionHolds .waterEmpty (settle s) = anySuspended (beforeConditions s) ∧
      ConditionTold .waterEmpty (beforeConditions s) (settle s) := by
  have rests : KindRests .waterEmpty (followCondition .waterEmpty none (anySuspended (beforeConditions s)) (beforeConditions s))
      (settle s) :=
    (followCondition_kindRests (by decide) none _ _).trans (.same (settle_events s))
  refine ⟨rests.condition.trans (conditionHolds_followCondition rfl none _ _), ?_⟩
  exact (followCondition_told rfl none _ _).after (.same rfl) rfl id rests

theorem settle_tankMissing (s : State) :
    conditionHolds .tankMissing (settle s) = (tankInUse (beforeConditions s) && !tankPresent (beforeConditions s)) ∧
      ConditionTold .tankMissing (beforeConditions s) (settle s) := by
  have rests : KindRests .tankMissing (followWaterConditions (beforeConditions s)) (settle s) := .same (settle_events s)
  refine ⟨rests.condition.trans (conditionHolds_followCondition rfl none _ _), ?_⟩
  refine (followCondition_told rfl none _ _).after (followCondition_kindRests (by decide) none _ _) ?_ ?_ rests
  · exact (followCondition_eventsKept _ _ _ _).steering
  · exact (followCondition_sound _ _ _ (.refl _)).queues

theorem beforeConditions_kept (s : State) : Kept s (beforeConditions s) :=
  renewHeaterRequest_kept (yieldForces_kept (followPrepare_kept (followNeed_kept (followWater_kept (followTopUp_kept
    (checkRunFaults_kept (.refl s)))))))

theorem beforeConditions_sound (s : State) : Sound s (beforeConditions s) :=
  renewHeaterRequest_sound (yieldForces_sound (followPrepare_sound (followNeed_sound (followWater_sound (followTopUp_sound
    (checkRunFaults_sound (.refl s)))))))

/-- What a step's end leaves alone of the parts that stand aside, and of the events that do. -/
theorem settle_leaves (s : State) :
    (settle s).aside.rest = s.aside.rest ∧ AllocationStands s.share.allocation (settle s).share.allocation ∧
      (settle s).events.steering = s.events.steering ∧
      ∀ f : FaultKind, f ≠ .ventStuck → (f ∈ (settle s).events.faults ↔ f ∈ s.events.faults) := by
  obtain ⟨rest, allocation, steering, faults, -⟩ := beforeConditions_step s
  have told : (followWaterConditions (beforeConditions s)).events.steering = (beforeConditions s).events.steering :=
    (followCondition_eventsKept ..).steering.trans (followCondition_eventsKept ..).steering
  have members : (followWaterConditions (beforeConditions s)).events.faults = (beforeConditions s).events.faults := by
    unfold followWaterConditions
    rw [followCondition_faults, followCondition_faults]
  have units : (settle s).aside.rest = (beforeConditions s).aside.rest ∧
      (settle s).share = (beforeConditions s).share := by
    rw [settle_only]
    exact ⟨rfl, rfl⟩
  rw [settle_events, told, members, units.1, units.2]
  exact ⟨rest, allocation, steering, faults⟩

/-- A condition of the water unit, told as the end of a step finds it. -/
theorem settle_told {k : EventKind} (own : k = .waterEmpty ∨ k = .tankMissing) (s : State) :
    ConditionTold k s (settle s) := by
  have before := (beforeConditions_step s).events
  have sound := (beforeConditions_sound s).queues
  rcases own with rfl | rfl
  · exact (settle_waterEmpty s).2.after (before.kinds _ rfl) before.steering sound (.same rfl)
  · exact (settle_tankMissing s).2.after (before.kinds _ rfl) before.steering sound (.same rfl)

end

/-- Settles O15: the units that a step's end considers leave all this alone, one after the other; then the water unit
considers its two conditions, and neither the arbiter nor the store moves what they follow. -/
theorem settleChangesNoMore : Obligations.SettleChangesNoMore := by
  unfold Obligations.SettleChangesNoMore
  intro s
  dsimp only
  have kept := settle_kept (.refl s)
  obtain ⟨rest, allocation, steering, faults⟩ := settle_leaves s
  obtain ⟨heater, fan⟩ := contacts_eq_iff.mp (settle_contacts s)
  obtain ⟨marker, lampShot, shortfall, coolingFan, runId, elapsed, total, share⟩ := aside_rest rest
  have emptied : conditionHolds .waterEmpty (settle s) = true ↔
      ∃ c : Chan, c ≠ .ch3 ∧ (chan (settle s) c).state = .suspended := by
    rw [(settle_waterEmpty s).1, anySuspended_iff]
    simp only [settle_suspended]
  have missing : conditionHolds .tankMissing (settle s) = true ↔
      (s.start.straps.supply = .tank ∨ (settle s).ret.descale.phase ≠ .idle) ∧ s.inputs.tankPresent.reading = false := by
    have phase : (settle s).ret = (beforeConditions s).ret := by rw [settle_only]
    have units := beforeConditions_kept s
    rw [(settle_tankMissing s).1, Bool.and_eq_true, tankInUse_iff, Bool.not_eq_true', phase, units.start]
    unfold tankPresent
    rw [units.inputs]
  exact ⟨kept.now, kept.pending, kept.windows, kept.draws, kept.meas, kept.inputs, kept.prot, kept.ports, kept.settings,
    kept.start, marker, kept.heat, kept.halfCycle, lampShot, fan, heater, share, allocation, shortfall, coolingFan,
    steering, kept.verified, faults, runId, elapsed, total, emptied, missing, fun k l own =>
      ⟨fun was now steered => (settle_told own s).began was now l steered,
        fun sound was now => (settle_told own s).ended sound was now l⟩⟩

end Sys2Proof.Machine
end

section
/-! SUPPORT. The recovery of the descale (R129): what it leaves alone, and what the agent marker makes of it. -/

namespace Sys2Proof.Machine

/-- The kinds of events that the recovery of a descale may raise or end. -/
def EventKind.ofRecovery : EventKind → Bool
  | .descalePrompt | .scaleDue | .scaleBlocked => true
  | _ => false

/-- What the recovery of a descale leaves alone. -/
structure Recovers (s t : State) : Prop where
  units : t =
    { s with
      share := t.share, water := t.water, boiler := t.boiler, scale := t.scale, work := t.work, events := t.events
      store := { s.store with asked := t.store.asked }, ret := { s.ret with descale := t.ret.descale } }
  steering : t.events.steering = s.events.steering
  asked : s.store.asked = true → t.store.asked = true
  kinds : ∀ k : EventKind, k.ofRecovery = false → KindRests k s t

section
variable {s t u : State}

theorem Recovers.refl (s : State) : Recovers s s := ⟨rfl, rfl, id, fun _ _ => .same rfl⟩

theorem Recovers.trans (h : Recovers s t) (h' : Recovers t u) : Recovers s u where
  units := by
    rw [h'.units, h.units]
  steering := h'.steering.trans h.steering
  asked := h'.asked ∘ h.asked
  kinds k other := (h.kinds k other).trans (h'.kinds k other)

theorem Recovers.ite {b : Prop} [Decidable b] (ht : Recovers s t) (hu : Recovers s u) :
    Recovers s (if b then t else u) := by
  split
  · exact ht
  · exact hu

theorem Recovers.steady (h : Recovers s t) : Steady s t := by
  have steering := h.steering
  rw [h.units] at steering ⊢
  exact ⟨rfl, rfl, rfl, rfl, rfl, rfl, rfl, rfl, rfl, rfl, rfl, rfl, rfl, rfl, steering, rfl, rfl⟩

/-- The run, the slots, the regulator and the outputs are as they were. -/
theorem Recovers.rest (h : Recovers s t) :
    t.ret = { s.ret with descale := t.ret.descale } ∧ t.climate = s.climate ∧ t.out = s.out ∧ t.marker = s.marker := by
  rw [h.units]
  exact ⟨rfl, rfl, rfl, rfl⟩

/-! ## The controller's operations, with CH0 free -/

theorem followCondition_recovers {k : EventKind} (own : k.ofRecovery = true) (a : Option Byte) (b : Bool) (s : State) :
    Recovers s (followCondition k a b s) where
  units := by
    rw [followCondition_only]
  steering := (followCondition_eventsKept k a b s).steering
  asked := by
    rw [followCondition_only]
    exact id
  kinds k' other := followCondition_kindRests (fun same => Bool.false_ne_true ((same ▸ other).symm.trans own)) a b s

theorem setDescale_recovers (d : Descale) (s : State) : Recovers s (setDescale d s) :=
  ⟨rfl, rfl, id, fun _ _ => .same rfl⟩

theorem setStall_recovers (x : Stall) (s : State) : Recovers s (setStall x s) :=
  (setDescale_recovers _ s).trans (followCondition_recovers rfl _ _ _)

theorem postBoiler_recovers (s : State) : Recovers s (postBoiler s) := by
  rw [postBoiler_eq]
  exact ⟨rfl, rfl, id, fun _ _ => .same rfl⟩

theorem setBoiler_recovers (b : Boiler) (s : State) : Recovers s (setBoiler b s) :=
  ⟨rfl, rfl, id, fun _ _ => .same rfl⟩

theorem enterPhase_recovers (free : holdsDose s .ch0 = false) (p : DescalePhase) (step : Option RinseStep) :
    Recovers s (enterPhase p step s) := by
  have prompted : Recovers s (followPrompt (setDescale { s.ret.descale with phase := p, step := step } s)) :=
    (setDescale_recovers _ s).trans (followCondition_recovers rfl _ _ _)
  have water : (followPrompt (setDescale { s.ret.descale with phase := p, step := step } s)).water = s.water :=
    followCondition_water ..
  unfold enterPhase followTopUp
  rw [cancelTopUp_idle ((NoTopUp.of_free free).congr water), ite_self]
  exact prompted.trans (postBoiler_recovers _)

theorem enterBoiler_recovers (free : holdsDose s .ch0 = false) (st : BoilerState) : Recovers s (enterBoiler st s) := by
  have idle : ∀ b : Boiler, cancelTopUp (setBoiler b s) = setBoiler b s := fun _ =>
    cancelTopUp_idle ((NoTopUp.of_free free).congr rfl)
  unfold enterBoiler
  dsimp only
  rw [idle, ite_self]
  exact .ite (.refl s) ((setBoiler_recovers _ s).trans (postBoiler_recovers _))

theorem wantDrain_recovers (free : holdsDose s .ch0 = false) : Recovers s (wantDrain s) := by
  have work : ∀ w : DescaleWork, Recovers s (setWork w s) := fun _ => ⟨rfl, rfl, id, fun _ _ => .same rfl⟩
  by_cases fits : drainFits s
  · have water : ∀ (t : State) (w : Water), Recovers t { t with water := w } := fun _ _ =>
      ⟨rfl, rfl, id, fun _ _ => .same rfl⟩
    have taken : ∀ t : State, Recovers t (drainTaken .descale t) := fun t =>
      ((water t _).trans (setBoiler_recovers _ _)).trans (postBoiler_recovers _)
    rw [wantDrain_fits fits, loadDrain_eq (s := setWork { s.work with drain := false } s) .descale fits.1]
    have still : holdsDose (drainTaken .descale (setWork { s.work with drain := false } s)) .ch0 = false :=
      (holdsDose_congr (chan_drainTaken .descale _ .ch0)).trans free
    exact (work _).trans (.ite (taken _) ((taken _).trans (enterBoiler_recovers still .draining)))
  · rw [wantDrain_waits fits]
    exact work _

theorem enterDrainAgent_recovers (free : holdsDose s .ch0 = false) : Recovers s (enterDrainAgent s) := by
  have water := enterPhase_water .drainAgent none (NoTopUp.of_free free)
  have still : holdsDose (enterPhase .drainAgent none s) .ch0 = false :=
    (holdsDose_congr (congrArg (fun w : Water => w.chans.get .ch0) water)).trans free
  exact (enterPhase_recovers free .drainAgent none).trans (wantDrain_recovers still)

theorem creditAbort_recovers (s : State) : Recovers s (creditAbort s) := by
  have scaled : ∀ (t : State) (a : ScaleAccount), Recovers t { t with scale := a } := fun _ _ =>
    ⟨rfl, rfl, id, fun _ _ => .same rfl⟩
  have asked : ∀ t : State, Recovers t (askCommit t) := fun _ => ⟨rfl, rfl, fun _ => rfl, fun _ _ => .same rfl⟩
  have followed : ∀ t : State, Recovers t (followLevel t) := fun t =>
    (followCondition_recovers rfl _ _ t).trans (followCondition_recovers rfl _ _ _)
  have evaluated : ∀ t : State, Recovers t (evaluateLevel t) := fun t =>
    .ite (.refl t) (((scaled t _).trans (followed _)).trans (asked _))
  exact ((scaled s _).trans (evaluated _)).trans (asked _)

/-! ## The marker set (R113, R121, R129) -/

theorem soakCut_iff (s : State) :
    soakCut s = true ↔
      s.start.retentionValid = true ∧ (s.ret.descale.phase = .draw ∨ s.ret.descale.phase = .soak) := by
  unfold soakCut
  simp

theorem rinseCut_iff (s : State) :
    rinseCut s = true ↔
      s.start.retentionValid = true ∧
        (s.ret.descale.phase = .drainAgent ∨ s.ret.descale.phase = .awaitRinse ∨ s.ret.descale.phase = .rinse1 ∨
          s.ret.descale.phase = .rinse2) := by
  unfold rinseCut
  cases s.ret.descale.phase <;> simp

/-- The record and the account before DRAIN_AGENT is entered: the soak credited that a reset has cut short, no stall, and
the aborted mark. -/
def agentFound (s : State) : State :=
  setStall .none
    (if rinseCut s then s
    else
      setDescale { (if soakCut s then creditAbort s else s).ret.descale with aborted := true }
        (if soakCut s then creditAbort s else s))

theorem recoverAgent_eq (s : State) : recoverAgent s = enterDrainAgent (agentFound s) := rfl

theorem agentFound_recovers (s : State) : Recovers s (agentFound s) :=
  (Recovers.ite (.refl s) ((Recovers.ite (creditAbort_recovers s) (.refl s)).trans (setDescale_recovers _ _))).trans
    (setStall_recovers .none _)

theorem agentFound_facts (s : State) :
    let t := agentFound s
    t.water = s.water ∧ t.boiler = s.boiler ∧
      t.ret.descale =
        { s.ret.descale with stall := .none, aborted := if rinseCut s then s.ret.descale.aborted else true } ∧
      t.scale = (if soakCut s then creditedScale s.ret.descale s.settings.scaleLimit s.scale else s.scale) ∧
      (soakCut s = true → t.store.asked = true) := by
  dsimp only
  have scale : ∀ t : State, (setStall .none t).scale = t.scale := fun _ => followCondition_scale ..
  unfold agentFound
  rw [setStall_water, setStall_boiler, setStall_record, scale]
  by_cases rinses : rinseCut s = true
  · have soaked : ¬soakCut s = true := fun soaks => by
      obtain ⟨-, soak⟩ := (soakCut_iff s).mp soaks
      obtain ⟨-, rinse⟩ := (rinseCut_iff s).mp rinses
      rcases soak with h | h <;> simp [h] at rinse
    rw [if_pos rinses, if_pos rinses, if_neg soaked]
    exact ⟨rfl, rfl, rfl, rfl, fun soaks => absurd soaks soaked⟩
  · rw [if_neg rinses, if_neg rinses]
    by_cases soaks : soakCut s = true
    · obtain ⟨e, st, credited⟩ := creditAbort_only s
      have asked := (setStall_recovers .none (setDescale { (creditAbort s).ret.descale with aborted := true }
        (creditAbort s))).asked (creditAbort_asked s)
      rw [if_pos soaks, if_pos soaks]
      refine ⟨?_, ?_, ?_, ?_, fun _ => asked⟩ <;> rw [credited] <;> rfl
    · rw [if_neg soaks, if_neg soaks]
      exact ⟨rfl, rfl, rfl, rfl, fun soaks' => absurd soaks' soaks⟩

/-- With the marker set DRAIN_AGENT is entered, its drain loaded or awaited, with the credit of the soak that the reset
has cut short. -/
theorem recoverAgent_facts (free : ∀ c : Chan, holdsDose s c = false) :
    let u := recoverAgent s
    let drains := s.start.straps.supply = .tank → tankPresent s = true
    u.ret.descale =
      { s.ret.descale with
        phase := .drainAgent, step := none, stall := .none
        aborted := if rinseCut s then s.ret.descale.aborted else true } ∧
    u.scale = (if soakCut s then creditedScale s.ret.descale s.settings.scaleLimit s.scale else s.scale) ∧
    (soakCut s = true → u.store.asked = true) ∧
    (drains → u.work.drain = false ∧ u.boiler.drainPending = false ∧
      u.boiler.state = (if s.boiler.state = .dryFault then .dryFault else .draining) ∧
      chan u .ch3 = drainLoad .descale s) ∧
    (¬drains → u.work.drain = true ∧ chan u .ch3 = chan s .ch3) := by
  dsimp only
  have found := agentFound_recovers s
  obtain ⟨water, boiler, descale, scale, asked⟩ := agentFound_facts s
  have chans : ∀ c : Chan, chan (agentFound s) c = chan s c := fun c => congrArg (fun w : Water => w.chans.get c) water
  have idle : ∀ c : Chan, holdsDose (agentFound s) c = false := fun c => (holdsDose_congr (chans c)).trans (free c)
  have fits : drainFits (agentFound s) ↔ (s.start.straps.supply = .tank → tankPresent s = true) := by
    obtain ⟨-, -, -, -, -, inputs, -, -, -, start, -⟩ := found.steady
    unfold drainFits tankPresent
    rw [inputs, start]
    exact and_iff_right (idle .ch3)
  obtain ⟨record, -, -⟩ := enterDrainAgent_facts (agentFound s)
  obtain ⟨-, -, -, account⟩ := enterDrainAgent_free (idle .ch0)
  obtain ⟨loads, waits⟩ := enterDrainAgent_drain (agentFound s)
  have entered := enterDrainAgent_recovers (idle .ch0)
  rw [recoverAgent_eq]
  refine ⟨by rw [record, descale], account.trans scale, fun soaks => entered.asked (asked soaks), fun drains => ?_,
    fun undrained => ?_⟩
  · rw [← boiler, ← drainLoad_congr found.rest.2.2.1]
    exact loads (fits.mpr drains)
  · obtain ⟨waiting, -, channel⟩ := waits (mt fits.mp undrained)
    exact ⟨waiting, channel.trans (chans .ch3)⟩

theorem recoverAgent_recovers (free : holdsDose s .ch0 = false) : Recovers s (recoverAgent s) := by
  have same : chan (agentFound s) .ch0 = chan s .ch0 :=
    congrArg (fun w : Water => w.chans.get .ch0) (agentFound_facts s).1
  exact (agentFound_recovers s).trans (enterDrainAgent_recovers ((holdsDose_congr same).trans free))

/-! ## The marker clear (R129) -/

/-- With the marker clear the phase is IDLE, and neither the account nor the water unit nor the boiler moves. -/
theorem recoverClean_facts (free : holdsDose s .ch0 = false) :
    let u := recoverClean s
    Recovers s u ∧ u.water = s.water ∧ u.boiler = s.boiler ∧ u.scale = s.scale ∧ u.ret.descale.phase = .idle ∧
      (s.ret.descale.phase = .idle → u.ret.descale = s.ret.descale) ∧
      (s.ret.descale.phase ≠ .idle → u.ret.descale.result = .aborted) := by
  dsimp only
  unfold recoverClean
  by_cases idle : s.ret.descale.phase = .idle
  · rw [if_pos idle]
    exact ⟨.refl s, rfl, rfl, rfl, idle, fun _ => rfl, fun descales => absurd idle descales⟩
  · rw [if_neg idle]
    have stalled : Recovers s (setStall .none (setDescale { s.ret.descale with result := .aborted } s)) :=
      (setDescale_recovers _ s).trans (setStall_recovers .none _)
    have water := setStall_water .none (setDescale { s.ret.descale with result := .aborted } s)
    have boiler := setStall_boiler .none (setDescale { s.ret.descale with result := .aborted } s)
    have scale : (setStall .none (setDescale { s.ret.descale with result := .aborted } s)).scale = s.scale :=
      followCondition_scale ..
    have record := setStall_record .none (setDescale { s.ret.descale with result := .aborted } s)
    generalize setStall .none (setDescale { s.ret.descale with result := .aborted } s) = t at *
    have still : holdsDose t .ch0 = false :=
      (holdsDose_congr (congrArg (fun w : Water => w.chans.get .ch0) water)).trans free
    have account := (enterPhase_uncharged .idle none (not_running_of_free still)).2.1
    refine ⟨stalled.trans (enterPhase_recovers still .idle none), ?_, ?_, account.trans scale, ?_,
      fun rests => absurd rests idle, fun _ => ?_⟩
    · exact (enterPhase_water .idle none (NoTopUp.of_free still)).trans water
    · exact (enterPhase_boiler .idle none t).trans boiler
    · rw [enterPhase_record]
    · rw [enterPhase_record, record]
      rfl

theorem recoverDescale_recovers (free : holdsDose s .ch0 = false) : Recovers s (recoverDescale s) :=
  .ite (recoverAgent_recovers free) (recoverClean_facts free).1

end

end Sys2Proof.Machine
end

section
/-! SUPPORT. The settlement of the run (R159, R160): what no settlement moves, a run that is lost, and a run that a fatal
fault ends at its resume. -/

namespace Sys2Proof.Machine

/-- What the settlement of the run leaves alone, whatever becomes of the run. -/
structure RunSettles (s t : State) : Prop where
  aside : t.aside = s.aside
  steering : t.events.steering = s.events.steering
  ended : KindRests .descaleEnded s t
  still : Still s → Still t ∧ t.scale = s.scale

section
variable {k : EventKind} {s t u : State}

theorem RunSettles.trans (h : RunSettles s t) (h' : RunSettles t u) : RunSettles s u where
  aside := h'.aside.trans h.aside
  steering := h'.steering.trans h.steering
  ended := h.ended.trans h'.ended
  still rests := by
    obtain ⟨first, scale⟩ := h.still rests
    obtain ⟨second, scale'⟩ := h'.still first
    exact ⟨second, scale'.trans scale⟩

theorem SequencerActs.settles (h : SequencerActs s t) : RunSettles s t :=
  ⟨h.aside, h.events.steering, h.events.kinds _ rfl, h.still⟩

theorem RunSettles.refl (s : State) : RunSettles s s := (SequencerActs.refl s).settles

theorem raiseEvent_settles (other : k ≠ .descaleEnded) (a : Option Byte) (s : State) : RunSettles s (raiseEvent k a s) :=
  ⟨rfl, rfl, raiseEvent_kindRests other.symm a s, fun still => ⟨still.congr rfl, rfl⟩⟩

theorem Kept.steady_of_settles (h : Kept s t) (acts : RunSettles s t) : Steady s t := by
  have aside := acts.aside
  exact ⟨h.now, h.pending, h.windows, h.draws, h.meas, h.inputs, h.prot, h.ports, h.settings, h.start, h.heat,
    h.halfCycle, congrArg Aside.lampShot aside, congrArg (fun a : Aside => a.fanRelay.state) aside, acts.steering,
    h.verified, congrArg Aside.writing aside⟩

/-! ## A run that is lost (R159, R160) -/

/-- The run context, the slots, the last-run record, the events and the commit asked for are all that move. -/
def LosesRun (s t : State) : Prop :=
  ∃ run slots last, t =
    { s with
      ret := { s.ret with run := run, slots := slots, lastRun := last }, events := t.events
      store := { s.store with asked := t.store.asked } }

theorem settleLost_facts (s : State) :
    LosesRun s (settleLost s) ∧ RunSettles s (settleLost s) ∧ Kept s (settleLost s) ∧
      (settleLost s).ret.run = s.ret.run ∧
      ∀ o : OpenRun, s.start.summary.opened = some o →
        RaisedTo .programEnded (some (BitVec.ofNat 8 o.stageIndex)) s (settleLost s) ∧
          (settleLost s).store.asked = true ∧
          (settleLost s).ret.lastRun = some (summaryLastRun s.start.summary.runId o) := by
  refine ⟨?_, ?_, settleLost_kept (.refl s), ?_, fun o opened => ?_⟩
  · unfold settleLost LosesRun
    split
    · exact ⟨_, _, _, rfl⟩
    · exact ⟨_, _, _, rfl⟩
  · have recorded : ∀ last : Option LastRun, RunSettles s { s with ret := { s.ret with lastRun := last } } := fun _ =>
      ⟨rfl, rfl, .same rfl, fun still => ⟨still.congr rfl, rfl⟩⟩
    have asked : ∀ t : State, RunSettles t (askCommit t) := fun _ =>
      ⟨rfl, rfl, .same rfl, fun still => ⟨still.congr rfl, rfl⟩⟩
    unfold settleLost
    split
    · exact .refl s
    · exact ((recorded _).trans (raiseEvent_settles (by decide) _ _)).trans (asked _)
  · unfold settleLost
    split <;> rfl
  · unfold settleLost
    rw [opened]
    exact ⟨(raiseEvent_raised .programEnded _ _).from rfl, rfl, rfl⟩

theorem losePower_facts (s : State) :
    LosesRun s (losePower s) ∧ RunSettles s (losePower s) ∧ Kept s (losePower s) ∧
      (losePower s).ret.run.state = .idle ∧ (losePower s).store.asked = true ∧
      (losePower s).ret.slots.get s.ret.run.slot = (s.ret.slots.get s.ret.run.slot).release ∧
      RaisedTo .programEnded (some (BitVec.ofNat 8 s.ret.run.stageIndex)) s (losePower s) ∧
      (losePower s).ret.lastRun = some (lastRunOf s.ret.run .powerLoss none) := by
  have idled : ∀ (slots : PerSlot Slot) (last : Option LastRun),
      RunSettles s { s with ret := { s.ret with run := s.ret.run.idle, slots := slots, lastRun := last } } := fun _ _ =>
    ⟨rfl, rfl, .same rfl, fun still => ⟨still.congr rfl, rfl⟩⟩
  have asked : ∀ t : State, RunSettles t (askCommit t) := fun _ =>
    ⟨rfl, rfl, .same rfl, fun still => ⟨still.congr rfl, rfl⟩⟩
  refine ⟨⟨_, _, _, rfl⟩, ?_, losePower_kept (.refl s), rfl, rfl, ?_, (raiseEvent_raised .programEnded _ _).from rfl, rfl⟩
  · exact ((idled _ _).trans (raiseEvent_settles (by decide) _ _)).trans (asked _)
  · exact (PerSlot.get_set ..).trans (if_pos rfl)

/-! ## A run that ends (R157) -/

/-- The run is IDLE, its slot released, its record written and PROGRAM_ENDED raised. -/
def runClosed (result : RunResult) (fault : Option FaultKind) (s : State) : State :=
  raiseEvent .programEnded (numberArg s.ret.run.stageIndex)
    { s with
      ret :=
        { s.ret with
          run := s.ret.run.idle, slots := s.ret.slots.set s.ret.run.slot (s.ret.slots.get s.ret.run.slot).release
          lastRun := some (lastRunOf s.ret.run result fault) }
      seq := { s.seq with waterCondition := false } }

/-- The regulator has been told of the end. -/
def climateClosed (result : RunResult) (fault : Option FaultKind) (s : State) : State :=
  endClimate (withholdSteam false (runClosed result fault (burstEnded s)))

theorem endRun_eq (result : RunResult) (fault : Option FaultKind) (s : State) :
    endRun result fault s =
      askCommit
        (if enteredSteam s then markDrain true (climateClosed result fault s) else climateClosed result fault s) := rfl

theorem markDrain_kindRests (due : k ≠ .scaleDue) (blocked : k ≠ .scaleBlocked) (b : Bool) (s : State) :
    KindRests k s (markDrain b s) := by
  have marked : KindRests k s (setBoiler { s.boiler with drainPending := b } s) := .same rfl
  have cancelled : ∀ t : State, KindRests k t (cancelTopUp t) := fun t => by
    unfold cancelTopUp
    split
    · exact cancelDose_kindRests due blocked .ch0 t
    · exact .same rfl
  have posted : ∀ t : State, KindRests k t (postBoiler t) := fun t => by
    rw [postBoiler_eq]
    exact .same rfl
  unfold markDrain
  dsimp only
  split
  · exact (marked.trans (cancelled _)).trans (posted _)
  · exact marked.trans (posted _)

/-- The end of a run asks for a commit, releases the slot and raises PROGRAM_ENDED with the final stage. -/
theorem endRun_tells (result : RunResult) (fault : Option FaultKind) (s : State) :
    (endRun result fault s).store.asked = true ∧
      (endRun result fault s).ret.slots = s.ret.slots.set s.ret.run.slot (s.ret.slots.get s.ret.run.slot).release ∧
      RaisedTo .programEnded (some (BitVec.ofNat 8 s.ret.run.stageIndex)) s (endRun result fault s) ∧
      ∃ last, (endRun result fault s).ret.lastRun = some last ∧ last.runTime = s.ret.run.runTime := by
  obtain ⟨n, m, run⟩ := burstEnded_run s
  have slots : (burstEnded s).ret.slots = s.ret.slots := (cancelBurst_reacts s).slots
  have steering : (burstEnded s).events.steering = s.events.steering := (cancelBurst_reacts s).events.steering
  have acts : RegulatorActs (runClosed result fault (burstEnded s)) (climateClosed result fault s) :=
    (withholdSteam_acts false _).trans (endClimate_acts _)
  have ret := acts.units.1
  have told : RaisedTo .programEnded (some (BitVec.ofNat 8 s.ret.run.stageIndex)) s (climateClosed result fault s) := by
    have raised : RaisedTo .programEnded (some (BitVec.ofNat 8 s.ret.run.stageIndex)) s
        (runClosed result fault (burstEnded s)) := by
      have index : s.ret.run.stageIndex = (burstEnded s).ret.run.stageIndex := by rw [run]
      rw [index]
      exact (raiseEvent_raised .programEnded _ _).from steering
    exact (acts.events .programEnded (by decide)).raised raised
  have marks := markDrain_reacts true (.refl (climateClosed result fault s))
  have record := (markDrain_rests (s := climateClosed result fault s) true).lastRun
  have kinds := markDrain_kindRests (k := .programEnded) (by decide) (by decide) true (climateClosed result fault s)
  rw [endRun_eq]
  generalize climateClosed result fault s = t at *
  refine ⟨rfl, ?_, ?_, lastRunOf (burstEnded s).ret.run result fault, ?_, by rw [run]; rfl⟩
  · have ended : t.ret.slots = s.ret.slots.set s.ret.run.slot (s.ret.slots.get s.ret.run.slot).release := by
      rw [ret, ← slots]
      show (burstEnded s).ret.slots.set (burstEnded s).ret.run.slot _ = _
      rw [run]
    rw [askCommit_ret, ← ended]
    split
    · exact marks.slots
    · rfl
  · split
    · exact (kinds.trans (.same rfl)).raised told
    · exact told
  · have ended : t.ret.lastRun = some (lastRunOf (burstEnded s).ret.run result fault) := by
      rw [ret]
      rfl
    rw [askCommit_ret, ← ended]
    split
    · exact record
    · rfl

end

end Sys2Proof.Machine
end

section
/-! SUPPORT. A run that resumes (R24, R160): the causes derived afresh, the record written, the events raised and the
waiting burst requested. -/

namespace Sys2Proof.Machine

section
variable {k : EventKind} {was : Causes} {d : Option Nat} {s t : State}

/-! ## The resume step by step -/

/-- The causes are derived afresh. -/
def causesDerived (was : Causes) (s : State) : State :=
  setRun (s.ret.run.withCauses was (freshCauses s)) { s with seq := { s.seq with waterCondition := (freshCauses s).water } }

/-- The record that a resume writes. -/
def resumedRecord (s : State) : SentRecord := stageRecord (currentStage s) s.ret.run

/-- The record is written. -/
def recordResumed (was : Causes) (s : State) : State :=
  resumeWrite (resumedRecord (causesDerived was s)) s.ret.run.tempReached s.ret.run.moistReached (doorOpen s)
    (causesDerived was s)

/-- Steam is withheld for WATER and for a degraded stage. -/
def steamResumed (was : Causes) (s : State) : State :=
  withholdSteam (waterConditionHolds s || s.ret.run.degraded) (recordResumed was s)

/-- Drain-pending is cleared for a program that uses steam. -/
def drainForgotten (was : Causes) (s : State) : State :=
  if programUsesSteam (runStages (steamResumed was s)) then markDrain false (steamResumed was s) else steamResumed was s

/-- The resume is told. -/
def resumeTold (was : Causes) (s : State) : State := raiseResumed (drainForgotten was s)

theorem continueRun_eq (was : Causes) (s : State) :
    continueRun was s = if doorOpen s then resumeTold was s else requestDeferred (resumeTold was s) := rfl

/-! ## The causes and the record -/

theorem Causes.isEmpty_iff (c : Causes) : c.isEmpty = true ↔ c = .none := by
  obtain ⟨door, water, probe, mains⟩ := c
  cases door <;> cases water <;> cases probe <;> cases mains <;> decide

theorem causesDerived_goesOn : StageGoesOn k s (causesDerived was s) := by
  have derived : ∀ x : Sequencer,
      StageGoesOn k { s with seq := x } (setRun (s.ret.run.withCauses was (freshCauses s)) { s with seq := x }) := fun _ =>
    setRun_goesOn rfl (fun _ => runState_ite (by decide) (by decide)) rfl
  exact (setSeq_goesOn _).trans (derived _)

/-- A resume write in OFF works from HOLD or PREHEAT by the saved mark, or waits PAUSED behind an open door (R24). -/
theorem resumeWrite_off {sent : SentRecord} {temp moist door : Bool} (off : s.climate.state = .off) :
    let t := resumeWrite sent temp moist door s
    let r := (completeRecord sent).1
    let w := if temp then WorkingState.hold else .preheat
    t.climate.record = some r ∧ t.climate.iacc = 0 ∧ t.climate.tempReached = temp ∧ t.climate.moistReached = moist ∧
      t.climate.runaway = 0 ∧ t.climate.runawayArmed = temp ∧
      (temp = false → t.climate.direction = directionOf s.meas.cavity r.setpoint) ∧
      (door = true → t.climate.state = .paused ∧ t.climate.returnState = some w ∧ t.climate.relayAsk = false ∧
        t.out.fan.code = 0) ∧
      (door = false → t.climate.state = w.state ∧ t.climate.relayAsk = true ∧ t.out.fan.code = r.fanCode) := by
  dsimp only
  unfold resumeWrite
  rw [if_neg (not_not.mpr off)]
  dsimp only
  cases door with
  | true =>
    rw [if_pos rfl, issueOutputs_paused rfl, restOutputs_climate, restOutputs_fanCode]
    exact ⟨rfl, rfl, rfl, rfl, rfl, rfl, fun cold => if_neg (ne_true_of_eq_false cold), fun _ => ⟨rfl, rfl, rfl, rfl⟩, nofun⟩
  | false =>
    rw [if_neg (by decide)]
    generalize hx : setClimate _ s = x
    have works : working x = true := by
      rw [← hx]
      cases temp <;> rfl
    obtain ⟨climate, outputs⟩ := issueOutputs_works works
    have record : x.climate.record = some (completeRecord sent).1 := by rw [← hx]; rfl
    rw [climate, (outputs _ record).1, ← hx]
    exact ⟨rfl, rfl, rfl, rfl, rfl, rfl, fun cold => if_neg (ne_true_of_eq_false cold), nofun, fun _ => ⟨rfl, rfl, rfl⟩⟩

theorem markDrain_false (s : State) : markDrain false s = postBoiler (setBoiler { s.boiler with drainPending := false } s) :=
  rfl

theorem markDrain_false_acts (s : State) :
    RegulatorActs s (markDrain false s) ∧ (markDrain false s).climate = s.climate ∧ (markDrain false s).out = s.out := by
  rw [markDrain_false, postBoiler_eq]
  exact ⟨.silent rfl, rfl, rfl⟩

theorem resumeWrite_acts (sent : SentRecord) (temp moist door : Bool) (s : State) :
    RegulatorActs s (resumeWrite sent temp moist door s) := by
  unfold resumeWrite
  exact .ite (stageEntry_acts sent s) ((setClimate_acts _ s).trans (issueOutputs_acts _))

theorem recordResumed_acts : RegulatorActs (causesDerived was s) (recordResumed was s) := resumeWrite_acts ..

theorem steamResumed_acts : RegulatorActs (causesDerived was s) (steamResumed was s) :=
  recordResumed_acts.trans (withholdSteam_acts _ _)

theorem drainForgotten_acts : RegulatorActs (causesDerived was s) (drainForgotten was s) :=
  steamResumed_acts.trans (.ite (markDrain_false_acts _).1 (.refl _))

/-! ## The events of a resume (R160) -/

/-- PROGRAM_PAUSED is raised where a cause is present. -/
def pauseTold (s : State) : State := if s.ret.run.causes.isEmpty then s else raiseEvent .programPaused (stageArg s) s

/-- CONFIRM_AWAITED is raised where the stage ends by CONFIRM. -/
def confirmTold (s : State) : State :=
  if (currentStage s).ending = .confirm then raiseEvent .confirmAwaited (stageArg s) s else s

theorem raiseResumed_eq (s : State) :
    raiseResumed s = confirmTold (pauseTold (raiseEvent .resumedAfterDip (stageArg s) s)) := rfl

theorem pauseTold_only (s : State) : pauseTold s = { s with events := (pauseTold s).events } := by
  unfold pauseTold
  split <;> rfl

theorem confirmTold_only (s : State) : confirmTold s = { s with events := (confirmTold s).events } := by
  unfold confirmTold
  split <;> rfl

theorem raiseResumed_only (s : State) : raiseResumed s = { s with events := (raiseResumed s).events } := by
  rw [raiseResumed_eq, confirmTold_only, pauseTold_only]
  rfl

theorem EntriesKept.ite {b : Prop} [Decidable b] {u : State} (ht : EntriesKept k s t) (hu : EntriesKept k s u) :
    EntriesKept k s (if b then t else u) := by
  split
  · exact ht
  · exact hu

theorem pauseTold_entries (other : k ≠ .programPaused) (s : State) : EntriesKept k s (pauseTold s) :=
  .ite (.same rfl) (raiseEvent_entriesKept other _ s)

theorem confirmTold_entries (other : k ≠ .confirmAwaited) (s : State) : EntriesKept k s (confirmTold s) :=
  .ite (raiseEvent_entriesKept other _ s) (.same rfl)

/-- What a resume has raised: RESUMED_AFTER_DIP, PROGRAM_PAUSED where a cause is present, and the confirm that the stage
waits for. -/
structure ResumeRaised (s t : State) : Prop where
  resumed : RaisedTo .resumedAfterDip (stageArg s) s t
  paused : t.ret.run.causes ≠ .none → RaisedTo .programPaused (stageArg s) s t
  awaits : (currentStage s).ending = .confirm → RaisedTo .confirmAwaited (stageArg s) s t

theorem raiseResumed_raised (s : State) : ResumeRaised s (raiseResumed s) := by
  have first := raiseEvent_raised .resumedAfterDip (stageArg s) s
  have ret : (pauseTold (raiseEvent .resumedAfterDip (stageArg s) s)).ret = s.ret := by rw [pauseTold_only]; rfl
  have steering : (pauseTold (raiseEvent .resumedAfterDip (stageArg s) s)).events.steering = s.events.steering :=
    (pauseTold_entries (k := .resumedAfterDip) (by decide) _).steering
  rw [raiseResumed_eq]
  refine ⟨?_, fun causes => ?_, fun confirm => ?_⟩
  · exact (confirmTold_entries (by decide) _).raised ((pauseTold_entries (by decide) _).raised first)
  · refine (confirmTold_entries (by decide) _).raised ?_
    rw [confirmTold_only] at causes
    have present : ¬s.ret.run.causes.isEmpty = true := fun empty =>
      causes ((congrArg (fun r : Retained => r.run.causes) ret).trans ((Causes.isEmpty_iff _).mp empty))
    have told : pauseTold (raiseEvent .resumedAfterDip (stageArg s) s) =
        raiseEvent .programPaused (stageArg s) (raiseEvent .resumedAfterDip (stageArg s) s) := if_neg present
    rw [told]
    exact (raiseEvent_raised .programPaused _ _).from rfl
  · generalize pauseTold (raiseEvent .resumedAfterDip (stageArg s) s) = t at ret steering ⊢
    have stage : currentStage t = currentStage s := by
      unfold currentStage stageAt runStages
      rw [ret]
    have arg : stageArg t = stageArg s := by
      unfold stageArg
      rw [ret]
    unfold confirmTold
    rw [stage, if_pos confirm, arg]
    exact (raiseEvent_raised .confirmAwaited _ _).from steering

theorem ResumeRaised.from {u : State} (h : ResumeRaised t u) (stage : currentStage t = currentStage s)
    (arg : stageArg t = stageArg s) (steering : t.events.steering = s.events.steering) : ResumeRaised s u where
  resumed := arg ▸ h.resumed.from steering
  paused causes := arg ▸ (h.paused causes).from steering
  awaits confirm := arg ▸ (h.awaits (stage ▸ confirm)).from steering

theorem withholdSteam_drainPending (b : Bool) (s : State) :
    (withholdSteam b s).boiler.drainPending = s.boiler.drainPending := by
  unfold withholdSteam
  dsimp only
  split
  · rw [handSteamRequest_eq]
    rfl
  · rfl

/-! ## The run that has resumed -/

/-- The run goes on with the causes of its resume, but perhaps with WATER besides; `d` is its waiting burst. -/
structure RunGoesOn (was : Causes) (d : Option Nat) (s t : State) : Prop where
  run : t.ret.run =
    { s.ret.run with
      state := if t.ret.run.causes = .none then .running else .paused, causes := t.ret.run.causes
      doorTimer := if was.door && doorOpen s then s.ret.run.doorTimer else 0
      waterTimer := if was.water && waterConditionHolds s then s.ret.run.waterTimer else 0, deferredBurst := d }
  causes : t.ret.run.causes = { freshCauses s with water := t.ret.run.causes.water }
  dry : waterConditionHolds s = true → t.ret.run.causes.water = true
  slots : t.ret.slots = s.ret.slots
  climate : ∃ b, t.climate = { (recordResumed was s).climate with steamWithheld := b }
  out : t.out = (recordResumed was s).out
  drain : programUsesSteam (runStages s) = true → t.boiler.drainPending = false
  steering : t.events.steering = s.events.steering
  raised : ResumeRaised s t

theorem waterConditionHolds_same (ret : t.ret = s.ret) (start : t.start = s.start) (inputs : t.inputs = s.inputs)
    (water : t.water = s.water) : waterConditionHolds t = waterConditionHolds s := by
  have chans : ∀ c : Chan, chan t c = chan s c := fun c => congrArg (fun w : Water => w.chans.get c) water
  have source : sourceFor .program t = sourceFor .program s := by rw [sourceFor_program, sourceFor_program, start]
  unfold waterConditionHolds runActive stageNeedsWater steamDoseSuspended currentStage stageAt runStages
  simp only [ret, start, holdsDose_congr (chans _), source, sourceLow_congr inputs, chans]

/-- The units that the telling of a resume finds. -/
theorem resumeTold_units :
    (resumeTold was s).ret = (causesDerived was s).ret ∧ (resumeTold was s).seq = (causesDerived was s).seq ∧
      (resumeTold was s).water = s.water ∧ (resumeTold was s).scale = s.scale ∧ (resumeTold was s).inputs = s.inputs ∧
      (resumeTold was s).start = s.start := by
  obtain ⟨ret, seq, water, scale, inputs, start⟩ := drainForgotten_acts (was := was) (s := s).units
  unfold resumeTold
  rw [raiseResumed_only]
  exact ⟨ret, seq, water, scale, inputs, start⟩

theorem drainForgotten_climate :
    (drainForgotten was s).climate =
      { (recordResumed was s).climate with steamWithheld := waterConditionHolds s || s.ret.run.degraded } ∧
    (drainForgotten was s).out = (recordResumed was s).out := by
  have climate := withholdSteam_climate (waterConditionHolds s || s.ret.run.degraded) (recordResumed was s)
  have out : (steamResumed was s).out = (recordResumed was s).out := by
    unfold steamResumed
    simp
  obtain ⟨-, marked, kept⟩ := markDrain_false_acts (steamResumed was s)
  unfold drainForgotten
  split
  · exact ⟨marked.trans climate, kept.trans out⟩
  · exact ⟨climate, out⟩

theorem resumeTold_goesOn : RunGoesOn was s.ret.run.deferredBurst s (resumeTold was s) := by
  have derived := causesDerived_goesOn (k := .resumedAfterDip) (was := was) (s := s)
  have acts := drainForgotten_acts (was := was) (s := s)
  have ret := acts.units.1
  have run : (resumeTold was s).ret.run = s.ret.run.withCauses was (freshCauses s) :=
    congrArg Retained.run resumeTold_units.1
  have causes : (resumeTold was s).ret.run.causes = freshCauses s := by rw [run]; rfl
  have steering : (drainForgotten was s).events.steering = s.events.steering :=
    (acts.events .resumedAfterDip (by decide)).steering.trans derived.events.steering
  have stage : currentStage (drainForgotten was s) = currentStage s := by
    rw [← derived.stage]
    unfold currentStage stageAt runStages
    rw [ret]
  have arg : stageArg (drainForgotten was s) = stageArg s := by
    unfold stageArg
    rw [ret]
    rfl
  have raised := (raiseResumed_raised (drainForgotten was s)).from stage arg steering
  obtain ⟨climate, out⟩ := drainForgotten_climate (was := was) (s := s)
  have only := raiseResumed_only (drainForgotten was s)
  refine
    { run := ?_, causes := ?_, dry := fun dry => ?_, slots := ?_
      climate := ⟨waterConditionHolds s || s.ret.run.degraded, ?_⟩, out := ?_, drain := fun steams => ?_
      steering := ?_, raised := raised }
  · have state : (if (freshCauses s).isEmpty then RunState.running else .paused) =
        if freshCauses s = .none then .running else .paused := by simp only [Causes.isEmpty_iff]
    rw [causes, run, ← state]
    rfl
  · rw [causes]
  · rw [causes]
    exact dry
  · rw [resumeTold_units.1]
    rfl
  · unfold resumeTold
    rw [only]
    exact climate
  · unfold resumeTold
    rw [only]
    exact out
  · have steams' : programUsesSteam (runStages (steamResumed was s)) = true := by
      rw [← steams]
      unfold runStages
      rw [(steamResumed_acts (was := was) (s := s)).units.1]
      rfl
    unfold resumeTold drainForgotten
    rw [raiseResumed_only, if_pos steams']
    exact congrArg Boiler.drainPending (markDrain_boiler false _)
  · refine Eq.trans ?_ steering
    unfold resumeTold
    rw [raiseResumed_eq]
    exact ((confirmTold_entries (k := .resumedAfterDip) (by decide) _).steering.trans
      (pauseTold_entries (k := .resumedAfterDip) (by decide) _).steering)

/-! ## The waiting burst (R107, R143) -/

/-- With the waiting burst taken and requested, the run goes on without one. -/
theorem RunGoesOn.requests (h : RunGoesOn was d s t) (ml : Nat) :
    RunGoesOn was none s (requestBurst ml (dropDeferred t)) := by
  have ret : (requestBurst ml (dropDeferred t)).ret = (dropDeferred t).ret := by rw [requestBurst_only]
  have boiler : (requestBurst ml (dropDeferred t)).boiler = t.boiler := by rw [requestBurst_only]; rfl
  have entries : ∀ k : EventKind, k ≠ .steamDegraded → EntriesKept k t (requestBurst ml (dropDeferred t)) := fun k other =>
    (EntriesKept.same rfl : EntriesKept k t (dropDeferred t)).trans (requestBurst_stays other ml _).events
  have causes : (dropDeferred t).ret.run.causes = t.ret.run.causes := rfl
  obtain ⟨resumed, paused, awaits⟩ := h.raised
  obtain ⟨b, climate⟩ := h.climate
  refine
    { run := ?_, causes := ?_, dry := ?_, slots := ?_, climate := ⟨b, ?_⟩, out := ?_, drain := ?_, steering := ?_
      raised := ⟨(entries _ (by decide)).raised resumed, fun present => ?_, fun confirm =>
        (entries _ (by decide)).raised (awaits confirm)⟩ }
  · rw [ret, causes]
    show { t.ret.run with deferredBurst := none } = _
    rw [h.run]
  · rw [ret]
    exact h.causes
  · rw [ret]
    exact h.dry
  · rw [ret]
    exact h.slots
  · rw [requestBurst_climate]
    exact climate
  · rw [requestBurst_out]
    exact h.out
  · rw [boiler]
    exact h.drain
  · exact (entries .resumedAfterDip (by decide)).steering.trans h.steering
  · rw [ret] at present
    exact (entries _ (by decide)).raised (paused present)

/-- WATER that is added to the run pauses it, if nothing else does. -/
theorem RunGoesOn.dries (h : RunGoesOn was d s t) (wet : t.ret.run.causes.water = false) :
    RunGoesOn was d s (waterAdded t) := by
  have sated : ¬(was.water && waterConditionHolds s) = true := fun both => by
    rw [Bool.and_eq_true] at both
    exact Bool.false_ne_true (wet.symm.trans (h.dry both.2))
  have timer : t.ret.run.waterTimer = 0 := by
    rw [h.run]
    exact if_neg sated
  generalize hx : setRun { t.ret.run with waterTimer := 0 } { t with seq := { t.seq with waterCondition := true } } = x
  have same : x.ret = t.ret := by
    have run : { t.ret.run with waterTimer := 0 } = t.ret.run := by rw [← timer]
    rw [← hx, run]
    rfl
  have steering : x.events.steering = t.events.steering := by rw [← hx]; rfl
  have added : waterAdded t = withholdSteam true (addCause .water x) := by rw [← hx]; rfl
  have context : (addCause .water x).ret.run =
      { t.ret.run with
        causes := t.ret.run.causes.put .water true
        state := if t.ret.run.causes.isEmpty then .paused else t.ret.run.state } := by
    rw [addCause_context, same]
    exact if_neg (ne_true_of_eq_false wet)
  have ret : (waterAdded t).ret = (addCause .water x).ret := by rw [added, (withholdSteam_units ..).1]
  have state : (if t.ret.run.causes.isEmpty then RunState.paused else t.ret.run.state) = .paused := by
    split
    · rfl
    · next present =>
      rw [h.run]
      exact if_neg (mt (Causes.isEmpty_iff _).mpr present)
  have only := (addCause_runOnly .water x).only
  have boiler : (addCause .water x).boiler = x.boiler := by rw [only]
  have units : x.climate = t.climate ∧ x.out = t.out ∧ x.boiler = t.boiler := by rw [← hx]; exact ⟨rfl, rfl, rfl⟩
  have events : ∀ k : EventKind, k.ofPauses = false → EntriesKept k t (waterAdded t) := fun k other => by
    have noted : EntriesKept k t x := by rw [← hx]; exact .same rfl
    rw [added]
    exact (noted.trans (addCause_goesOn other .water).events).trans (withholdSteam_goesOn other true).events
  obtain ⟨resumed, paused, awaits⟩ := h.raised
  obtain ⟨b, climate⟩ := h.climate
  refine
    { run := ?_, causes := ?_, dry := fun _ => ?_, slots := ?_, climate := ⟨true, ?_⟩, out := ?_, drain := ?_
      steering := ?_
      raised := ⟨(events _ rfl).raised resumed, fun _ => ?_, fun confirm => (events _ rfl).raised (awaits confirm)⟩ }
  · rw [ret, context, state]
    have present : t.ret.run.causes.put .water true ≠ .none := fun none => nomatch congrArg Causes.water none
    dsimp only
    rw [if_neg present, h.run]
  · rw [ret, context]
    show t.ret.run.causes.put .water true = _
    rw [h.causes]
    rfl
  · rw [ret, context]
    rfl
  · rw [ret, only]
    show x.ret.slots = _
    rw [same]
    exact h.slots
  · rw [added, withholdSteam_climate, addCause_climate, units.1, climate]
  · rw [added]
    simp [units.2.1, h.out]
  · intro steams
    rw [added, withholdSteam_drainPending, boiler, units.2.2]
    exact h.drain steams
  · exact (events .resumedAfterDip rfl).steering.trans h.steering
  · rw [added]
    refine ((withholdSteam_acts true _).events _ (by decide)).raised ?_
    have arg : stageArg x = stageArg s := by
      unfold stageArg
      rw [same, h.run]
    by_cases empty : t.ret.run.causes.isEmpty = true
    · rw [← arg]
      exact (addCause_pauses .water (same ▸ empty)).2.from (steering.trans h.steering)
    · have still : (addCause .water x).events = t.events := by
        unfold addCause
        rw [same, if_neg (show ¬t.ret.run.causes.has .water = true from ne_true_of_eq_false wet), if_neg empty, ← hx]
        rfl
      exact (KindRests.same still).raised (paused (mt (Causes.isEmpty_iff _).mpr empty))

/-- WATER considered anew is added, or everything stays as it was (R146). -/
theorem RunGoesOn.waters (h : RunGoesOn was d s t) (followed : t.seq.waterCondition = t.ret.run.causes.water)
    (stays : t.ret.run.causes.water = true → waterConditionHolds t = true) : RunGoesOn was d s (followWater t) := by
  by_cases holds : waterConditionHolds t = t.seq.waterCondition
  · rw [followWater_same holds]
    exact h
  · have wet : t.ret.run.causes.water = false := Bool.eq_false_iff.mpr fun water =>
      holds ((stays water).trans (followed.trans water).symm)
    have begins : waterConditionHolds t = true := by
      rw [followed, wet] at holds
      exact Bool.eq_true_of_not_eq_false holds
    rw [followWater_adds begins (followed.trans wet)]
    exact h.dries wet

/-! ## The resume as a whole -/

theorem resumeTold_stands (active : runActive s = true) : WaterStands (resumeTold was s) := by
  obtain ⟨ret, seq, water, -, inputs, start⟩ := resumeTold_units (was := was) (s := s)
  have derived := causesDerived_goesOn (k := .resumedAfterDip) (was := was) (s := s)
  have climate : (resumeTold was s).climate = (drainForgotten was s).climate := by
    unfold resumeTold
    rw [raiseResumed_only]
  have causes : (resumeTold was s).ret.run.causes.water = waterConditionHolds s := by rw [ret]; rfl
  have degraded : (resumeTold was s).ret.run.degraded = s.ret.run.degraded := by rw [ret]; rfl
  refine ⟨?_, ?_, ?_⟩
  · rw [seq, causes]
    rfl
  · rw [causes, degraded, climate, drainForgotten_climate.1]
  · rw [causes, waterConditionHolds_same ret start inputs water, waterConditionHolds_congr derived active]

theorem resumeTold_kept (was : Causes) (s : State) : Kept s (resumeTold was s) := by
  have derived := (causesDerived_goesOn (k := .resumedAfterDip) (was := was) (s := s)).kept
  have written : Kept s (steamResumed was s) := withholdSteam_kept _ (resumeWrite_kept _ _ _ _ derived)
  exact raiseResumed_kept (kept_ite (markDrain_kept false written) written)

theorem continueRun_kept (was : Causes) (s : State) : Kept s (continueRun was s) := by
  rw [continueRun_eq]
  exact kept_ite (resumeTold_kept was s) (requestDeferred_kept (resumeTold_kept was s))

theorem resumeWrite_sequencer (sent : SentRecord) (temp moist door : Bool) (s : State) :
    SequencerActs s (resumeWrite sent temp moist door s) := by
  have issued : ∀ c : Climate, c.shortfall = s.climate.shortfall → c.coolingFan = s.climate.coolingFan →
      SequencerActs s (issueOutputs (setClimate c s)) := fun _ shortfall fan =>
    (setClimate_sequencer shortfall fan).trans (issueOutputs_sequencer _)
  unfold resumeWrite
  refine .ite (stageEntry_sequencer sent s) (issued _ ?_ ?_)
  · cases door <;> rfl
  · cases door <;> rfl

theorem requestDeferred_sequencer (s : State) : SequencerActs s (requestDeferred s) := by
  cases waits : s.ret.run.deferredBurst with
  | none =>
    rw [requestDeferred_none waits]
    exact .refl s
  | some ml =>
    rw [requestDeferred_some waits]
    exact ((dropDeferred_sequencer s).trans (requestBurst_sequencer ml _)).trans (followWater_sequencer _)

theorem drainForgotten_sequencer (was : Causes) (s : State) : SequencerActs s (drainForgotten was s) := by
  have noted : ∀ x : Sequencer, SequencerActs s { s with seq := x } := fun x => setSeq_sequencer x s
  have derived : SequencerActs s (causesDerived was s) := (noted _).trans (setRun_sequencer rfl)
  have written : SequencerActs s (steamResumed was s) :=
    (derived.trans (resumeWrite_sequencer _ _ _ _ _)).trans (withholdSteam_sequencer _ _)
  exact .ite (written.trans (markDrain_sequencer false _)) written

theorem continueRun_settles (was : Causes) (s : State) : RunSettles s (continueRun was s) := by
  have paused : ∀ t : State, SequencerActs t (pauseTold t) := fun t => .ite (.refl t) (raiseEvent_sequencer rfl _ t)
  have confirm : ∀ t : State, SequencerActs t (confirmTold t) := fun t => .ite (raiseEvent_sequencer rfl _ t) (.refl t)
  have told : RunSettles s (resumeTold was s) := by
    unfold resumeTold
    rw [raiseResumed_eq]
    exact ((drainForgotten_sequencer was s).settles.trans (raiseEvent_settles (by decide) _ _)).trans
      ((paused _).trans (confirm _)).settles
  rw [continueRun_eq]
  split
  · exact told
  · exact told.trans (requestDeferred_sequencer _).settles

/-- With no dose held a run wants water where its stage uses steam and its source is low. -/
theorem waterWanting_free (free : ∀ c : Chan, holdsDose s c = false) :
    WaterWanting s ↔
      (((currentStage s).mode = .steam ∨ (currentStage s).mode = .combi ∨ (currentStage s).mode = .proof) ∧
        s.ret.run.degraded = false) ∧
      sourceLow (if s.start.straps.supply = .tank then Source.tank else .inlet) s = true := by
  have none : ¬∃ c : Chan, c ≠ .ch3 ∧ (chan s c).state = .suspended ∧
      (requesterIs .boilerControl (chan s c) = true ∨ requesterIs .program (chan s c) = true) := by
    rintro ⟨c, -, suspended, -⟩
    have held := free c
    unfold holdsDose at held
    rw [suspended] at held
    exact nomatch held
  unfold WaterWanting
  simp only [free .ch1, Bool.false_eq_true, or_false, none]

theorem RunGoesOn.stage (h : RunGoesOn was d s t) : currentStage t = currentStage s := by
  unfold currentStage stageAt runStages
  rw [h.slots, h.run]

/-- The waiting burst of a run that goes on is requested, and WATER considered anew. -/
theorem RunGoesOn.asks {ml : Nat} (h : RunGoesOn was (some ml) s t) (stands : WaterStands t) (kept : Kept s t)
    (water : t.water = s.water) (scale : t.scale = s.scale) (active : runActive s = true)
    (free : ∀ c : Chan, holdsDose s c = false) (wet : t.ret.run.causes.water = waterConditionHolds s) :
    RunGoesOn was none s (requestDeferred t) ∧ WaterStands (requestDeferred t) ∧
      BurstAsked ml s (requestDeferred t) := by
  have waiting : t.ret.run.deferredBurst = some ml := by rw [h.run]
  have dropped : Kept s (dropDeferred t) := setRun_kept _ kept
  have asked : BurstAsked ml s (followWater (requestBurst ml (dropDeferred t))) :=
    requestBurst_asked dropped water scale h.steering ml
  have requested := h.requests ml
  have units : (requestBurst ml (dropDeferred t)).ret = (dropDeferred t).ret ∧
      (requestBurst ml (dropDeferred t)).seq = t.seq ∧ (requestBurst ml (dropDeferred t)).climate = t.climate := by
    rw [requestBurst_only]
    exact ⟨rfl, rfl, rfl⟩
  have after : Kept s (requestBurst ml (dropDeferred t)) := requestBurst_kept ml dropped
  rw [requestDeferred_some waiting]
  generalize requestBurst ml (dropDeferred t) = u at *
  obtain ⟨ret, seq, climate⟩ := units
  have causes : u.ret.run.causes = t.ret.run.causes := by rw [ret]; rfl
  have degraded : u.ret.run.degraded = t.ret.run.degraded := by rw [ret]; rfl
  have runs : runActive u = true := by
    rw [runActive_iff] at active ⊢
    rw [after.start, requested.run]
    exact ⟨active.1, runState_ite (by decide) (by decide)⟩
  have followed : u.seq.waterCondition = u.ret.run.causes.water := by
    rw [seq, causes]
    exact stands.followed
  have withheld : u.climate.steamWithheld = (u.ret.run.causes.water || u.ret.run.degraded) := by
    rw [climate, causes, degraded]
    exact stands.withheld
  have stays : u.ret.run.causes.water = true → waterConditionHolds u = true := fun dry => by
    rw [causes, wet] at dry
    obtain ⟨steams, low⟩ := (waterWanting_free free).mp ((waterConditionHolds_iff active).mp dry)
    refine (waterConditionHolds_iff runs).mpr ⟨.inl ?_, .inl ?_⟩
    · rw [requested.stage, requested.run]
      exact steams
    · rw [sourceLow_congr after.inputs, after.start]
      exact low
  exact ⟨requested.waters followed stays, followWater_stands runs followed withheld, asked⟩

/-- The run goes on; it has WATER exactly while its condition holds, and with the door closed its waiting burst has been
requested. -/
theorem continueRun_goesOn (active : runActive s = true) (free : ∀ c : Chan, holdsDose s c = false) :
    RunGoesOn was (if doorOpen s then s.ret.run.deferredBurst else none) s (continueRun was s) ∧
      WaterStands (continueRun was s) ∧
      ∀ ml : Nat, s.ret.run.deferredBurst = some ml → doorOpen s = false → BurstAsked ml s (continueRun was s) := by
  have told := resumeTold_goesOn (was := was) (s := s)
  have stands := resumeTold_stands (was := was) active
  have kept := resumeTold_kept was s
  obtain ⟨ret, -, water, scale, -, -⟩ := resumeTold_units (was := was) (s := s)
  have wet : (resumeTold was s).ret.run.causes.water = waterConditionHolds s := by rw [ret]; rfl
  rw [continueRun_eq]
  generalize resumeTold was s = t at *
  cases door : doorOpen s with
  | true => exact ⟨told, stands, fun _ _ shut => nomatch shut⟩
  | false =>
    rw [if_neg Bool.false_ne_true, if_neg Bool.false_ne_true]
    cases waits : s.ret.run.deferredBurst with
    | none =>
      rw [waits] at told
      rw [requestDeferred_none (by rw [told.run])]
      exact ⟨told, stands, nofun⟩
    | some ml =>
      rw [waits] at told
      obtain ⟨goes, waters, asked⟩ := told.asks stands kept water scale active free wet
      exact ⟨goes, waters, fun _ same _ => Option.some.inj same ▸ asked⟩

end

end Sys2Proof.Machine
end

section
/-! SUPPORT. A run that resumes with a fault in the set (R150, R151): its stage degraded, ended or not, and the run ended. -/

namespace Sys2Proof.Machine

section
variable {was : Causes} {d : Option Nat} {k : Nat} {s t u : State}

/-! ## Drain-pending through the entry of a stage (R106) -/

theorem removeCause_drainPending (p : PauseCause) (s : State) :
    (removeCause p s).boiler.drainPending = s.boiler.drainPending := by
  rw [(removeCause_runOnly p s).only]

theorem addCause_drainPending (p : PauseCause) (s : State) :
    (addCause p s).boiler.drainPending = s.boiler.drainPending := by
  rw [(addCause_runOnly p s).only]

theorem cancelBurst_boiler (s : State) : (cancelBurst s).boiler = s.boiler := by
  unfold cancelBurst
  split <;> simp

theorem requestModeVent_boiler (s : State) : (requestModeVent s).boiler = s.boiler := by
  unfold requestModeVent
  split
  · rfl
  · split <;> simp

theorem issueOutputs_boiler (s : State) : (issueOutputs s).boiler = s.boiler := by
  have issued : ∀ (code : Nat) (closed : Bool), (issueFan code (askRelay closed s)).boiler = s.boiler := fun _ _ => by
    rw [issueFan_eq]
    rfl
  unfold issueOutputs
  split <;> simp [requestModeVent_boiler, issued]

theorem stageEntry_boiler (sent : SentRecord) (s : State) : (stageEntry sent s).1.boiler = s.boiler := by
  unfold stageEntry
  split
  · rfl
  · dsimp only
    split
    · rfl
    · exact issueOutputs_boiler _

theorem followWater_drainPending (s : State) : (followWater s).boiler.drainPending = s.boiler.drainPending := by
  refine followWater_cases (P := fun t => t.boiler.drainPending = s.boiler.drainPending) s rfl ?_ ?_ rfl
  · unfold waterAdded
    rw [withholdSteam_drainPending, addCause_drainPending]
    rfl
  · unfold waterRemoved
    dsimp only
    rw [withholdSteam_drainPending, setRun_boiler, removeCause_drainPending]

theorem degradeStage_drainPending (s : State) : (degradeStage s).boiler.drainPending = s.boiler.drainPending := by
  by_cases degrades : (currentStage s).usesSteam = true ∧ s.ret.run.degraded = false
  · have marked : (stageMarked s).boiler.drainPending = s.boiler.drainPending := withholdSteam_drainPending _ _
    have dropped : (burstDropped s).boiler = (stageMarked s).boiler := cancelBurst_boiler _
    rw [degradeStage_eq degrades.1 degrades.2, setRun_boiler, removeCause_drainPending, dropped, marked]
  · rw [degradeStage_same degrades]

theorem closeStage_drainPending (s : State) : (closeStage s).boiler.drainPending = s.boiler.drainPending := by
  have ended : (burstEnded s).boiler = s.boiler := cancelBurst_boiler s
  rw [closeStage_eq, removeCause_drainPending, ended]

theorem stageAnnounced_drainPending (k : Nat) (s : State) :
    (stageAnnounced k s).boiler.drainPending = s.boiler.drainPending := by
  have lost : (lossTaken k s).boiler.drainPending = s.boiler.drainPending := by
    unfold lossTaken
    split
    · exact degradeStage_drainPending _
    · rfl
  have settled : (steamSettled k s).boiler.drainPending = s.boiler.drainPending :=
    (withholdSteam_drainPending _ _).trans ((congrArg Boiler.drainPending (stageEntry_boiler _ _)).trans lost)
  rw [stageAnnounced_only]
  exact settled

theorem stageEntered_drainPending (k : Nat) (s : State) :
    (stageEntered k false s).boiler.drainPending = s.boiler.drainPending := by
  have probed : ∀ t : State, (followProbe t).boiler = t.boiler := fun t => by rw [(followProbe_runOnly t).only]
  have caused : (causesEntered k false s).boiler.drainPending = s.boiler.drainPending :=
    (followWater_drainPending _).trans
      ((congrArg Boiler.drainPending (probed _)).trans (stageAnnounced_drainPending k s))
  refine Eq.trans ?_ caused
  refine enterBurst_cases (P := fun t => t.boiler.drainPending = _) (causesEntered k false s) rfl (fun _ => rfl) fun ml => ?_
  rw [followWater_drainPending, requestBurst_only]

/-! ## Stages that end one after the other (R142) -/

/-- The run is in the same stage or a later one, with the same loss of steam. -/
structure Advances (s t : State) : Prop where
  index : s.ret.run.stageIndex ≤ t.ret.run.stageIndex
  lost : t.ret.run.steamLost = s.ret.run.steamLost
  drain : t.boiler.drainPending = s.boiler.drainPending

theorem Advances.trans (h : Advances s t) (h' : Advances t u) : Advances s u :=
  ⟨h.index.trans h'.index, h'.lost.trans h.lost, h'.drain.trans h.drain⟩

theorem stageEntered_lost (k : Nat) (s : State) : (stageEntered k false s).ret.run.steamLost = s.ret.run.steamLost := by
  obtain ⟨-, -, -, st, w, x, d, n, m, run, -⟩ := lossTaken_facts k s
  have stays : StageStays .stageStarted (stageAnnounced k s) (stageEntered k false s) :=
    stageEntered_stays rfl (by decide)
  rw [stays.field RunContext.steamLost, (stageAnnounced_units k s).1, run]
  rfl

/-- The next stage has been entered, or the run has ended. -/
theorem entryAfter_advances (s : State) :
    ((entryAfter s).2 = false ∧ (entryAfter s).1.ret.run.state = .idle) ∨
      (Advances s (entryAfter s).1 ∧ s.ret.run.stageIndex < (entryAfter s).1.ret.run.stageIndex) := by
  unfold entryAfter
  rcases enterStage_outcome (s.ret.run.stageIndex + 1) false (closeStage s) with entered | ⟨f, v, abandoned⟩
  · rw [entered]
    dsimp only
    obtain ⟨-, -, index, -⟩ := stageEntered_run (s.ret.run.stageIndex + 1) false (closeStage s)
    obtain ⟨-, st, n, m, run⟩ := closeStage_run s
    have later : s.ret.run.stageIndex < (stageEntered (s.ret.run.stageIndex + 1) false (closeStage s)).ret.run.stageIndex := by
      rw [index]
      exact Nat.lt_succ_self _
    have lost := stageEntered_lost (s.ret.run.stageIndex + 1) (closeStage s)
    have drain := stageEntered_drainPending (s.ret.run.stageIndex + 1) (closeStage s)
    rw [run] at lost
    rw [closeStage_drainPending] at drain
    exact .inr ⟨⟨later.le, lost, drain⟩, later⟩
  · rw [abandoned]
    exact .inl ⟨rfl, (endRun_ended .fault (some f) v).idle⟩

theorem endStages_later (n : Nat)
    (onward : ∀ s : State, (endStages n s).ret.run.state = .idle ∨ Advances s (endStages n s)) (s : State) :
    (endStages (n + 1) s).ret.run.state = .idle ∨
      (Advances s (endStages (n + 1) s) ∧ s.ret.run.stageIndex < (endStages (n + 1) s).ret.run.stageIndex) := by
  by_cases following : hasFollowing s
  · rw [endStages_following n following]
    rcases entryAfter_advances s with ⟨abandoned, idle⟩ | ⟨entered, later⟩
    · rw [if_neg fun both => Bool.false_ne_true (abandoned.symm.trans both.1)]
      exact .inl idle
    · split
      · rcases onward (entryAfter s).1 with idle | advances
        · exact .inl idle
        · exact .inr ⟨entered.trans advances, later.trans_le advances.index⟩
      · exact .inr ⟨entered, later⟩
  · rw [endStages_last n following]
    exact .inl (endRun_ended ..).idle

/-- Stages that end lead to a later stage, or to the end of the run. -/
theorem endStages_advances (n : Nat) (s : State) :
    (endStages n s).ret.run.state = .idle ∨ Advances s (endStages n s) := by
  induction n generalizing s with
  | zero => exact .inr ⟨le_rfl, rfl, rfl⟩
  | succ n ih => exact (endStages_later n ih s).imp_right And.left

/-- A run whose stage may be at its end is in it still, or is in a later one, or has ended. -/
theorem checkStageEnd_advances (s : State) :
    checkStageEnd s = s ∨ (checkStageEnd s).ret.run.state = .idle ∨
      (Advances s (checkStageEnd s) ∧ s.ret.run.stageIndex < (checkStageEnd s).ret.run.stageIndex) := by
  unfold checkStageEnd
  split
  · exact .inr (endStages_later 11 (endStages_advances 11) s)
  · exact .inl rfl

/-! ## Steam lost at a resume (R149, R150) -/

/-- The run loses steam, and its stage is degraded where it uses any. -/
def steamTaken (s : State) : State := degradeStage (setRun { s.ret.run with steamLost := true } s)

theorem steamTaken_kept (s : State) : Kept s (steamTaken s) := degradeStage_kept (setRun_kept _ (.refl s))

theorem steamTaken_sequencer (s : State) : SequencerActs s (steamTaken s) := by
  have lost : SequencerActs s (setRun { s.ret.run with steamLost := true } s) := setRun_sequencer rfl
  exact lost.trans (degradeStage_sequencer _)

theorem cancelBurst_idle (free : holdsDose s .ch1 = false) : cancelBurst s = s :=
  if_neg (ne_true_of_eq_false free)

/-- With CH1 free a degraded stage leaves the water unit alone. -/
theorem degradeStage_water (free : holdsDose s .ch1 = false) : (degradeStage s).water = s.water := by
  by_cases degrades : (currentStage s).usesSteam = true ∧ s.ret.run.degraded = false
  · have marked : (stageMarked s).water = s.water := (withholdSteam_acts true _).units.2.2.1
    have still : cancelBurst (stageMarked s) = stageMarked s :=
      cancelBurst_idle ((holdsDose_congr (congrArg (fun w : Water => w.chans.get .ch1) marked)).trans free)
    have dropped : (burstDropped s).water = s.water := by
      unfold burstDropped
      rw [still]
      exact marked
    rw [degradeStage_eq degrades.1 degrades.2, setRun_water, (removeCause_runOnly .water _).only]
    exact dropped
  · rw [degradeStage_same degrades]

/-- What the loss of steam leaves of the run, and the stage that it degrades. -/
theorem steamTaken_facts (s : State) :
    let t := steamTaken s
    t.ret.slots = s.ret.slots ∧ t.climate.state = s.climate.state ∧ t.events.steering = s.events.steering ∧
      (holdsDose s .ch1 = false → t.water = s.water) ∧
      (∃ st w x b a d n m, t.ret.run =
          { s.ret.run with
            state := st, causes := s.ret.run.causes.put .water w, waterTimer := x, degraded := b, degradedAny := a
            deferredBurst := d, steamUsed := n, steamRemainder := m, steamLost := true } ∧
        (s.ret.run.state ≠ .idle → st ≠ .idle) ∧ ((currentStage s).usesSteam = true → b = true)) := by
  dsimp only
  have water : holdsDose s .ch1 = false → (steamTaken s).water = s.water := fun free =>
    degradeStage_water (s := setRun { s.ret.run with steamLost := true } s) free
  by_cases degrades : (currentStage s).usesSteam = true ∧ s.ret.run.degraded = false
  · obtain ⟨slots, climate, steering, st, n, m, run, active⟩ :=
      degradeStage_degrades (s := setRun { s.ret.run with steamLost := true } s) degrades.1 degrades.2
    exact ⟨slots, climate, steering, water, st, false, 0, true, true, none, n, m, run, active, fun _ => rfl⟩
  · have same : steamTaken s = setRun { s.ret.run with steamLost := true } s := degradeStage_same degrades
    rw [same] at water ⊢
    refine ⟨rfl, rfl, rfl, water, s.ret.run.state, s.ret.run.causes.water, s.ret.run.waterTimer, s.ret.run.degraded,
      s.ret.run.degradedAny, s.ret.run.deferredBurst, s.ret.run.steamUsed, s.ret.run.steamRemainder, ?_, id, fun uses => ?_⟩
    · rw [Causes.put_same (c := s.ret.run.causes) (p := .water) (b := s.ret.run.causes.water) rfl]
      rfl
    · exact Bool.eq_true_of_not_eq_false fun fresh => degrades ⟨uses, fresh⟩

end

end Sys2Proof.Machine
end

section
/-! SUPPORT. STARTING_END (R198): the settlement of the run case by case, and the recovery of the descale that follows. -/

namespace Sys2Proof.Machine

section
variable {was : Causes} {d : Option Nat} {k : EventKind} {s t u : State}

/-! ## The regulator at a resume (R24, R27) -/

/-- The regulator has taken the resume write of the run in `s`, by its saved mark and by the door; steam is withheld while
the run of `u` holds WATER or its stage is degraded. -/
def Regulated (s u : State) : Prop :=
  let record := (completeRecord (resumedRecord s)).1
  let w := if s.ret.run.tempReached then WorkingState.hold else .preheat
  u.climate.record = some record ∧ u.climate.iacc = 0 ∧ u.climate.tempReached = s.ret.run.tempReached ∧
    u.climate.moistReached = s.ret.run.moistReached ∧ u.climate.runaway = 0 ∧
    u.climate.runawayArmed = s.ret.run.tempReached ∧
    (s.ret.run.tempReached = false →
      u.climate.direction = if s.meas.cavity ≤ record.setpoint then .up else .down) ∧
    (doorOpen s = true → u.climate.state = .paused ∧ u.climate.returnState = some w ∧ u.climate.relayAsk = false ∧
      u.out.fan.code = 0) ∧
    (doorOpen s = false → u.climate.state = w.state ∧ u.climate.relayAsk = true ∧ u.out.fan.code = record.fanCode) ∧
    (u.ret.run.causes.water = true ∨ u.ret.run.degraded = true → u.climate.steamWithheld = true)

theorem RunGoesOn.regulated (h : RunGoesOn was d s t) (stands : WaterStands t) (off : s.climate.state = .off) :
    Regulated s t := by
  obtain ⟨b, climate⟩ := h.climate
  have withheld : t.ret.run.causes.water = true ∨ t.ret.run.degraded = true → t.climate.steamWithheld = true := fun held => by
    rw [stands.withheld, Bool.or_eq_true]
    exact held
  have written := resumeWrite_off (s := causesDerived was s) (sent := resumedRecord (causesDerived was s))
    (temp := s.ret.run.tempReached) (moist := s.ret.run.moistReached) (door := doorOpen s) off
  obtain ⟨record, iacc, temp, moist, runaway, armed, direction, shut, opened⟩ := written
  unfold Regulated
  dsimp only
  rw [climate] at withheld ⊢
  rw [h.out]
  exact ⟨record, iacc, temp, moist, runaway, armed, direction, shut, opened, withheld⟩

/-- The retained marks, the record and the door are those of another state; the regulator stands as it was written. -/
theorem Regulated.moved {v w : State} (h : Regulated s t) (record : resumedRecord v = resumedRecord s)
    (temp : v.ret.run.tempReached = s.ret.run.tempReached) (moist : v.ret.run.moistReached = s.ret.run.moistReached)
    (meas : v.meas = s.meas) (inputs : v.inputs = s.inputs) (climate : w.climate = t.climate) (out : w.out = t.out)
    (run : w.ret.run = t.ret.run) : Regulated v w := by
  unfold Regulated doorOpen at *
  rw [record, temp, moist, meas, inputs, climate, out, run]
  exact h

/-! ## The resume of a run, by its faults (R150, R151, R160) -/

/-- The run as its resume finds it: RUNNING, and no cause considered yet. -/
def resumeBegun (s : State) : State :=
  setRun { s.ret.run with state := .running, causes := .none } { s with start := { s.start with resumed := true } }

theorem resumeRun_fatal {f : FaultKind} (fatal : fatalFault s = some f) :
    resumeRun s = endRun .fault (some f) (resumeBegun s) := by
  have same : fatalFault (resumeBegun s) = some f := fatal
  unfold resumeBegun at same ⊢
  unfold resumeRun
  dsimp only at same ⊢
  rw [same]

theorem resumeRun_calm (calm : fatalFault s = none) :
    resumeRun s =
      if steamFault s && !s.ret.run.steamLost then
        checkStageEnd (continueRun s.ret.run.causes (steamTaken (resumeBegun s)))
      else continueRun s.ret.run.causes (resumeBegun s) := by
  have same : fatalFault (resumeBegun s) = none := calm
  unfold resumeBegun at same ⊢
  unfold resumeRun
  dsimp only at same ⊢
  rw [same]
  rfl

theorem resumeBegun_settles (s : State) : RunSettles s (resumeBegun s) :=
  ⟨rfl, rfl, .same rfl, fun still => ⟨still.congr rfl, rfl⟩⟩

theorem resumeRun_settles (s : State) : RunSettles s (resumeRun s) := by
  cases fatal : fatalFault s with
  | some f =>
    rw [resumeRun_fatal fatal]
    exact (resumeBegun_settles s).trans (endRun_sequencer _ _ _).settles
  | none =>
    rw [resumeRun_calm fatal]
    split
    · exact (((resumeBegun_settles s).trans (steamTaken_sequencer _).settles).trans (continueRun_settles _ _)).trans
        (checkStageEnd_sequencer _).settles
    · exact (resumeBegun_settles s).trans (continueRun_settles _ _)

theorem resumeRun_kept (s : State) : Kept (resumeBegun s) (resumeRun s) := by
  cases fatal : fatalFault s with
  | some f =>
    rw [resumeRun_fatal fatal]
    exact endRun_kept _ _ (.refl _)
  | none =>
    rw [resumeRun_calm fatal]
    split
    · exact checkStageEnd_kept ((steamTaken_kept _).trans (continueRun_kept _ _))
    · exact continueRun_kept _ _

/-! ## The settlement of the run (R159, R160) -/

theorem mayResume_iff (s : State) :
    mayResume s = true ↔
      s.start.outage ≤ s.settings.resumeLimit ∧ (s.ret.slots.get s.ret.run.slot).state = .inUse ∧
        (s.ret.slots.get s.ret.run.slot).generation = s.ret.run.generation ∧ s.marker = false := by
  unfold mayResume
  simp [and_assoc]

theorem settleRun_lost (cold : s.start.retentionValid = false) : settleRun s = settleLost s := if_pos cold

section
variable (warm : s.start.retentionValid = true)
include warm

theorem settleRun_idle (idle : s.ret.run.state = .idle) : settleRun s = s := by
  unfold settleRun
  rw [if_neg (ne_false_of_eq_true warm), if_pos idle]

theorem settleRun_resumes (runs : s.ret.run.state ≠ .idle) (may : mayResume s = true) : settleRun s = resumeRun s := by
  unfold settleRun
  rw [if_neg (ne_false_of_eq_true warm), if_neg runs, if_pos may]

theorem settleRun_loses (runs : s.ret.run.state ≠ .idle) (not : ¬mayResume s = true) : settleRun s = losePower s := by
  unfold settleRun
  rw [if_neg (ne_false_of_eq_true warm), if_neg runs, if_neg not]

end

/-- A settlement is none, loses the run, or resumes it. -/
theorem settleRun_cases {P : State → Prop} (s : State) (idle : P s) (lost : P (settleLost s)) (loses : P (losePower s))
    (resumes : mayResume s = true → P (resumeRun s)) : P (settleRun s) := by
  cases valid : s.start.retentionValid with
  | false =>
    rw [settleRun_lost valid]
    exact lost
  | true =>
    by_cases rests : s.ret.run.state = .idle
    · rw [settleRun_idle valid rests]
      exact idle
    · by_cases may : mayResume s = true
      · rw [settleRun_resumes valid rests may]
        exact resumes may
      · rw [settleRun_loses valid rests may]
        exact loses

theorem settleRun_settles (s : State) : RunSettles s (settleRun s) :=
  settleRun_cases s (.refl s) (settleLost_facts s).2.1 (losePower_facts s).2.1 fun _ => resumeRun_settles s

/-- But for the mark of a resume, a settlement leaves alone what no reaction changes. -/
theorem settleRun_kept (s : State) : ∃ b, Kept { s with start := { s.start with resumed := b } } (settleRun s) :=
  settleRun_cases (P := fun t => ∃ b, Kept { s with start := { s.start with resumed := b } } t) s
    ⟨s.start.resumed, .refl s⟩ ⟨s.start.resumed, settleLost_kept (.refl s)⟩ ⟨s.start.resumed, losePower_kept (.refl s)⟩
    fun _ => ⟨true, (setRun_kept _ (.refl _)).trans (resumeRun_kept s)⟩

/-- With the marker set no run resumes. -/
theorem settleRun_marked (marked : s.marker = true) : LosesRun s (settleRun s) :=
  settleRun_cases s ⟨s.ret.run, s.ret.slots, s.ret.lastRun, rfl⟩ (settleLost_facts s).1 (losePower_facts s).1 fun may =>
    absurd ((mayResume_iff s).mp may).2.2.2 (ne_false_of_eq_true marked)

/-! ## The end of the STARTING state (R198) -/

/-- The part is READY; the run and the descale are still to be settled. -/
def readied (s : State) : State := { s with start := { s.start with ready := true } }

theorem endStarting_eq (s : State) : endStarting s = recoverDescale (settleRun (readied s)) := rfl

theorem exec_startingEnd (s : State) :
    exec .startingEnd s = if startingEndDue s then .next (settle (endStarting s)) else .next s := by rfl

theorem startingEndDue_iff (s : State) :
    startingEndDue s = true ↔
      s.start.ready = false ∧ (s.meas.frequency ≠ .undecided ∨ s.meas.frequencyWaitOver = true) ∧
        allCounted s = true ∧ s.boiler.derived = true := by
  unfold startingEndDue
  simp [and_assoc]

theorem allCounted_iff (s : State) :
    allCounted s = true ↔
      s.meas.chans.cavityUpper.count = 10 ∧ s.meas.chans.cavityLower.count = 10 ∧ s.meas.chans.boiler.count = 10 ∧
        s.meas.chans.moisture.count = 10 ∧
        (s.start.straps.probeFitted = true → s.meas.chans.coreA.count = 10 ∧ s.meas.chans.coreB.count = 10 ∧
          s.meas.chans.coreC.count = 10) := by
  unfold allCounted
  cases s.start.straps.probeFitted <;> simp [and_assoc]

section
variable (free : ∀ c : Chan, holdsDose s c = false)
include free

theorem still_readied : Still (readied s) := ⟨not_running_of_free (free .ch1), fun c _ => free c⟩

theorem endStarting_recovers : Recovers (settleRun (readied s)) (endStarting s) :=
  recoverDescale_recovers (((settleRun_settles (readied s)).still (still_readied free)).1.2 .ch0 (by decide))

theorem endStarting_steady :
    Steady { s with start := (endStarting s).start } (endStarting s) ∧ (endStarting s).start.ready = true := by
  obtain ⟨b, kept⟩ := settleRun_kept (readied s)
  have settles : RunSettles { readied s with start := { (readied s).start with resumed := b } } (settleRun (readied s)) :=
    have moved : RunSettles { readied s with start := { (readied s).start with resumed := b } } (readied s) :=
      ⟨rfl, rfl, .same rfl, fun still => ⟨still.congr rfl, rfl⟩⟩
    moved.trans (settleRun_settles (readied s))
  have steady := (kept.steady_of_settles settles).trans (endStarting_recovers free).steady
  have start : (endStarting s).start = { (readied s).start with resumed := b } := steady.2.2.2.2.2.2.2.2.2.1
  rw [start]
  exact ⟨steady, rfl⟩

end

end

end Sys2Proof.Machine
end

section
/-! SUPPORT. What the end of the STARTING state makes of the run and of the descale (R129, R159, R160). -/

namespace Sys2Proof.Machine

section
variable {s : State} (free : ∀ c : Chan, holdsDose s c = false)
include free

/-- What has been raised of the run's events stands once the descale has been recovered. -/
theorem endStarting_raised {k : EventKind} (own : k.ofRecovery = false) (a : Option Byte)
    (raised : RaisedTo k a s (settleRun (readied s))) : RaisedTo k a s (endStarting s) :=
  ((endStarting_recovers free).kinds k own).raised raised

/-- The run, the slots and the last-run record are those that the settlement of the run leaves, and so are the regulator,
the outputs and the start-up; a commit asked for stays so. -/
theorem endStarting_run :
    let t := settleRun (readied s)
    let u := endStarting s
    u.ret.run = t.ret.run ∧ u.ret.slots = t.ret.slots ∧ u.ret.lastRun = t.ret.lastRun ∧ u.climate = t.climate ∧
      u.out = t.out ∧ u.start = t.start ∧ (t.store.asked = true → u.store.asked = true) := by
  have recovers := endStarting_recovers free
  obtain ⟨ret, climate, out, -⟩ := recovers.rest
  refine ⟨by rw [ret], by rw [ret], by rw [ret], climate, out, ?_, recovers.asked⟩
  rw [recovers.units]

/-! ## A run that does not resume (R159, R160) -/

theorem endStarting_lost (cold : s.start.retentionValid = false) :
    let u := endStarting s
    u.ret.run = s.ret.run ∧ u.start.resumed = s.start.resumed ∧
      ∀ o : OpenRun, s.start.summary.opened = some o →
        RaisedTo .programEnded (some (BitVec.ofNat 8 o.stageIndex)) s u ∧ u.store.asked = true ∧
          u.ret.lastRun = some (summaryLastRun s.start.summary.runId o) := by
  dsimp only
  obtain ⟨-, -, kept, same, record⟩ := settleLost_facts (readied s)
  have lost : settleRun (readied s) = settleLost (readied s) := settleRun_lost cold
  obtain ⟨run, -, last, -, -, start, asked⟩ := endStarting_run free
  have raised := endStarting_raised (k := .programEnded) free rfl
  rw [lost] at run last start asked raised
  refine ⟨run.trans same, ?_, fun o opened => ?_⟩
  · rw [start, kept.start]
    rfl
  · obtain ⟨told, asks, recorded⟩ := record o opened
    exact ⟨raised _ told, asked asks, last.trans recorded⟩

variable (warm : s.start.retentionValid = true)
include warm

theorem endStarting_idle (idle : s.ret.run.state = .idle) :
    (endStarting s).ret.run = s.ret.run ∧ (endStarting s).start.resumed = s.start.resumed := by
  have rests : settleRun (readied s) = readied s := settleRun_idle warm idle
  obtain ⟨run, -, -, -, -, start, -⟩ := endStarting_run free
  rw [rests] at run start
  exact ⟨run, by rw [start]; rfl⟩

variable (runs : s.ret.run.state ≠ .idle)
include runs

theorem endStarting_loses (not : ¬mayResume s = true) :
    let u := endStarting s
    u.ret.run.state = .idle ∧ u.start.resumed = s.start.resumed ∧ u.store.asked = true ∧
      u.ret.slots.get s.ret.run.slot = (s.ret.slots.get s.ret.run.slot).release ∧
      RaisedTo .programEnded (some (BitVec.ofNat 8 s.ret.run.stageIndex)) s u ∧
      u.ret.lastRun = some (lastRunOf s.ret.run .powerLoss none) := by
  dsimp only
  obtain ⟨-, -, kept, idle, asks, released, told, recorded⟩ := losePower_facts (readied s)
  have loses : settleRun (readied s) = losePower (readied s) := settleRun_loses warm runs not
  obtain ⟨run, slots, last, -, -, start, asked⟩ := endStarting_run free
  have raised := endStarting_raised (k := .programEnded) free rfl
  rw [loses] at run slots last start asked raised
  refine ⟨by rw [run, idle], ?_, asked asks, by rw [slots]; exact released, raised _ told, last.trans recorded⟩
  rw [start, kept.start]
  rfl

/-! ## A run that resumes (R150, R151, R160) -/

variable (may : mayResume s = true)
include may

theorem endStarting_resumed : (endStarting s).start.resumed = true := by
  obtain ⟨-, -, -, -, -, start, -⟩ := endStarting_run free
  rw [start, settleRun_resumes (s := readied s) warm runs may, (resumeRun_kept (readied s)).start]
  rfl

theorem endStarting_fatal {f : FaultKind} (fatal : fatalFault s = some f)
    (inUse : (s.ret.slots.get s.ret.run.slot).state = .inUse) :
    let u := endStarting s
    u.ret.run.state = .idle ∧ u.store.asked = true ∧ (u.ret.slots.get s.ret.run.slot).state = .loaded ∧
      RaisedTo .programEnded (some (BitVec.ofNat 8 s.ret.run.stageIndex)) s u ∧
      ∃ last, u.ret.lastRun = some last ∧ last.result = .fault ∧ last.fault = some f ∧
        last.runId = s.ret.run.runId ∧ last.finalStage = s.ret.run.stageIndex ∧ last.runTime = s.ret.run.runTime := by
  dsimp only
  have ends : settleRun (readied s) = endRun .fault (some f) (resumeBegun (readied s)) :=
    (settleRun_resumes (s := readied s) warm runs may).trans (resumeRun_fatal fatal)
  obtain ⟨idle, -, last, recorded, result, fault, runId, final⟩ :=
    endRun_ended .fault (some f) (resumeBegun (readied s))
  obtain ⟨asks, released, told, last', recorded', runTime⟩ := endRun_tells .fault (some f) (resumeBegun (readied s))
  obtain ⟨run, slots, lastRun, -, -, -, asked⟩ := endStarting_run free
  have raised := endStarting_raised (k := .programEnded) free rfl
  rw [ends] at run slots lastRun asked raised
  have same : last' = last := Option.some.inj (recorded'.symm.trans recorded)
  refine ⟨by rw [run, idle], asked asks, ?_, raised _ told, last, lastRun.trans recorded, result, fault, runId, final,
    same ▸ runTime⟩
  have slot : (endStarting s).ret.slots.get s.ret.run.slot = (s.ret.slots.get s.ret.run.slot).release := by
    rw [slots, released]
    exact (PerSlot.get_set ..).trans (if_pos rfl)
  rw [slot]
  unfold Slot.release
  rw [if_pos inUse]

end

end Sys2Proof.Machine
end

section
/-! SUPPORT. The recovery of the descale at the end of the STARTING state (R129), and the run that goes on (R160). -/

namespace Sys2Proof.Machine

/-- WATER is wanted alike by two states of the same run that find the same water unit. -/
theorem waterWanting_congr {t u : State} (run : u.ret.run = t.ret.run) (slots : u.ret.slots = t.ret.slots)
    (start : u.start = t.start) (inputs : u.inputs = t.inputs) (water : u.water = t.water) :
    WaterWanting u ↔ WaterWanting t := by
  have chans : ∀ c : Chan, chan u c = chan t c := fun c => congrArg (fun w : Water => w.chans.get c) water
  have stage : currentStage u = currentStage t := by
    unfold currentStage stageAt runStages
    rw [run, slots]
  unfold WaterWanting
  dsimp only
  rw [run, start, stage, holdsDose_congr (chans _), sourceLow_congr inputs]
  simp only [chans]

theorem burstAsked_after {ml : Nat} {s t u : State} (h : BurstAsked ml s t) (water : u.water = t.water)
    (kinds : KindRests .steamDegraded t u) : BurstAsked ml s u := by
  have same : chan u .ch1 = chan t .ch1 := congrArg (fun w : Water => w.chans.get .ch1) water
  obtain ⟨refuses, takes⟩ := h
  refine ⟨fun refused => ?_, fun granted => same.trans (takes granted)⟩
  obtain ⟨rests, raised⟩ := refuses refused
  exact ⟨same.trans rests, kinds.raised raised⟩

section
variable {s : State} (free : ∀ c : Chan, holdsDose s c = false)
include free

/-! ## The descale, by the agent marker (R129) -/

theorem endStarting_agent (marked : s.marker = true) :
    let u := endStarting s
    let d := s.ret.descale
    let drains := s.start.straps.supply = .tank → tankPresent s = true
    u.marker = true ∧
      u.ret.descale =
        { d with
          phase := .drainAgent, step := none, stall := .none, aborted := if rinseCut s then d.aborted else true } ∧
      u.scale = (if soakCut s then creditedScale d s.settings.scaleLimit s.scale else s.scale) ∧
      (soakCut s = true → u.store.asked = true) ∧
      (drains → u.work.drain = false ∧ u.boiler.drainPending = false ∧
        u.boiler.state = (if s.boiler.state = .dryFault then .dryFault else .draining) ∧
        chan u .ch3 = drainLoad .descale s) ∧
      (¬drains → u.work.drain = true ∧ chan u .ch3 = chan s .ch3) := by
  dsimp only
  obtain ⟨run, slots, last, lost⟩ := settleRun_marked (s := readied s) marked
  have recovers := endStarting_recovers free
  rw [endStarting_eq] at recovers ⊢
  generalize settleRun (readied s) = t at lost recovers ⊢
  have marker : t.marker = true := by
    rw [lost]
    exact marked
  have agent : recoverDescale t = recoverAgent t := if_pos marker
  have chans : ∀ c : Chan, chan t c = chan s c := fun c => by
    rw [lost]
    rfl
  have units : t.ret.descale = s.ret.descale ∧ t.scale = s.scale ∧ t.settings = s.settings ∧ t.boiler = s.boiler ∧
      t.out = s.out ∧ t.inputs = s.inputs ∧ t.start = (readied s).start := by
    rw [lost]
    exact ⟨rfl, rfl, rfl, rfl, rfl, rfl, rfl⟩
  obtain ⟨descale, scale, settings, boiler, out, inputs, start⟩ := units
  have soaked : soakCut t = soakCut s := by
    unfold soakCut
    rw [start, descale]
    rfl
  have rinsed : rinseCut t = rinseCut s := by
    unfold rinseCut
    rw [start, descale]
    rfl
  have facts := recoverAgent_facts (s := t) fun c => (holdsDose_congr (chans c)).trans (free c)
  unfold tankPresent at facts ⊢
  dsimp only at facts
  rw [descale, scale, settings, boiler, inputs, start, soaked, rinsed, chans, drainLoad_congr out] at facts
  refine ⟨(recovers.rest.2.2.2).trans marker, ?_⟩
  rw [agent]
  exact facts

/-- With the marker clear the recovery leaves the account, the water unit and the boiler as the settlement of the run leaves
them, and DESCALE_ENDED is not raised. -/
theorem endStarting_clean (unmarked : s.marker = false) :
    let u := endStarting s
    let d := s.ret.descale
    u.marker = false ∧ u.ret.descale.phase = .idle ∧ u.scale = s.scale ∧ (d.phase = .idle → u.ret.descale = d) ∧
      (d.phase ≠ .idle → u.ret.descale.result = .aborted) ∧
      (∀ (l : Link) (e : Entry), e ∈ u.events.queues.get l → e.kind = .descaleEnded → e ∈ s.events.queues.get l) ∧
      u.water = (settleRun (readied s)).water ∧ u.boiler = (settleRun (readied s)).boiler := by
  dsimp only
  have settles := settleRun_settles (readied s)
  obtain ⟨still, scale⟩ := settles.still (still_readied free)
  have aside := settles.aside
  have recovers := endStarting_recovers free
  have ended := settles.ended.trans (recovers.kinds .descaleEnded rfl)
  have marker : (settleRun (readied s)).marker = false := (congrArg Aside.marker aside).trans unmarked
  have record : (settleRun (readied s)).ret.descale = s.ret.descale := congrArg Aside.descale aside
  have clean : endStarting s = recoverClean (settleRun (readied s)) := if_neg (ne_true_of_eq_false marker)
  obtain ⟨-, water, boiler, account, phase, idle, descales⟩ :=
    recoverClean_facts (s := settleRun (readied s)) (still.2 .ch0 (by decide))
  rw [record] at idle descales
  have same := recovers.rest.2.2.2
  rw [clean] at same ended ⊢
  exact ⟨same.trans marker, phase, account.trans scale, idle, descales,
    fun l e member kind => (ended.mem_iff kind).mp member, water, boiler⟩

variable (warm : s.start.retentionValid = true) (runs : s.ret.run.state ≠ .idle) (may : mayResume s = true)
include warm runs may

/-! ## The run that goes on (R160) -/

/-- A run whose resume finds no fault to act on goes on, and the units as the resume leaves them. -/
theorem endStarting_continues (calm : fatalFault s = none)
    (steams : steamFault s = false ∨ s.ret.run.steamLost = true) :
    let r := s.ret.run
    let u := endStarting s
    let st := currentStage s
    let source := if s.start.straps.supply = .tank then Source.tank else .inlet
    let dry := (st.mode = .steam ∨ st.mode = .combi ∨ st.mode = .proof) ∧ r.degraded = false ∧ sourceLow source s = true
    u.ret.run.state ≠ .idle ∧ u.ret.run.runId = r.runId ∧
      u.ret.run.stageIndex = r.stageIndex ∧ u.ret.run.elapsed = r.elapsed ∧
      u.ret.run.duration = r.duration ∧ u.ret.run.runTime = r.runTime ∧
      (u.ret.run.causes.door = true ↔ doorOpen s = true) ∧
      (u.ret.run.causes.mains = true ↔ s.meas.mainsPresent = false) ∧
      (u.ret.run.causes.probe = true ↔ st.ending = .core ∧ s.meas.probePresent = false) ∧
      (u.ret.run.causes.water = true ↔ WaterWanting u) ∧
      u.ret.run =
        { r with
          state := if u.ret.run.causes = Causes.none then .running else .paused
          causes := u.ret.run.causes
          doorTimer := if r.causes.door = true ∧ doorOpen s = true then r.doorTimer else 0
          waterTimer := if r.causes.water = true ∧ dry then r.waterTimer else 0
          deferredBurst := if doorOpen s = true then r.deferredBurst else none } ∧
      RaisedTo .resumedAfterDip (stageArg s) s u ∧
      (u.ret.run.causes ≠ Causes.none → RaisedTo .programPaused (stageArg s) s u) ∧
      (st.ending = .confirm → RaisedTo .confirmAwaited (stageArg s) s u) ∧
      (∀ ml : Nat, r.deferredBurst = some ml → doorOpen s = false → BurstAsked ml s u) ∧
      (programUsesSteam (runStages s) = true → u.boiler.drainPending = false) ∧
      (s.climate.state = .off → Regulated s u) := by
  dsimp only
  have active : runActive (resumeBegun (readied s)) = true := (runActive_iff _).mpr ⟨rfl, nofun⟩
  have idle : ∀ c : Chan, holdsDose (resumeBegun (readied s)) c = false := free
  obtain ⟨goes, stands, asks⟩ := continueRun_goesOn (was := s.ret.run.causes) active idle
  have settled : settleRun (readied s) = continueRun s.ret.run.causes (resumeBegun (readied s)) := by
    have fresh : ¬(steamFault (readied s) && !(readied s).ret.run.steamLost) = true := fun both => by
      obtain ⟨faulty, kept⟩ := Bool.and_eq_true_iff.mp both
      rcases steams with clear | lost
      · exact Bool.false_ne_true (clear.symm.trans faulty)
      · exact Bool.false_ne_true ((Bool.not_eq_true' _).mp kept |>.symm.trans lost)
    rw [settleRun_resumes (s := readied s) warm runs may, resumeRun_calm (s := readied s) calm, if_neg fresh]
    rfl
  have unmarked : s.marker = false := ((mayResume_iff s).mp may).2.2.2
  have kept := continueRun_kept s.ret.run.causes (resumeBegun (readied s))
  obtain ⟨run, slots, -, climate, out, start, -⟩ := endStarting_run free
  obtain ⟨-, -, -, -, -, -, water, boiler⟩ := endStarting_clean free unmarked
  have inputs : (endStarting s).inputs = s.inputs := (endStarting_steady free).1.2.2.2.2.2.1
  have raised : ∀ k : EventKind, k.ofRecovery = false → ∀ a : Option Byte, RaisedTo k a s (settleRun (readied s)) →
      RaisedTo k a s (endStarting s) := fun _ own => endStarting_raised free own
  have kinds := (endStarting_recovers free).kinds .steamDegraded rfl
  rw [settled] at run slots climate out start water boiler raised kinds
  generalize continueRun s.ret.run.causes (resumeBegun (readied s)) = t at *
  generalize endStarting s = u at *
  have wanting := waterWanting_congr run slots start (inputs.trans kept.inputs.symm) water
  have wet : waterConditionHolds (resumeBegun (readied s)) = true ↔
      ((currentStage s).mode = .steam ∨ (currentStage s).mode = .combi ∨ (currentStage s).mode = .proof) ∧
        s.ret.run.degraded = false ∧
        sourceLow (if s.start.straps.supply = .tank then Source.tank else .inlet) s = true :=
    (waterConditionHolds_iff active).trans ((waterWanting_free idle).trans and_assoc)
  have doorStays : (s.ret.run.causes.door && doorOpen s) = true ↔ s.ret.run.causes.door = true ∧ doorOpen s = true :=
    Bool.and_eq_true_iff
  have waterStays : (s.ret.run.causes.water && waterConditionHolds (resumeBegun (readied s))) = true ↔
      s.ret.run.causes.water = true ∧
        ((currentStage s).mode = .steam ∨ (currentStage s).mode = .combi ∨ (currentStage s).mode = .proof) ∧
        s.ret.run.degraded = false ∧
        sourceLow (if s.start.straps.supply = .tank then Source.tank else .inlet) s = true :=
    Bool.and_eq_true_iff.trans (and_congr_right fun _ => wet)
  have context := goes.run
  have goesOn : runActive t = true := (runActive_iff _).mpr
    ⟨by rw [kept.start]; rfl, by rw [context]; exact runState_ite (by decide) (by decide)⟩
  have fresh := goes.causes
  rw [run]
  refine ⟨?_, ?_, ?_, ?_, ?_, ?_, ?_, ?_, ?_, ?_, ?_, raised _ rfl _ goes.raised.resumed, fun causes =>
    raised _ rfl _ (goes.raised.paused causes), fun confirm => raised _ rfl _ (goes.raised.awaits confirm),
    fun ml waits shut => burstAsked_after (asks ml waits shut) water kinds, fun uses => ?_, fun off => ?_⟩
  · rw [context]
    exact runState_ite (by decide) (by decide)
  · rw [context]
    rfl
  · rw [context]
    rfl
  · rw [context]
    rfl
  · rw [context]
    rfl
  · rw [context]
    rfl
  · rw [fresh]
    rfl
  · rw [fresh]
    exact iff_of_eq (Bool.not_eq_true' s.meas.mainsPresent)
  · rw [fresh]
    show (decide ((currentStage s).ending = .core) && !s.meas.probePresent) = true ↔ _
    rw [Bool.and_eq_true, decide_eq_true_eq, Bool.not_eq_true']
  · rw [wanting, ← waterConditionHolds_iff goesOn, stands.holds]
  · refine context.trans ?_
    rw [← if_congr doorStays rfl rfl, ← if_congr waterStays rfl rfl]
    rfl
  · rw [boiler]
    exact goes.drain uses
  · exact (goes.regulated stands off).moved rfl rfl rfl rfl rfl climate out run

/-- A run whose resume finds a water or boiler fault loses steam: its stage is degraded and written so, or, at its end by
that, followed by a later one or by the end of the run. -/
theorem endStarting_degrades (calm : fatalFault s = none) (faulty : steamFault s = true)
    (steams : s.ret.run.steamLost = false) :
    let r := s.ret.run
    let u := endStarting s
    u.ret.run.runId = r.runId ∧ RaisedTo .resumedAfterDip (stageArg s) s u ∧
      (u.ret.run.state ≠ .idle → programUsesSteam (runStages s) = true → u.boiler.drainPending = false) ∧
      (u.ret.run.state = .idle ∨
        (u.ret.run.steamLost = true ∧ (u.ret.run.stageIndex = r.stageIndex →
          ((currentStage s).usesSteam = true → u.ret.run.degraded = true) ∧
            (s.climate.state = .off → Regulated s u)))) := by
  dsimp only
  have settled : settleRun (readied s) =
      checkStageEnd (continueRun s.ret.run.causes (steamTaken (resumeBegun (readied s)))) := by
    have fresh : (steamFault (readied s) && !(readied s).ret.run.steamLost) = true :=
      Bool.and_eq_true_iff.mpr ⟨faulty, (Bool.not_eq_true' _).mpr steams⟩
    rw [settleRun_resumes (s := readied s) warm runs may, resumeRun_calm (s := readied s) calm, if_pos fresh]
    rfl
  obtain ⟨slots, climateState, steering, water, st, w, x, degraded, a, d, n, m, begun, active, degrades⟩ :=
    steamTaken_facts (resumeBegun (readied s))
  have taken := steamTaken_kept (resumeBegun (readied s))
  have sameWater := water (free .ch1)
  have runId : (settleRun (readied s)).ret.run.runId = s.ret.run.runId :=
    congrArg Aside.runId (settleRun_settles (readied s)).aside
  generalize steamTaken (resumeBegun (readied s)) = y at *
  have runsOn : runActive y = true :=
    (runActive_iff y).mpr ⟨by rw [taken.start]; rfl, by rw [begun]; exact active nofun⟩
  have idle : ∀ c : Chan, holdsDose y c = false := fun c =>
    (holdsDose_congr (congrArg (fun w : Water => w.chans.get c) sameWater)).trans (free c)
  obtain ⟨goes, stands, -⟩ := continueRun_goesOn (was := s.ret.run.causes) runsOn idle
  have stages : runStages y = runStages s := by
    unfold runStages
    rw [slots, begun]
    rfl
  have stage : currentStage y = currentStage s := by
    unfold currentStage stageAt
    rw [stages, begun]
    rfl
  have arg : stageArg y = stageArg s := by
    unfold stageArg
    rw [begun]
    rfl
  have record : resumedRecord s = resumedRecord y := by
    unfold resumedRecord stageRecord
    rw [stage, begun]
    rfl
  have told : RaisedTo .resumedAfterDip (stageArg s) s (continueRun s.ret.run.causes y) :=
    arg ▸ goes.raised.resumed.from steering
  generalize continueRun s.ret.run.causes y = z at *
  have last : RaisedTo .resumedAfterDip (stageArg s) s (checkStageEnd z) :=
    ((checkStageEnd_sequencer z).events.kinds .resumedAfterDip rfl).raised told
  have advances := checkStageEnd_advances z
  have unmarked : s.marker = false := ((mayResume_iff s).mp may).2.2.2
  obtain ⟨run, -, -, climate, out, -, -⟩ := endStarting_run free
  obtain ⟨-, -, -, -, -, -, -, boiler⟩ := endStarting_clean free unmarked
  have raised := endStarting_raised (s := s) free (k := .resumedAfterDip) rfl (stageArg s)
  rw [settled] at run climate out boiler raised runId
  have drained : programUsesSteam (runStages s) = true → z.boiler.drainPending = false := stages ▸ goes.drain
  have context := goes.run
  have lost : z.ret.run.steamLost = true := by rw [context, begun]
  have index : z.ret.run.stageIndex = s.ret.run.stageIndex := by
    rw [context, begun]
    rfl
  rw [run, boiler]
  refine ⟨runId, raised last, ?_⟩
  rcases advances with same | ended | ⟨onward, later⟩
  · rw [same] at climate out run ⊢
    refine ⟨fun _ => drained, .inr ⟨lost, fun _ => ⟨fun uses => ?_, fun off => ?_⟩⟩⟩
    · rw [context, begun]
      exact degrades uses
    · have regulated := goes.regulated stands (climateState.trans off)
      exact regulated.moved record (by rw [begun]; rfl) (by rw [begun]; rfl) taken.meas.symm taken.inputs.symm climate out run
  · exact ⟨fun awake => absurd ended awake, .inl ended⟩
  · refine ⟨fun _ uses => onward.drain.trans (drained uses), .inr ⟨onward.lost.trans lost, fun same => ?_⟩⟩
    rw [index, same] at later
    exact absurd later (lt_irrefl _)

end

end Sys2Proof.Machine
end

section
/-! SUPPORT. STARTING_END as a whole (R198). -/

namespace Sys2Proof.Machine

/-- A credited account, with its level, is the deposit after the fall and the carry as it was. -/
theorem creditedScale_facts (d : Descale) (limit : Nat) (a : ScaleAccount) :
    (creditedScale d limit a).carry = a.carry ∧
      (creditedScale d limit a).deposit = a.deposit - a.deposit * d.elapsed / d.total ∧
      (creditedScale d limit a).level = levelOf (creditedScale d limit a).deposit limit := ⟨rfl, rfl, rfl⟩

/-- Settles O60: the part is READY once the run is settled and the descale recovered (`endStarting`). The run is lost
(`endStarting_lost`, `endStarting_loses`), ended by a fatal fault (`endStarting_fatal`), resumed without steam
(`endStarting_degrades`) or resumed (`endStarting_continues`); the descale follows the agent marker (`endStarting_agent`,
`endStarting_clean`). -/
theorem startingEnds : Obligations.StartingEnds := by
  refine ⟨fun s => ?_, fun s idle => ?_, fun s asleep frequency counted derived free => ?_⟩
  · dsimp only
    rw [startingEndDue_iff, allCounted_iff]
    tauto
  · rw [exec_startingEnd, if_neg (ne_true_of_eq_false idle)]
  have due : startingEndDue s = true := (startingEndDue_iff s).mpr ⟨asleep, frequency, counted, derived⟩
  obtain ⟨steady, ready⟩ := endStarting_steady free
  refine ⟨endStarting s, (exec_startingEnd s).trans (if_pos due), steady, ready, endStarting_lost free,
    endStarting_idle free, fun warm runs => ⟨?fatal, ?degrades, ?continues, ?loses⟩, ?agent, ?clean⟩
  case fatal =>
    intro resumes f fatal
    have may := (mayResume_iff s).mpr resumes
    exact ⟨endStarting_resumed free warm runs may, endStarting_fatal free warm runs may fatal resumes.2.1⟩
  case degrades =>
    intro resumes calm faulty steams
    have may := (mayResume_iff s).mpr resumes
    exact ⟨endStarting_resumed free warm runs may, endStarting_degrades free warm runs may calm faulty steams⟩
  case continues =>
    intro resumes calm steams
    have may := (mayResume_iff s).mpr resumes
    exact ⟨endStarting_resumed free warm runs may, endStarting_continues free warm runs may calm steams⟩
  case loses =>
    intro stays
    obtain ⟨idle, resumed, asked, released, told, recorded⟩ :=
      endStarting_loses free warm runs (mt (mayResume_iff s).mp stays)
    exact ⟨idle, resumed, asked, fun inUse => released.trans (if_pos inUse), told, recorded⟩
  case agent =>
    intro marked
    obtain ⟨marker, descale, scale, asked, loads, waits⟩ := endStarting_agent free marked
    simp only [soakCut_iff, rinseCut_iff] at descale scale asked
    refine ⟨marker, descale, fun soaks => ?_, fun unsoaked => scale.trans (if_neg unsoaked), loads, waits⟩
    rw [scale, if_pos soaks]
    exact ⟨asked soaks, creditedScale_facts ..⟩
  case clean =>
    intro unmarked
    obtain ⟨marker, phase, scale, idle, descales, ended, -⟩ := endStarting_clean free unmarked
    exact ⟨marker, phase, scale, idle, descales, ended⟩

end Sys2Proof.Machine
end

section
/-! SUPPORT. Every command completes, and every step keeps the queues, the fault set, the path, the doses and the run
sound: the rows' laws, put together once. -/

namespace Sys2Proof.Machine

/-- What a command answers keeps what was sound. -/
theorem exec_sound (c : Instr) (s : State) : SoundNext s (exec c s) := by
  have h := Sound.refl s
  cases c with
  | reset cause => exact execReset_sound cause
  | samplePeriod raw => exact execSamplePeriod_sound raw h
  | tachoEdge => exact execTachoEdge_sound h
  | tachoTimeout => exact execTachoTimeout_sound h
  | zeroCross => exact execZeroCross_sound h
  | allocationEnd => exact execAllocationEnd_sound h
  | heatUpCountExpiry => exact execHeatUpCountExpiry_sound h
  | zeroCrossGroupTimeout => exact execZeroCrossGroupTimeout_sound h
  | frequencyTimeout => exact execFrequencyTimeout_sound h
  | mainsLost => exact execMainsLost_sound h
  | flowPulse => exact execFlowPulse_sound h
  | settleEnd => exact execSettleEnd_sound h
  | noFlow => exact execNoFlow_sound h
  | drainTerminalCount => exact execDrainTerminalCount_sound h
  | boilerFill => exact execBoilerFill_sound h
  | topUp => exact execTopUp_sound h
  | boilerDrainStart => exact execBoilerDrainStart_sound h
  | relayChangeStart r => exact execRelayChangeStart_sound r h
  | relayContactEnd r => exact execRelayContactEnd_sound r h
  | relayRecoveryEnd r => exact execRelayRecoveryEnd_sound r h
  | fanTick => exact execFanTick_sound h
  | fanStall => exact execFanStall_sound h
  | reversalTimerExpiry => exact execReversalTimerExpiry_sound h
  | slowTimerExpiry => exact execSlowTimerExpiry_sound h
  | ventStuck => exact execVentStuck_sound h
  | lampOneShotExpiry => exact execLampOneShotExpiry_sound h
  | forceExpiry o => exact execForceExpiry_sound o h
  | pulseEnd => exact execPulseEnd_sound h
  | soakEnd => exact execSoakEnd_sound h
  | descaleDoseLoad => exact execDescaleDoseLoad_sound h
  | descaleDrainLoad => exact execDescaleDrainLoad_sound h
  | sequencerTick => exact execSequencerTick_sound h
  | stageTimeEnd => exact execStageTimeEnd_sound h
  | doorTimeout => exact execDoorTimeout_sound h
  | waterTimeout => exact execWaterTimeout_sound h
  | inputChange n => exact execInputChange_sound n h
  | serviceSilenceTimeout => exact execServiceSilenceTimeout_sound h
  | commitEnd good => exact execCommitEnd_sound good h
  | startingEnd => exact execStartingEnd_sound h
  | frameGapTimeout l => exact execFrameGapTimeout_sound l h
  | badFrame l defect => exact execBadFrame_sound l defect h
  | frameStartWhileBusy f => exact execFrameStartWhileBusy_sound f h
  | discardMarkClear l => exact execDiscardMarkClear_sound l h
  | replySent l => exact execReplySent_sound l h
  | unknownCommand l code fields => exact execUnknownCommand_sound l code fields h
  | getStatus l fields => exact execGetStatus_sound l fields h
  | getSnapshot l fields => exact execGetSnapshot_sound l fields h
  | fetchEvents l fields => exact execFetchEvents_sound l fields h
  | getLastRun l fields => exact execGetLastRun_sound l fields h
  | readSlot l fields => exact execReadSlot_sound l fields h
  | readSetting l fields => exact execReadSetting_sound l fields h
  | readScale l fields => exact execReadScale_sound l fields h
  | loadProgram l fields => exact execLoadProgram_sound l fields h
  | clearSlot l fields => exact execClearSlot_sound l fields h
  | start l fields => exact execStart_sound l fields h
  | stop l fields => exact execStop_sound l fields h
  | adjust l fields => exact execAdjust_sound l fields h
  | skipStage l fields => exact execSkipStage_sound l fields h
  | confirm l fields => exact execConfirm_sound l fields h
  | inject l fields => exact execInject_sound l fields h
  | descaleStart l fields => exact execDescaleStart_sound l fields h
  | descaleConfirm l fields => exact execDescaleConfirm_sound l fields h
  | descaleAbort l fields => exact execDescaleAbort_sound l fields h
  | writeSetting l fields => exact execWriteSetting_sound l fields h
  | setLock l fields => exact execSetLock_sound l fields h
  | serviceUnlock l fields => exact execServiceUnlock_sound l fields h
  | serviceLock l fields => exact execServiceLock_sound l fields h
  | setSteering l fields => exact execSetSteering_sound l fields h
  | clearFaults l fields => exact execClearFaults_sound l fields h
  | lamp l fields => exact execLamp_sound l fields h
  | scaleReset l fields => exact execScaleReset_sound l fields h
  | forceOutput l fields => exact execForceOutput_sound l fields h
  | pulseOutput l fields => exact execPulseOutput_sound l fields h
  | frameStart f => exact execFrameStart_sound f h
  | rawLevelChange n level => exact execRawLevelChange_sound n level h

/-- An outcome is a next state. -/
def Completes (o : Host.Outcome State Fault Refusal) : Prop := ∃ t, o = .next t

theorem completes_next (t : State) : Completes (.next t) := ⟨t, rfl⟩

/-- A row that does its effect where it is due, and nothing where it is not. -/
theorem completes_ite {b : Prop} [Decidable b] (t u : State) : Completes (if b then .next t else .next u) := by
  split <;> exact completes_next _

/-- A frame of the catalogue is answered or discarded. -/
theorem onFrame_completes (l : Link) (code : Byte) (own : State → Reply × State) (s : State) :
    Completes (onFrame l code own s) := completes_ite _ _

theorem execNoFlow_completes (s : State) : Completes (execNoFlow s) := by
  unfold execNoFlow
  split
  · exact completes_ite _ _
  · exact completes_next _

theorem execDrainTerminalCount_completes (s : State) : Completes (execDrainTerminalCount s) := by
  unfold execDrainTerminalCount
  split
  · exact completes_ite _ _
  · exact completes_next _

theorem execCommitEnd_completes (good : Bool) (s : State) : Completes (execCommitEnd good s) := by
  unfold execCommitEnd
  split <;> exact completes_next _

/-- Every step keeps what was sound. -/
theorem step_sound {s t : State} (h : step s = .next t) : Sound s t := by
  unfold step at h
  split at h
  · exact (Sound.refl s).with_pending.trans (exec_sound _ _ t h)
  · cases h
    exact tick_sound (Sound.refl s)

end Sys2Proof.Machine

open Sys2Proof Sys2Proof.Machine

/-- Settles O6. -/
theorem queuesAndFaultsStaySound : Obligations.QueuesAndFaultsStaySound :=
  ⟨fun _ _ hs h => (step_sound h).queues hs, fun _ _ hs h => (step_sound h).faults hs⟩

/-- Settles O7. -/
theorem pathAndDosesStaySound : Obligations.PathAndDosesStaySound :=
  ⟨fun _ _ hs h => (step_sound h).path hs, fun _ _ hs h => (step_sound h).doses hs⟩

/-- Settles O8. -/
theorem runStaysSound : Obligations.RunStaysSound := fun _ _ hs h => (step_sound h).run hs

/-- Settles O1. -/
theorem stepTakesTheFront : Obligations.StepTakesTheFront := fun _ _ _ => rfl

/-- Settles O3: a row answers a next state where it is due and where it is not, and a link command one that answers its
frame or one that discards it. -/
theorem everyCommandCompletes : Obligations.EveryCommandCompletes := by
  unfold Obligations.EveryCommandCompletes
  intro c s
  cases c with
  | reset _ => exact completes_next _
  | samplePeriod _ => exact completes_ite ..
  | tachoEdge => exact completes_ite ..
  | tachoTimeout => exact completes_ite ..
  | zeroCross => exact completes_ite ..
  | allocationEnd => exact completes_next _
  | heatUpCountExpiry => exact completes_ite ..
  | zeroCrossGroupTimeout => exact completes_ite ..
  | frequencyTimeout => exact completes_ite ..
  | mainsLost => exact completes_ite ..
  | flowPulse => exact completes_ite ..
  | settleEnd => exact completes_ite ..
  | noFlow => exact execNoFlow_completes s
  | drainTerminalCount => exact execDrainTerminalCount_completes s
  | boilerFill => exact completes_ite ..
  | topUp => exact completes_ite ..
  | boilerDrainStart => exact completes_ite ..
  | relayChangeStart _ => exact completes_ite ..
  | relayContactEnd _ => exact completes_ite ..
  | relayRecoveryEnd _ => exact completes_ite ..
  | fanTick => exact completes_ite ..
  | fanStall => exact completes_ite ..
  | reversalTimerExpiry => exact completes_ite ..
  | slowTimerExpiry => exact completes_ite ..
  | ventStuck => exact completes_ite ..
  | lampOneShotExpiry => exact completes_ite ..
  | forceExpiry _ => exact completes_ite ..
  | pulseEnd => exact completes_ite ..
  | soakEnd => exact completes_ite ..
  | descaleDoseLoad => exact completes_ite ..
  | descaleDrainLoad => exact completes_ite ..
  | sequencerTick => exact completes_ite ..
  | stageTimeEnd => exact completes_ite ..
  | doorTimeout => exact completes_ite ..
  | waterTimeout => exact completes_ite ..
  | inputChange _ => exact completes_ite ..
  | serviceSilenceTimeout => exact completes_ite ..
  | commitEnd _ => exact execCommitEnd_completes ..
  | startingEnd => exact completes_ite ..
  | frameGapTimeout _ => exact completes_ite ..
  | badFrame _ _ => exact completes_next _
  | frameStartWhileBusy _ => exact completes_next _
  | discardMarkClear _ => exact completes_ite ..
  | replySent _ => exact completes_ite ..
  | unknownCommand l code => exact onFrame_completes l code _ s
  | getStatus l => exact onFrame_completes l 0x01 _ s
  | getSnapshot l => exact onFrame_completes l 0x02 _ s
  | fetchEvents => unfold exec execFetchEvents; exact onFrame_completes ..
  | getLastRun l => exact onFrame_completes l 0x04 _ s
  | readSlot => unfold exec execReadSlot; exact onFrame_completes ..
  | readSetting => unfold exec execReadSetting; exact onFrame_completes ..
  | readScale l => exact onFrame_completes l 0x07 _ s
  | loadProgram => unfold exec execLoadProgram; exact onFrame_completes ..
  | clearSlot => unfold exec execClearSlot; exact onFrame_completes ..
  | start => unfold exec execStart; exact onFrame_completes ..
  | stop l => exact onFrame_completes l 0x13 _ s
  | adjust => unfold exec execAdjust; exact onFrame_completes ..
  | skipStage => unfold exec execSkipStage; exact onFrame_completes ..
  | confirm => unfold exec execConfirm; exact onFrame_completes ..
  | inject => unfold exec execInject; exact onFrame_completes ..
  | descaleStart l => exact onFrame_completes l 0x20 _ s
  | descaleConfirm => unfold exec execDescaleConfirm; exact onFrame_completes ..
  | descaleAbort l => exact onFrame_completes l 0x22 _ s
  | writeSetting => unfold exec execWriteSetting; exact onFrame_completes ..
  | setLock => unfold exec execSetLock; exact onFrame_completes ..
  | serviceUnlock l => exact onFrame_completes l 0x32 _ s
  | serviceLock l => exact onFrame_completes l 0x33 _ s
  | setSteering => unfold exec execSetSteering; exact onFrame_completes ..
  | clearFaults l => exact onFrame_completes l 0x35 _ s
  | lamp => unfold exec execLamp; exact onFrame_completes ..
  | scaleReset l => exact onFrame_completes l 0x40 _ s
  | forceOutput => unfold exec execForceOutput; exact onFrame_completes ..
  | pulseOutput => unfold exec execPulseOutput; exact onFrame_completes ..
  | frameStart _ => exact completes_next _
  | rawLevelChange _ _ => exact completes_next _

end

section
/-! SUPPORT. The allocation (R51 to R55): what a search finds, the profile that the loads visited so far make, and the
results of each load. -/

namespace Sys2Proof.Machine

/-! ## The search (R55) -/

/-- A run of `len` cycles from `start` on lies in the profile and fits under `room`. -/
def RunFits (profile : List Nat) (room start len : Nat) : Prop :=
  start + len ≤ profile.length ∧ ∀ w ∈ (profile.drop start).take len, w ≤ room

theorem stretchFits_iff {profile : List Nat} {room start len : Nat} :
    stretchFits profile room start len = true ↔ ∀ w ∈ (profile.drop start).take len, w ≤ room := by
  simp [stretchFits]

/-- A start is found where a run of that length fits, the smallest one. -/
theorem findStart_some {profile : List Nat} {room len start : Nat}
    (found : findStart profile room len = some start) :
    RunFits profile room start len ∧ ∀ other, other < start → ¬RunFits profile room other len := by
  unfold findStart at found
  rw [List.find?_range_eq_some] at found
  obtain ⟨fits, inside, first⟩ := found
  rw [List.mem_range] at inside
  refine ⟨⟨by omega, stretchFits_iff.mp fits⟩, fun other earlier fitting => ?_⟩
  have unfit := first other earlier
  rw [stretchFits_iff.mpr fitting.2] at unfit
  cases unfit

theorem findStart_none {profile : List Nat} {room len : Nat} (none_found : findStart profile room len = none)
    (start : Nat) : ¬RunFits profile room start len := by
  intro fitting
  unfold findStart at none_found
  rw [List.find?_range_eq_none] at none_found
  have unfit := none_found start (by have := fitting.1; omega)
  rw [stretchFits_iff.mpr fitting.2] at unfit
  cases unfit

theorem searchRun_found {profile : List Nat} {room g start : Nat}
    (found : findStart profile room (g + 1) = some start) :
    searchRun profile room (g + 1) = ⟨start, g + 1⟩ := by
  unfold searchRun
  rw [found]

theorem searchRun_shorter {profile : List Nat} {room g : Nat} (missing : findStart profile room (g + 1) = none) :
    searchRun profile room (g + 1) = searchRun profile room g := by
  rw [searchRun, missing]

/-- What a search finds is no longer than what was asked for. -/
theorem searchRun_length_le (profile : List Nat) (room d : Nat) : (searchRun profile room d).length ≤ d := by
  induction d with
  | zero => exact Nat.le_refl 0
  | succ g ih =>
    cases found : findStart profile room (g + 1) with
    | none => rw [searchRun_shorter found]; omega
    | some start => rw [searchRun_found found]

/-- What a search finds fits, and at no earlier start does a run of that length. -/
theorem searchRun_fits {profile : List Nat} {room d : Nat} (some_cycle : 0 < (searchRun profile room d).length) :
    RunFits profile room (searchRun profile room d).start (searchRun profile room d).length ∧
      ∀ start, start < (searchRun profile room d).start →
        ¬RunFits profile room start (searchRun profile room d).length := by
  induction d with
  | zero => exact absurd some_cycle (Nat.lt_irrefl 0)
  | succ g ih =>
    cases found : findStart profile room (g + 1) with
    | none =>
      rw [searchRun_shorter found] at some_cycle ⊢
      exact ih some_cycle
    | some start =>
      rw [searchRun_found found]
      exact findStart_some found

theorem searchRun_empty {profile : List Nat} {room d : Nat} (no_cycle : (searchRun profile room d).length = 0) :
    (searchRun profile room d).start = 0 := by
  induction d with
  | zero => rfl
  | succ g ih =>
    cases found : findStart profile room (g + 1) with
    | none =>
      rw [searchRun_shorter found] at no_cycle ⊢
      exact ih no_cycle
    | some start =>
      rw [searchRun_found found] at no_cycle
      cases no_cycle

/-- No longer run fits. -/
theorem searchRun_longest {profile : List Nat} {room d start len : Nat}
    (longer : (searchRun profile room d).length < len) (asked : len ≤ d) : ¬RunFits profile room start len := by
  induction d with
  | zero => omega
  | succ g ih =>
    cases found : findStart profile room (g + 1) with
    | none =>
      rw [searchRun_shorter found] at longer
      rcases Nat.lt_or_ge g len with top | within
      · obtain rfl : len = g + 1 := by omega
        exact findStart_none found start
      · exact ih longer within
    | some first =>
      rw [searchRun_found found] at longer
      exact absurd longer (by simpa using asked)

/-- Every run that a search finds lies in the profile. -/
theorem searchRun_inside (profile : List Nat) (room d : Nat) :
    (searchRun profile room d).start + (searchRun profile room d).length ≤ profile.length := by
  rcases Nat.eq_zero_or_pos (searchRun profile room d).length with none_fits | found
  · rw [none_fits, searchRun_empty none_fits]
    exact Nat.zero_le _
  · exact (searchRun_fits found).1.1

/-! ## The profile (R51, R55) -/

theorem addPower_getElem? (r : Run) (watts i : Nat) (profile : List Nat) (j : Nat) :
    (addPower r watts i profile)[j]? = profile[j]?.map (fun w => if r.covers (i + j) then w + watts else w) := by
  induction profile generalizing i j with
  | nil => rfl
  | cons w rest ih =>
    cases j with
    | zero => rfl
    | succ j =>
      simp only [addPower, List.getElem?_cons_succ, ih]
      rw [show i + 1 + j = i + (j + 1) by omega]

/-- A run's power is added cycle by cycle. -/
theorem addPower_range (r : Run) (watts c : Nat) (f : Nat → Nat) :
    addPower r watts 0 ((List.range c).map f) =
      (List.range c).map (fun k => f k + if r.covers k then watts else 0) := by
  apply List.ext_getElem?
  intro j
  rw [addPower_getElem?]
  simp only [List.getElem?_map, Option.map_map, Nat.zero_add]
  rcases Nat.lt_or_ge j c with inside | outside
  · rw [List.getElem?_range inside]
    simp only [Option.map_some, Function.comp]
    split <;> rfl
  · rw [List.getElem?_eq_none (by simpa using outside)]
    rfl

/-- The power of the placed claim. -/
def claimPower (limits : Limits) (placed : Option Load) : Nat :=
  match placed with
  | none => 0
  | some x => limits.ratings.get x

/-- The power that the placed claim and the runs of the loads visited draw in a cycle. -/
def laidPower (limits : Limits) (a : Allocation) (visited : List Load) (k : Nat) : Nat :=
  claimPower limits a.placed + (visited.map (fun x => if (a.runs.get x).covers k then limits.ratings.get x else 0)).sum

/-! ## One visit (R53 to R55) -/

section
variable {c : Nat} {limits : Limits} {demands : PerLoad Nat} {a : Laying} {l x : Load}

theorem visit_placed (h : a.result.placed = some l) :
    visit c limits demands a l = { a with result := a.result.record l .empty c 0 false } := if_pos h

theorem visit_idle (h : a.result.placed ≠ some l) (none_asked : demands.get l = 0) :
    visit c limits demands a l = { a with result := a.result.record l .empty 0 0 false } := by
  unfold visit
  dsimp only
  rw [if_neg h, if_pos none_asked]

theorem visit_heavy (h : a.result.placed ≠ some l) (asked : demands.get l ≠ 0)
    (heavy : limits.headroom < limits.ratings.get l) :
    visit c limits demands a l = { a with result := a.result.record l .empty 0 (demands.get l) true } := by
  unfold visit
  dsimp only
  rw [if_neg h, if_neg asked, if_pos heavy]

theorem visit_search (h : a.result.placed ≠ some l) (asked : demands.get l ≠ 0)
    (within : ¬limits.headroom < limits.ratings.get l) :
    visit c limits demands a l =
      (let run := searchRun a.profile (limits.headroom - limits.ratings.get l) (demands.get l)
       { profile := addPower run (limits.ratings.get l) 0 a.profile
         result := a.result.record l run run.length (demands.get l - run.length) false }) := by
  unfold visit
  dsimp only
  rw [if_neg h, if_neg asked, if_neg within]

/-- What a load's results are worth: those of its own visit (R53 to R57). -/
structure Settled (c : Nat) (limits : Limits) (demands : PerLoad Nat) (a : Allocation) (l : Load) : Prop where
  inside : (a.runs.get l).start + (a.runs.get l).length ≤ c
  asked : (a.runs.get l).length ≤ demands.get l
  idle : a.placed = some l ∨ demands.get l = 0 ∨ limits.headroom < limits.ratings.get l → a.runs.get l = Run.empty
  placed : a.placed = some l →
    (a.runs.get l).length = 0 ∧ a.granted.get l = c ∧ a.shortfalls.get l = 0 ∧ a.marks.get l = false
  free : a.placed ≠ some l →
    a.granted.get l = (a.runs.get l).length ∧ a.shortfalls.get l = demands.get l - (a.runs.get l).length ∧
      (a.marks.get l = true ↔ 0 < demands.get l ∧ limits.headroom < limits.ratings.get l) ∧
      (a.marks.get l = true → (a.runs.get l).length = 0)

/-- A visit leaves the placed claim and the other loads' results as they are. -/
theorem visit_others : (visit c limits demands a l).result.placed = a.result.placed ∧
    ∀ x, x ≠ l → (visit c limits demands a l).result.runs.get x = a.result.runs.get x ∧
      (visit c limits demands a l).result.granted.get x = a.result.granted.get x ∧
      (visit c limits demands a l).result.shortfalls.get x = a.result.shortfalls.get x ∧
      (visit c limits demands a l).result.marks.get x = a.result.marks.get x := by
  unfold visit Allocation.record
  dsimp only
  split
  · exact ⟨rfl, fun x other => by simp [other]⟩
  · split
    · exact ⟨rfl, fun x other => by simp [other]⟩
    · split
      · exact ⟨rfl, fun x other => by simp [other]⟩
      · exact ⟨rfl, fun x other => by simp [other]⟩

/-- The load visited has its results (R53 to R57). -/
theorem visit_settled (full : a.profile.length = c) :
    Settled c limits demands (visit c limits demands a l).result l := by
  by_cases placed : a.result.placed = some l
  · rw [visit_placed placed]
    constructor <;> simp [Allocation.record, placed, Run.empty]
  by_cases idle : demands.get l = 0
  · rw [visit_idle placed idle]
    constructor <;> simp [Allocation.record, placed, idle, Run.empty]
  by_cases heavy : limits.headroom < limits.ratings.get l
  · rw [visit_heavy placed idle heavy]
    constructor <;> simp [Allocation.record, placed, heavy, Run.empty]
    omega
  · rw [visit_search placed idle heavy]
    have inside := searchRun_inside a.profile (limits.headroom - limits.ratings.get l) (demands.get l)
    have asked := searchRun_length_le a.profile (limits.headroom - limits.ratings.get l) (demands.get l)
    rw [full] at inside
    constructor <;> simp [Allocation.record, placed, idle, heavy, inside, asked]

/-- A run that is found is added to the profile (R55). -/
theorem visit_profile (free : a.result.placed ≠ some l) (asked : 0 < demands.get l)
    (within : limits.ratings.get l ≤ limits.headroom) :
    (visit c limits demands a l).profile =
      addPower (searchRun a.profile (limits.headroom - limits.ratings.get l) (demands.get l)) (limits.ratings.get l) 0
        a.profile := by
  rw [visit_search free (by omega) (by omega)]

/-- The load visited has the run that the search over the profile finds (R55). -/
theorem visit_run (free : a.result.placed ≠ some l) (asked : 0 < demands.get l)
    (within : limits.ratings.get l ≤ limits.headroom) :
    (visit c limits demands a l).result.runs.get l =
      searchRun a.profile (limits.headroom - limits.ratings.get l) (demands.get l) := by
  rw [visit_search free (by omega) (by omega)]
  simp [Allocation.record]

theorem Settled.congr {b : Allocation} (h : Settled c limits demands b l) {d : Allocation}
    (placed : d.placed = b.placed)
    (same : d.runs.get l = b.runs.get l ∧ d.granted.get l = b.granted.get l ∧ d.shortfalls.get l = b.shortfalls.get l ∧
      d.marks.get l = b.marks.get l) : Settled c limits demands d l := by
  obtain ⟨runs, granted, shortfalls, marks⟩ := same
  constructor
  · rw [runs]; exact h.inside
  · rw [runs]; exact h.asked
  · rw [placed, runs]; exact h.idle
  · rw [placed, runs, granted, shortfalls, marks]; exact h.placed
  · rw [placed, runs, granted, shortfalls, marks]; exact h.free

/-! ## The loads visited so far -/

/-- The profile is what the placed claim and the loads visited draw, within the headroom; the loads visited have their
results, and the others no run. -/
structure Laid (c : Nat) (limits : Limits) (demands : PerLoad Nat) (visited : List Load) (a : Laying) : Prop where
  profile : a.profile = (List.range c).map (laidPower limits a.result visited)
  room : ∀ k, k < c → laidPower limits a.result visited k ≤ limits.headroom
  settled : ∀ x ∈ visited, Settled c limits demands a.result x

theorem Laid.full (h : Laid c limits demands visited a) : a.profile.length = c := by
  rw [h.profile, List.length_map, List.length_range]

/-- The visited loads draw the same after a visit of another load. -/
theorem laidPower_visit {visited : List Load} (new : l ∉ visited) (k : Nat) :
    laidPower limits (visit c limits demands a l).result visited k = laidPower limits a.result visited k := by
  obtain ⟨placed, others⟩ := visit_others (c := c) (limits := limits) (demands := demands) (a := a) (l := l)
  unfold laidPower
  rw [placed]
  congr 2
  apply List.map_congr_left
  intro x member
  rw [(others x (fun same => new (same ▸ member))).1]

theorem laidPower_append (b : Allocation) (visited : List Load) (l : Load) (k : Nat) :
    laidPower limits b (visited ++ [l]) k =
      laidPower limits b visited k + if (b.runs.get l).covers k then limits.ratings.get l else 0 := by
  unfold laidPower
  rw [List.map_append, List.sum_append, List.map_singleton, List.sum_singleton, Nat.add_assoc]

/-- A run that a search found keeps the cycles it covers within the room. -/
theorem searchRun_room {profile : List Nat} {room d k w : Nat} (covered : (searchRun profile room d).covers k = true)
    (cycle : profile[k]? = some w) : w ≤ room := by
  simp only [Run.covers, Bool.and_eq_true, decide_eq_true_eq] at covered
  obtain ⟨first, last⟩ := covered
  have fits := (searchRun_fits (profile := profile) (room := room) (d := d) (by omega)).1.2
  apply fits
  rw [List.mem_iff_getElem?]
  refine ⟨k - (searchRun profile room d).start, ?_⟩
  rw [List.getElem?_take_of_lt (by omega), List.getElem?_drop]
  rw [show (searchRun profile room d).start + (k - (searchRun profile room d).start) = k by omega]
  exact cycle

/-- A visit goes on with the profile (R53 to R55). -/
theorem Laid.visit {visited : List Load} (h : Laid c limits demands visited a) (new : l ∉ visited) :
    Laid c limits demands (visited ++ [l]) (visit c limits demands a l) := by
  have kept := visit_others (c := c) (limits := limits) (demands := demands) (a := a) (l := l)
  have own := visit_settled (limits := limits) (demands := demands) (l := l) h.full
  have before : ∀ k, laidPower limits (Machine.visit c limits demands a l).result visited k =
      laidPower limits a.result visited k := laidPower_visit new
  have settled : ∀ x ∈ visited ++ [l], Settled c limits demands (Machine.visit c limits demands a l).result x := by
    intro x member
    rcases List.mem_append.mp member with old | here
    · exact (h.settled x old).congr kept.1 (kept.2 x (fun same => new (same ▸ old)))
    · obtain rfl : x = l := by simpa using here
      exact own
  by_cases idle : a.result.placed = some l ∨ demands.get l = 0 ∨ limits.headroom < limits.ratings.get l
  · have none_drawn : ∀ k, laidPower limits (Machine.visit c limits demands a l).result (visited ++ [l]) k =
        laidPower limits a.result visited k := by
      intro k
      rw [laidPower_append, before, own.idle (by rw [kept.1]; exact idle), Run.covers_empty, if_neg (by simp),
        Nat.add_zero]
    have same : (Machine.visit c limits demands a l).profile = a.profile := by
      by_cases placed : a.result.placed = some l
      · rw [visit_placed placed]
      by_cases none_asked : demands.get l = 0
      · rw [visit_idle placed none_asked]
      · rw [visit_heavy placed none_asked (by tauto)]
    refine ⟨?_, fun k inside => by rw [none_drawn]; exact h.room k inside, settled⟩
    rw [same, h.profile]
    exact List.map_congr_left fun k _ => (none_drawn k).symm
  · obtain ⟨free, asked, within⟩ : a.result.placed ≠ some l ∧ demands.get l ≠ 0 ∧
        ¬limits.headroom < limits.ratings.get l := by tauto
    have light : limits.ratings.get l ≤ limits.headroom := Nat.le_of_not_lt within
    have run := visit_run (c := c) free (Nat.pos_of_ne_zero asked) light
    refine ⟨?_, fun k inside => ?_, settled⟩
    · rw [visit_profile free (Nat.pos_of_ne_zero asked) light]
      conv_lhs => rw [h.profile]
      rw [addPower_range]
      apply List.map_congr_left
      intro k _
      rw [laidPower_append, before, run, ← h.profile]
    · rw [laidPower_append, before, run]
      split
      · next covered =>
        have cycle : a.profile[k]? = some (laidPower limits a.result visited k) := by
          rw [h.profile, List.getElem?_map, List.getElem?_range inside]
          rfl
        have := searchRun_room covered cycle
        omega
      · exact h.room k inside

/-- The visits of several loads, one after the other. -/
theorem Laid.visits {visited : List Load} (loads : List Load) (h : Laid c limits demands visited a)
    (once : (visited ++ loads).Nodup) :
    Laid c limits demands (visited ++ loads) (loads.foldl (Machine.visit c limits demands) a) := by
  induction loads generalizing visited a with
  | nil => rwa [List.append_nil]
  | cons l rest ih =>
    have new : l ∉ visited := fun old =>
      (List.nodup_append.mp once).2.2 l old l (List.mem_cons_self ..) rfl
    have once' : ((visited ++ [l]) ++ rest).Nodup := by rwa [List.append_assoc]
    have := ih (h.visit new) once'
    rwa [List.append_assoc] at this

theorem visits_others (loads : List Load) : (loads.foldl (visit c limits demands) a).result.placed = a.result.placed ∧
    ∀ x, x ∉ loads → (loads.foldl (visit c limits demands) a).result.runs.get x = a.result.runs.get x := by
  induction loads generalizing a with
  | nil => exact ⟨rfl, fun _ _ => rfl⟩
  | cons l rest ih =>
    obtain ⟨placed, others⟩ := visit_others (c := c) (limits := limits) (demands := demands) (a := a) (l := l)
    obtain ⟨placed', others'⟩ := ih (a := visit c limits demands a l)
    refine ⟨placed'.trans placed, fun x absent => ?_⟩
    rw [List.mem_cons, not_or] at absent
    exact (others' x absent.2).trans (others x absent.1).1

end

/-! ## The whole allocation (R51 to R55) -/

section
variable (c : Nat) (limits : Limits) (demands : PerLoad Nat) (policy : Policy) (claim : Option Load)

/-- The claim that is placed: one that fits under the headroom (R52). -/
theorem layClaim_placed (l : Load) :
    (layClaim c limits claim).result.placed = some l ↔ claim = some l ∧ limits.ratings.get l ≤ limits.headroom := by
  unfold layClaim
  simp [Option.filter_eq_some_iff]

theorem layClaim_laid : Laid c limits demands [] (layClaim c limits claim) := by
  have drawn : ∀ k, laidPower limits (layClaim c limits claim).result [] k =
      claimPower limits (layClaim c limits claim).result.placed := fun k => Nat.add_zero _
  refine ⟨?_, fun k _ => ?_, fun x member => absurd member (List.not_mem_nil)⟩
  · have : laidPower limits (layClaim c limits claim).result [] =
        fun _ => claimPower limits (layClaim c limits claim).result.placed := funext drawn
    rw [this, List.map_const', List.length_range]
    rfl
  · rw [drawn]
    cases placed : (layClaim c limits claim).result.placed with
    | none => exact Nat.zero_le _
    | some l => exact ((layClaim_placed c limits claim l).mp placed).2

theorem grantOrder_nodup : (grantOrder policy).Nodup := by cases policy <;> decide

theorem mem_grantOrder (l : Load) : l ∈ grantOrder policy := by cases policy <;> cases l <;> decide

theorem allocate_laid : Laid c limits demands (grantOrder policy) (allocate c limits demands policy claim) := by
  have laid := (layClaim_laid c limits demands claim).visits (grantOrder policy)
    (by simpa using grantOrder_nodup policy)
  rwa [List.nil_append] at laid

theorem allocate_placed : (allocate c limits demands policy claim).result.placed =
    (layClaim c limits claim).result.placed := (visits_others _).1

theorem allocate_settled (l : Load) : Settled c limits demands (allocate c limits demands policy claim).result l :=
  (allocate_laid c limits demands policy claim).settled l (mem_grantOrder policy l)

/-- The load that comes after `before` in the order is searched for over what they and the claim draw. -/
theorem allocate_run {before after : List Load} {l : Load} (order : grantOrder policy = before ++ l :: after)
    (free : (allocate c limits demands policy claim).result.placed ≠ some l) (asked : 0 < demands.get l)
    (within : limits.ratings.get l ≤ limits.headroom) :
    (allocate c limits demands policy claim).result.runs.get l =
      searchRun ((List.range c).map (laidPower limits (allocate c limits demands policy claim).result before))
        (limits.headroom - limits.ratings.get l) (demands.get l) := by
  have once := grantOrder_nodup policy
  rw [order] at once
  have apart := List.nodup_append.mp once
  have later : l ∉ after := (List.nodup_cons.mp apart.2.1).1
  generalize started : before.foldl (visit c limits demands) (layClaim c limits claim) = b
  have laid : Laid c limits demands before b := by
    have laid := (layClaim_laid c limits demands claim).visits before (by simpa using apart.1)
    rwa [List.nil_append, started] at laid
  have whole : allocate c limits demands policy claim =
      after.foldl (visit c limits demands) (visit c limits demands b l) := by
    unfold allocate
    rw [order, List.foldl_append, started, List.foldl_cons]
  obtain ⟨placed, others⟩ := visits_others (c := c) (limits := limits) (demands := demands)
    (a := visit c limits demands b l) after
  obtain ⟨placed', others'⟩ := visit_others (c := c) (limits := limits) (demands := demands) (a := b) (l := l)
  rw [whole] at free ⊢
  rw [others l later, visit_run (by rwa [placed, placed'] at free) asked within, laid.profile]
  congr 1
  apply List.map_congr_left
  intro k _
  unfold laidPower
  rw [placed, placed']
  congr 2
  apply List.map_congr_left
  intro x member
  have notLater : x ∉ l :: after := fun here => apart.2.2 x member x here rfl
  rw [List.mem_cons, not_or] at notLater
  rw [others x notLater.2, (others' x notLater.1).1]

/-! ## The power of a cycle (R55, R59) -/

/-- A load draws in a cycle as the forced one or by its run; a placed load has no run. -/
theorem loadPower_allocate (k : Nat) (l : Load) :
    loadPower limits (allocate c limits demands policy claim).result k l =
      (if (allocate c limits demands policy claim).result.placed = some l then limits.ratings.get l else 0) +
        if ((allocate c limits demands policy claim).result.runs.get l).covers k then limits.ratings.get l else 0 := by
  unfold loadPower
  by_cases placed : (allocate c limits demands policy claim).result.placed = some l
  · rw [(allocate_settled c limits demands policy claim l).idle (.inl placed)]
    simp [placed]
  · simp [placed]

/-- The forced load's share of the five loads' power is the placed claim's. -/
theorem claimPower_sum (placed : Option Load) :
    (allLoads.map (fun l => if placed = some l then limits.ratings.get l else 0)).sum = claimPower limits placed := by
  cases placed with
  | none => simp [allLoads, claimPower]
  | some l => cases l <;> simp [allLoads, claimPower]

theorem grantOrder_sum (f : Load → Nat) : ((grantOrder policy).map f).sum = (allLoads.map f).sum := by
  cases policy <;> (simp [grantOrder, allLoads]; omega)

/-- The power of the five loads in a cycle is what the visits have laid. -/
theorem cyclePower_allocate (k : Nat) :
    cyclePower limits (allocate c limits demands policy claim).result k =
      laidPower limits (allocate c limits demands policy claim).result (grantOrder policy) k := by
  unfold cyclePower laidPower
  rw [funext (loadPower_allocate c limits demands policy claim k), List.sum_map_add, claimPower_sum, grantOrder_sum]

/-- An allocation keeps the power within the headroom, in every cycle of its window and after it (R59). -/
theorem cyclePower_le (k : Nat) :
    cyclePower limits (allocate c limits demands policy claim).result k ≤ limits.headroom := by
  rw [cyclePower_allocate]
  rcases Nat.lt_or_ge k c with inside | outside
  · exact (allocate_laid c limits demands policy claim).room k inside
  · have ended : ∀ l, ((allocate c limits demands policy claim).result.runs.get l).covers k = false := fun l =>
      Run.covers_of_ended (Nat.le_trans (allocate_settled c limits demands policy claim l).inside outside)
    unfold laidPower
    simp only [ended, Bool.false_eq_true, if_false]
    rw [List.map_const', List.sum_replicate, smul_zero, Nat.add_zero, allocate_placed]
    cases placed : (layClaim c limits claim).result.placed with
    | none => exact Nat.zero_le _
    | some l => exact ((layClaim_placed c limits claim l).mp placed).2

end

end Sys2Proof.Machine

open Sys2Proof Sys2Proof.Machine

/-- Settles O25: each load's run is the search's over what the loads before it have laid (`allocate_run`), its results
are those of its visit (`allocate_settled`), and a search finds the longest run that fits, at its earliest start. -/
theorem grantsRunsAndMarks : Obligations.GrantsRunsAndMarks := by
  unfold Obligations.GrantsRunsAndMarks
  refine ⟨rfl, rfl, fun c limits demands policy claim before after l order => ⟨?_, ?_⟩,
    fun c limits demands policy claim l => ?_, fun profile room d => ?_⟩
  · exact (allocate_settled c limits demands policy claim l).idle
  · exact allocate_run c limits demands policy claim order
  · have settled := allocate_settled c limits demands policy claim l
    refine ⟨?_, settled.inside, settled.asked, settled.placed, settled.free⟩
    rw [allocate_placed]
    exact layClaim_placed c limits claim l
  · exact ⟨searchRun_length_le profile room d, searchRun_fits, searchRun_empty,
      fun _ _ longer asked => searchRun_longest longer asked⟩

end

section
/-! SUPPORT. A law that the ports and the owners of the link commands keep is kept by every link command (R182,
R183). -/

namespace Sys2Proof.Machine

/-- What holds of the state before an outcome holds of the state it answers. -/
def Keeps (P : State → Prop) (s : State) (o : Host.Outcome State Fault Refusal) : Prop :=
  P s → ∀ t, o = .next t → P t

theorem keeps_next {P : State → Prop} {s t : State} (h : P s → P t) : Keeps P s (.next t) := fun holds u answered => by
  cases answered
  exact h holds

/-- A row that is not due changes nothing. -/
theorem keeps_ite {P : State → Prop} {s t : State} {b : Prop} [Decidable b] (h : b → P s → P t) :
    Keeps P s (if b then .next t else .next s) := by
  split
  · next due => exact keeps_next (h due)
  · exact keeps_next id

/-- What every owner of a link command keeps. -/
structure OwnersKeep (P : State → Prop) : Prop where
  ports : ∀ (l : Link) (p : Port) (s : State), P s → P (setPort l p s)
  locks : ∀ (p : Protection) (s : State), P s → P (setProt p s)
  fetch : ∀ (l : Link) (n : Nat) (s : State), P s → P (ownFetch l n s).2
  lastRun : ∀ s : State, P s → P (ownLastRun s).2
  load : ∀ (l : Link) (p : SentProgram) (s : State), P s → P (ownLoad l p s).2
  clear : ∀ (n : Nat) (s : State), P s → P (ownClear n s).2
  start : ∀ (n g : Nat) (s : State), P s → P (ownStart n g s).2
  stop : ∀ s : State, P s → P (ownStop s).2
  adjust : ∀ (a : Adjustment) (s : State), P s → P (ownAdjust a s).2
  skip : ∀ s : State, P s → P (settle (endStage s))
  inject : ∀ (ml : Nat) (s : State), P s → P (ownInject ml s).2
  descaleStart : ∀ s : State, P s → P (ownDescaleStart s).2
  descaleConfirm : ∀ (n : Nat) (s : State), P s → P (ownDescaleConfirm n s).2
  descaleAbort : ∀ s : State, P s → P (ownDescaleAbort s).2
  write : ∀ (n : Nat) (v : Int) (s : State), P s → P (ownWrite n v s).2
  setLock : ∀ (n v : Nat) (s : State), P s → P (ownSetLock n v s).2
  unlock : ∀ s : State, P s → P (ownUnlock s).2
  lock : ∀ s : State, P s → P (settle (endServiceUnlock s))
  steering : ∀ (pairs : List (Nat × Nat)) (s : State), P s → P (ownSteering pairs s).2
  clearFaults : ∀ s : State, P s → P (ownClearFaults s).2
  lamp : ∀ (n : Nat) (s : State), P s → P (ownLampCommand n s).2
  scaleReset : ∀ s : State, P s → P (ownScaleReset s).2
  force : ∀ (o v : Nat) (s : State), P s → P (ownForce o v s).2
  pulse : ∀ (os : List Output) (ms : Nat) (s : State), P s → P (ownPulse os ms s).2

section
variable {P : State → Prop} {s : State} {own : State → Reply × State}

/-- A command that is refused on its way to its owner changes nothing. -/
theorem decideCommand_keeps (sized reads : Bool) (early : Option Status) (lock : Bool) (h : P s) (keep : P (own s).2) :
    P (decideCommand sized reads early lock own s).2 := by
  unfold decideCommand
  split
  · exact h
  · split
    · exact h
    · split
      · exact h
      · split
        · exact h
        · exact keep

theorem onStage_keeps (run stage : Nat) (h : P s) (keep : P (own s).2) : P (onStage run stage own s).2 := by
  unfold onStage
  split
  · exact h
  · split
    · exact h
    · exact keep

theorem taken_keeps (r : Reply) (h : P (settle s)) : P (taken r s).2 := h

theorem ownConfirm_keeps (skip : P s → P (settle (endStage s))) (h : P s) : P (ownConfirm s).2 := by
  unfold ownConfirm
  split
  · exact taken_keeps _ (skip h)
  · exact h

theorem acceptFrame_keeps (keep : OwnersKeep P) (l : Link) (h : P s) : P (acceptFrame l s) := by
  have opened : P (setPort l { port s l with state := .executing, quiet := 0, line := [] } s) := keep.ports l _ s h
  unfold acceptFrame
  dsimp only
  split
  · exact keep.locks _ _ opened
  · exact opened

theorem onFrame_keeps (keep : OwnersKeep P) (l : Link) (code : Byte) (owns : ∀ t, P t → P (own t).2) :
    Keeps P s (onFrame l code own s) := by
  unfold onFrame
  split
  · refine keeps_next fun h => ?_
    have owned := owns _ (acceptFrame_keeps keep l h)
    unfold answer
    exact keep.ports _ _ _ owned
  · exact keeps_next (keep.ports _ _ _)

/-- A law that every owner keeps is kept by every link command. -/
theorem linkCommand_keeps (keep : OwnersKeep P) {c : Instr} {frame : Link × Byte × List Byte}
    (link : linkCommand c = some frame) : Keeps P s (exec c s) := by
  have refused : ∀ (st : Status) (t : State), P t → P (refuse st t).2 := fun _ _ => id
  cases c with
  | unknownCommand l code fields => exact onFrame_keeps keep _ _ (refused _)
  | getStatus l fields => exact onFrame_keeps keep _ _ fun t h => decideCommand_keeps _ _ _ _ h h
  | getSnapshot l fields => exact onFrame_keeps keep _ _ fun t h => decideCommand_keeps _ _ _ _ h h
  | fetchEvents l fields =>
    show Keeps P s (execFetchEvents l fields s)
    unfold execFetchEvents
    refine onFrame_keeps keep _ _ fun t h => ?_
    split
    · exact decideCommand_keeps _ _ _ _ h (keep.fetch _ _ _ h)
    · exact refused _ _ h
  | getLastRun l fields => exact onFrame_keeps keep _ _ fun t h => decideCommand_keeps _ _ _ _ h (keep.lastRun _ h)
  | readSlot l fields =>
    show Keeps P s (execReadSlot l fields s)
    unfold execReadSlot
    refine onFrame_keeps keep _ _ fun t h => ?_
    split
    · exact decideCommand_keeps _ _ _ _ h h
    · exact refused _ _ h
  | readSetting l fields =>
    show Keeps P s (execReadSetting l fields s)
    unfold execReadSetting
    refine onFrame_keeps keep _ _ fun t h => ?_
    split
    · exact decideCommand_keeps _ _ _ _ h h
    · exact refused _ _ h
  | readScale l fields => exact onFrame_keeps keep _ _ fun t h => decideCommand_keeps _ _ _ _ h h
  | loadProgram l fields =>
    show Keeps P s (execLoadProgram l fields s)
    unfold execLoadProgram
    refine onFrame_keeps keep _ _ fun t h => ?_
    split
    · exact refused _ _ h
    · exact decideCommand_keeps _ _ _ _ h (keep.load _ _ _ h)
  | clearSlot l fields =>
    show Keeps P s (execClearSlot l fields s)
    unfold execClearSlot
    refine onFrame_keeps keep _ _ fun t h => ?_
    split
    · exact decideCommand_keeps _ _ _ _ h (keep.clear _ _ h)
    · exact refused _ _ h
  | start l fields =>
    show Keeps P s (execStart l fields s)
    unfold execStart
    refine onFrame_keeps keep _ _ fun t h => ?_
    split
    · exact decideCommand_keeps _ _ _ _ h (keep.start _ _ _ h)
    · exact refused _ _ h
  | stop l fields => exact onFrame_keeps keep _ _ fun t h => decideCommand_keeps _ _ _ _ h (keep.stop _ h)
  | adjust l fields =>
    show Keeps P s (execAdjust l fields s)
    unfold execAdjust
    refine onFrame_keeps keep _ _ fun t h => ?_
    split
    · exact decideCommand_keeps _ _ _ _ h (onStage_keeps _ _ h (keep.adjust _ _ h))
    · exact refused _ _ h
  | skipStage l fields =>
    show Keeps P s (execSkipStage l fields s)
    unfold execSkipStage
    refine onFrame_keeps keep _ _ fun t h => ?_
    split
    · exact decideCommand_keeps _ _ _ _ h (onStage_keeps _ _ h (taken_keeps _ (keep.skip _ h)))
    · exact refused _ _ h
  | confirm l fields =>
    show Keeps P s (execConfirm l fields s)
    unfold execConfirm
    refine onFrame_keeps keep _ _ fun t h => ?_
    split
    · exact decideCommand_keeps _ _ _ _ h (onStage_keeps _ _ h (ownConfirm_keeps (keep.skip _) h))
    · exact refused _ _ h
  | inject l fields =>
    show Keeps P s (execInject l fields s)
    unfold execInject
    refine onFrame_keeps keep _ _ fun t h => ?_
    split
    · exact decideCommand_keeps _ _ _ _ h (onStage_keeps _ _ h (keep.inject _ _ h))
    · exact refused _ _ h
  | descaleStart l fields =>
    exact onFrame_keeps keep _ _ fun t h => decideCommand_keeps _ _ _ _ h (keep.descaleStart _ h)
  | descaleConfirm l fields =>
    show Keeps P s (execDescaleConfirm l fields s)
    unfold execDescaleConfirm
    refine onFrame_keeps keep _ _ fun t h => ?_
    split
    · exact decideCommand_keeps _ _ _ _ h (keep.descaleConfirm _ _ h)
    · exact refused _ _ h
  | descaleAbort l fields =>
    exact onFrame_keeps keep _ _ fun t h => decideCommand_keeps _ _ _ _ h (keep.descaleAbort _ h)
  | writeSetting l fields =>
    show Keeps P s (execWriteSetting l fields s)
    unfold execWriteSetting
    refine onFrame_keeps keep _ _ fun t h => ?_
    split
    · exact decideCommand_keeps _ _ _ _ h (keep.write _ _ _ h)
    · exact refused _ _ h
  | setLock l fields =>
    show Keeps P s (execSetLock l fields s)
    unfold execSetLock
    refine onFrame_keeps keep _ _ fun t h => ?_
    split
    · exact decideCommand_keeps _ _ _ _ h (keep.setLock _ _ _ h)
    · exact refused _ _ h
  | serviceUnlock l fields => exact onFrame_keeps keep _ _ fun t h => decideCommand_keeps _ _ _ _ h (keep.unlock _ h)
  | serviceLock l fields =>
    exact onFrame_keeps keep _ _ fun t h => decideCommand_keeps _ _ _ _ h (taken_keeps _ (keep.lock _ h))
  | setSteering l fields =>
    show Keeps P s (execSetSteering l fields s)
    unfold execSetSteering
    refine onFrame_keeps keep _ _ fun t h => ?_
    split
    · exact refused _ _ h
    · split
      · exact refused _ _ h
      · exact decideCommand_keeps _ _ _ _ h (keep.steering _ _ h)
  | clearFaults l fields =>
    exact onFrame_keeps keep _ _ fun t h => decideCommand_keeps _ _ _ _ h (keep.clearFaults _ h)
  | lamp l fields =>
    show Keeps P s (execLamp l fields s)
    unfold execLamp
    refine onFrame_keeps keep _ _ fun t h => ?_
    split
    · exact decideCommand_keeps _ _ _ _ h (keep.lamp _ _ h)
    · exact refused _ _ h
  | scaleReset l fields => exact onFrame_keeps keep _ _ fun t h => decideCommand_keeps _ _ _ _ h (keep.scaleReset _ h)
  | forceOutput l fields =>
    show Keeps P s (execForceOutput l fields s)
    unfold execForceOutput
    refine onFrame_keeps keep _ _ fun t h => ?_
    split
    · exact decideCommand_keeps _ _ _ _ h (keep.force _ _ _ h)
    · exact refused _ _ h
  | pulseOutput l fields =>
    show Keeps P s (execPulseOutput l fields s)
    unfold execPulseOutput
    refine onFrame_keeps keep _ _ fun t h => ?_
    split
    · exact decideCommand_keeps _ _ _ _ h (keep.pulse _ _ _ h)
    · exact refused _ _ h
  | _ => cases link

end

end Sys2Proof.Machine
end

section
/-! SUPPORT. What the budget is reckoned with (R59): the limits, the claim, the allocation, the heat channels and the
phases of the forces. -/

namespace Sys2Proof.Machine

/-- The parts of the state that the budget law reads. -/
structure Draw where
  window : Limits
  prepared : Limits
  claim : Option Load
  allocation : Option Allocation
  heat : PerLoad HeatChannel
  forces : List (Output × ForcePhase)

def State.draw (s : State) : Draw :=
  { window := s.share.window, prepared := s.share.prepared, claim := s.share.claim, allocation := s.share.allocation
    heat := s.out.heat, forces := s.out.forces.map (fun e => (e.output, e.phase)) }

@[simp] theorem raiseEvent_draw (k : EventKind) (arg : Option Byte) (s : State) :
    (raiseEvent k arg s).draw = s.draw := rfl

@[simp] theorem endCondition_draw (k : EventKind) (s : State) : (endCondition k s).draw = s.draw := rfl

@[simp] theorem followCondition_draw (k : EventKind) (arg : Option Byte) (holds : Bool) (s : State) :
    (followCondition k arg holds s).draw = s.draw := by
  unfold followCondition
  split
  · rfl
  · split <;> simp

@[simp] theorem enterFault_draw (f : FaultKind) (s : State) : (enterFault f s).draw = s.draw := by
  unfold enterFault
  split <;> rfl

@[simp] theorem leaveFault_draw (f : FaultKind) (s : State) : (leaveFault f s).draw = s.draw := by
  unfold leaveFault
  split
  · dsimp only
    split <;> rfl
  · rfl

@[simp] theorem followFault_draw (f : FaultKind) (holds : Bool) (s : State) :
    (followFault f holds s).draw = s.draw := by
  unfold followFault
  split <;> simp

@[simp] theorem setRun_draw (r : RunContext) (s : State) : (setRun r s).draw = s.draw := rfl

@[simp] theorem askCommit_draw (s : State) : (askCommit s).draw = s.draw := rfl

@[simp] theorem flushCommit_draw (s : State) : (flushCommit s).draw = s.draw := by
  unfold flushCommit
  repeat' split
  all_goals rfl

@[simp] theorem followLevel_draw (s : State) : (followLevel s).draw = s.draw := by
  unfold followLevel
  simp

@[simp] theorem evaluateLevel_draw (s : State) : (evaluateLevel s).draw = s.draw := by
  obtain ⟨e, st, h⟩ := evaluateLevel_eq s
  rw [h]
  rfl

@[simp] theorem chargeAccount_draw (p : Nat) (d : Destination) (s : State) :
    (chargeAccount p d s).draw = s.draw := by
  unfold chargeAccount
  simp only [evaluateLevel_draw]
  rfl

@[simp] theorem countSteam_draw (p : Nat) (s : State) : (countSteam p s).draw = s.draw := by
  unfold countSteam
  split <;> simp

@[simp] theorem clearAccount_draw (s : State) : (clearAccount s).draw = s.draw := by
  unfold clearAccount
  simp only [askCommit_draw, evaluateLevel_draw]
  rfl

@[simp] theorem creditAbort_draw (s : State) : (creditAbort s).draw = s.draw := by
  unfold creditAbort
  simp only [askCommit_draw, evaluateLevel_draw]
  rfl

@[simp] theorem setChan_draw (c : Chan) (x : Channel) (s : State) : (setChan c x s).draw = s.draw := rfl

@[simp] theorem setChanState_draw (c : Chan) (st : ChanState) (s : State) :
    (setChanState c st s).draw = s.draw := rfl

@[simp] theorem setDose_draw (c : Chan) (d : Dose) (s : State) : (setDose c d s).draw = s.draw := rfl

@[simp] theorem chargeDelivered_draw (p : Nat) (d : Destination) (s : State) :
    (chargeDelivered p d s).draw = s.draw := by
  unfold chargeDelivered
  simp

@[simp] theorem passPulses_draw (c : Chan) (s : State) : (passPulses c s).draw = s.draw := by
  unfold passPulses
  split
  · rfl
  · split <;> simp

@[simp] theorem releasePath_draw (c : Chan) (s : State) : (releasePath c s).draw = s.draw := by
  unfold releasePath
  split <;> rfl

@[simp] theorem grantPath_draw (c : Chan) (s : State) : (grantPath c s).draw = s.draw := by
  unfold grantPath
  split <;> rfl

@[simp] theorem arbitrate_draw (s : State) : (arbitrate s).draw = s.draw := by
  unfold arbitrate
  dsimp only
  repeat' split
  all_goals simp

@[simp] theorem loadDose_draw (c : Chan) (m : DoseMode) (dest : Destination) (src : Source) (base : Nat) (reload : Bool)
    (r : Requester) (s : State) :
    (loadDose c m dest src base reload r s).draw = s.draw := by
  unfold loadDose
  split <;> simp

@[simp] theorem endDose_draw (c : Chan) (st : ChanState) (s : State) : (endDose c st s).draw = s.draw := by
  unfold endDose
  simp

@[simp] theorem cancelDose_draw (c : Chan) (s : State) : (cancelDose c s).draw = s.draw := by
  unfold cancelDose
  split
  · rfl
  · split <;> simp

@[simp] theorem suspendDose_draw (c : Chan) (s : State) : (suspendDose c s).draw = s.draw := by
  unfold suspendDose
  split <;> simp

@[simp] theorem suspendSource_draw (src : Source) (s : State) : (suspendSource src s).draw = s.draw := by
  have one : ∀ (c : Chan) (t : State), (if sourceIs src (chan t c) then suspendDose c t else t).draw = t.draw := by
    intro c t
    split <;> simp
  simp only [suspendSource, List.foldl_cons, List.foldl_nil, one]

@[simp] theorem resumeSource_draw (src : Source) (s : State) : (resumeSource src s).draw = s.draw := by
  have one : ∀ (c : Chan) (t : State),
      (if sourceIs src (chan t c) && decide ((chan t c).state = .suspended) then setChanState c .requesting t
        else t).draw = t.draw := by
    intro c t
    split <;> simp
  simp only [resumeSource, List.foldl_cons, List.foldl_nil, one]

@[simp] theorem primeSource_draw (src : Source) (s : State) : (primeSource src s).draw = s.draw := by
  unfold primeSource
  repeat' split
  all_goals simp

@[simp] theorem followSource_draw (src : Source) (was : Bool) (s : State) :
    (followSource src was s).draw = s.draw := by
  unfold followSource
  repeat' split
  all_goals simp

@[simp] theorem followWaterConditions_draw (s : State) : (followWaterConditions s).draw = s.draw := by
  unfold followWaterConditions
  simp

@[simp] theorem renewHeaterRequest_draw (s : State) : (renewHeaterRequest s).draw = s.draw := rfl

@[simp] theorem askRelay_draw (closed : Bool) (s : State) : (askRelay closed s).draw = s.draw := rfl

@[simp] theorem setRelay_draw (r : RelayId) (x : Relay) (s : State) : (setRelay r x s).draw = s.draw := by
  unfold setRelay
  split <;> rfl

@[simp] theorem setFan_draw (f : FanDrive) (s : State) : (setFan f s).draw = s.draw := rfl

@[simp] theorem startFan_draw (s : State) : (startFan s).draw = s.draw := by
  unfold startFan
  split <;> simp

@[simp] theorem issueFan_draw (code : Nat) (s : State) : (issueFan code s).draw = s.draw := by
  unfold issueFan
  dsimp only
  repeat' split
  all_goals simp

@[simp] theorem holdFan_draw (s : State) : (holdFan s).draw = s.draw := by
  unfold holdFan
  split <;> simp

@[simp] theorem beginReversal_draw (s : State) : (beginReversal s).draw = s.draw := by
  unfold beginReversal
  split <;> simp

@[simp] theorem endReversal_draw (s : State) : (endReversal s).draw = s.draw := by
  unfold endReversal
  split <;> simp

@[simp] theorem setVent_draw (v : VentFlap) (s : State) : (setVent v s).draw = s.draw := rfl

@[simp] theorem arriveVent_draw (e : VentEnd) (s : State) : (arriveVent e s).draw = s.draw := by
  unfold arriveVent
  simp

@[simp] theorem travelVent_draw (e : VentEnd) (s : State) : (travelVent e s).draw = s.draw := by
  unfold travelVent
  dsimp only
  split <;> simp

@[simp] theorem requestVent_draw (e : VentEnd) (s : State) : (requestVent e s).draw = s.draw := by
  unfold requestVent
  split <;> simp

@[simp] theorem returnVent_draw (s : State) : (returnVent s).draw = s.draw := by
  unfold returnVent
  split <;> simp

@[simp] theorem endDrive_draw (e : VentEnd) (s : State) : (endDrive e s).draw = s.draw := by
  unfold endDrive State.draw
  simp only [List.map_map]
  congr 1
  apply List.map_congr_left
  intro x _
  dsimp only [Function.comp]
  split <;> rfl

@[simp] theorem reachEnd_draw (e : VentEnd) (before : State) (s : State) :
    (reachEnd e before s).draw = s.draw := by
  unfold reachEnd
  split <;> simp

@[simp] theorem startLamp_draw (s : State) : (startLamp s).draw = s.draw := rfl

@[simp] theorem stopLamp_draw (s : State) : (stopLamp s).draw = s.draw := rfl

@[simp] theorem endPulse_draw (s : State) : (endPulse s).draw = s.draw := by
  unfold endPulse
  split
  · rfl
  · dsimp only
    split
    · rw [returnVent_draw]
      rfl
    · rfl

@[simp] theorem setBoiler_draw (b : Boiler) (s : State) : (setBoiler b s).draw = s.draw := rfl

@[simp] theorem followNeed_draw (s : State) : (followNeed s).draw = s.draw := rfl

@[simp] theorem postBoilerAs_draw (d : Nat) (s : State) : (postBoilerAs d s).draw = s.draw := by
  unfold postBoilerAs
  split <;> rfl

@[simp] theorem postBoiler_draw (s : State) : (postBoiler s).draw = s.draw := by
  unfold postBoiler
  simp

@[simp] theorem handSteamRequest_draw (n : Nat) (s : State) : (handSteamRequest n s).draw = s.draw := by
  unfold handSteamRequest
  simp

@[simp] theorem cancelTopUp_draw (s : State) : (cancelTopUp s).draw = s.draw := by
  unfold cancelTopUp
  split <;> simp

@[simp] theorem markDrain_draw (b : Bool) (s : State) : (markDrain b s).draw = s.draw := by
  unfold markDrain
  split <;> simp

@[simp] theorem enterBoiler_draw (st : BoilerState) (s : State) : (enterBoiler st s).draw = s.draw := by
  unfold enterBoiler
  split
  · rfl
  · dsimp only
    split <;> simp

@[simp] theorem endNoFlow_draw (s : State) : (endNoFlow s).draw = s.draw := by
  unfold endNoFlow
  split <;> simp

@[simp] theorem followTopUp_draw (s : State) : (followTopUp s).draw = s.draw := by
  unfold followTopUp
  split <;> simp

@[simp] theorem loadDrain_draw (r : Requester) (s : State) : (loadDrain r s).draw = s.draw := by
  have taken : (drainTaken r s).draw = s.draw := by
    unfold drainTaken
    rw [markDrain_draw]
    rfl
  cases free : holdsDose s .ch3 with
  | true =>
    unfold loadDrain
    rw [if_pos free]
  | false =>
    rw [loadDrain_eq r free]
    split
    · exact taken
    · rw [enterBoiler_draw, taken]

@[simp] theorem setClimate_draw (c : Climate) (s : State) : (setClimate c s).draw = s.draw := rfl

@[simp] theorem postCavity_draw (d : PerCavity Nat) (s : State) : (postCavity d s).draw = s.draw := rfl

@[simp] theorem postZeros_draw (s : State) : (postZeros s).draw = s.draw := by
  unfold postZeros
  simp

@[simp] theorem requestModeVent_draw (s : State) : (requestModeVent s).draw = s.draw := by
  unfold requestModeVent
  split
  · rfl
  · split <;> simp

@[simp] theorem issueOutputs_draw (s : State) : (issueOutputs s).draw = s.draw := by
  unfold issueOutputs
  split <;> simp

@[simp] theorem stageEntry_draw (sent : SentRecord) (s : State) : (stageEntry sent s).1.draw = s.draw := by
  unfold stageEntry
  split
  · rfl
  · dsimp only
    split <;> simp

@[simp] theorem resumeWrite_draw (sent : SentRecord) (temp moist door : Bool) (s : State) :
    (resumeWrite sent temp moist door s).draw = s.draw := by
  unfold resumeWrite
  split
  · simp
  · dsimp only
    rw [issueOutputs_draw, setClimate_draw]

@[simp] theorem adjustWrite_draw (setpoint moisture : Option Int) (s : State) :
    (adjustWrite setpoint moisture s).1.draw = s.draw := by
  unfold adjustWrite
  split <;> rfl

@[simp] theorem pauseClimate_draw (s : State) : (pauseClimate s).draw = s.draw := by
  unfold pauseClimate
  split <;> simp

@[simp] theorem unpauseClimate_draw (s : State) : (unpauseClimate s).draw = s.draw := by
  unfold unpauseClimate
  split <;> simp

@[simp] theorem withholdSteam_draw (b : Bool) (s : State) : (withholdSteam b s).draw = s.draw := by
  unfold withholdSteam
  split <;> simp

@[simp] theorem endClimate_draw (s : State) : (endClimate s).draw = s.draw := by
  unfold endClimate
  split <;> simp

@[simp] theorem enterClimateFault_draw (s : State) : (enterClimateFault s).draw = s.draw := by
  unfold enterClimateFault
  simp

@[simp] theorem leaveClimateFault_draw (s : State) : (leaveClimateFault s).draw = s.draw := by
  unfold leaveClimateFault
  split <;> simp

@[simp] theorem issueMoistureVent_draw (r : SetpointRecord) (s : State) :
    (issueMoistureVent r s).draw = s.draw := by
  unfold issueMoistureVent
  split
  · rfl
  · split <;> simp

@[simp] theorem testReached_draw (r : SetpointRecord) (s : State) : (testReached r s).1.draw = s.draw := by
  unfold testReached
  split <;> simp

@[simp] theorem testMoisture_draw (r : SetpointRecord) (s : State) : (testMoisture r s).1.draw = s.draw := by
  unfold testMoisture
  split <;> simp

@[simp] theorem runLoops_draw (r : SetpointRecord) (s : State) : (runLoops r s).draw = s.draw := by
  unfold runLoops
  dsimp only
  repeat' split
  all_goals simp

@[simp] theorem regulatorWindow_draw (s : State) : (regulatorWindow s).1.draw = s.draw := by
  unfold regulatorWindow
  split <;> simp

@[simp] theorem countRunaway_draw (s : State) : (countRunaway s).draw = s.draw := by
  unfold countRunaway
  split
  · rfl
  · split <;> simp

@[simp] theorem checkRunaway_draw (s : State) : (checkRunaway s).draw = s.draw := by
  unfold checkRunaway
  split <;> simp

@[simp] theorem checkCooldown_draw (s : State) : (checkCooldown s).draw = s.draw := by
  unfold checkCooldown
  split <;> simp

@[simp] theorem decideCoolingFan_draw (s : State) : (decideCoolingFan s).draw = s.draw := rfl

@[simp] theorem climateSample_draw (s : State) : (climateSample s).draw = s.draw := by
  unfold climateSample
  simp

@[simp] theorem setDescale_draw (d : Descale) (s : State) : (setDescale d s).draw = s.draw := rfl

@[simp] theorem setWork_draw (w : DescaleWork) (s : State) : (setWork w s).draw = s.draw := rfl

@[simp] theorem followPrompt_draw (s : State) : (followPrompt s).draw = s.draw := by
  unfold followPrompt
  simp

@[simp] theorem enterPhase_draw (p : DescalePhase) (step : Option RinseStep) (s : State) :
    (enterPhase p step s).draw = s.draw := by
  unfold enterPhase
  simp

@[simp] theorem setStall_draw (x : Stall) (s : State) : (setStall x s).draw = s.draw := by
  unfold setStall
  simp

@[simp] theorem giveSoakTarget_draw (s : State) : (giveSoakTarget s).draw = s.draw := by
  unfold giveSoakTarget
  simp

@[simp] theorem withdrawSoakTarget_draw (s : State) : (withdrawSoakTarget s).draw = s.draw := by
  unfold withdrawSoakTarget
  simp

@[simp] theorem tryDescaleDrain_draw (s : State) : (tryDescaleDrain s).draw = s.draw := by
  unfold tryDescaleDrain
  split <;> simp

@[simp] theorem wantDrain_draw (s : State) : (wantDrain s).draw = s.draw := by
  unfold wantDrain
  simp

@[simp] theorem tryDescaleDose_draw (s : State) : (tryDescaleDose s).draw = s.draw := by
  unfold tryDescaleDose
  dsimp only
  repeat' split
  all_goals simp

@[simp] theorem wantDose_draw (c : Chan) (a : DoseAmount) (s : State) : (wantDose c a s).draw = s.draw := by
  unfold wantDose
  simp

@[simp] theorem enterDraw_draw (s : State) : (enterDraw s).draw = s.draw := by
  unfold enterDraw
  simp

@[simp] theorem enterSoak_draw (s : State) : (enterSoak s).draw = s.draw := by
  unfold enterSoak
  simp

@[simp] theorem enterDrainAgent_draw (s : State) : (enterDrainAgent s).draw = s.draw := by
  unfold enterDrainAgent
  simp

@[simp] theorem enterRinse_draw (p : DescalePhase) (s : State) : (enterRinse p s).draw = s.draw := by
  unfold enterRinse
  simp

@[simp] theorem enterFill_draw (s : State) : (enterFill s).draw = s.draw := by
  unfold enterFill
  simp

@[simp] theorem enterDrainStep_draw (s : State) : (enterDrainStep s).draw = s.draw := by
  unfold enterDrainStep
  simp

@[simp] theorem boilerAfterFill_draw (s : State) : (boilerAfterFill s).draw = s.draw := by
  unfold boilerAfterFill
  split <;> simp

@[simp] theorem cancelDescaleFill_draw (s : State) : (cancelDescaleFill s).draw = s.draw := by
  unfold cancelDescaleFill
  split <;> simp

@[simp] theorem abortWithCredit_draw (s : State) : (abortWithCredit s).draw = s.draw := by
  unfold abortWithCredit
  simp

@[simp] theorem enterDryFault_draw (s : State) : (enterDryFault s).draw = s.draw := by
  unfold enterDryFault
  dsimp only
  repeat' split
  all_goals simp

@[simp] theorem leaveDryFault_draw (s : State) : (leaveDryFault s).draw = s.draw := by
  unfold leaveDryFault
  split <;> simp

@[simp] theorem followPrepare_draw (s : State) : (followPrepare s).draw = s.draw := by
  unfold followPrepare
  dsimp only
  repeat' split
  all_goals simp

@[simp] theorem descaleFillEnded_draw (s : State) : (descaleFillEnded s).draw = s.draw := by
  unfold descaleFillEnded
  dsimp only
  repeat' split
  all_goals simp

@[simp] theorem descaleDoseFaulted_draw (c : Chan) (s : State) : (descaleDoseFaulted c s).draw = s.draw := by
  unfold descaleDoseFaulted
  split <;> simp

@[simp] theorem descaleDone_draw (s : State) : (descaleDone s).draw = s.draw := by
  unfold descaleDone
  dsimp only
  split
  · simp only [enterPhase_draw, setDescale_draw, raiseEvent_draw, askCommit_draw]
    rfl
  · simp only [enterPhase_draw, setDescale_draw, raiseEvent_draw, clearAccount_draw]
    rfl

@[simp] theorem descaleDrainDone_draw (s : State) : (descaleDrainDone s).draw = s.draw := by
  unfold descaleDrainDone
  repeat' split
  all_goals simp

@[simp] theorem addCause_draw (p : PauseCause) (s : State) : (addCause p s).draw = s.draw := by
  unfold addCause
  split
  · rfl
  · dsimp only
    split <;> simp

@[simp] theorem removeCause_draw (p : PauseCause) (s : State) : (removeCause p s).draw = s.draw := by
  unfold removeCause
  split
  · dsimp only
    split <;> simp
  · rfl

@[simp] theorem requestBurst_draw (ml : Nat) (s : State) : (requestBurst ml s).draw = s.draw := by
  unfold requestBurst
  split <;> simp

@[simp] theorem cancelBurst_draw (s : State) : (cancelBurst s).draw = s.draw := by
  unfold cancelBurst
  split <;> simp

@[simp] theorem dropDeferred_draw (s : State) : (dropDeferred s).draw = s.draw := rfl

@[simp] theorem followWater_draw (s : State) : (followWater s).draw = s.draw := by
  have seen : ∀ x : Sequencer, ({ s with seq := x } : State).draw = s.draw := fun _ => rfl
  unfold followWater
  dsimp only
  split
  · rfl
  · split
    · simp [seen]
    · split <;> simp [seen]

@[simp] theorem degradeStage_draw (s : State) : (degradeStage s).draw = s.draw := by
  unfold degradeStage
  split <;> simp

@[simp] theorem endRun_draw (result : RunResult) (fault : Option FaultKind) (s : State) :
    (endRun result fault s).draw = s.draw := by
  have closed : (climateClosed result fault s).draw = s.draw := by
    have burst : (burstEnded s).draw = s.draw := by
      unfold burstEnded
      simp
    unfold climateClosed runClosed
    simp only [endClimate_draw, withholdSteam_draw, raiseEvent_draw]
    exact burst
  rw [endRun_eq, askCommit_draw]
  split
  · rw [markDrain_draw, closed]
  · exact closed

@[simp] theorem followProbe_draw (s : State) : (followProbe s).draw = s.draw := by
  unfold followProbe
  split
  · split <;> simp
  · rfl

@[simp] theorem addDoor_draw (s : State) : (addDoor s).draw = s.draw := by
  unfold addDoor
  simp

@[simp] theorem enterCauses_draw (atStart : Bool) (s : State) : (enterCauses atStart s).draw = s.draw := by
  have seen : ∀ x : Sequencer, ({ s with seq := x } : State).draw = s.draw := fun _ => rfl
  unfold enterCauses
  dsimp only
  repeat' split
  all_goals simp [seen]

@[simp] theorem enterBurst_draw (s : State) : (enterBurst s).draw = s.draw := by
  unfold enterBurst
  dsimp only
  repeat' split
  all_goals simp

@[simp] theorem enterStage_draw (i : Nat) (atStart : Bool) (s : State) :
    (enterStage i atStart s).1.draw = s.draw := by
  have degraded : ∀ (b : Bool) (t : State), (if b then degradeStage t else t).draw = t.draw := by
    intro b t
    split <;> simp
  unfold enterStage
  dsimp only
  split
  · simp
  · split
    · next written =>
      have entered := congrArg (fun p => p.1.draw) written
      simp only [stageEntry_draw, degraded, setRun_draw] at entered
      rw [endRun_draw, ← entered]
    · next written =>
      have entered := congrArg (fun p => p.1.draw) written
      simp only [stageEntry_draw, degraded, setRun_draw] at entered
      rw [enterBurst_draw, enterCauses_draw]
      split <;> simp [← entered]

@[simp] theorem closeStage_draw (s : State) : (closeStage s).draw = s.draw := by
  unfold closeStage
  simp

@[simp] theorem doseCompleted_draw (c : Chan) (d : Dose) (s : State) : (doseCompleted c d s).draw = s.draw := by
  unfold doseCompleted
  repeat' split
  all_goals simp

@[simp] theorem doseFaulted_draw (c : Chan) (d : Dose) (s : State) : (doseFaulted c d s).draw = s.draw := by
  unfold doseFaulted
  dsimp only
  repeat' split
  all_goals simp

@[simp] theorem setSlot_draw (n : Nat) (x : Slot) (s : State) : (setSlot n x s).draw = s.draw := rfl

@[simp] theorem terminalCount_draw (c : Chan) (s : State) : (terminalCount c s).draw = s.draw := by
  unfold terminalCount
  split
  · rfl
  · dsimp only
    split <;> simp

@[simp] theorem endPortion_draw (c : Chan) (s : State) : (endPortion c s).draw = s.draw := by
  unfold endPortion
  simp

@[simp] theorem highBecomesCovered_draw (s : State) : (highBecomesCovered s).draw = s.draw := by
  unfold highBecomesCovered
  repeat' split
  all_goals simp

@[simp] theorem drainEnded_draw (d : Dose) (s : State) : (drainEnded d s).draw = s.draw := by
  unfold drainEnded
  dsimp only
  repeat' split
  all_goals simp

@[simp] theorem markAgent_draw (c : Chan) (d : Dose) (s : State) : (markAgent c d s).draw = s.draw := by
  unfold markAgent
  split <;> rfl

@[simp] theorem countPulse_draw (c : Chan) (d : Dose) (s : State) : (countPulse c d s).draw = s.draw := by
  have counted : ∀ w : Water, ({ s with water := w } : State).draw = s.draw := fun _ => rfl
  unfold countPulse
  dsimp only
  repeat' split
  all_goals simp only [terminalCount_draw, endPortion_draw, markAgent_draw, setDose_draw, counted]

@[simp] theorem deriveBoiler_draw (counted : Bool) (s : State) : (deriveBoiler counted s).draw = s.draw := by
  unfold deriveBoiler
  split <;> simp

@[simp] theorem followBoiling_draw (s : State) : (followBoiling s).draw = s.draw := by
  unfold followBoiling
  repeat' split
  all_goals simp

@[simp] theorem checkDry_draw (s : State) : (checkDry s).draw = s.draw := by
  unfold checkDry
  split
  · dsimp only
    split <;> simp
  · rfl

@[simp] theorem raiseProbe_draw (was : Bool) (s : State) : (raiseProbe was s).draw = s.draw := by
  unfold raiseProbe
  split
  · rfl
  · split <;> simp

@[simp] theorem beginCavityFault_draw (before : State) (s : State) :
    (beginCavityFault before s).draw = s.draw := by
  unfold beginCavityFault
  split <;> simp

@[simp] theorem changeBoilerFault_draw (before : State) (s : State) :
    (changeBoilerFault before s).draw = s.draw := by
  unfold changeBoilerFault
  split <;> simp

@[simp] theorem followSensors_draw (s : State) : (followSensors s).draw = s.draw := by
  unfold followSensors
  simp

@[simp] theorem reportBoiler_draw (shortfall granted : Nat) (s : State) :
    (reportBoiler shortfall granted s).draw = s.draw := rfl

@[simp] theorem relayAtZeroCross_draw (c : Nat) (s : State) : (relayAtZeroCross c s).draw = s.draw := by
  unfold relayAtZeroCross
  split <;> simp

@[simp] theorem chargePath_draw (s : State) : (chargePath s).draw = s.draw := by
  unfold chargePath
  split <;> simp

@[simp] theorem chargeRunning_draw (s : State) : (chargeRunning s).draw = s.draw := by
  unfold chargeRunning
  dsimp only
  split <;> simp

@[simp] theorem withdrawRemote_draw (s : State) : (withdrawRemote s).draw = s.draw := by
  unfold withdrawRemote
  split <;> rfl

@[simp] theorem setProt_draw (p : Protection) (s : State) : (setProt p s).draw = s.draw := rfl

@[simp] theorem setPort_draw (l : Link) (p : Port) (s : State) : (setPort l p s).draw = s.draw := rfl

@[simp] theorem setInput_draw (i : Input) (x : InputLine) (s : State) : (setInput i x s).draw = s.draw := rfl

@[simp] theorem setQueue_draw (l : Link) (q : List Entry) (s : State) : (setQueue l q s).draw = s.draw := rfl

@[simp] theorem setMeas_draw (m : Measurement) (s : State) : (setMeas m s).draw = s.draw := rfl

@[simp] theorem requestDeferred_draw (s : State) : (requestDeferred s).draw = s.draw := by
  unfold requestDeferred
  split <;> simp

@[simp] theorem dropDoor_draw (s : State) : (dropDoor s).draw = s.draw := by
  unfold dropDoor
  split <;> simp

@[simp] theorem doorCloses_draw (s : State) : (doorCloses s).draw = s.draw := by
  unfold doorCloses
  dsimp only
  split <;> simp

@[simp] theorem followTray_draw (s : State) : (followTray s).draw = s.draw := by
  unfold followTray
  simp

@[simp] theorem tankChanges_draw (before : State) (s : State) : (tankChanges before s).draw = s.draw := by
  unfold tankChanges
  simp

@[simp] theorem endChanges_draw (e : VentEnd) (before : State) (s : State) :
    (endChanges e before s).draw = s.draw := by
  unfold endChanges
  split <;> simp

@[simp] theorem steer_draw (k : EventKind) (set : LinkSet) (s : State) : (steer k set s).draw = s.draw := rfl

@[simp] theorem afterRemovals_draw (s : State) : (afterRemovals s).draw = s.draw := by
  unfold afterRemovals
  simp

@[simp] theorem beginDescale_draw (s : State) : (beginDescale s).draw = s.draw := by
  unfold beginDescale
  simp

@[simp] theorem confirmStall_draw (s : State) : (confirmStall s).draw = s.draw := by
  unfold confirmStall
  split <;> simp

@[simp] theorem cancelOwn_draw (c : Chan) (s : State) : (cancelOwn c s).draw = s.draw := by
  unfold cancelOwn
  split <;> simp

@[simp] theorem abortClean_draw (s : State) : (abortClean s).draw = s.draw := by
  unfold abortClean
  dsimp only
  split <;> simp

@[simp] theorem storeAdjusted_draw (a : Adjustment) (s : State) : (storeAdjusted a s).draw = s.draw := by
  unfold storeAdjusted
  split <;> simp

@[simp] theorem applyDelta_draw (delta : Option Int) (s : State) : (applyDelta delta s).1.draw = s.draw := by
  unfold applyDelta
  split <;> simp

@[simp] theorem afterWrite_draw (number : Nat) (s : State) : (afterWrite number s).draw = s.draw := by
  unfold afterWrite
  split
  · rfl
  · rfl
  · simp
  · rfl

@[simp] theorem writeSetting_draw (number : Nat) (value : Int) (s : State) :
    (writeSetting number value s).draw = s.draw := by
  unfold writeSetting
  simp only [askCommit_draw, raiseEvent_draw, afterWrite_draw]
  rfl

@[simp] theorem settleLost_draw (s : State) : (settleLost s).draw = s.draw := by
  unfold settleLost
  split <;> rfl

@[simp] theorem raiseResumed_draw (s : State) : (raiseResumed s).draw = s.draw := by
  unfold raiseResumed
  dsimp only
  repeat' split
  all_goals simp

@[simp] theorem continueRun_draw (was : Causes) (s : State) : (continueRun was s).draw = s.draw := by
  have seen : ∀ x : Sequencer, ({ s with seq := x } : State).draw = s.draw := fun _ => rfl
  unfold continueRun
  dsimp only
  repeat' split
  all_goals simp [seen]

@[simp] theorem losePower_draw (s : State) : (losePower s).draw = s.draw := rfl

@[simp] theorem recoverAgent_draw (s : State) : (recoverAgent s).draw = s.draw := by
  unfold recoverAgent
  dsimp only
  repeat' split
  all_goals simp

@[simp] theorem recoverClean_draw (s : State) : (recoverClean s).draw = s.draw := by
  unfold recoverClean
  split <;> simp

@[simp] theorem recoverDescale_draw (s : State) : (recoverDescale s).draw = s.draw := by
  unfold recoverDescale
  split <;> simp

@[simp] theorem raiseLock_draw (input : Nat) (s : State) : (raiseLock input s).draw = s.draw := rfl

@[simp] theorem endServiceUnlock_draw (s : State) : (endServiceUnlock s).draw = s.draw := by
  unfold endServiceUnlock
  split <;> simp

@[simp] theorem writeLock_draw (input : Nat) (value : Bool) (s : State) :
    (writeLock input value s).draw = s.draw := by
  unfold writeLock
  split
  · dsimp only
    rw [askCommit_draw]
    split
    · exact raiseLock_draw ..
    · rfl
  · dsimp only
    split
    · exact raiseLock_draw ..
    · rfl

@[simp] theorem acceptFrame_draw (l : Link) (s : State) : (acceptFrame l s).draw = s.draw := by
  unfold acceptFrame
  split <;> simp

@[simp] theorem mainsReturns_draw (s : State) : (mainsReturns s).draw = s.draw := by
  have left : ∀ x : StartUp, ({ leaveFault .mainsLost (setMeas { s.meas with mainsPresent := true } s) with
      start := x } : State).draw = s.draw := fun x => leaveFault_draw ..
  unfold mainsReturns
  dsimp only
  split
  · rw [removeCause_draw, left]
  · exact left _

@[simp] theorem nextWrite_draw (s : State) : (nextWrite s).draw = s.draw := rfl

@[simp] theorem endWrite_draw (good : Bool) (record : StoreRecord) (s : State) :
    (endWrite good record s).draw = s.draw := by
  unfold endWrite
  rw [nextWrite_draw]
  split
  · rw [leaveFault_draw]
    rfl
  · simp

@[simp] theorem raiseAtReset_draw (s : State) : (raiseAtReset s).draw = s.draw := by
  unfold raiseAtReset
  dsimp only
  repeat' split
  all_goals simp

@[simp] theorem endStages_draw (fuel : Nat) (s : State) : (endStages fuel s).draw = s.draw := by
  induction fuel generalizing s with
  | zero => rfl
  | succ fuel ih =>
    have entered := enterStage_draw ((closeStage s).ret.run.stageIndex + 1) false (closeStage s)
    unfold endStages
    dsimp only
    split
    · simp
    · split
      · next taken =>
        rw [taken, closeStage_draw] at entered
        split
        · rw [ih, entered]
        · exact entered
      · next taken =>
        rw [taken, closeStage_draw] at entered
        exact entered

@[simp] theorem endStage_draw (s : State) : (endStage s).draw = s.draw := by
  unfold endStage
  simp

@[simp] theorem checkStageEnd_draw (s : State) : (checkStageEnd s).draw = s.draw := by
  unfold checkStageEnd
  split <;> simp

@[simp] theorem checkRunFaults_draw (s : State) : (checkRunFaults s).draw = s.draw := by
  unfold checkRunFaults
  dsimp only
  repeat' split
  all_goals simp

@[simp] theorem takeReports_draw (r : ReachedReport) (s : State) : (takeReports r s).draw = s.draw := by
  unfold takeReports
  dsimp only
  repeat' split
  all_goals simp

@[simp] theorem testCore_draw (s : State) : (testCore s).draw = s.draw := by
  unfold testCore
  split
  · rfl
  · split <;> simp

@[simp] theorem afterReadings_draw (before : State) (s : State) : (afterReadings before s).draw = s.draw := by
  unfold afterReadings
  simp only [checkStageEnd_draw, testCore_draw, followProbe_draw, checkDry_draw, followBoiling_draw, deriveBoiler_draw,
    climateSample_draw, changeBoilerFault_draw, beginCavityFault_draw]

@[simp] theorem waterTimesOut_draw (s : State) : (waterTimesOut s).draw = s.draw := by
  unfold waterTimesOut
  simp

@[simp] theorem enterFirst_draw (s : State) : (enterFirst s).draw = s.draw := by
  have entered := enterStage_draw 0 true s
  unfold enterFirst
  split
  · next taken =>
    rw [taken] at entered
    rw [checkStageEnd_draw, entered]
  · next taken =>
    rw [taken] at entered
    exact entered

@[simp] theorem resumeRun_draw (s : State) : (resumeRun s).draw = s.draw := by
  have begun : ∀ x : StartUp, ({ s with start := x } : State).draw = s.draw := fun _ => rfl
  unfold resumeRun
  dsimp only
  repeat' split
  all_goals simp [begun]

@[simp] theorem settleRun_draw (s : State) : (settleRun s).draw = s.draw := by
  unfold settleRun
  repeat' split
  all_goals simp

@[simp] theorem endStarting_draw (s : State) : (endStarting s).draw = s.draw := by
  unfold endStarting
  rw [recoverDescale_draw, settleRun_draw]
  rfl

end Sys2Proof.Machine
end

section
/-! SUPPORT. The budget law through what moves it (R52, R59, R64 to R68, R80, R81): forces made and removed, cuts,
window starts and allocations, the firing of a half-cycle, and a loss of the mains. -/

namespace Sys2Proof.Machine

/-- The budget law but for the loads firing: what the limits, the runs, the forces and the claim say of each other. -/
structure ShareSound (s : State) : Prop where
  windowLimits : LimitsSound s.share.window
  preparedLimits : LimitsSound s.share.prepared
  window : ∀ k : Nat,
    powerOf s.share.window (fun l => (s.out.heat.get l).active.covers k || forcedFiring l s) ≤ s.share.window.headroom
  claims : ∀ e ∈ s.out.forces, ∀ l : Load, outputLoad e.output = some l → s.share.claim = some l
  ended : s.share.allocation = none → ∀ k : Nat,
    powerOf s.share.prepared (fun l => (s.out.heat.get l).pending.covers k || forcedNext l s) ≤
      s.share.prepared.headroom
  begun : ∀ a : Allocation, s.share.allocation = some a →
    (∀ k : Nat, cyclePower s.share.prepared a k ≤ s.share.prepared.headroom) ∧
    (∀ l : Load, (s.out.heat.get l).pending.length = 0) ∧
    ∀ e ∈ s.out.forces, ∀ l : Load, outputLoad e.output = some l →
      e.phase ≠ .marked ∧ (e.phase = .firing → a.placed = some l)

/-- The loads firing stay within the budget of the window (R59). -/
def FiredSound (s : State) : Prop :=
  s.share.window.reserve + powerOf s.share.window (fun l => (s.out.heat.get l).fired) ≤ s.share.window.budget

theorem budgetSound_iff {s : State} : BudgetSound s ↔ ShareSound s ∧ FiredSound s :=
  ⟨fun h => ⟨⟨h.windowLimits, h.preparedLimits, h.window, h.claims, h.ended, h.begun⟩, h.fired⟩,
    fun ⟨h, fired⟩ => ⟨h.windowLimits, h.preparedLimits, fired, h.window, h.claims, h.ended, h.begun⟩⟩

section
variable {s t : State}

/-! ## What the law reads -/

theorem draw_share (same : t.draw = s.draw) :
    t.share.window = s.share.window ∧ t.share.prepared = s.share.prepared ∧ t.share.claim = s.share.claim ∧
      t.share.allocation = s.share.allocation ∧ t.out.heat = s.out.heat :=
  ⟨congrArg Draw.window same, congrArg Draw.prepared same, congrArg Draw.claim same, congrArg Draw.allocation same,
    congrArg Draw.heat same⟩

theorem draw_forces (same : t.draw = s.draw) :
    t.out.forces.map (fun e => (e.output, e.phase)) = s.out.forces.map (fun e => (e.output, e.phase)) :=
  congrArg Draw.forces same

/-- An entry of one table stands in the other one with its phase. -/
theorem mem_of_draw (same : t.draw = s.draw) {e : ForceEntry} (member : e ∈ t.out.forces) :
    ∃ x ∈ s.out.forces, x.output = e.output ∧ x.phase = e.phase := by
  have here : (e.output, e.phase) ∈ s.out.forces.map (fun e => (e.output, e.phase)) := by
    rw [← draw_forces same]
    exact List.mem_map_of_mem member
  obtain ⟨x, there, pair⟩ := List.mem_map.mp here
  exact ⟨x, there, congrArg Prod.fst pair, congrArg Prod.snd pair⟩

theorem forcedFiring_iff {l : Load} :
    forcedFiring l s = true ↔ ∃ e ∈ s.out.forces, outputLoad e.output = some l ∧ e.phase = .firing := by
  simp [forcedFiring]

theorem forcedNext_iff {l : Load} :
    forcedNext l s = true ↔ ∃ e ∈ s.out.forces, outputLoad e.output = some l ∧ e.phase ≠ .placing := by
  simp [forcedNext]

theorem forcedNext_of_firing {l : Load} (h : forcedFiring l s = true) : forcedNext l s = true := by
  obtain ⟨e, member, load, phase⟩ := forcedFiring_iff.mp h
  exact forcedNext_iff.mpr ⟨e, member, load, by rw [phase]; decide⟩

/-- Every entry of `t`'s force table stands in `s`'s with its output and phase. -/
def ForcesFrom (s t : State) : Prop :=
  ∀ e ∈ t.out.forces, ∃ x ∈ s.out.forces, x.output = e.output ∧ x.phase = e.phase

theorem ForcesFrom.firing (h : ForcesFrom s t) {l : Load} (firing : forcedFiring l t = true) :
    forcedFiring l s = true := by
  obtain ⟨e, member, load, phase⟩ := forcedFiring_iff.mp firing
  obtain ⟨x, there, output, same⟩ := h e member
  exact forcedFiring_iff.mpr ⟨x, there, output ▸ load, same ▸ phase⟩

theorem ForcesFrom.next (h : ForcesFrom s t) {l : Load} (next : forcedNext l t = true) : forcedNext l s = true := by
  obtain ⟨e, member, load, phase⟩ := forcedNext_iff.mp next
  obtain ⟨x, there, output, same⟩ := h e member
  exact forcedNext_iff.mpr ⟨x, there, output ▸ load, same ▸ phase⟩

/-- Two tests joined by "or" hold no more often where each holds no more often. -/
theorem or_mono {a b c d : Bool} (left : a = true → c = true) (right : b = true → d = true) :
    (a || b) = true → (c || d) = true := by
  revert left right
  cases a <;> cases b <;> cases c <;> cases d <;> decide

/-- Where limits, claim and allocation stay and runs and forces only go, the law stays. -/
theorem ShareSound.fewer (h : ShareSound s) (share : t.share = s.share) (forces : ForcesFrom s t)
    (active : ∀ l k, (t.out.heat.get l).active.covers k = true → (s.out.heat.get l).active.covers k = true)
    (pending : ∀ l k, (t.out.heat.get l).pending.covers k = true → (s.out.heat.get l).pending.covers k = true)
    (empty : ∀ l, (s.out.heat.get l).pending.length = 0 → (t.out.heat.get l).pending.length = 0) : ShareSound t where
  windowLimits := share ▸ h.windowLimits
  preparedLimits := share ▸ h.preparedLimits
  window k := by
    rw [share]
    exact Nat.le_trans (powerOf_mono fun l => or_mono (active l k) forces.firing) (h.window k)
  claims e member l load := by
    obtain ⟨x, there, output, -⟩ := forces e member
    rw [share]
    exact h.claims x there l (output ▸ load)
  ended none k := by
    rw [share] at none ⊢
    exact Nat.le_trans (powerOf_mono fun l => or_mono (pending l k) forces.next) (h.ended none k)
  begun a allocated := by
    rw [share] at allocated ⊢
    obtain ⟨power, runs, phases⟩ := h.begun a allocated
    refine ⟨power, fun l => empty l (runs l), fun e member l load => ?_⟩
    obtain ⟨x, there, output, phase⟩ := forces e member
    rw [← phase]
    exact phases x there l (output ▸ load)

theorem ShareSound.same (h : ShareSound s) (same : t.draw = s.draw) : ShareSound t := by
  obtain ⟨window, prepared, claim, allocation, heat⟩ := draw_share same
  have forces : ForcesFrom s t := fun e member => mem_of_draw same member
  constructor
  · rw [window]; exact h.windowLimits
  · rw [prepared]; exact h.preparedLimits
  · intro k
    rw [window, heat]
    exact Nat.le_trans (powerOf_mono fun l => or_mono id forces.firing) (h.window k)
  · intro e member l load
    obtain ⟨x, there, output, -⟩ := forces e member
    rw [claim]
    exact h.claims x there l (output ▸ load)
  · intro none k
    rw [allocation] at none
    rw [prepared, heat]
    exact Nat.le_trans (powerOf_mono fun l => or_mono id forces.next) (h.ended none k)
  · intro a allocated
    rw [allocation] at allocated
    rw [prepared, heat]
    obtain ⟨power, runs, phases⟩ := h.begun a allocated
    refine ⟨power, runs, fun e member l load => ?_⟩
    obtain ⟨x, there, output, phase⟩ := forces e member
    rw [← phase]
    exact phases x there l (output ▸ load)

theorem FiredSound.same (h : FiredSound s) (same : t.draw = s.draw) : FiredSound t := by
  obtain ⟨window, -, -, -, heat⟩ := draw_share same
  unfold FiredSound
  rw [window, heat]
  exact h

theorem BudgetSound.same (h : BudgetSound s) (same : t.draw = s.draw) : BudgetSound t := by
  obtain ⟨share, fired⟩ := budgetSound_iff.mp h
  exact budgetSound_iff.mpr ⟨share.same same, fired.same same⟩

/-! ## Forces are removed (R81) -/

theorem outputLoad_iff {o : Output} {l : Load} : outputLoad o = some l ↔ o = loadOutput l := by
  constructor
  · intro h
    cases o <;> cases h <;> rfl
  · rintro rfl
    cases l <;> rfl

/-- A table has entries of one heat load at most: each holds the claim. -/
theorem ShareSound.oneHeat (h : ShareSound s) {e x : ForceEntry} (he : e ∈ s.out.forces) (hx : x ∈ s.out.forces)
    {l m : Load} (load : outputLoad e.output = some l) (other : outputLoad x.output = some m) :
    e.output = x.output := by
  have claim := (h.claims e he l load).symm.trans (h.claims x hx m other)
  obtain rfl : l = m := Option.some.inj claim
  rw [outputLoad_iff.mp load, outputLoad_iff.mp other]

theorem withoutForce_from (o : Output) (s : State) {e : ForceEntry} (member : e ∈ withoutForce o s) :
    e ∈ s.out.forces ∧ e.output ≠ o := by
  simpa [withoutForce] using member

/-- Less power is drawn in a cycle where no claim is placed. -/
theorem cyclePower_unplaced (limits : Limits) (a : Allocation) (k : Nat) :
    cyclePower limits { a with placed := none } k ≤ cyclePower limits a k := by
  unfold cyclePower
  apply List.sum_le_sum
  intro l _
  unfold loadPower
  dsimp only
  split
  · next drawn =>
    rw [if_pos (.inr (by simpa using drawn))]
  · exact Nat.zero_le _

theorem removeForce_share (o : Output) (h : ShareSound s) : ShareSound (removeForce o s) := by
  cases entered : (forceEntry o s).isSome with
  | false => rwa [removeForce_none entered]
  | true =>
    have forces : ForcesFrom s (removeForce o s) := by
      intro e member
      rw [removeForce_forces] at member
      exact ⟨e, (withoutForce_from o s member).1, rfl, rfl⟩
    have heat : (removeForce o s).out.heat = s.out.heat := by rw [removeForce_eq entered]
    obtain ⟨x, found⟩ := Option.isSome_iff_exists.mp entered
    have stands : x ∈ s.out.forces := List.mem_of_find?_eq_some found
    have names : x.output = o := by simpa using List.find?_some found
    cases load : outputLoad o with
    | none =>
      have share : (removeForce o s).share = s.share := by
        rw [removeForce_eq entered, load]
        rfl
      exact h.fewer share forces (by rw [heat]; exact fun _ _ => id) (by rw [heat]; exact fun _ _ => id)
        (by rw [heat]; exact fun _ => id)
    | some l =>
      have share : (removeForce o s).share = (dropClaim s).share := by
        rw [removeForce_eq entered, load]
        rfl
      have noHeat : ∀ e ∈ (removeForce o s).out.forces, ∀ m : Load, outputLoad e.output ≠ some m := by
        intro e member m other
        rw [removeForce_forces] at member
        obtain ⟨old, differs⟩ := withoutForce_from o s member
        exact differs ((h.oneHeat old stands other (names ▸ load)).trans names)
      constructor
      · rw [share]; exact h.windowLimits
      · rw [share]; exact h.preparedLimits
      · intro k
        rw [share, heat]
        exact Nat.le_trans (powerOf_mono fun l => or_mono id forces.firing) (h.window k)
      · exact fun e member m other => absurd other (noHeat e member m)
      · intro none k
        rw [share] at none ⊢
        rw [heat]
        exact Nat.le_trans (powerOf_mono fun l => or_mono id forces.next) (h.ended (by simpa [dropClaim] using none) k)
      · intro b allocated
        rw [share] at allocated ⊢
        obtain ⟨a, was, rfl⟩ := Option.map_eq_some_iff.mp (show s.share.allocation.map _ = some b from allocated)
        obtain ⟨power, runs, -⟩ := h.begun a was
        exact ⟨fun k => Nat.le_trans (cyclePower_unplaced _ a k) (power k), by rw [heat]; exact runs,
          fun e member m other => absurd other (noHeat e member m)⟩

theorem removeForce_fired (o : Output) (h : FiredSound s) : FiredSound (removeForce o s) := by
  cases entered : (forceEntry o s).isSome with
  | false => rwa [removeForce_none entered]
  | true =>
    unfold FiredSound
    rw [removeForce_eq entered]
    dsimp only
    split <;> exact h

theorem removeForce_budget (o : Output) (h : BudgetSound s) : BudgetSound (removeForce o s) := by
  obtain ⟨share, fired⟩ := budgetSound_iff.mp h
  exact budgetSound_iff.mpr ⟨removeForce_share o share, removeForce_fired o fired⟩

theorem removeForces_budget (which : Output → Bool) (h : BudgetSound s) : BudgetSound (removeForces which s) := by
  unfold removeForces
  generalize allOutputs = os
  induction os generalizing s with
  | nil => exact h
  | cons o rest ih =>
    rw [List.foldl_cons]
    apply ih
    split
    · exact removeForce_budget o h
    · exact h

theorem endForces_budget (h : BudgetSound s) : BudgetSound (endForces s) :=
  (removeForces_budget _ h).same (endPulse_draw _)

theorem yieldForces_budget (h : BudgetSound s) : BudgetSound (yieldForces s) := by
  unfold yieldForces
  split
  · exact h
  · exact endForces_budget h

/-- The end of a step keeps the law. -/
theorem settle_budget (h : BudgetSound s) : BudgetSound (settle s) := by
  have before : BudgetSound (followPrepare (followNeed (followWater (followTopUp (checkRunFaults s))))) :=
    h.same (by simp)
  exact (yieldForces_budget before).same (by unfold settle; simp)

theorem BudgetSound.settled (h : BudgetSound s) (same : t.draw = s.draw) : BudgetSound (settle t) :=
  settle_budget (h.same same)

/-! ## Runs are cut (R63, R66 to R68) -/

/-- A channel's runs stay or are discarded, and it triggers no more than before. -/
def HeatFewer (x y : HeatChannel) : Prop :=
  (∀ k, y.active.covers k = true → x.active.covers k = true) ∧
    (∀ k, y.pending.covers k = true → x.pending.covers k = true) ∧
    (x.pending.length = 0 → y.pending.length = 0) ∧ (y.fired = true → x.fired = true)

theorem HeatFewer.refl (x : HeatChannel) : HeatFewer x x := ⟨fun _ => id, fun _ => id, id, id⟩

theorem cut_fewer (x : HeatChannel) : HeatFewer x x.cut :=
  ⟨fun k covered => absurd covered (by simp [HeatChannel.cut]),
    fun k covered => absurd covered (by simp [HeatChannel.cut]),
    fun _ => rfl, id⟩

theorem BudgetSound.cut (h : BudgetSound s) {heat : PerLoad HeatChannel}
    (fewer : ∀ l, HeatFewer (s.out.heat.get l) (heat.get l)) :
    BudgetSound { s with out := { s.out with heat := heat } } := by
  obtain ⟨share, fired⟩ := budgetSound_iff.mp h
  refine budgetSound_iff.mpr ⟨share.fewer rfl (fun e member => ⟨e, member, rfl, rfl⟩) (fun l => (fewer l).1)
    (fun l => (fewer l).2.1) (fun l => (fewer l).2.2.1), ?_⟩
  exact Nat.le_trans (Nat.add_le_add_left (powerOf_mono fun l => (fewer l).2.2.2) _) fired

theorem cutAll_budget (h : BudgetSound s) : BudgetSound (cutAll s) :=
  h.cut fun l => by rw [PerLoad.get_map]; exact cut_fewer _

theorem cutBoiler_budget (h : BudgetSound s) : BudgetSound (cutBoiler s) := by
  refine h.cut fun l => ?_
  cases l with
  | boiler => exact cut_fewer _
  | top => exact .refl _
  | bottom => exact .refl _
  | ring => exact .refl _
  | grill => exact .refl _

theorem cutCavity_budget (h : BudgetSound s) : BudgetSound (cutCavity s) := by
  refine h.cut fun l => ?_
  cases l with
  | boiler => exact .refl _
  | top => exact cut_fewer _
  | bottom => exact cut_fewer _
  | ring => exact cut_fewer _
  | grill => exact cut_fewer _

/-! ## A loss of the mains (R17, R63) -/

/-- After a loss no run and no firing force is left, and no load fires. -/
theorem BudgetSound.stopped (h : BudgetSound s) (window : t.share.window = s.share.window)
    (prepared : t.share.prepared = s.share.prepared) (claim : t.share.claim = s.share.claim)
    (allocation : t.share.allocation = none) (forces : t.out.forces = s.out.forces.map ForceEntry.toPlacing)
    (heat : ∀ l, t.out.heat.get l = ⟨.empty, .empty, false⟩) : BudgetSound t := by
  have placing : ∀ e ∈ t.out.forces, e.phase = .placing ∧ ∃ x ∈ s.out.forces, x.output = e.output := by
    intro e member
    rw [forces] at member
    obtain ⟨x, there, rfl⟩ := List.mem_map.mp member
    exact ⟨rfl, x, there, rfl⟩
  have notNext : ∀ l, forcedNext l t = false := by
    intro l
    rw [Bool.eq_false_iff]
    intro next
    obtain ⟨e, member, -, phase⟩ := forcedNext_iff.mp next
    exact phase (placing e member).1
  have notFiring : ∀ l, forcedFiring l t = false := fun l =>
    Bool.eq_false_iff.mpr fun firing => absurd (forcedNext_of_firing firing) (by simp [notNext])
  refine ⟨window ▸ h.windowLimits, prepared ▸ h.preparedLimits, ?_, fun k => ?_, fun e member l load => ?_,
    fun _ k => ?_, fun a allocated => ?_⟩
  · have limits := h.windowLimits
    unfold LimitsSound at limits
    simp only [heat, powerOf_none]
    rw [window]
    omega
  · simp only [heat, Run.covers_empty, notFiring, Bool.or_self, powerOf_none, Nat.zero_le]
  · obtain ⟨-, x, there, output⟩ := placing e member
    rw [claim]
    exact h.claims x there l (output ▸ load)
  · simp only [heat, Run.covers_empty, notNext, Bool.or_self, powerOf_none, Nat.zero_le]
  · rw [allocation] at allocated
    cases allocated

/-! ## A force is made (R79, R80) -/

/-- An entry after the making is an old one, or the output's own, in PLACING or in the phase it had. -/
theorem placeForce_mem {o : Output} {level ended : Bool} {es : List ForceEntry} {e : ForceEntry}
    (member : e ∈ placeForce o level ended es) :
    e ∈ es ∨ e.output = o ∧ (e.phase = .placing ∨ ∃ x ∈ es, x.output = o ∧ x.phase = e.phase) := by
  induction es with
  | nil =>
    obtain rfl := List.mem_singleton.mp member
    exact .inr ⟨rfl, .inl rfl⟩
  | cons x rest ih =>
    unfold placeForce at member
    split at member
    · next named =>
      rcases List.mem_cons.mp member with rfl | old
      · exact .inr ⟨named, .inr ⟨x, List.mem_cons_self, named, rfl⟩⟩
      · exact .inl (List.mem_cons_of_mem _ old)
    · rcases List.mem_cons.mp member with rfl | new
      · exact .inl List.mem_cons_self
      · rcases ih new with old | ⟨named, placing | ⟨y, there, output, phase⟩⟩
        · exact .inl (List.mem_cons_of_mem _ old)
        · exact .inr ⟨named, .inl placing⟩
        · exact .inr ⟨named, .inr ⟨y, List.mem_cons_of_mem _ there, output, phase⟩⟩

/-- Every entry but those in PLACING has its output and phase from the table before the making. -/
theorem placeForce_from {o : Output} {level ended : Bool} {es : List ForceEntry} {e : ForceEntry}
    (member : e ∈ placeForce o level ended es) :
    e.phase = .placing ∨ ∃ x ∈ es, x.output = e.output ∧ x.phase = e.phase := by
  rcases placeForce_mem member with old | ⟨named, placing | ⟨x, there, output, phase⟩⟩
  · exact .inr ⟨e, old, rfl, rfl⟩
  · exact .inl placing
  · exact .inr ⟨x, there, output.trans named.symm, phase⟩

theorem makeForce_out (o : Output) (level : Bool) (s : State) :
    (makeForce o level s).out = { s.out with forces := placeForce o level (startsAtEnd s o) s.out.forces } := by
  unfold makeForce
  dsimp only
  split <;> rfl

/-- A force is made where no other heat load has an entry, or for an output that is no heat load. -/
theorem makeForce_budget {o : Output} {level : Bool} (h : BudgetSound s)
    (alone : ∀ l, outputLoad o = some l → otherHeatForced o s = false) : BudgetSound (makeForce o level s) := by
  have heat : (makeForce o level s).out.heat = s.out.heat := by rw [makeForce_out]
  have table : (makeForce o level s).out.forces = placeForce o level (startsAtEnd s o) s.out.forces := by
    rw [makeForce_out]
  have share : (makeForce o level s).share =
      { s.share with claim := match outputLoad o with | none => s.share.claim | some l => some l } := by
    unfold makeForce
    dsimp only
    cases outputLoad o <;> rfl
  have next : ∀ l, forcedNext l (makeForce o level s) = true → forcedNext l s = true := by
    intro l forced
    obtain ⟨e, member, load, phase⟩ := forcedNext_iff.mp forced
    rw [table] at member
    rcases placeForce_from member with placing | ⟨x, there, output, same⟩
    · exact absurd placing phase
    · exact forcedNext_iff.mpr ⟨x, there, output ▸ load, same ▸ phase⟩
  have firing : ∀ l, forcedFiring l (makeForce o level s) = true → forcedFiring l s = true := by
    intro l forced
    obtain ⟨e, member, load, phase⟩ := forcedFiring_iff.mp forced
    rw [table] at member
    rcases placeForce_from member with placing | ⟨x, there, output, same⟩
    · rw [phase] at placing
      cases placing
    · exact forcedFiring_iff.mpr ⟨x, there, output ▸ load, same ▸ phase⟩
  constructor
  · rw [share]; exact h.windowLimits
  · rw [share]; exact h.preparedLimits
  · rw [share, heat]; exact h.fired
  · intro k
    rw [share, heat]
    exact Nat.le_trans (powerOf_mono fun l => or_mono id (firing l)) (h.window k)
  · intro e member l load
    rw [table] at member
    rw [share]
    dsimp only
    cases own : outputLoad o with
    | none =>
      rcases placeForce_mem member with old | ⟨named, -⟩
      · exact h.claims e old l load
      · rw [named, own] at load
        cases load
    | some m =>
      rcases placeForce_mem member with old | ⟨named, -⟩
      · have single := alone m own
        unfold otherHeatForced isHeatOutput at single
        rw [List.any_eq_false] at single
        have named : e.output = o := by
          have := single e old
          rw [load] at this
          simpa using this
        rw [← own, ← named, load]
      · rw [← own, ← named, load]
  · intro none k
    rw [share] at none ⊢
    rw [heat]
    exact Nat.le_trans (powerOf_mono fun l => or_mono id (next l)) (h.ended none k)
  · intro a allocated
    rw [share] at allocated ⊢
    rw [heat]
    obtain ⟨power, runs, phases⟩ := h.begun a allocated
    refine ⟨power, runs, fun e member l load => ?_⟩
    rw [table] at member
    rcases placeForce_from member with placing | ⟨x, there, output, same⟩
    · rw [placing]
      exact ⟨by decide, fun firing => by cases firing⟩
    · rw [← same]
      exact phases x there l (output ▸ load)

end

end Sys2Proof.Machine
end

section
/-! SUPPORT. The budget law at a window start (R49, R51, R56, R63, R64): the end of an allocation, what a window adopts,
the next allocation, and the firing of a half-cycle. -/

namespace Sys2Proof.Machine

/-! ## The end of an allocation (R56, R64, R80) -/

/-- The pending run that a grant leaves (R64). -/
def grantedRun (a : Allocation) (s : State) (l : Load) : Run :=
  if grantDiscarded l s || decide ((a.runs.get l).length = 0) then Run.empty else a.runs.get l

/-- The heat channels with the grants of an allocation. -/
def grantedHeat (a : Allocation) (s : State) : PerLoad HeatChannel :=
  { top := { s.out.heat.top with pending := grantedRun a s .top }
    bottom := { s.out.heat.bottom with pending := grantedRun a s .bottom }
    ring := { s.out.heat.ring with pending := grantedRun a s .ring }
    grill := { s.out.heat.grill with pending := grantedRun a s .grill }
    boiler := { s.out.heat.boiler with pending := grantedRun a s .boiler } }

theorem grantedHeat_get (a : Allocation) (s : State) (l : Load) :
    (grantedHeat a s).get l = { s.out.heat.get l with pending := grantedRun a s l } := by
  cases l <;> rfl

theorem PerLoad.eq_of_get {α : Type} {p q : PerLoad α} (h : ∀ l, p.get l = q.get l) : p = q := by
  obtain ⟨_, _, _, _, _⟩ := p
  obtain ⟨_, _, _, _, _⟩ := q
  exact congr (congr (congr (congr (congrArg PerLoad.mk (h .top)) (h .bottom)) (h .ring)) (h .grill)) (h .boiler)

/-- The grants of some loads are written one after the other, each on the readings of the first state. -/
theorem writeGrants (a : Allocation) (ls : List Load) (s : State) :
    ∃ heat, ls.foldl (writeGrant a) s = { s with out := { s.out with heat := heat } } ∧
      ∀ l, heat.get l = if l ∈ ls then { s.out.heat.get l with pending := grantedRun a s l } else s.out.heat.get l := by
  induction ls generalizing s with
  | nil => exact ⟨s.out.heat, rfl, fun l => by simp⟩
  | cons x rest ih =>
    obtain ⟨heat, written, each⟩ := ih (writeGrant a s x)
    refine ⟨heat, by rw [List.foldl_cons, written]; rfl, fun l => ?_⟩
    have one : (writeGrant a s x).out.heat =
        s.out.heat.set x { s.out.heat.get x with pending := grantedRun a s x } := rfl
    have same : grantedRun a (writeGrant a s x) l = grantedRun a s l := rfl
    rw [each, one, same, PerLoad.get_set]
    by_cases here : l = x
    · subst here
      simp
    · simp [here]

theorem writeGrants_eq (a : Allocation) (s : State) :
    allLoads.foldl (writeGrant a) s = { s with out := { s.out with heat := grantedHeat a s } } := by
  obtain ⟨heat, written, each⟩ := writeGrants a allLoads s
  have all : heat = grantedHeat a s := PerLoad.eq_of_get fun l => by
    have member : l ∈ allLoads := by cases l <;> decide
    rw [each, if_pos member, grantedHeat_get]
  rw [written, all]

/-- What the end of an allocation hands on, before LOAD_OVER_BUDGET follows the marks (R56, R57, R80). -/
def resultsHanded (a : Allocation) (s : State) : State :=
  { s with
    out := { s.out with heat := grantedHeat a s, forces := s.out.forces.map (markPlaced a.placed) }
    share := { s.share with preparedGrants := a.granted, marks := a.marks, allocation := none }
    climate := { s.climate with shortfall := a.shortfalls.cavity }
    boiler := { s.boiler with
      shortfall := a.shortfalls.boiler
      heatUp :=
        if s.boiler.state = .heating ∧ s.ret.descale.phase = .idle then s.boiler.heatUp + a.granted.boiler
        else s.boiler.heatUp } }

/-- The end of an allocation (R56 to R58). -/
theorem endAllocation_eq (a : Allocation) (s : State) :
    endAllocation a s = followFault .loadOverBudget (anyMark a.marks) (resultsHanded a s) := by
  unfold endAllocation
  rw [writeGrants_eq]
  rfl

/-- A granted run covers no cycle that the allocation's does not. -/
theorem grantedRun_covers {a : Allocation} {s : State} {l : Load} {k : Nat}
    (covered : (grantedRun a s l).covers k = true) :
    (a.runs.get l).covers k = true := by
  unfold grantedRun at covered
  split at covered
  · simp at covered
  · exact covered

section
variable {s t : State}

theorem markPlaced_output (placed : Option Load) (e : ForceEntry) : (markPlaced placed e).output = e.output := by
  unfold markPlaced
  split <;> rfl

/-- A mark is given to the placed load's entry alone, and FIRING stays FIRING. -/
theorem markPlaced_phase (placed : Option Load) (e : ForceEntry) :
    (markPlaced placed e).phase = e.phase ∨
      (markPlaced placed e).phase = .marked ∧ (outputLoad e.output).isSome = true ∧ outputLoad e.output = placed := by
  unfold markPlaced
  split
  · next marks => exact .inr ⟨rfl, marks.1, marks.2.1⟩
  · exact .inl rfl

/-- What an allocation has worked out is what the next window may adopt (R56, R59). -/
theorem endAllocation_share {a : Allocation} (h : ShareSound s) (allocated : s.share.allocation = some a) :
    ShareSound (endAllocation a s) := by
  obtain ⟨power, -, phases⟩ := h.begun a allocated
  rw [endAllocation_eq]
  refine ShareSound.same (s := resultsHanded a s) ?_ (followFault_draw ..)
  have heat : (resultsHanded a s).out.heat = grantedHeat a s := rfl
  constructor
  · exact h.windowLimits
  · exact h.preparedLimits
  · intro k
    refine Nat.le_trans (powerOf_mono fun l => or_mono ?_ ?_) (h.window k)
    · rw [heat, grantedHeat_get]
      exact id
    · intro firing
      obtain ⟨e, member, load, phase⟩ := forcedFiring_iff.mp firing
      obtain ⟨x, there, rfl⟩ := List.mem_map.mp member
      rw [markPlaced_output] at load
      rcases markPlaced_phase a.placed x with same | ⟨marked, -⟩
      · exact forcedFiring_iff.mpr ⟨x, there, load, same ▸ phase⟩
      · rw [marked] at phase
        cases phase
  · intro e member l load
    obtain ⟨x, there, rfl⟩ := List.mem_map.mp member
    rw [markPlaced_output] at load
    exact h.claims x there l load
  · intro _ k
    refine Nat.le_trans (?_ : _ ≤ cyclePower s.share.prepared a k) (power k)
    apply List.sum_le_sum
    intro l _
    unfold loadPower
    split
    · next drawn =>
      dsimp only at drawn
      rw [heat, grantedHeat_get] at drawn
      have draws : a.placed = some l ∨ (a.runs.get l).covers k = true := by
        rcases Bool.or_eq_true_iff.mp drawn with pending | next
        · exact .inr (grantedRun_covers pending)
        · obtain ⟨e, member, load, phase⟩ := forcedNext_iff.mp next
          obtain ⟨x, there, rfl⟩ := List.mem_map.mp member
          rw [markPlaced_output] at load
          rcases markPlaced_phase a.placed x with same | ⟨-, -, placed⟩
          · obtain ⟨unmarked, fires⟩ := phases x there l load
            rw [same] at phase
            cases kind : x.phase with
            | placing => exact absurd kind phase
            | marked => exact absurd kind unmarked
            | firing => exact .inl (fires kind)
          · exact .inl (placed ▸ load)
      exact Nat.le_of_eq (if_pos draws).symm
    · exact Nat.zero_le _
  · intro b again
    cases again

theorem endAllocation_fired {a : Allocation} (h : FiredSound s) : FiredSound (endAllocation a s) := by
  rw [endAllocation_eq]
  refine FiredSound.same (s := resultsHanded a s) ?_ (followFault_draw ..)
  refine Nat.le_trans (Nat.add_le_add_left (powerOf_mono fun l => ?_) _) h
  rw [show (resultsHanded a s).out.heat = grantedHeat a s from rfl, grantedHeat_get]
  exact id

theorem finishAllocation_share (h : ShareSound s) : ShareSound (finishAllocation s) := by
  unfold finishAllocation
  split
  · exact h
  · next allocated => exact endAllocation_share h allocated

theorem finishAllocation_budget (h : BudgetSound s) : BudgetSound (finishAllocation s) := by
  obtain ⟨share, fired⟩ := budgetSound_iff.mp h
  refine budgetSound_iff.mpr ⟨finishAllocation_share share, ?_⟩
  unfold finishAllocation
  split
  · exact fired
  · exact endAllocation_fired fired

theorem finishAllocation_none (s : State) : (finishAllocation s).share.allocation = none := by
  unfold finishAllocation
  split
  · next none => exact none
  · rw [endAllocation_eq]
    exact congrArg Draw.allocation (followFault_draw ..)

/-! ## What a window adopts (R49, R64, R80) -/

/-- A window has begun: nothing is pending, no force is marked, and the next allocation has not begun. -/
structure WindowBegun (s : State) : Prop where
  share : ShareSound s
  allocation : s.share.allocation = none
  pending : ∀ l, (s.out.heat.get l).pending.length = 0
  unmarked : ∀ e ∈ s.out.forces, e.phase ≠ .marked

theorem WindowBegun.same (h : WindowBegun s) (same : t.draw = s.draw) : WindowBegun t := by
  obtain ⟨-, -, -, allocation, heat⟩ := draw_share same
  refine ⟨h.share.same same, allocation.trans h.allocation, by rw [heat]; exact h.pending, fun e member => ?_⟩
  obtain ⟨x, there, -, phase⟩ := mem_of_draw same member
  rw [← phase]
  exact h.unmarked x there

theorem startFiring_output (e : ForceEntry) : e.startFiring.output = e.output := by
  unfold ForceEntry.startFiring
  split <;> rfl

/-- A marked entry fires, and no other entry does that did not. -/
theorem startFiring_phase (e : ForceEntry) : e.startFiring.phase ≠ .marked ∧
    (e.startFiring.phase = .placing ↔ e.phase = .placing) := by
  unfold ForceEntry.startFiring
  split
  · next marked => simp [marked]
  · next other => exact ⟨other, .rfl⟩

/-- A window adopts what the ended allocation has prepared for it. -/
theorem adoptWindow_begun (h : ShareSound s) (none : s.share.allocation = none) : WindowBegun (adoptWindow s) := by
  have next : ∀ l, forcedNext l (adoptWindow s) = true → forcedNext l s = true := by
    intro l forced
    obtain ⟨e, member, load, phase⟩ := forcedNext_iff.mp forced
    obtain ⟨x, there, rfl⟩ := List.mem_map.mp member
    rw [startFiring_output] at load
    exact forcedNext_iff.mpr ⟨x, there, load, fun placing => phase ((startFiring_phase x).2.mpr placing)⟩
  have adopted : ∀ l, (adoptWindow s).out.heat.get l = (s.out.heat.get l).adopt := fun l => PerLoad.get_map ..
  refine ⟨⟨h.preparedLimits, h.preparedLimits, fun k => ?_, fun e member l load => ?_, fun _ k => ?_,
    fun a begun => ?_⟩, none, fun l => by rw [adopted]; rfl, fun e member => ?_⟩
  · refine Nat.le_trans (powerOf_mono fun l => or_mono ?_ fun firing => next l (forcedNext_of_firing firing))
      (h.ended none k)
    rw [adopted]
    exact id
  · obtain ⟨x, there, rfl⟩ := List.mem_map.mp member
    rw [startFiring_output] at load
    exact h.claims x there l load
  · refine Nat.le_trans (powerOf_mono fun l => or_mono ?_ (next l)) (h.ended none k)
    rw [adopted]
    intro covered
    simp [HeatChannel.adopt] at covered
  · exact absurd (none.symm.trans begun) (by simp)
  · obtain ⟨x, -, rfl⟩ := List.mem_map.mp member
    exact (startFiring_phase x).1

/-! ## The next allocation (R49, R51, R52) -/

/-- The reserve leaves the headroom of the budget, whatever override the settings hold (R48). -/
theorem limitsOf_sound {x : Settings} (straps : Straps) (h : SettingsSound x) : LimitsSound (limitsOf straps x) := by
  have reserve := h.reserve
  have override := h.budgetOverride
  have strap : 2990 ≤ budgetWatts straps.budget := by
    cases straps.budget <;> decide
  unfold LimitsSound limitsOf
  dsimp only
  split <;> omega

theorem removeForce_limits (o : Output) (s : State) :
    (removeForce o s).share.window = s.share.window ∧ (removeForce o s).share.prepared = s.share.prepared ∧
      (removeForce o s).out.heat = s.out.heat ∧
      ((removeForce o s).share.allocation = s.share.allocation ∨
        (removeForce o s).share.allocation = s.share.allocation.map fun a => { a with placed := none }) := by
  cases entered : (forceEntry o s).isSome with
  | false =>
    rw [removeForce_none entered]
    exact ⟨rfl, rfl, rfl, .inl rfl⟩
  | true =>
    rw [removeForce_eq entered]
    dsimp only
    split
    · exact ⟨rfl, rfl, rfl, .inr rfl⟩
    · exact ⟨rfl, rfl, rfl, .inl rfl⟩

/-- The state in which the next allocation has been worked out, before its claim is refused. -/
def allocationBegun (s : State) : State :=
  setShare
    { s.share with
      prepared := limitsOf s.start.straps s.settings
      allocation := some (allocate (cycles s) (limitsOf s.start.straps s.settings) s.share.demands (policyInForce s)
        s.share.claim).result } s

theorem beginAllocation_eq (s : State) : beginAllocation s =
    refuseClaim (allocate (cycles s) (limitsOf s.start.straps s.settings) s.share.demands (policyInForce s)
      s.share.claim).result.placed s.share.claim (allocationBegun s) := rfl

/-- Where the allocation places the claim, or there is none, every firing force is the placed one. -/
theorem allocationBegun_share (h : WindowBegun s) (settings : SettingsSound s.settings)
    (fits : ∀ l, s.share.claim = some l → (allocate (cycles s) (limitsOf s.start.straps s.settings) s.share.demands
      (policyInForce s) s.share.claim).result.placed = some l) : ShareSound (allocationBegun s) where
  windowLimits := h.share.windowLimits
  preparedLimits := limitsOf_sound s.start.straps settings
  window := h.share.window
  claims := h.share.claims
  ended none := by cases none
  begun a allocated := by
    cases allocated
    exact ⟨fun k => cyclePower_le .., h.pending, fun e member l load =>
      ⟨h.unmarked e member, fun _ => fits l (h.share.claims e member l load)⟩⟩

/-- Where the allocation refuses the claim, its force is removed and no heat load is forced. -/
theorem allocationRefused_share {l : Load} (h : WindowBegun s) (settings : SettingsSound s.settings)
    (claim : s.share.claim = some l) : ShareSound (removeForce (loadOutput l) (allocationBegun s)) := by
  obtain ⟨window, prepared, heat, allocation⟩ := removeForce_limits (loadOutput l) (allocationBegun s)
  have forces : ForcesFrom s (removeForce (loadOutput l) (allocationBegun s)) := by
    intro e member
    rw [removeForce_forces] at member
    exact ⟨e, (withoutForce_from _ _ member).1, rfl, rfl⟩
  have noHeat : ∀ e ∈ (removeForce (loadOutput l) (allocationBegun s)).out.forces, ∀ m : Load,
      outputLoad e.output ≠ some m := by
    intro e member m load
    rw [removeForce_forces] at member
    obtain ⟨old, differs⟩ := withoutForce_from _ _ member
    obtain rfl : l = m := Option.some.inj (claim.symm.trans (h.share.claims e old m load))
    exact differs (outputLoad_iff.mp load)
  constructor
  · rw [window]; exact h.share.windowLimits
  · rw [prepared]; exact limitsOf_sound s.start.straps settings
  · intro k
    rw [window, heat]
    exact Nat.le_trans (powerOf_mono fun l => or_mono id forces.firing) (h.share.window k)
  · exact fun e member m load => absurd load (noHeat e member m)
  · intro none
    rcases allocation with same | same <;> rw [same] at none <;> cases none
  · intro a begun
    rw [prepared, heat]
    refine ⟨fun k => ?_, h.pending, fun e member m load => absurd load (noHeat e member m)⟩
    rcases allocation with same | same <;> rw [same] at begun <;> cases begun
    · exact cyclePower_le ..
    · exact Nat.le_trans (cyclePower_unplaced ..) (cyclePower_le ..)

/-- The next allocation keeps to its limits (R59). -/
theorem beginAllocation_share (h : WindowBegun s) (settings : SettingsSound s.settings) :
    ShareSound (beginAllocation s) := by
  rw [beginAllocation_eq]
  unfold refuseClaim
  split
  · next none => exact allocationBegun_share h settings fun l claim => by rw [none] at claim; cases claim
  · next l claim =>
    split
    · next placed =>
      refine allocationBegun_share h settings fun m same => ?_
      obtain rfl : l = m := Option.some.inj (claim.symm.trans same)
      exact placed
    · exact allocationRefused_share h settings claim

/-! ## Half-cycles (R65) -/

/-- What fires in a half-cycle is covered by an active run or forced, so it stays within the headroom. -/
theorem fireHalfCycle_budget (c : Nat) (h : ShareSound s) : BudgetSound (fireHalfCycle c s) := by
  have active : ∀ l, ((fireHalfCycle c s).out.heat.get l).active = (s.out.heat.get l).active := by
    intro l; cases l <;> rfl
  have pending : ∀ l, ((fireHalfCycle c s).out.heat.get l).pending = (s.out.heat.get l).pending := by
    intro l; cases l <;> rfl
  have fired : ∀ l, ((fireHalfCycle c s).out.heat.get l).fired = fires l c s := by
    intro l; cases l <;> rfl
  refine budgetSound_iff.mpr ⟨h.fewer rfl (fun e member => ⟨e, member, rfl, rfl⟩) ?_ ?_ ?_, ?_⟩
  · intro l k
    rw [active]
    exact id
  · intro l k
    rw [pending]
    exact id
  · intro l
    rw [pending]
    exact id
  · have drawn : powerOf s.share.window (fun l => ((fireHalfCycle c s).out.heat.get l).fired) ≤
        s.share.window.headroom := by
      refine Nat.le_trans (powerOf_mono fun l => ?_) (h.window c)
      rw [fired]
      unfold fires
      intro both
      exact (Bool.and_eq_true_iff.mp both).1
    have limits : s.share.window.reserve + s.share.window.headroom = s.share.window.budget := h.windowLimits
    exact Nat.le_trans (Nat.add_le_add_left drawn _) (Nat.le_of_eq limits)

end

end Sys2Proof.Machine
end

section
/-! SUPPORT. The budget law over every row (R59): window starts, half-cycles, a loss of the mains, the inputs, the link
commands, the reset and the passing of time. -/

namespace Sys2Proof.Machine

section
variable {s t : State}

/-! ## Zero crossings and the mains -/

theorem adoptWindow_settings (s : State) : (adoptWindow s).settings = s.settings := rfl

theorem finishAllocation_settings (s : State) : (finishAllocation s).settings = s.settings := by
  unfold finishAllocation
  split
  · rfl
  · rw [endAllocation_eq]
    rw [followFault_only]
    rfl

theorem testReached_settings (r : SetpointRecord) (s : State) : (testReached r s).1.settings = s.settings := by
  unfold testReached
  dsimp only
  split
  · exact (requestModeVent_kept (Kept.refl s).with_climate).settings
  · rfl

theorem testMoisture_settings (r : SetpointRecord) (s : State) : (testMoisture r s).1.settings = s.settings := by
  unfold testMoisture
  dsimp only
  repeat' split
  all_goals rfl

theorem regulatorWindow_settings (s : State) : (regulatorWindow s).1.settings = s.settings := by
  unfold regulatorWindow
  split
  · exact (postZeros_kept (Kept.refl s)).settings
  · rw [(runLoops_kept _ (Kept.refl _)).settings, testMoisture_settings, testReached_settings]

theorem postBoiler_settings (s : State) : (postBoiler s).settings = s.settings :=
  (postBoiler_kept (Kept.refl s)).settings

/-- Whichever of the units acts first at a window start, the next allocation finds its limits sound. -/
theorem windowUnits_share (h : WindowBegun s) (settings : SettingsSound s.settings) : ShareSound (windowUnits s).1 := by
  have regulated : WindowBegun (regulatorWindow s).1 := h.same (regulatorWindow_draw s)
  have posted : ∀ {u : State}, WindowBegun u → WindowBegun (postBoiler u) := fun h => h.same (postBoiler_draw _)
  unfold windowUnits
  dsimp only
  split
  · split
    · exact beginAllocation_share (posted regulated) (by
        rw [postBoiler_settings, regulatorWindow_settings]; exact settings)
    · exact (beginAllocation_share regulated (by rw [regulatorWindow_settings]; exact settings)).same
        (postBoiler_draw _)
  · dsimp only
    split
    · exact (beginAllocation_share (posted h) (by rw [postBoiler_settings]; exact settings)).same
        (regulatorWindow_draw _)
    · exact (beginAllocation_share h settings).same ((postBoiler_draw _).trans (regulatorWindow_draw _))

theorem windowStart_share (h : ShareSound s) (settings : SettingsSound s.settings) : ShareSound (windowStart s).1 :=
  windowUnits_share (adoptWindow_begun (finishAllocation_share h) (finishAllocation_none s)) (by
    rw [adoptWindow_settings, finishAllocation_settings]; exact settings)

theorem handEdge_budget (h : BudgetSound s) (settings : SettingsSound s.settings) : BudgetSound (handEdge s) := by
  have counted : BudgetSound { s with out := { s.out with halfCycle := some (nextHalfCycle s) } } := h.same rfl
  obtain ⟨share, -⟩ := budgetSound_iff.mp counted
  unfold handEdge
  dsimp only
  refine settle_budget (BudgetSound.same (fireHalfCycle_budget _ ?_) (takeReports_draw ..))
  split
  · split
    · exact (windowStart_share share settings).same (relayAtZeroCross_draw ..)
    · exact share.same (relayAtZeroCross_draw ..)
  · split
    · exact windowStart_share share settings
    · exact share

theorem mainsReturns_settings (s : State) : (mainsReturns s).settings = s.settings := by
  unfold mainsReturns
  dsimp only
  split
  · rw [(removeCause_kept _ (Kept.refl _)).settings]
    simp
  · simp

theorem undecidedEdge_budget (h : BudgetSound s) (settings : SettingsSound s.settings) :
    BudgetSound (undecidedEdge s) := by
  unfold undecidedEdge
  dsimp only
  split
  · split
    · exact h.same rfl
    · exact handEdge_budget (h.same (by simp)) (by rw [mainsReturns_settings]; exact settings)
  · exact h.same rfl

theorem decidedEdge_budget (h : BudgetSound s) (settings : SettingsSound s.settings) : BudgetSound (decidedEdge s) := by
  unfold decidedEdge
  dsimp only
  split
  · exact handEdge_budget (h.same rfl) settings
  · exact handEdge_budget (h.same (by simp)) (by rw [mainsReturns_settings]; exact settings)

/-- After a loss the share holds no grant and no allocation. -/
def grantsLost (s : State) : State :=
  setShare { (stopWindows s).share with currentGrants := .all 0, preparedGrants := .all 0, allocation := none }
    (stopWindows s)

theorem grantsLost_budget (h : BudgetSound s) : BudgetSound (grantsLost s) :=
  h.stopped rfl rfl rfl rfl rfl fun l => by cases l <;> rfl

theorem loseMains_budget (h : BudgetSound s) : BudgetSound (loseMains s) := by
  have lost : BudgetSound (enterFault .mainsLost (setMeas { s.meas with mainsPresent := false } s)) :=
    h.same (by simp)
  refine (grantsLost_budget lost).same ?_
  unfold loseMains
  dsimp only
  split
  · exact (addCause_draw ..).trans (chargeRunning_draw ..)
  · exact chargeRunning_draw ..

/-! ## The inputs -/

theorem doorOpens_budget (h : BudgetSound s) : BudgetSound (doorOpens s) := by
  have told : BudgetSound (withdrawRemote (raiseEvent .doorOpened none s)) := h.same (by simp)
  have ended : BudgetSound
      (removeForces isCavityOutput (holdFan (cutCavity (withdrawRemote (raiseEvent .doorOpened none s))))) :=
    removeForces_budget _ ((cutCavity_budget told).same (holdFan_draw _))
  unfold doorOpens
  dsimp only
  split
  · exact ended.same (addDoor_draw _)
  · exact ended

theorem cutoutOpens_budget (h : BudgetSound s) : BudgetSound (cutoutOpens s) :=
  removeForces_budget _ (cutAll_budget (h.same (enterFault_draw ..)))

theorem inputBecomes_budget (i : Input) (before : State) (h : BudgetSound s) :
    BudgetSound (inputBecomes i before s) := by
  cases i with
  | door =>
    unfold inputBecomes
    dsimp only
    split
    · exact doorOpens_budget h
    · exact h.same (doorCloses_draw _)
  | thermalCutout =>
    unfold inputBecomes
    dsimp only
    split
    · exact cutoutOpens_budget h
    · exact h
  | tankPresent => exact h.same (tankChanges_draw ..)
  | tankFloat => exact h.same (tankChanges_draw ..)
  | trayFull => exact h.same (followTray_draw ..)
  | boilerLow =>
    unfold inputBecomes
    dsimp only
    split
    · exact h.same (postBoiler_draw ..)
    · exact (cutBoiler_budget h).same (postBoiler_draw ..)
  | boilerHigh =>
    unfold inputBecomes
    dsimp only
    split
    · exact h.same (highBecomesCovered_draw ..)
    · exact h
  | ventOpenEnd => exact h.same (endChanges_draw ..)
  | ventClosedEnd => exact h.same (endChanges_draw ..)
  | inletPressure => exact h.same (followSource_draw ..)
  | servicePresent =>
    unfold inputBecomes
    dsimp only
    split
    · exact h
    · exact h.same (endServiceUnlock_draw ..)

end

end Sys2Proof.Machine
end

section
/-! SUPPORT. The budget law over the link commands and the rows of the instruction set (R59), and O24. -/

namespace Sys2Proof.Machine

section
variable {s t : State}

/-! ## The link commands -/

theorem taken_budget (r : Reply) (h : BudgetSound s) : BudgetSound (taken r s).2 := settle_budget h

theorem ownFetch_budget (l : Link) (n : Nat) (h : BudgetSound s) : BudgetSound (ownFetch l n s).2 := by
  unfold ownFetch
  split
  · exact h
  · exact h.same (setQueue_draw ..)

theorem ownLastRun_budget (h : BudgetSound s) : BudgetSound (ownLastRun s).2 := by
  unfold ownLastRun
  split
  · exact h
  · exact h.same rfl

theorem ownLoad_budget (l : Link) (p : SentProgram) (h : BudgetSound s) : BudgetSound (ownLoad l p s).2 := by
  unfold ownLoad
  repeat' split
  · exact h
  · exact h
  · exact h
  · exact h
  · exact h.same (setSlot_draw ..)

theorem ownClear_budget (n : Nat) (h : BudgetSound s) : BudgetSound (ownClear n s).2 := by
  unfold ownClear
  split
  · exact h
  · split
    · exact h
    · exact h
    · exact h.same (setSlot_draw ..)

theorem with_seq_draw (q : Sequencer) (s : State) : { s with seq := q }.draw = s.draw := rfl

theorem firstEntered_budget (q : Sequencer) (steams : Bool) (h : BudgetSound s) :
    BudgetSound (enterFirst (if steams then markDrain false { s with seq := q } else { s with seq := q })) := by
  refine h.same ((enterFirst_draw _).trans ?_)
  split
  · exact (markDrain_draw ..).trans (with_seq_draw ..)
  · exact with_seq_draw ..

theorem beginRun_budget (n : Nat) (h : BudgetSound s) : BudgetSound (beginRun n s) := by
  have forced : ∀ (r : RunContext) (x : Slot), BudgetSound (endForces (setRun r (setSlot n x s))) :=
    fun r x => endForces_budget (h.same (by simp))
  exact firstEntered_budget _ _ (forced _ _)

theorem ownStart_budget (n g : Nat) (h : BudgetSound s) : BudgetSound (ownStart n g s).2 := by
  have refused : ∀ st : Status, BudgetSound (refuse st s).2 := fun _ => h
  unfold ownStart
  dsimp only
  repeat' split
  · exact refused _
  · exact refused _
  · exact refused _
  · exact refused _
  · exact refused _
  · exact refused _
  · exact taken_budget _ (beginRun_budget _ h)

theorem steerPairs_draw (pairs : List (Nat × Nat)) (s : State) : (steerPairs pairs s).draw = s.draw := by
  induction pairs generalizing s with
  | nil => rfl
  | cons p rest ih =>
    unfold steerPairs
    split
    · exact ih s
    · exact (ih _).trans (steer_draw ..)

theorem removeFaults_draw (s : State) : (removeFaults s).draw = s.draw := by
  unfold removeFaults
  generalize latchedFaults = fs
  induction fs generalizing s with
  | nil => rfl
  | cons f rest ih =>
    rw [List.foldl_cons, ih]
    split
    · exact leaveFault_draw ..
    · rfl

theorem ownStop_budget (h : BudgetSound s) : BudgetSound (ownStop s).2 := by
  unfold ownStop
  split
  · exact taken_budget _ (h.same (endRun_draw ..))
  · exact h

/-- A taken adjustment touches no run, no force and no limits. -/
theorem applyAdjustment_draw {a : Adjustment} {u : State} {clamped : Bool}
    (applied : applyAdjustment a s = some (u, clamped)) : u.draw = s.draw := by
  unfold applyAdjustment at applied
  have write := adjustWrite_draw a.setpoint a.moisture s
  split at applied
  · split at applied
    · cases applied
    · next t took =>
      rw [took] at write
      cases applied
      simpa using write
  · have same : (applyDelta a.delta s).1 = u := congrArg Prod.fst (Option.some.inj applied)
    exact same ▸ applyDelta_draw a.delta s

theorem ownAdjust_budget (a : Adjustment) (h : BudgetSound s) : BudgetSound (ownAdjust a s).2 := by
  have refused : ∀ st : Status, BudgetSound (refuse st s).2 := fun _ => h
  unfold ownAdjust
  repeat' split
  · exact refused _
  · exact refused _
  · exact refused _
  · next applied => exact taken_budget _ (h.same (applyAdjustment_draw applied))

theorem ownInject_budget (ml : Nat) (h : BudgetSound s) : BudgetSound (ownInject ml s).2 := by
  have refused : ∀ st : Status, BudgetSound (refuse st s).2 := fun _ => h
  unfold ownInject
  split
  · exact refused _
  · split
    · exact refused _
    · split
      · exact taken_budget _ (h.same (requestBurst_draw ..))
      · exact taken_budget _ (h.same (requestBurst_draw ..))

theorem ownDescaleStart_budget (h : BudgetSound s) : BudgetSound (ownDescaleStart s).2 := by
  have refused : ∀ st : Status, BudgetSound (refuse st s).2 := fun _ => h
  unfold ownDescaleStart
  repeat' split
  · exact refused _
  · exact refused _
  · exact refused _
  · exact refused _
  · exact taken_budget _ (h.same (beginDescale_draw ..))

theorem ownDescaleConfirm_budget (n : Nat) (h : BudgetSound s) : BudgetSound (ownDescaleConfirm n s).2 := by
  have refused : ∀ st : Status, BudgetSound (refuse st s).2 := fun _ => h
  unfold ownDescaleConfirm
  dsimp only
  repeat' split
  · exact refused _
  · exact refused _
  · exact refused _
  · exact taken_budget _ (h.same (confirmStall_draw ..))
  · exact taken_budget _ (h.same (enterDraw_draw ..))
  · exact taken_budget _ (h.same (enterRinse_draw ..))
  · exact refused _

theorem ownDescaleAbort_budget (h : BudgetSound s) : BudgetSound (ownDescaleAbort s).2 := by
  have refused : ∀ st : Status, BudgetSound (refuse st s).2 := fun _ => h
  unfold ownDescaleAbort
  repeat' split
  · exact refused _
  · exact taken_budget _ (h.same (abortClean_draw ..))
  · exact taken_budget _ (h.same (abortWithCredit_draw ..))
  · exact refused _

theorem ownSetLock_budget (n v : Nat) (h : BudgetSound s) : BudgetSound (ownSetLock n v s).2 := by
  unfold ownSetLock
  split
  · exact h
  · exact taken_budget _ (h.same (writeLock_draw ..))

theorem ownUnlock_budget (h : BudgetSound s) : BudgetSound (ownUnlock s).2 := by
  have refused : ∀ st : Status, BudgetSound (refuse st s).2 := fun _ => h
  unfold ownUnlock
  repeat' split
  · exact h.same (setProt_draw ..)
  · exact refused _
  · exact refused _
  · exact refused _
  · exact taken_budget _ (h.same ((raiseLock_draw ..).trans (setProt_draw ..)))

theorem ownSteering_budget (pairs : List (Nat × Nat)) (h : BudgetSound s) : BudgetSound (ownSteering pairs s).2 := by
  unfold ownSteering
  split
  · exact h
  · exact h.same (steerPairs_draw ..)

theorem ownClearFaults_budget (h : BudgetSound s) : BudgetSound (ownClearFaults s).2 :=
  taken_budget _ (h.same ((afterRemovals_draw _).trans (removeFaults_draw s)))

theorem ownLampCommand_budget (n : Nat) (h : BudgetSound s) : BudgetSound (ownLampCommand n s).2 := by
  unfold ownLampCommand
  split
  · exact h.same (stopLamp_draw ..)
  · exact h.same (startLamp_draw ..)
  · exact h

theorem forceTaken_budget (h : BudgetSound s) : BudgetSound (forceTaken s).2 := settle_budget h

theorem ownRelease_budget (o : Option Output) (h : BudgetSound s) : BudgetSound (ownRelease o s).2 := by
  unfold ownRelease
  split
  · exact forceTaken_budget h
  · exact forceTaken_budget (removeForce_budget _ h)

/-- An output that no case refuses is the only heat load with an entry, where it is one. -/
theorem outputCase_alone {o : Output} {level : Bool} (none : outputCase o level s = none) :
    ∀ l, outputLoad o = some l → otherHeatForced o s = false := by
  intro l load
  unfold outputCase heatCase at none
  rw [load] at none
  dsimp only at none
  repeat' split at none
  all_goals simp_all

theorem ownForceLevel_budget (o : Option Output) (level : Bool) (h : BudgetSound s) :
    BudgetSound (ownForceLevel o level s).2 := by
  have refused : ∀ st : Status, BudgetSound (refuse st s).2 := fun _ => h
  unfold ownForceLevel
  repeat' split
  · exact refused _
  · exact refused _
  · exact refused _
  · next none => exact forceTaken_budget (makeForce_budget h (outputCase_alone none))

theorem ownForce_budget (o v : Nat) (h : BudgetSound s) : BudgetSound (ownForce o v s).2 := by
  unfold ownForce
  split
  · exact h
  · exact ownRelease_budget _ h
  · exact ownForceLevel_budget _ _ h
  · exact ownForceLevel_budget _ _ h

theorem ownPulse_budget (os : List Output) (ms : Nat) (h : BudgetSound s) : BudgetSound (ownPulse os ms s).2 := by
  have refused : ∀ st : Status, BudgetSound (refuse st s).2 := fun _ => h
  unfold ownPulse
  repeat' split
  · exact refused _
  · exact refused _
  · exact refused _
  · exact taken_budget _ (h.same rfl)

theorem budget_ownersKeep : OwnersKeep BudgetSound where
  ports _ _ _ h := h.same (setPort_draw ..)
  locks _ _ h := h.same (setProt_draw ..)
  fetch _ _ _ := ownFetch_budget _ _
  lastRun _ := ownLastRun_budget
  load _ _ _ := ownLoad_budget _ _
  clear _ _ := ownClear_budget _
  start _ _ _ := ownStart_budget _ _
  stop _ := ownStop_budget
  adjust _ _ := ownAdjust_budget _
  skip _ h := h.settled (endStage_draw _)
  inject _ _ := ownInject_budget _
  descaleStart _ := ownDescaleStart_budget
  descaleConfirm _ _ := ownDescaleConfirm_budget _
  descaleAbort _ := ownDescaleAbort_budget
  write _ _ _ h := taken_budget _ (h.same (writeSetting_draw ..))
  setLock _ _ _ := ownSetLock_budget _ _
  unlock _ := ownUnlock_budget
  lock _ h := h.settled (endServiceUnlock_draw _)
  steering _ _ := ownSteering_budget _
  clearFaults _ := ownClearFaults_budget
  lamp _ _ := ownLampCommand_budget _
  scaleReset _ h := taken_budget _ (h.same (clearAccount_draw _))
  force _ _ _ := ownForce_budget _ _
  pulse _ _ _ := ownPulse_budget _ _

/-! ## The rows -/

theorem pulseArrives_budget (h : BudgetSound s) : BudgetSound (pulseArrives s) := by
  unfold pulseArrives
  split
  · split
    · exact h.settled (countPulse_draw ..)
    · exact h
  · exact h

theorem faultChannel_budget (c : Chan) (h : BudgetSound s) : BudgetSound (faultChannel c s) := by
  unfold faultChannel
  split
  · exact h
  · exact h.settled (by simp)

theorem takePeriod_draw (raw : RawSamples) (s : State) : (takePeriod raw s).draw = s.draw := by
  unfold takePeriod
  rw [raiseProbe_draw, followSensors_draw, setMeas_draw]

theorem settingsSound_limited {x : Settings} (straps : Straps) (h : SettingsSound x) :
    SettingsSound (limitOverride straps x) := by
  obtain ⟨hardness, flow, scale, resume, override, reserve, ratings, o1, o2, o3, o4, o5, o6, o7, fill⟩ := h
  refine ⟨hardness, flow, scale, resume, ?_, reserve, ratings, o1, o2, o3, o4, o5, o6, o7, fill⟩
  have strap : 2990 ≤ budgetWatts straps.budget := by
    cases straps.budget <;> decide
  show min x.budgetOverride _ = 0 ∨ _ ≤ min x.budgetOverride _ ∧ min x.budgetOverride _ ≤ 3680
  omega

theorem settingsSound_defaults : SettingsSound Settings.defaults := by
  have offset : OffsetSound 0 := by
    unfold OffsetSound
    decide
  refine ⟨by decide, by decide, by decide, by decide, by decide, by decide, fun l => ?_, offset, offset, offset, offset,
    offset, offset, offset, by decide⟩
  unfold RatingSound
  cases l <;> decide

theorem loadedRecord_sound (store : StoreSound s) : SettingsSound (loadedRecord s).settings := by
  unfold loadedRecord
  cases verified : s.store.verified with
  | none => exact settingsSound_defaults
  | some r => exact store.2.2.1 r verified

/-- After reset nothing fires, nothing is pending and nothing is forced. -/
theorem resetState_budget (cause : ResetCause)
    (settings : SettingsSound (limitOverride cause.straps (loadedRecord s).settings)) :
    BudgetSound (resetState cause s) := by
  have limits : LimitsSound (limitsOf cause.straps (limitOverride cause.straps (loadedRecord s).settings)) :=
    limitsOf_sound cause.straps settings
  have dark : ∀ l, (resetState cause s).out.heat.get l = ⟨.empty, .empty, false⟩ := fun l => by cases l <;> rfl
  have unforced : ∀ l, forcedFiring l (resetState cause s) = false ∧ forcedNext l (resetState cause s) = false :=
    fun _ => ⟨rfl, rfl⟩
  constructor
  · exact limits
  · exact limits
  · simp only [dark, powerOf_none]
    exact Nat.le.intro limits
  · intro k
    simp only [dark, Run.covers_empty, unforced, Bool.or_self, powerOf_none, Nat.zero_le]
  · exact fun e member => absurd member (List.not_mem_nil)
  · intro _ k
    simp only [dark, Run.covers_empty, unforced, Bool.or_self, powerOf_none, Nat.zero_le]
  · intro a begun
    cases begun

theorem passDrain_draw (s : State) : (passDrain s).draw = s.draw := by
  unfold passDrain
  split
  · split
    · dsimp only
      split
      · rfl
      · exact setDose_draw ..
    · rfl
  · rfl

/-- Time ages the forces and leaves their outputs and phases. -/
theorem tick_draw (s : State) : (tick s).draw = s.draw := by
  have aged : ∀ t : State, { t with pending := t.pending ++ due t }.draw = t.draw := fun _ => rfl
  have passed : ∀ (speed : Nat) (o : OutputTiming), (o.pass speed).forces.map (fun e => (e.output, e.phase)) =
      o.forces.map (fun e => (e.output, e.phase)) := by
    intro speed o
    show (o.forces.map _).map _ = _
    rw [List.map_map]
    rfl
  refine (aged _).trans ((passDrain_draw _).trans ?_)
  unfold State.draw
  rw [passed]
  rfl

/-- Every command keeps the law. -/
theorem exec_budget (c : Instr) (store : StoreSound s) : Keeps BudgetSound s (exec c s) := by
  have settings : SettingsSound s.settings := store.1
  cases c with
  | reset cause =>
    refine keeps_next fun _ =>
      (resetState_budget cause (settingsSound_limited cause.straps ?_)).same (raiseAtReset_draw _)
    exact loadedRecord_sound store
  | samplePeriod raw =>
    refine keeps_ite fun _ h => h.settled ?_
    rw [afterReadings_draw, takePeriod_draw]
  | tachoEdge => exact keeps_ite fun _ h => h.same (setMeas_draw ..)
  | tachoTimeout => exact keeps_ite fun _ h => h.same (setMeas_draw ..)
  | zeroCross =>
    refine keeps_ite fun _ h => ?_
    split
    · exact undecidedEdge_budget h settings
    · exact decidedEdge_budget h settings
  | allocationEnd => exact keeps_next finishAllocation_budget
  | heatUpCountExpiry => exact keeps_ite fun _ h => h.settled ((enterDryFault_draw _).trans (enterFault_draw ..))
  | zeroCrossGroupTimeout => exact keeps_ite fun _ h => h.same (setMeas_draw ..)
  | frequencyTimeout => exact keeps_ite fun _ h => h.same ((enterFault_draw ..).trans (setMeas_draw ..))
  | mainsLost => exact keeps_ite fun _ h => settle_budget (loseMains_budget h)
  | flowPulse => exact keeps_ite fun _ h => pulseArrives_budget (h.same rfl)
  | settleEnd => exact keeps_ite fun _ h => h.same (arbitrate_draw _)
  | noFlow =>
    show Keeps BudgetSound s (execNoFlow s)
    unfold execNoFlow
    split
    · exact keeps_ite fun _ => faultChannel_budget _
    · exact keeps_next id
  | drainTerminalCount =>
    show Keeps BudgetSound s (execDrainTerminalCount s)
    unfold execDrainTerminalCount
    split
    · exact keeps_ite fun _ h => h.settled (by simp)
    · exact keeps_next id
  | boilerFill =>
    refine keeps_ite fun _ h => h.settled ?_
    split
    · simp
    · simp
  | topUp => exact keeps_ite fun _ h => h.settled (loadDose_draw ..)
  | boilerDrainStart => exact keeps_ite fun _ h => h.settled (loadDrain_draw ..)
  | relayChangeStart r => exact keeps_ite fun _ h => h.same (setRelay_draw ..)
  | relayContactEnd r =>
    refine keeps_ite fun _ h => h.same ?_
    cases r with
    | heaterSupply => exact setRelay_draw ..
    | fanDirection => exact (endReversal_draw _).trans (setRelay_draw ..)
  | relayRecoveryEnd r => exact keeps_ite fun _ h => h.same (setRelay_draw ..)
  | fanTick => exact keeps_ite fun _ h => h.same (setFan_draw ..)
  | fanStall => exact keeps_ite fun _ h => h.settled ((setFan_draw ..).trans (enterFault_draw ..))
  | reversalTimerExpiry => exact keeps_ite fun _ h => h.same ((beginReversal_draw _).trans (setClimate_draw ..))
  | slowTimerExpiry => exact keeps_ite fun _ h => h.same ((setRelay_draw ..).trans (setFan_draw ..))
  | ventStuck => exact keeps_ite fun _ h => h.same ((enterFault_draw ..).trans (setVent_draw ..))
  | lampOneShotExpiry => exact keeps_ite fun _ h => h.same (stopLamp_draw _)
  | forceExpiry o => exact keeps_ite fun _ h => settle_budget (removeForce_budget o h)
  | pulseEnd => exact keeps_ite fun _ h => h.settled (endPulse_draw _)
  | soakEnd => exact keeps_ite fun _ h => h.settled ((enterDrainAgent_draw _).trans (withdrawSoakTarget_draw _))
  | descaleDoseLoad => exact keeps_ite fun _ h => h.settled (tryDescaleDose_draw _)
  | descaleDrainLoad => exact keeps_ite fun _ h => h.settled (tryDescaleDrain_draw _)
  | sequencerTick =>
    refine keeps_ite fun _ h => h.same ?_
    split
    · exact (setRun_draw ..).trans (with_seq_draw ..)
    · exact with_seq_draw ..
  | stageTimeEnd => exact keeps_ite fun _ h => h.settled (endStage_draw _)
  | doorTimeout => exact keeps_ite fun _ h => h.settled (endRun_draw ..)
  | waterTimeout => exact keeps_ite fun _ h => h.settled (waterTimesOut_draw _)
  | inputChange n => exact keeps_ite fun _ h => settle_budget (inputBecomes_budget _ _ (h.same (setInput_draw ..)))
  | serviceSilenceTimeout => exact keeps_ite fun _ h => h.settled (endServiceUnlock_draw _)
  | commitEnd good =>
    show Keeps BudgetSound s (execCommitEnd good s)
    unfold execCommitEnd
    split
    · exact keeps_next id
    · exact keeps_next fun h => h.same (endWrite_draw ..)
  | startingEnd => exact keeps_ite fun _ h => h.settled (endStarting_draw _)
  | frameGapTimeout l => exact keeps_ite fun _ h => h.same (setPort_draw ..)
  | badFrame l defect => exact keeps_next fun h => h.same (setPort_draw ..)
  | frameStartWhileBusy f => exact keeps_next fun h => h.same (setPort_draw ..)
  | discardMarkClear l => exact keeps_ite fun _ h => h.same (setPort_draw ..)
  | replySent l => exact keeps_ite fun _ h => h.same (setPort_draw ..)
  | frameStart f => exact keeps_next fun h => h.same (setPort_draw ..)
  | rawLevelChange n level => exact keeps_next fun h => h.same (setInput_draw ..)
  | _ => exact linkCommand_keeps budget_ownersKeep rfl

theorem step_budget (store : StoreSound s) (h : BudgetSound s) (stepped : step s = .next t) : BudgetSound t := by
  unfold step at stepped
  split at stepped
  · next c rest _ =>
    have queued : BudgetSound { s with pending := rest } := h.same rfl
    exact exec_budget c (s := { s with pending := rest }) store queued t stepped
  · cases stepped
    exact h.same (tick_draw s)

end

end Sys2Proof.Machine

open Sys2Proof Sys2Proof.Machine

/-- Settles O24: `step_budget` takes the law through every row, and `cyclePower_le` is what an allocation keeps to. -/
theorem budgetLaw : Obligations.BudgetLaw :=
  ⟨fun _ _ store h stepped => step_budget store h stepped,
    fun c limits demands policy claim k _ => cyclePower_le c limits demands policy claim k⟩

end

section
/-! SUPPORT. The settings stay within their ranges through every row (R48, R100, R110, R191, R195). -/

namespace Sys2Proof.Machine

section
variable {s t : State}

/-! ## What leaves the settings and the store alone -/

/-- An operation of the units leaves the settings and the verified record, and a write it begins takes the settings. -/
theorem StoreSound.kept (h : StoreSound s) (kept : Kept s t) : StoreSound t := by
  obtain ⟨settings, override, verified, writing⟩ := h
  refine ⟨kept.settings ▸ settings, ?_, fun r found => verified r (kept.verified ▸ found), fun r found => ?_⟩
  · rw [kept.settings, kept.start]
    exact override
  · rcases kept.writing with same | ⟨x, began, taken⟩
    · exact writing r (same ▸ found)
    · obtain rfl : x = r := Option.some.inj (began.symm.trans found)
      exact taken ▸ settings

theorem StoreSound.same (h : StoreSound s) (settings : t.settings = s.settings)
    (straps : t.start.straps = s.start.straps) (verified : t.store.verified = s.store.verified)
    (writing : t.store.writing = s.store.writing) : StoreSound t := by
  unfold StoreSound
  rw [settings, straps, verified, writing]
  exact h

theorem StoreSound.settled (h : StoreSound s) (kept : Kept s t) : StoreSound (settle t) := h.kept (settle_kept kept)

theorem enterFault_storeSound (f : FaultKind) (h : StoreSound s) : StoreSound (enterFault f s) :=
  h.same (by simp) (by simp) (by simp) (by simp)

theorem leaveFault_storeSound (f : FaultKind) (h : StoreSound s) : StoreSound (leaveFault f s) :=
  h.same (by simp) (by simp) (by simp) (by simp)

theorem setMeas_storeSound (m : Measurement) (h : StoreSound s) : StoreSound (setMeas m s) := h.same rfl rfl rfl rfl

theorem setProt_storeSound (p : Protection) (h : StoreSound s) : StoreSound (setProt p s) := h.same rfl rfl rfl rfl

theorem setPort_storeSound (l : Link) (p : Port) (h : StoreSound s) : StoreSound (setPort l p s) :=
  h.same rfl rfl rfl rfl

theorem setInput_storeSound (i : Input) (x : InputLine) (h : StoreSound s) : StoreSound (setInput i x s) :=
  h.same rfl rfl rfl rfl

theorem raiseLock_storeSound (n : Nat) (h : StoreSound s) : StoreSound (raiseLock n s) :=
  h.kept (raiseEvent_kept _ _ (Kept.refl s))

theorem endServiceUnlock_storeSound (h : StoreSound s) : StoreSound (endServiceUnlock s) := by
  unfold endServiceUnlock
  split
  · exact raiseLock_storeSound _ (setProt_storeSound _ h)
  · exact h

theorem withdrawRemote_storeSound (h : StoreSound s) : StoreSound (withdrawRemote s) := by
  unfold withdrawRemote
  split
  · exact raiseLock_storeSound _ (setProt_storeSound _ h)
  · exact h

/-! ## Zero crossings and the mains -/

theorem regulatorWindow_storeSound (h : StoreSound s) : StoreSound (regulatorWindow s).1 := by
  have tested : ∀ r : SetpointRecord, StoreSound (testReached r s).1 := by
    intro r
    unfold testReached
    split
    · exact h.kept (requestModeVent_kept (Kept.refl s).with_climate)
    · exact h
  have moist : ∀ (r : SetpointRecord) (u : State), StoreSound u → StoreSound (testMoisture r u).1 := by
    intro r u hu
    unfold testMoisture
    dsimp only
    repeat' split
    all_goals exact hu.same rfl rfl rfl rfl
  unfold regulatorWindow
  split
  · exact h.kept (postZeros_kept (Kept.refl s))
  · exact (moist _ _ (tested _)).kept (runLoops_kept _ (Kept.refl _))

theorem windowUnits_storeSound (h : StoreSound s) : StoreSound (windowUnits s).1 := by
  have posted : ∀ {u : State}, StoreSound u → StoreSound (postBoiler u) := fun h =>
    h.kept (postBoiler_kept (Kept.refl _))
  have begun : ∀ {u : State}, StoreSound u → StoreSound (beginAllocation u) := fun h =>
    h.kept (beginAllocation_kept (Kept.refl _))
  unfold windowUnits
  dsimp only
  split
  · split
    · exact begun (posted (regulatorWindow_storeSound h))
    · exact posted (begun (regulatorWindow_storeSound h))
  · dsimp only
    split
    · exact regulatorWindow_storeSound (begun (posted h))
    · exact posted (regulatorWindow_storeSound (begun h))

theorem finishAllocation_storeSound (h : StoreSound s) : StoreSound (finishAllocation s) := by
  unfold finishAllocation
  split
  · exact h
  · rw [endAllocation_eq, followFault_only]
    exact h.same rfl rfl rfl rfl

theorem handEdge_storeSound (h : StoreSound s) : StoreSound (handEdge s) := by
  have counted : StoreSound { s with out := { s.out with halfCycle := some (nextHalfCycle s) } } :=
    h.same rfl rfl rfl rfl
  have begun : ∀ {u : State}, StoreSound u → StoreSound (windowStart u).1 := fun hu =>
    windowUnits_storeSound ((finishAllocation_storeSound hu).same rfl rfl rfl rfl)
  have fired : ∀ {u : State} (n : Nat), StoreSound u → StoreSound (fireHalfCycle n u) := fun _ hu =>
    hu.same rfl rfl rfl rfl
  have relayed : ∀ {u : State} (n : Nat), StoreSound u → StoreSound (relayAtZeroCross n u) := fun _ hu =>
    hu.kept (relayAtZeroCross_kept _ (Kept.refl _))
  unfold handEdge
  dsimp only
  refine StoreSound.settled (fired _ ?_) (takeReports_kept _ (Kept.refl _))
  split
  · split
    · exact relayed _ (begun counted)
    · exact relayed _ counted
  · split
    · exact begun counted
    · exact counted

theorem mainsReturns_storeSound (h : StoreSound s) : StoreSound (mainsReturns s) := by
  have back : StoreSound (leaveFault .mainsLost (setMeas { s.meas with mainsPresent := true } s)) :=
    leaveFault_storeSound _ (setMeas_storeSound _ h)
  have timed : StoreSound
      { leaveFault .mainsLost (setMeas { s.meas with mainsPresent := true } s) with
        start := { (leaveFault .mainsLost (setMeas { s.meas with mainsPresent := true } s)).start with
          outageTimer := 0 } } := back.same rfl rfl rfl rfl
  unfold mainsReturns
  dsimp only
  split
  · exact timed.kept (removeCause_kept _ (Kept.refl _))
  · exact timed

theorem undecidedEdge_storeSound (h : StoreSound s) : StoreSound (undecidedEdge s) := by
  unfold undecidedEdge
  dsimp only
  split
  · split
    · exact setMeas_storeSound _ h
    · exact handEdge_storeSound (mainsReturns_storeSound (setMeas_storeSound _ h))
  · exact setMeas_storeSound _ h

theorem decidedEdge_storeSound (h : StoreSound s) : StoreSound (decidedEdge s) := by
  unfold decidedEdge
  dsimp only
  split
  · exact handEdge_storeSound (setMeas_storeSound _ h)
  · exact handEdge_storeSound (mainsReturns_storeSound (setMeas_storeSound _ h))

theorem loseMains_storeSound (h : StoreSound s) : StoreSound (loseMains s) := by
  have lost : StoreSound (grantsLost (enterFault .mainsLost (setMeas { s.meas with mainsPresent := false } s))) :=
    (enterFault_storeSound _ (setMeas_storeSound _ h)).same rfl rfl rfl rfl
  have charged := lost.kept (chargeRunning_kept (Kept.refl _))
  unfold loseMains
  dsimp only
  split
  · exact (charged.kept (addCause_kept _ (Kept.refl _))).same rfl rfl rfl rfl
  · exact charged.same rfl rfl rfl rfl

/-! ## The inputs -/

theorem cut_storeSound {heat : PerLoad HeatChannel} (h : StoreSound s) :
    StoreSound { s with out := { s.out with heat := heat } } := h.same rfl rfl rfl rfl

theorem doorOpens_storeSound (h : StoreSound s) : StoreSound (doorOpens s) := by
  have told := withdrawRemote_storeSound (h.kept (raiseEvent_kept .doorOpened none (Kept.refl s)))
  have cut : StoreSound (cutCavity (withdrawRemote (raiseEvent .doorOpened none s))) := cut_storeSound told
  have ended := cut.kept (removeForces_kept isCavityOutput (holdFan_kept (Kept.refl _)))
  unfold doorOpens
  dsimp only
  split
  · exact ended.kept (addDoor_kept (Kept.refl _))
  · exact ended

theorem cutoutOpens_storeSound (h : StoreSound s) : StoreSound (cutoutOpens s) := by
  have cut : StoreSound (cutAll (enterFault .thermalCutout s)) := cut_storeSound (enterFault_storeSound _ h)
  exact cut.kept (removeForces_kept _ (Kept.refl _))

theorem inputBecomes_storeSound (i : Input) (before : State) (h : StoreSound s) :
    StoreSound (inputBecomes i before s) := by
  cases i with
  | door =>
    unfold inputBecomes
    dsimp only
    split
    · exact doorOpens_storeSound h
    · exact h.kept (doorCloses_kept (Kept.refl s))
  | thermalCutout =>
    unfold inputBecomes
    dsimp only
    split
    · exact cutoutOpens_storeSound h
    · exact h
  | tankPresent => exact h.kept (tankChanges_kept _ (Kept.refl s))
  | tankFloat => exact h.kept (tankChanges_kept _ (Kept.refl s))
  | trayFull => exact h.kept (followTray_kept (Kept.refl s))
  | boilerLow =>
    unfold inputBecomes
    dsimp only
    split
    · exact h.kept (postBoiler_kept (Kept.refl s))
    · exact StoreSound.kept (cut_storeSound h) (postBoiler_kept (Kept.refl _))
  | boilerHigh =>
    unfold inputBecomes
    dsimp only
    split
    · exact h.kept (highBecomesCovered_kept (Kept.refl s))
    · exact h
  | ventOpenEnd => exact h.kept (endChanges_kept _ _ (Kept.refl s))
  | ventClosedEnd => exact h.kept (endChanges_kept _ _ (Kept.refl s))
  | inletPressure => exact h.kept (followSource_kept _ _ (Kept.refl s))
  | servicePresent =>
    unfold inputBecomes
    dsimp only
    split
    · exact h
    · exact endServiceUnlock_storeSound h

/-! ## The link commands -/

theorem taken_storeSound (r : Reply) (h : StoreSound s) : StoreSound (taken r s).2 := h.settled (Kept.refl s)

theorem ownLoad_storeSound (l : Link) (p : SentProgram) (h : StoreSound s) : StoreSound (ownLoad l p s).2 := by
  unfold ownLoad
  repeat' split
  · exact h
  · exact h
  · exact h
  · exact h
  · exact h.kept (setSlot_kept _ _ (Kept.refl s))

theorem ownClear_storeSound (n : Nat) (h : StoreSound s) : StoreSound (ownClear n s).2 := by
  unfold ownClear
  split
  · exact h
  · split
    · exact h
    · exact h
    · exact h.kept (setSlot_kept _ _ (Kept.refl s))

theorem ownStart_storeSound (n g : Nat) (h : StoreSound s) : StoreSound (ownStart n g s).2 := by
  have refused : ∀ st : Status, StoreSound (refuse st s).2 := fun _ => h
  unfold ownStart
  dsimp only
  repeat' split
  · exact refused _
  · exact refused _
  · exact refused _
  · exact refused _
  · exact refused _
  · exact refused _
  · exact taken_storeSound _ (h.kept (beginRun_kept _ (Kept.refl s)))

theorem ownStop_storeSound (h : StoreSound s) : StoreSound (ownStop s).2 := by
  unfold ownStop
  split
  · exact taken_storeSound _ (h.kept (endRun_kept _ _ (Kept.refl s)))
  · exact h

theorem applyDelta_kept (delta : Option Int) (s : State) : Kept s (applyDelta delta s).1 := by
  rw [applyDelta_eq]
  exact setRun_kept _ (Kept.refl s)

theorem applyAdjustment_kept {a : Adjustment} {u : State} {clamped : Bool}
    (applied : applyAdjustment a s = some (u, clamped)) : Kept s u := by
  unfold applyAdjustment at applied
  have write := adjustWrite_kept a.setpoint a.moisture (Kept.refl s)
  split at applied
  · split at applied
    · cases applied
    · next t took =>
      rw [took] at write
      cases applied
      exact (storeAdjusted_kept a write).trans (applyDelta_kept ..)
  · have same : (applyDelta a.delta s).1 = u := congrArg Prod.fst (Option.some.inj applied)
    exact same ▸ applyDelta_kept a.delta s

theorem ownAdjust_storeSound (a : Adjustment) (h : StoreSound s) : StoreSound (ownAdjust a s).2 := by
  have refused : ∀ st : Status, StoreSound (refuse st s).2 := fun _ => h
  unfold ownAdjust
  repeat' split
  · exact refused _
  · exact refused _
  · exact refused _
  · next applied => exact taken_storeSound _ (h.kept (applyAdjustment_kept applied))

theorem ownInject_storeSound (ml : Nat) (h : StoreSound s) : StoreSound (ownInject ml s).2 := by
  have refused : ∀ st : Status, StoreSound (refuse st s).2 := fun _ => h
  have asked : ∀ r : Reply, StoreSound (taken r (requestBurst ml s)).2 := fun r =>
    taken_storeSound r (h.kept (requestBurst_kept ml (Kept.refl s)))
  unfold ownInject
  split
  · exact refused _
  · split
    · exact refused _
    · split
      · exact asked _
      · exact asked _

theorem ownDescaleStart_storeSound (h : StoreSound s) : StoreSound (ownDescaleStart s).2 := by
  have refused : ∀ st : Status, StoreSound (refuse st s).2 := fun _ => h
  unfold ownDescaleStart
  repeat' split
  · exact refused _
  · exact refused _
  · exact refused _
  · exact refused _
  · exact taken_storeSound _ (h.kept (beginDescale_kept (Kept.refl s)))

theorem ownDescaleConfirm_storeSound (n : Nat) (h : StoreSound s) : StoreSound (ownDescaleConfirm n s).2 := by
  have refused : ∀ st : Status, StoreSound (refuse st s).2 := fun _ => h
  unfold ownDescaleConfirm
  dsimp only
  repeat' split
  · exact refused _
  · exact refused _
  · exact refused _
  · exact taken_storeSound _ (h.kept (confirmStall_kept (Kept.refl s)))
  · exact taken_storeSound _ (h.kept (enterDraw_kept (Kept.refl s)))
  · exact taken_storeSound _ (h.kept (enterRinse_kept _ (Kept.refl s)))
  · exact refused _

theorem ownDescaleAbort_storeSound (h : StoreSound s) : StoreSound (ownDescaleAbort s).2 := by
  have refused : ∀ st : Status, StoreSound (refuse st s).2 := fun _ => h
  unfold ownDescaleAbort
  repeat' split
  · exact refused _
  · exact taken_storeSound _ (h.kept (abortClean_kept (Kept.refl s)))
  · exact taken_storeSound _ (h.kept (abortWithCredit_kept (Kept.refl s)))
  · exact refused _

theorem clampInt_between {a b : Int} (order : a ≤ b) (v : Int) : a ≤ clampInt v a b ∧ clampInt v a b ≤ b := by
  unfold clampInt
  omega

theorem storedValue_between (straps : Straps) {n : Nat} {a b : Int} (other : n ≠ 5)
    (range : settingRange straps n = (a, b)) (order : a ≤ b) (v : Int) :
    a ≤ storedValue straps n v ∧ storedValue straps n v ≤ b := by
  have clamped : storedValue straps n v = clampInt v a b := by
    unfold storedValue
    rw [if_neg (fun named => other named.1), range]
  rw [clamped]
  exact clampInt_between order v

/-- A stored override stands for none, or lies between 1500 W and the strap (R48). -/
theorem storedValue_override (straps : Straps) (v : Int) : storedValue straps 5 v = 0 ∨
    1500 ≤ storedValue straps 5 v ∧ storedValue straps 5 v ≤ budgetWatts straps.budget := by
  have strap : (1500 : Int) ≤ budgetWatts straps.budget := by
    cases straps.budget <;> decide
  unfold storedValue
  split
  · exact .inl rfl
  · exact .inr (clampInt_between strap v)

theorem ratings_set {p : PerLoad Nat} (h : ∀ l, RatingSound (p.get l)) {n : Nat} (own : RatingSound n) (l : Load) :
    ∀ m, RatingSound ((p.set l n).get m) := by
  intro m
  rw [PerLoad.get_set]
  split
  · exact own
  · exact h m

theorem toNat_rating {v : Int} (h : 200 ≤ v ∧ v ≤ 3000) : RatingSound v.toNat := by
  unfold RatingSound
  omega

/-- A stored value lies within its setting's range, and no write raises the override above the strap. -/
theorem storedValue_settingsSound {x : Settings} (straps : Straps) (n : Nat) (v : Int) (h : SettingsSound x)
    (limited : x.budgetOverride ≤ budgetWatts straps.budget) :
    SettingsSound (x.store n (storedValue straps n v)) ∧
      (x.store n (storedValue straps n v)).budgetOverride ≤ budgetWatts straps.budget := by
  unfold Settings.store
  split
  · have range := storedValue_between straps (n := 1) (by decide) rfl (by decide) v
    exact ⟨{ h with hardness := by dsimp only; omega }, limited⟩
  · have range := storedValue_between straps (n := 2) (by decide) rfl (by decide) v
    exact ⟨{ h with flowConstant := by dsimp only; omega }, limited⟩
  · have range := storedValue_between straps (n := 3) (by decide) rfl (by decide) v
    exact ⟨{ h with scaleLimit := by dsimp only; omega }, limited⟩
  · have range := storedValue_between straps (n := 4) (by decide) rfl (by decide) v
    exact ⟨{ h with resumeLimit := by dsimp only; omega }, limited⟩
  · have range := storedValue_override straps v
    have strap : budgetWatts straps.budget ≤ 3680 := by
      cases straps.budget <;> decide
    exact ⟨{ h with budgetOverride := by dsimp only; omega }, by dsimp only; omega⟩
  · have range := storedValue_between straps (n := 6) (by decide) rfl (by decide) v
    exact ⟨{ h with reserve := by dsimp only; omega }, limited⟩
  · have range := storedValue_between straps (n := 7) (by decide) rfl (by decide) v
    exact ⟨{ h with ratings := ratings_set h.ratings (toNat_rating range) .top }, limited⟩
  · have range := storedValue_between straps (n := 8) (by decide) rfl (by decide) v
    exact ⟨{ h with ratings := ratings_set h.ratings (toNat_rating range) .bottom }, limited⟩
  · have range := storedValue_between straps (n := 9) (by decide) rfl (by decide) v
    exact ⟨{ h with ratings := ratings_set h.ratings (toNat_rating range) .ring }, limited⟩
  · have range := storedValue_between straps (n := 10) (by decide) rfl (by decide) v
    exact ⟨{ h with ratings := ratings_set h.ratings (toNat_rating range) .grill }, limited⟩
  · have range := storedValue_between straps (n := 11) (by decide) rfl (by decide) v
    exact ⟨{ h with ratings := ratings_set h.ratings (toNat_rating range) .boiler }, limited⟩
  · exact ⟨{ h with cavityUpper := storedValue_between straps (n := 12) (by decide) rfl (by decide) v }, limited⟩
  · exact ⟨{ h with cavityLower := storedValue_between straps (n := 13) (by decide) rfl (by decide) v }, limited⟩
  · exact ⟨{ h with boiler := storedValue_between straps (n := 14) (by decide) rfl (by decide) v }, limited⟩
  · exact ⟨{ h with coreA := storedValue_between straps (n := 15) (by decide) rfl (by decide) v }, limited⟩
  · exact ⟨{ h with coreB := storedValue_between straps (n := 16) (by decide) rfl (by decide) v }, limited⟩
  · exact ⟨{ h with coreC := storedValue_between straps (n := 17) (by decide) rfl (by decide) v }, limited⟩
  · exact ⟨{ h with moisture := storedValue_between straps (n := 18) (by decide) rfl (by decide) v }, limited⟩
  · have range := storedValue_between straps (n := 19) (by decide) rfl (by decide) v
    exact ⟨{ h with fillVolume := by dsimp only; omega }, limited⟩
  · exact ⟨h, limited⟩

theorem ownWrite_storeSound (n : Nat) (v : Int) (h : StoreSound s) : StoreSound (ownWrite n v s).2 := by
  obtain ⟨settings, limited, verified, writing⟩ := h
  obtain ⟨sound, within⟩ := storedValue_settingsSound s.start.straps n v settings limited
  have stored : StoreSound { s with settings := s.settings.store n (storedValue s.start.straps n v) } :=
    ⟨sound, within, verified, writing⟩
  exact taken_storeSound _ (stored.kept (askCommit_kept (raiseEvent_kept _ _ (afterWrite_kept _ (Kept.refl _)))))

theorem writeLock_storeSound (n : Nat) (b : Bool) (h : StoreSound s) : StoreSound (writeLock n b s) := by
  obtain ⟨settings, limited, verified, writing⟩ := h
  have locked : StoreSound { s with settings := { s.settings with childLock := b } } :=
    ⟨{ settings with }, limited, verified, writing⟩
  have permitted : StoreSound (setProt { s.prot with remotePermission := b } s) :=
    setProt_storeSound _ ⟨settings, limited, verified, writing⟩
  unfold writeLock
  dsimp only
  split
  · split
    · exact (raiseLock_storeSound _ locked).kept (askCommit_kept (Kept.refl _))
    · exact locked.kept (askCommit_kept (Kept.refl _))
  · split
    · exact raiseLock_storeSound _ permitted
    · exact permitted

theorem ownSetLock_storeSound (n v : Nat) (h : StoreSound s) : StoreSound (ownSetLock n v s).2 := by
  unfold ownSetLock
  split
  · exact h
  · exact taken_storeSound _ (writeLock_storeSound _ _ h)

theorem ownUnlock_storeSound (h : StoreSound s) : StoreSound (ownUnlock s).2 := by
  have refused : ∀ st : Status, StoreSound (refuse st s).2 := fun _ => h
  unfold ownUnlock
  repeat' split
  · exact setProt_storeSound _ h
  · exact refused _
  · exact refused _
  · exact refused _
  · exact taken_storeSound _ (raiseLock_storeSound _ (setProt_storeSound _ h))

theorem steerPairs_storeSound (pairs : List (Nat × Nat)) (h : StoreSound s) : StoreSound (steerPairs pairs s) := by
  induction pairs generalizing s with
  | nil => exact h
  | cons p rest ih =>
    unfold steerPairs
    split
    · exact ih h
    · exact ih (h.kept (steer_kept _ _ (Kept.refl s)))

theorem removeFaults_storeSound (h : StoreSound s) : StoreSound (removeFaults s) := by
  unfold removeFaults
  generalize latchedFaults = fs
  induction fs generalizing s with
  | nil => exact h
  | cons f rest ih =>
    rw [List.foldl_cons]
    apply ih
    split
    · exact leaveFault_storeSound _ h
    · exact h

theorem ownForce_storeSound (o v : Nat) (h : StoreSound s) : StoreSound (ownForce o v s).2 := by
  have refused : ∀ st : Status, StoreSound (refuse st s).2 := fun _ => h
  have answered : ∀ {u : State}, Kept s u → StoreSound (forceTaken u).2 := fun kept =>
    (h.kept kept).settled (Kept.refl _)
  have level : ∀ (o : Option Output) (b : Bool), StoreSound (ownForceLevel o b s).2 := by
    intro o b
    unfold ownForceLevel
    repeat' split
    · exact refused _
    · exact refused _
    · exact refused _
    · exact answered (makeForce_kept _ _ (Kept.refl s))
  unfold ownForce
  split
  · exact refused _
  · unfold ownRelease
    split
    · exact answered (Kept.refl s)
    · exact answered (removeForce_kept _ (Kept.refl s))
  · exact level _ _
  · exact level _ _

theorem ownPulse_storeSound (os : List Output) (ms : Nat) (h : StoreSound s) : StoreSound (ownPulse os ms s).2 := by
  have refused : ∀ st : Status, StoreSound (refuse st s).2 := fun _ => h
  unfold ownPulse
  repeat' split
  · exact refused _
  · exact refused _
  · exact refused _
  · exact taken_storeSound _ (h.same rfl rfl rfl rfl)

theorem store_ownersKeep : OwnersKeep StoreSound where
  ports _ _ _ := setPort_storeSound _ _
  locks _ _ := setProt_storeSound _
  fetch l n s h := by
    unfold ownFetch
    split
    · exact h
    · exact h.same rfl rfl rfl rfl
  lastRun s h := by
    unfold ownLastRun
    split
    · exact h
    · exact h.same rfl rfl rfl rfl
  load _ _ _ := ownLoad_storeSound _ _
  clear _ _ := ownClear_storeSound _
  start _ _ _ := ownStart_storeSound _ _
  stop _ := ownStop_storeSound
  adjust _ _ := ownAdjust_storeSound _
  skip s h := h.settled (endStage_kept (Kept.refl s))
  inject _ _ := ownInject_storeSound _
  descaleStart _ := ownDescaleStart_storeSound
  descaleConfirm _ _ := ownDescaleConfirm_storeSound _
  descaleAbort _ := ownDescaleAbort_storeSound
  write _ _ _ := ownWrite_storeSound _ _
  setLock _ _ _ := ownSetLock_storeSound _ _
  unlock _ := ownUnlock_storeSound
  lock _ h := (endServiceUnlock_storeSound h).settled (Kept.refl _)
  steering pairs s h := by
    unfold ownSteering
    split
    · exact h
    · exact steerPairs_storeSound _ h
  clearFaults _ h := taken_storeSound _ ((removeFaults_storeSound h).kept (afterRemovals_kept (Kept.refl _)))
  lamp n s h := by
    unfold ownLampCommand
    split
    · exact h.kept (stopLamp_kept (Kept.refl s))
    · exact h.kept (startLamp_kept (Kept.refl s))
    · exact h
  scaleReset s h := taken_storeSound _ (h.kept (clearAccount_kept (Kept.refl s)))
  force _ _ _ := ownForce_storeSound _ _
  pulse _ _ _ := ownPulse_storeSound _ _

/-! ## The rows -/

theorem raiseAtReset_storeSound (h : StoreSound s) : StoreSound (raiseAtReset s) := by
  have raised : ∀ {u : State}, StoreSound u →
      StoreSound (followPrompt (followWaterConditions (followLevel (followTray u)))) := fun hu =>
    hu.kept (followPrompt_kept (followWaterConditions_kept (followLevel_kept (followTray_kept (Kept.refl _)))))
  have ends : ∀ {u : State}, StoreSound u → StoreSound (if endReached .closed u then arriveVent .closed u else u) := by
    intro u hu
    split
    · exact hu.kept (arriveVent_kept _ (Kept.refl u))
    · exact hu
  unfold raiseAtReset
  dsimp only
  split
  · exact ends (raised (enterFault_storeSound _ h))
  · exact ends (raised h)

theorem resetState_storeSound (cause : ResetCause) (h : StoreSound s) : StoreSound (resetState cause s) := by
  refine ⟨settingsSound_limited cause.straps (loadedRecord_sound h), ?_, h.2.2.1, fun r none => by cases none⟩
  exact Nat.min_le_right _ _

theorem endWrite_storeSound (good : Bool) {record : StoreRecord} (writing : s.store.writing = some record)
    (h : StoreSound s) : StoreSound (endWrite good record s) := by
  have next : ∀ {u : State}, StoreSound u → StoreSound (nextWrite u) := by
    intro u hu
    obtain ⟨settings, limited, verified, -⟩ := hu
    refine ⟨settings, limited, verified, fun r began => ?_⟩
    unfold nextWrite at began
    dsimp only at began
    split at began
    · cases began
      exact settings
    · cases began
  unfold endWrite
  refine next ?_
  split
  · refine leaveFault_storeSound _ ⟨h.1, h.2.1, fun r verified => ?_, h.2.2.2⟩
    obtain rfl : record = r := Option.some.inj verified
    exact h.2.2.2 _ writing
  · exact enterFault_storeSound _ h

theorem passDrain_storeSound (h : StoreSound s) : StoreSound (passDrain s) := h.kept (passDrain_kept (Kept.refl s))

theorem tick_storeSound (h : StoreSound s) : StoreSound (tick s) :=
  have queued : ∀ {u : State}, StoreSound u → StoreSound { u with pending := u.pending ++ due u } := fun hu =>
    hu.same rfl rfl rfl rfl
  queued (passDrain_storeSound (h.same rfl rfl rfl rfl))

theorem pulseArrives_storeSound (h : StoreSound s) : StoreSound (pulseArrives s) :=
  h.kept (pulseArrives_kept (Kept.refl s))

theorem endStarting_storeSound (h : StoreSound s) : StoreSound (endStarting s) := by
  have ready : StoreSound { s with start := { s.start with ready := true } } := h.same rfl rfl rfl rfl
  have resumed : ∀ {u : State} (b : Bool), StoreSound u →
      StoreSound { u with start := { u.start with resumed := b } } :=
    fun _ hu => hu.same rfl rfl rfl rfl
  obtain ⟨b, settled⟩ := settleRun_kept { s with start := { s.start with ready := true } }
  have run : StoreSound (settleRun { s with start := { s.start with ready := true } }) :=
    (resumed b ready).kept settled
  unfold endStarting recoverDescale
  split
  · exact run.kept (recoverAgent_kept (Kept.refl _))
  · exact run.kept (recoverClean_kept (Kept.refl _))

theorem takePeriod_storeSound (raw : RawSamples) (h : StoreSound s) : StoreSound (takePeriod raw s) := by
  have sensed : ∀ {u : State}, StoreSound u → StoreSound (followSensors u) := fun {u} hu => by
    rw [followSensors_only]
    exact hu.same rfl rfl rfl rfl
  exact (sensed (setMeas_storeSound _ h)).kept (raiseProbe_kept _ (Kept.refl _))

/-- Every command keeps the settings and the records sound. -/
theorem exec_storeSound (c : Instr) : Keeps StoreSound s (exec c s) := by
  cases c with
  | reset cause => exact keeps_next fun h => raiseAtReset_storeSound (resetState_storeSound cause h)
  | samplePeriod raw =>
    exact keeps_ite fun _ h => (takePeriod_storeSound raw h).settled (afterReadings_kept _ (Kept.refl _))
  | tachoEdge => exact keeps_ite fun _ => setMeas_storeSound _
  | tachoTimeout => exact keeps_ite fun _ => setMeas_storeSound _
  | zeroCross =>
    refine keeps_ite fun _ h => ?_
    split
    · exact undecidedEdge_storeSound h
    · exact decidedEdge_storeSound h
  | allocationEnd => exact keeps_next finishAllocation_storeSound
  | heatUpCountExpiry =>
    exact keeps_ite fun _ h => (enterFault_storeSound _ h).settled (enterDryFault_kept (Kept.refl _))
  | zeroCrossGroupTimeout => exact keeps_ite fun _ => setMeas_storeSound _
  | frequencyTimeout => exact keeps_ite fun _ h => enterFault_storeSound _ (setMeas_storeSound _ h)
  | mainsLost => exact keeps_ite fun _ h => (loseMains_storeSound h).settled (Kept.refl _)
  | flowPulse => exact keeps_ite fun _ h => pulseArrives_storeSound (h.same rfl rfl rfl rfl)
  | settleEnd =>
    exact keeps_ite fun _ h => h.kept (arbitrate_kept (Kept.refl s).with_water)
  | noFlow =>
    show Keeps StoreSound s (execNoFlow s)
    unfold execNoFlow
    split
    · exact keeps_ite fun _ h => h.kept (faultChannel_kept _ (Kept.refl s))
    · exact keeps_next id
  | drainTerminalCount =>
    show Keeps StoreSound s (execDrainTerminalCount s)
    unfold execDrainTerminalCount
    split
    · exact keeps_ite fun _ h => h.settled (endNoFlow_kept (drainEnded_kept _ (endDose_kept _ _ (Kept.refl s))))
    · exact keeps_next id
  | boilerFill =>
    refine keeps_ite fun _ h => h.settled ?_
    have loaded := enterBoiler_kept .filling (loadDose_kept .ch0 .demand .boiler (sourceFor .boilerControl s)
      (volumePulses s.settings.fillVolume s) false .boilerControl (Kept.refl s))
    split
    · exact enterBoiler_kept .heating loaded
    · exact loaded
  | topUp => exact keeps_ite fun _ h => h.settled (loadDose_kept _ _ _ _ _ _ _ (Kept.refl s))
  | boilerDrainStart => exact keeps_ite fun _ h => h.settled (loadDrain_kept _ (Kept.refl s))
  | relayChangeStart r => exact keeps_ite fun _ h => h.kept (setRelay_kept _ _ (Kept.refl s))
  | relayContactEnd r =>
    refine keeps_ite fun _ h => h.kept ?_
    cases r with
    | heaterSupply => exact setRelay_kept _ _ (Kept.refl s)
    | fanDirection => exact endReversal_kept (setRelay_kept _ _ (Kept.refl s))
  | relayRecoveryEnd r => exact keeps_ite fun _ h => h.kept (setRelay_kept _ _ (Kept.refl s))
  | fanTick => exact keeps_ite fun _ h => h.kept (setFan_kept _ (Kept.refl s))
  | fanStall =>
    exact keeps_ite fun _ h => (enterFault_storeSound .fanStall h).settled (setFan_kept _ (Kept.refl _))
  | reversalTimerExpiry =>
    exact keeps_ite fun _ h => h.kept (beginReversal_kept (setClimate_kept _ (Kept.refl s)))
  | slowTimerExpiry => exact keeps_ite fun _ h => h.kept (setRelay_kept _ _ (setFan_kept _ (Kept.refl s)))
  | ventStuck =>
    exact keeps_ite fun _ h => enterFault_storeSound .ventStuck (h.kept (setVent_kept _ (Kept.refl s)))
  | lampOneShotExpiry => exact keeps_ite fun _ h => h.kept (stopLamp_kept (Kept.refl s))
  | forceExpiry o => exact keeps_ite fun _ h => h.settled (removeForce_kept _ (Kept.refl s))
  | pulseEnd => exact keeps_ite fun _ h => h.settled (endPulse_kept (Kept.refl s))
  | soakEnd => exact keeps_ite fun _ h => h.settled (enterDrainAgent_kept (withdrawSoakTarget_kept (Kept.refl s)))
  | descaleDoseLoad => exact keeps_ite fun _ h => h.settled (tryDescaleDose_kept (Kept.refl s))
  | descaleDrainLoad => exact keeps_ite fun _ h => h.settled (tryDescaleDrain_kept (Kept.refl s))
  | sequencerTick =>
    refine keeps_ite fun _ h => ?_
    split
    · exact h.kept (setRun_kept _ (Kept.refl s).with_seq)
    · exact h.kept (Kept.refl s).with_seq
  | stageTimeEnd => exact keeps_ite fun _ h => h.settled (endStage_kept (Kept.refl s))
  | doorTimeout => exact keeps_ite fun _ h => h.settled (endRun_kept _ _ (Kept.refl s))
  | waterTimeout => exact keeps_ite fun _ h => h.settled (waterTimesOut_kept (Kept.refl s))
  | inputChange n =>
    exact keeps_ite fun _ h => (inputBecomes_storeSound _ _ (setInput_storeSound _ _ h)).settled (Kept.refl _)
  | serviceSilenceTimeout =>
    exact keeps_ite fun _ h => (endServiceUnlock_storeSound h).settled (Kept.refl _)
  | commitEnd good =>
    show Keeps StoreSound s (execCommitEnd good s)
    unfold execCommitEnd
    split
    · exact keeps_next id
    · next writing => exact keeps_next (endWrite_storeSound good writing)
  | startingEnd => exact keeps_ite fun _ h => (endStarting_storeSound h).settled (Kept.refl _)
  | frameGapTimeout l => exact keeps_ite fun _ => setPort_storeSound _ _
  | badFrame l defect => exact keeps_next (setPort_storeSound _ _)
  | frameStartWhileBusy f => exact keeps_next (setPort_storeSound _ _)
  | discardMarkClear l => exact keeps_ite fun _ => setPort_storeSound _ _
  | replySent l => exact keeps_ite fun _ => setPort_storeSound _ _
  | frameStart f => exact keeps_next (setPort_storeSound _ _)
  | rawLevelChange n level => exact keeps_next (setInput_storeSound _ _)
  | _ => exact linkCommand_keeps store_ownersKeep rfl

theorem step_storeSound (h : StoreSound s) (stepped : step s = .next t) : StoreSound t := by
  unfold step at stepped
  split at stepped
  · next c rest _ =>
    have queued : StoreSound { s with pending := rest } := h.same rfl rfl rfl rfl
    exact exec_storeSound c (s := { s with pending := rest }) queued t stepped
  · cases stepped
    exact tick_storeSound h

end

end Sys2Proof.Machine

open Sys2Proof Sys2Proof.Machine

/-- Settles O9, row by row (`exec_storeSound`): only a reset, a commit's end, WRITE_SETTING and the child lock move
what the law speaks of. -/
theorem storeStaysSound : Obligations.StoreStaysSound := fun _ _ h stepped => step_storeSound h stepped

/-- Settles O10. -/
theorem resetStateIsSound : Obligations.ResetStateIsSound := by
  have limits : LimitsSound resetLimits := by
    unfold LimitsSound
    decide
  have unclaimed : ∀ c : Chan, chan State.reset c = .initial := fun c => by cases c <;> rfl
  have dark : ∀ l, State.reset.out.heat.get l = ⟨.empty, .empty, false⟩ := fun l => by cases l <;> rfl
  have unforced : ∀ l, forcedFiring l State.reset = false ∧ forcedNext l State.reset = false := fun _ => ⟨rfl, rfl⟩
  have drawsNothing : ∀ k, powerOf resetLimits (fun l => (State.reset.out.heat.get l).active.covers k ||
      forcedFiring l State.reset) ≤ resetLimits.headroom := fun k => by
    simp only [dark, Run.covers_empty, unforced, Bool.or_self, powerOf_none, Nat.zero_le]
  have queues : ∀ l : Link, State.reset.events.queues.get l = [] := fun l => by cases l <;> rfl
  have store : StoreSound State.reset := by
    exact ⟨settingsSound_defaults, by decide, nofun, nofun⟩
  refine ⟨fun l => ?_, ⟨fun c _ => ?_, by decide⟩, fun c => ?_, by unfold RunSound; decide, List.nodup_nil, store, ?_⟩
  · rw [queues]
    exact ⟨List.nodup_nil, fun e member => absurd member List.not_mem_nil⟩
  · rw [unclaimed]
    exact ⟨nofun, nofun⟩
  · rw [unclaimed]
    exact ⟨nofun, nofun⟩
  · refine ⟨limits, limits, ?_, drawsNothing, fun e member => absurd member List.not_mem_nil, fun _ k => ?_,
      fun a begun => by cases begun⟩
    · simp only [dark, powerOf_none]
      exact Nat.le.intro limits
    · simp only [dark, Run.covers_empty, unforced, Bool.or_self, powerOf_none, Nat.zero_le]

end

section
/-! SUPPORT. Small rows and operations, each as its rule states it: the fan speed, the second of a run, the ports, the
end of an allocation, the event queues and the fault set. -/

namespace Sys2Proof.Machine

section
variable {s : State}

/-! ## Fan speed (R13, R14) -/

theorem speedOf_timely {age : Nat} (timely : age ≤ 1000000) : speedOf age = 30000000 / age := by
  unfold speedOf
  have short : min age 1048575 = age := by omega
  rw [short, if_neg (by omega)]

theorem speedOf_late {age : Nat} (late : 1000000 < age) : speedOf age = 0 := by
  unfold speedOf
  rw [if_pos (by omega)]

theorem tachoEdge_accepted (accepted : tachoAccepted s.meas = true) :
    exec .tachoEdge s =
      .next
        { s with
          meas :=
            { s.meas with
              speed := if s.meas.tachoSeen then speedOf s.meas.tachoAge else s.meas.speed
              tachoSeen := true, tachoAge := 0 } } := if_pos accepted

/-! ## The ports (R182, R184, R185) -/

theorem silent_iff (p : Port) : p.silent = true ↔ 20000 < p.quiet := by
  unfold Port.silent
  exact decide_eq_true_iff

/-! ## Event queues (R166, R167) -/

/-- The entry that a raise leaves of an entry of its kind (R166). -/
def Entry.coalesced (k : EventKind) (arg : Option Byte) (t : Nat) (e : Entry) : Entry :=
  { e with
    count := min (e.count + 1) 255, time := t, reported := false, argument := arg
    standing := if k.isLevel then .holding else .edge }

theorem placeEntry_absent {k : EventKind} (arg : Option Byte) (t : Nat) {q : List Entry}
    (absent : k ∉ q.map Entry.kind) :
    placeEntry k arg t q =
      q ++ [{ kind := k, count := 1, time := t, reported := false, argument := arg
              standing := if k.isLevel then .holding else .edge }] := by
  induction q with
  | nil => rfl
  | cons e rest ih =>
    rw [List.map_cons, List.mem_cons, not_or] at absent
    unfold placeEntry
    rw [if_neg (Ne.symm absent.1), ih absent.2]
    rfl

/-- Entries of other kinds stand as they are. -/
theorem map_kind_absent {k : EventKind} {f : Entry → Entry} {q : List Entry} (absent : k ∉ q.map Entry.kind) :
    q.map (fun e => if e.kind = k then f e else e) = q := by
  have others : ∀ e ∈ q, (if e.kind = k then f e else e) = e := fun e member =>
    if_neg fun (same : e.kind = k) => absent (same ▸ List.mem_map_of_mem member)
  rw [List.map_congr_left others, List.map_id']

theorem placeEntry_present {k : EventKind} (arg : Option Byte) (t : Nat) {q : List Entry}
    (once : (q.map Entry.kind).Nodup) (present : k ∈ q.map Entry.kind) :
    placeEntry k arg t q = q.map fun e => if e.kind = k then e.coalesced k arg t else e := by
  induction q with
  | nil => cases present
  | cons e rest ih =>
    rw [List.map_cons, List.nodup_cons] at once
    unfold placeEntry
    rw [List.map_cons]
    by_cases here : e.kind = k
    · subst here
      rw [if_pos rfl, if_pos rfl, map_kind_absent once.1]
      rfl
    · rw [if_neg here, if_neg here, ih once.2 ((List.mem_cons.mp present).resolve_left (Ne.symm here))]

theorem endEntry_eq {k : EventKind} {q : List Entry} (once : (q.map Entry.kind).Nodup) :
    endEntry k q =
      (q.filter (fun e => !(decide (e.kind = k) && e.reported))).map
        (fun e => if e.kind = k then { e with standing := .ended } else e) := by
  induction q with
  | nil => rfl
  | cons e rest ih =>
    rw [List.map_cons, List.nodup_cons] at once
    unfold endEntry
    by_cases here : e.kind = k
    · subst here
      have others : rest.filter (fun x => !(decide (x.kind = e.kind) && x.reported)) = rest := by
        rw [List.filter_eq_self]
        intro x member
        have differs : x.kind ≠ e.kind := fun same => once.1 (same ▸ List.mem_map_of_mem member)
        simp [differs]
      rw [if_pos rfl, List.filter_cons, others]
      cases read : e.reported with
      | true => simp [map_kind_absent once.1]
      | false => simp [map_kind_absent once.1, read]
    · rw [if_neg here, List.filter_cons, ih once.2]
      simp [here]

/-! ## The fault set (R165, R170) -/

theorem placeInSet_get (set : LinkSet) (k : EventKind) (arg : Option Byte) (t : Nat) (q : PerLink (List Entry))
    (l : Link) :
    (placeInSet set k arg t q).get l = if set.get l then placeEntry k arg t (q.get l) else q.get l := by
  cases l <;> rfl

theorem attention_iff {l : Link} : attention s l = true ↔ ∃ e ∈ s.events.queues.get l, e.reported = false := by
  unfold attention hasUnreported
  simp

/-! ## The first readings (R163) -/

/-- What the first readings raise moves no unit's measurement, settings or locks. -/
theorem raiseAtReset_kept (s : State) :
    Kept (if cutoutOpen s then enterFault .thermalCutout s else s) (raiseAtReset s) := by
  have told := followPrompt_kept (followWaterConditions_kept (followLevel_kept (followTray_kept
    (Kept.refl (if cutoutOpen s then enterFault .thermalCutout s else s)))))
  exact kept_ite (arriveVent_kept _ told) told

theorem raiseAtReset_meas (s : State) : (raiseAtReset s).meas = s.meas := by
  rw [(raiseAtReset_kept s).meas]
  split
  · exact enterFault_meas ..
  · rfl

end

end Sys2Proof.Machine

open Sys2Proof Sys2Proof.Machine

/-- Settles O22: an accepted edge measures what `speedOf` makes of its age. -/
theorem tachoEdgesGiveTheFanSpeed : Obligations.TachoEdgesGiveTheFanSpeed := by
  intro s
  refine ⟨fun unseen => ?_, fun seen early => ?_, fun seen due timely => ?_, fun seen late => ?_, fun due => ?_,
    fun early => ?_, fun cause => ⟨_, rfl, ?_⟩⟩
  · rw [tachoEdge_accepted (by simp [tachoAccepted, unseen]), unseen]
    rfl
  · exact if_neg (by simp [tachoAccepted, seen, millisecond]; omega)
  · rw [tachoEdge_accepted (by simp [tachoAccepted, millisecond]; omega), if_pos seen, speedOf_timely timely, ← seen]
  · rw [tachoEdge_accepted (by simp [tachoAccepted, millisecond]; omega), if_pos seen, speedOf_late late, ← seen]
  · exact if_pos (by simpa [tachoTimeoutDue, millisecond] using due)
  · exact if_neg (by simp [tachoTimeoutDue, millisecond]; omega)
  · rw [raiseAtReset_meas]
    exact ⟨rfl, rfl, rfl⟩

theorem stageCounts_iff (s : State) : stageCounts s = true ↔ s.ret.run.causes = Causes.none ∧
    ((currentStage s).timerStart ≠ some .afterReached ∨ s.ret.run.tempReached = true) := by
  simp only [stageCounts, Bool.and_eq_true, Bool.or_eq_true, decide_eq_true_iff, Causes.isEmpty_iff]

theorem stageCounts_with_seq (q : Sequencer) (s : State) : stageCounts { s with seq := q } = stageCounts s := rfl

theorem sequencerTick_due {s : State} (due : 1000000 ≤ s.seq.tickClock) :
    exec .sequencerTick s =
      (let s' := { s with seq := { s.seq with tickClock := s.seq.tickClock - 1000000 } }
       .next (if runActive s then setRun (tickRun (stageCounts s) s.meas.mainsPresent s.ret.run) s' else s')) := by
  have row : sequencerTickDue s = true := by simpa [sequencerTickDue, second] using due
  unfold exec execSequencerTick
  rw [if_pos row]
  dsimp only
  rw [stageCounts_with_seq]
  simp [runActive]

/-- Settles O43. -/
theorem sequencerTicks : Obligations.SequencerTicks := by
  intro s
  refine ⟨fun early => if_neg ?_, fun due rests => ?_, fun due active => ?_⟩
  · simp [sequencerTickDue, second]
    omega
  · rw [sequencerTick_due due, rests]
    rfl
  · rw [sequencerTick_due due, active]
    unfold tickRun
    simp only [← stageCounts_iff]
    rfl

/-- Settles O53: each row is its port's operation, case by case. -/
theorem portsReceiveAndReply : Obligations.PortsReceiveAndReply := by
  intro l gaps s
  refine ⟨rfl, fun idle kept => ?_, fun receiving => ?_, fun busy => ?_, fun defect => rfl, fun receiving late => ?_,
    fun early => ?_, fun early => ?_, fun kept => ?_, fun discards late => ?_, fun replying sent => ?_, fun early => ?_⟩
  · simp [exec, execFrameStart, Port.startByte, idle, kept]
  · rcases receiving with receiving | ⟨idle, discards⟩
    · simp [exec, execFrameStart, Port.startByte, Port.byteTaken, receiving]
    · simp [exec, execFrameStart, Port.startByte, Port.byteTaken, idle, discards]
  · rcases busy with executing | replying
    · simp [exec, execFrameStart, Port.startByte, Port.overrunBy, executing]
    · simp [exec, execFrameStart, Port.startByte, Port.overrunBy, replying]
  · simp [exec, execFrameGapTimeout, frameGapDue, silent_iff, Port.abandon, receiving, late]
  · refine if_neg ?_
    simp only [frameGapDue, Bool.and_eq_true, decide_eq_true_iff, silent_iff]
    rintro ⟨receiving, late⟩
    rcases early with other | soon
    · exact other receiving
    · exact absurd late (Nat.not_lt.mpr soon)
  · refine if_neg ?_
    simp only [discardClearDue, Bool.and_eq_true, silent_iff]
    exact fun both => absurd both.2 (Nat.not_lt.mpr early)
  · exact if_neg (by simp [discardClearDue, kept])
  · exact if_pos (by simp [discardClearDue, silent_iff, discards, late])
  · exact if_pos (by simp [replySentDue, second, replying, sent])
  · refine if_neg ?_
    simp only [replySentDue, Bool.and_eq_true, decide_eq_true_iff, second]
    rintro ⟨replying, sent⟩
    rcases early with other | unsent
    · exact other replying
    · exact absurd sent (Nat.not_le.mpr unsent)

/-- Settles O11: by induction on the queue, whose kinds are distinct. -/
theorem raisesAndEndsReachAQueue : Obligations.RaisesAndEndsReachAQueue := by
  intro k arg t q once
  refine ⟨?_, endEntry_eq once⟩
  split
  · next present => exact placeEntry_present arg t once present
  · next absent => exact placeEntry_absent arg t absent

theorem enterFault_absent {f : FaultKind} {s : State} (free : f ∉ s.events.faults) :
    enterFault f s = raiseEvent .faultActive (numberArg f.number)
      { s with events := { s.events with faults := s.events.faults ++ [f] } } :=
  if_neg (by simpa [hasFault] using free)

theorem leaveFault_present {f : FaultKind} {s : State} (there : f ∈ s.events.faults) :
    let rest := s.events.faults.filter (fun g => decide (g ≠ f))
    let gone := { s with events := { s.events with faults := rest } }
    leaveFault f s = if rest = [] then endCondition .faultActive gone else gone :=
  if_pos (by simpa [hasFault] using there)

/-- Settles O12. -/
theorem faultsRaiseTheirEvent : Obligations.FaultsRaiseTheirEvent := by
  refine ⟨fun k arg s l => placeInSet_get .., fun f s => ⟨fun there => ?_, fun free => ?_⟩,
    fun f s there => ?_, fun l s => attention_iff⟩
  · exact if_pos (by simpa [hasFault] using there)
  · rw [enterFault_absent free]
    exact ⟨rfl, by simp [conditionHolds, raiseEvent, holdCondition, EventKind.isLevel], fun l => placeInSet_get ..⟩
  · rw [leaveFault_present there]
    split
    · exact ⟨rfl, fun l => by cases l <;> rfl⟩
    · exact ⟨rfl, fun l => rfl⟩

end

section
/-! SUPPORT. ALLOCATION_END (R56 to R58, R64): where the results go, and LOAD_OVER_BUDGET. -/

namespace Sys2Proof.Machine

section
variable {s : State}

theorem anyMark_iff (m : PerLoad Bool) : anyMark m = true ↔ ∃ l : Load, m.get l = true := by
  constructor
  · intro marked
    simp only [anyMark, Bool.or_eq_true] at marked
    rcases marked with (((h | h) | h) | h) | h
    · exact ⟨.top, h⟩
    · exact ⟨.bottom, h⟩
    · exact ⟨.ring, h⟩
    · exact ⟨.grill, h⟩
    · exact ⟨.boiler, h⟩
  · rintro ⟨l, marked⟩
    cases l <;> simp_all [anyMark, PerLoad.get]

theorem grantDiscarded_iff (l : Load) (s : State) : grantDiscarded l s = true ↔ s.meas.mainsPresent = false ∨
    cutoutOpen s = true ∨ (l.isCavity = true ∧ doorOpen s = true) ∨ (l = .boiler ∧ lowCovered s = false) := by
  cases l <;> simp [grantDiscarded, Load.isCavity, or_assoc]

theorem finishAllocation_some {a : Allocation} (begun : s.share.allocation = some a) :
    finishAllocation s = followFault .loadOverBudget (anyMark a.marks) (resultsHanded a s) := by
  unfold finishAllocation
  rw [begun]
  exact endAllocation_eq a s

end

end Sys2Proof.Machine

open Sys2Proof Sys2Proof.Machine

/-- Settles O26: the results go as `resultsHanded` says, and the fault follows the marks. -/
theorem allocationEndHandsOnItsResults : Obligations.AllocationEndHandsOnItsResults := by
  refine ⟨fun s none => ?_, fun s a begun => ⟨_, rfl, ?_⟩⟩
  · show Host.Outcome.next (finishAllocation s) = _
    unfold finishAllocation
    rw [none]
  · rw [finishAllocation_some begun]
    have overBudget : hasFault .loadOverBudget (followFault .loadOverBudget (anyMark a.marks) (resultsHanded a s)) =
        anyMark a.marks := by rw [hasFault_followFault, if_pos rfl]
    have others : ∀ f : FaultKind, f ≠ .loadOverBudget →
        (f ∈ (followFault .loadOverBudget (anyMark a.marks) (resultsHanded a s)).events.faults ↔
          f ∈ s.events.faults) := by
      intro f other
      rw [← hasFault_iff, hasFault_followFault, if_neg other, hasFault_iff]
      rfl
    refine ⟨fun l => ?_, ?_, ?_, ?_, ?_, by rw [overBudget, anyMark_iff], others, ?_⟩
    all_goals rw [followFault_only]
    · refine (grantedHeat_get a s l).trans ?_
      simp only [grantedRun, grantDiscarded_iff, Bool.or_eq_true, decide_eq_true_iff, or_assoc, Run.empty]
    · rfl
    · rfl
    · rfl
    · rfl
    · exact ⟨rfl, rfl, rfl, rfl, rfl, rfl, rfl, rfl, rfl, rfl⟩

end

section
/-! SUPPORT. A link command of any kind that its port receives (R182, R183): its owner decides in the state of the
accepted frame, and its reply is built on what the owner leaves. -/

namespace Sys2Proof.Machine

section
variable {i : Instr} {l : Link} {code : Byte} {own : State → Reply × State} {s : State}

theorem frame_answered (runs : exec i s = onFrame l code own s) (opened : portOpen s l) {r : Reply} {u : State}
    (decided : own (acceptFrame l s) = (r, u)) : exec i s = .next (answer l code r u) := by
  rw [runs]
  unfold onFrame
  rw [if_pos opened, decided]

/-- A refused command leaves nothing behind but its reply. -/
theorem frame_refuses (runs : exec i s = onFrame l code own s) (opened : portOpen s l) {st : Status}
    (decided : own (acceptFrame l s) = refuse st (acceptFrame l s)) : Refuses i l code st s := by
  refine ⟨_, frame_answered runs opened decided, answer_replies rfl, ?_⟩
  unfold OnlyPorts answer
  rw [acceptFrame_eq]
  rfl

/-- A command that no test refuses reaches its owner (R183). -/
theorem decideCommand_owned (ready : s.start.ready = true) (reads : Bool) :
    decideCommand true reads none false own s = own s := by
  unfold decideCommand
  rw [ready]
  rfl

theorem acceptFrame_ready (l : Link) (s : State) : (acceptFrame l s).start = s.start := by rw [acceptFrame_eq]

theorem acceptFrame_settings (l : Link) (s : State) : (acceptFrame l s).settings = s.settings := by rw [acceptFrame_eq]

theorem acceptFrame_ret (l : Link) (s : State) : (acceptFrame l s).ret = s.ret := by rw [acceptFrame_eq]

theorem acceptFrame_inputs (l : Link) (s : State) : (acceptFrame l s).inputs = s.inputs := by rw [acceptFrame_eq]

theorem acceptFrame_locks (l : Link) (s : State) :
    (acceptFrame l s).prot.serviceUnlock = s.prot.serviceUnlock ∧
      (acceptFrame l s).prot.remotePermission = s.prot.remotePermission := by
  rw [acceptFrame_eq]
  exact ⟨rfl, rfl⟩

end

/-! ## The locks (R174 to R177) -/

section
variable {s : State}

theorem silenceDue_iff (s : State) : silenceDue s = true ↔ s.prot.serviceUnlock = true ∧ 60000000 ≤ s.prot.silence := by
  simp [silenceDue, second]

/-- The end of service unlock, where it is active. -/
theorem endServiceUnlock_active (active : s.prot.serviceUnlock = true) :
    endServiceUnlock s =
      raiseEvent .lockChanged (some 2) { s with prot := { s.prot with serviceUnlock := false, silence := 0 } } :=
  if_pos active

theorem endServiceUnlock_none (none : s.prot.serviceUnlock = false) : endServiceUnlock s = s :=
  if_neg (by rw [none]; decide)

end

end Sys2Proof.Machine

open Sys2Proof Sys2Proof.Machine

/-- Settles O52. -/
theorem locksChange : Obligations.LocksChange := by
  refine ⟨silenceDue_iff, fun s early => if_neg (ne_true_of_eq_false early), fun s active silent => ?_,
    fun input value s reaches => ?_, fun s reaches => ?_, fun s reaches => ?_⟩
  · refine (if_pos ((silenceDue_iff s).mpr ⟨active, silent⟩)).trans ?_
    rw [endServiceUnlock_active active]
  · obtain ⟨opened, ready, -⟩ := reaches
    have answered : ∀ (r : Reply) (u : State), ownSetLock input.toNat value.toNat (acceptFrame .panel s) = (r, u) →
        exec (.setLock .panel [input, value]) s = .next (answer .panel 0x31 r u) := fun r u decided =>
      frame_answered rfl opened ((decideCommand_owned (by rw [acceptFrame_ready]; exact ready) false).trans decided)
    refine ⟨fun bad => ?_, fun child small => ?_, fun remote small => ?_⟩
    · exact frame_refuses rfl opened
        ((decideCommand_owned (by rw [acceptFrame_ready]; exact ready) false).trans (if_pos bad))
    · refine answered _ _ ?_
      unfold ownSetLock
      rw [if_neg (by omega), child]
      unfold writeLock
      rw [if_pos rfl, acceptFrame_settings]
      by_cases same : s.settings.childLock = decide (value.toNat = 1)
      · simp [same, taken]
        rfl
      · simp [same, taken, raiseLock, numberArg]
        rfl
    · refine answered _ _ ?_
      unfold ownSetLock
      rw [if_neg (by omega), remote]
      unfold writeLock
      rw [if_neg (by decide), (acceptFrame_locks .panel s).2]
      by_cases same : s.prot.remotePermission = decide (value.toNat = 1)
      · simp [same, taken, setProt]
      · simp [same, taken, setProt, raiseLock, numberArg]
        rfl
  · obtain ⟨opened, ready, -⟩ := reaches
    have decides : decideCommand ([] : List Byte).isEmpty false none (decide (Link.service ≠ .service)) ownUnlock
        (acceptFrame .service s) = ownUnlock (acceptFrame .service s) :=
      decideCommand_owned (by rw [acceptFrame_ready]; exact ready) false
    have answered : ∀ (r : Reply) (u : State), ownUnlock (acceptFrame .service s) = (r, u) →
        exec (.serviceUnlock .service []) s = .next (answer .service 0x32 r u) := fun r u decided =>
      frame_answered rfl opened (decides.trans decided)
    have refused : ∀ st : Status, ownUnlock (acceptFrame .service s) = refuse st (acceptFrame .service s) →
        Refuses (.serviceUnlock .service []) .service 0x32 st s := fun st decided =>
      frame_refuses rfl opened (decides.trans decided)
    have unlock : (acceptFrame .service s).prot.serviceUnlock = s.prot.serviceUnlock := (acceptFrame_locks ..).1
    refine ⟨fun active => answered _ _ (if_pos (unlock.trans active)), fun idle => ⟨fun absent => refused _ ?_,
      fun present => ⟨fun runs => refused _ ?_, fun rests descales => refused _ ?_, fun rests idles =>
        answered _ _ ?_⟩⟩⟩
    all_goals
      unfold ownUnlock
      rw [if_neg (by rw [unlock, idle]; decide), acceptFrame_inputs, acceptFrame_ret]
    · rw [if_pos absent]
    · rw [if_neg (by rw [present]; decide), if_pos runs]
    · rw [if_neg (by rw [present]; decide), if_neg (not_not.mpr rests), if_pos descales]
    · rw [if_neg (by rw [present]; decide), if_neg (not_not.mpr rests), if_neg (not_not.mpr idles)]
      rfl
  · obtain ⟨opened, ready, -⟩ := reaches
    have decides := decideCommand_owned (s := acceptFrame .service s)
      (own := fun s => taken (Reply.bare .ok) (endServiceUnlock s)) (by rw [acceptFrame_ready]; exact ready) false
    refine (frame_answered rfl opened decides).trans ?_
    have unlock : (acceptFrame .service s).prot.serviceUnlock = s.prot.serviceUnlock := (acceptFrame_locks ..).1
    cases active : s.prot.serviceUnlock with
    | true =>
      rw [endServiceUnlock_active (unlock.trans active)]
      rfl
    | false =>
      rw [endServiceUnlock_none (unlock.trans active)]
      rfl

end

section
/-! SUPPORT. The rows of the fan drive, the vent flap and the lamp (R72 to R78), and LAMP. -/

namespace Sys2Proof.Machine

section
variable {s : State}

/-! ## The fan drive (R45, R72 to R75) -/

/-- The modes with a reversal period have 120 s (R38, R45). -/
theorem modeRow_reversal (m : Mode) : (modeRow m).reversal =
    if m = .convection ∨ m = .bottomCrisp ∨ m = .grillFan ∨ m = .combi then 120 else 0 := by
  cases m <;> rfl

theorem reversalDue_iff (s : State) : reversalDue s = true ↔
    ∃ r, s.climate.record = some r ∧ (s.climate.state = .preheat ∨ s.climate.state = .hold) ∧ 0 < r.fanCode ∧
      (r.mode = .convection ∨ r.mode = .bottomCrisp ∨ r.mode = .grillFan ∨ r.mode = .combi) ∧
      s.meas.mainsPresent = true ∧ s.out.fan.phase ≠ .braking ∧ s.out.fan.phase ≠ .switching ∧
      120000000 ≤ s.climate.reversal := by
  unfold reversalDue reversalCounts reversalPeriod
  cases record : s.climate.record with
  | none => simp
  | some r =>
    simp only [modeRow_reversal, second, working, Machine.reversing, Option.some.injEq, exists_eq_left',
      Bool.and_eq_true, Bool.or_eq_true, decide_eq_true_iff, Bool.not_eq_true', Bool.or_eq_false_iff,
      decide_eq_false_iff_not]
    by_cases fans : r.mode = .convection ∨ r.mode = .bottomCrisp ∨ r.mode = .grillFan ∨ r.mode = .combi
    · rw [if_pos fans]
      constructor
      · rintro ⟨⟨⟨⟨⟨works, -⟩, code⟩, mains⟩, rests⟩, late⟩
        exact ⟨works, code, fans, mains, rests.1, rests.2, late⟩
      · rintro ⟨works, code, -, mains, brakes, switches, late⟩
        exact ⟨⟨⟨⟨⟨works, by decide⟩, code⟩, mains⟩, brakes, switches⟩, late⟩
    · rw [if_neg fans]
      constructor
      · rintro ⟨⟨⟨⟨⟨-, none⟩, -⟩, -⟩, -⟩, -⟩
        exact absurd none (by decide)
      · rintro ⟨-, -, has, -⟩
        exact absurd has fans

theorem beginReversal_idle (rests : s.out.fan.phase ≠ .braking) (still : s.out.fan.phase ≠ .switching) :
    beginReversal s = setFan { s.out.fan with phase := .braking, duty := 0, slowTimer := 0, stallTimer := 0 } s := by
  unfold beginReversal
  cases phase : s.out.fan.phase with
  | stopped => rfl
  | running => rfl
  | braking => exact absurd phase rests
  | switching => exact absurd phase still

/-! ## Levels (R46, R78, R79, R82) -/

theorem override_entry {o : Output} {x : ForceEntry} (entered : forceEntry o s = some x) :
    override o s = some x.level := by
  unfold override
  rw [entered]

theorem override_free {o : Output} (free : forceEntry o s = none) :
    override o s = if inPulse o s then some true else none := by
  unfold override
  rw [free]

end

end Sys2Proof.Machine

open Sys2Proof Sys2Proof.Machine

/-- Settles O30. -/
theorem fanDriveRuns : Obligations.FanDriveRuns := by
  intro s
  refine ⟨reversalDue_iff s, fun early => if_neg ?_, fun other => if_neg ?_, fun early => if_neg ?_,
    fun other => if_neg ?_, fun due runs => ?_, fun due rests => ?_, fun runs stalls => ?_, fun due => ?_,
    fun brakes slow => ?_⟩
  · simp [fanTickDue, millisecond]
    omega
  · simp only [fanStallDue, second, Bool.and_eq_true, decide_eq_true_iff]
    rintro ⟨runs, late⟩
    rcases other with rests | early
    · exact rests runs
    · exact absurd late (Nat.not_le.mpr early)
  · rw [early]
    decide
  · simp only [slowTimerDue, second, Bool.and_eq_true, decide_eq_true_iff]
    rintro ⟨brakes, late⟩
    rcases other with rests | early
    · exact rests brakes
    · exact absurd late (Nat.not_le.mpr early)
  · have tick : fanTickDue s = true := by simpa [fanTickDue, millisecond] using due
    unfold exec execFanTick
    rw [if_pos tick, show 200 * millisecond = 200000 from rfl]
    simp only [runs, if_true]
    rfl
  · have tick : fanTickDue s = true := by simpa [fanTickDue, millisecond] using due
    unfold exec execFanTick
    rw [if_pos tick, show 200 * millisecond = 200000 from rfl]
    simp only [rests, if_false]
  · have stalled : fanStallDue s = true := by simp [fanStallDue, second, runs, stalls]
    refine ⟨setFan s.out.fan.stop (enterFault .fanStall s), if_pos stalled, ?_, ?_⟩
    · show hasFault .fanStall (enterFault .fanStall s) = true
      simp [hasFault_enterFault]
    · rw [enterFault_only]
      rfl
  · obtain ⟨-, -, -, -, -, -, rests, still, -⟩ := (reversalDue_iff s).mp due
    refine (if_pos due).trans ?_
    exact congrArg Host.Outcome.next
      (beginReversal_idle (s := setClimate { s.climate with reversal := 0 } s) rests still)
  · refine if_pos ?_
    simp [slowTimerDue, second, brakes, slow]

/-- Settles O31. -/
theorem ventStuckAndLamp : Obligations.VentStuckAndLamp := by
  refine ⟨fun s travels late => if_pos ?_, fun s other => if_neg ?_, fun s t counts late => if_pos ?_,
    fun s early => if_neg ?_, fun s => ⟨fun x entered => ?_, fun free => ?_, fun x entered => ?_, fun free => ?_⟩,
    fun l b s reaches => ?_⟩
  · simpa [ventStuckDue, second, late] using travels
  · simp only [ventStuckDue, second, Bool.and_eq_true, Bool.or_eq_true, decide_eq_true_iff]
    rintro ⟨travels, late⟩
    rcases other with ⟨notOpening, notClosing⟩ | early
    · exact travels.elim notOpening notClosing
    · exact absurd late (Nat.not_le.mpr early)
  · simpa [lampShotDue, counts, second] using late
  · unfold lampShotDue
    cases counts : s.out.lampShot with
    | none => simp
    | some t =>
      have soon := early t counts
      simp [second]
      omega
  · unfold lampLit
    rw [override_entry entered]
    rfl
  · unfold lampLit
    rw [override_free free]
    cases inPulse .lamp s with
    | true => simp
    | false => simp [ownLamp, Option.isSome_iff_ne_none, or_assoc]
  · unfold coolingFanOn
    rw [override_entry entered]
    rfl
  · unfold coolingFanOn
    rw [override_free free]
    cases inPulse .coolingFan s with
    | true => simp
    | false => simp
  · obtain ⟨opened, ready, unlocked⟩ := reaches
    have owned : OwnedBy (.lamp l [b]) l 0x36 .userSettings (ownLampCommand b.toNat) s :=
      ⟨rfl, opened, ready, unlocked⟩
    refine ⟨fun off => owned.answered ?_, fun on => owned.answered ?_, fun other => owned.refuses ?_⟩
    · rw [off]
      rfl
    · rw [on]
      rfl
    · unfold ownLampCommand
      split
      · omega
      · omega
      · rfl

end

section
/-! SUPPORT. The settings store over the link (R110, R191) and its commits (R196, R197). -/

namespace Sys2Proof.Machine

section
variable {s : State}

/-! ## Commits (R196, R197) -/

theorem flushCommit_idle (asked : s.store.asked = true) (idle : s.store.writing = none) :
    flushCommit s = { s with store := { s.store with writing := some (recordOf s), asked := false } } := by
  unfold flushCommit
  rw [if_pos asked, idle]

theorem flushCommit_writing {r : StoreRecord} (asked : s.store.asked = true) (writing : s.store.writing = some r) :
    flushCommit s = { s with store := { s.store with asked := false, followUp := true } } := by
  unfold flushCommit
  rw [if_pos asked, writing]

theorem flushCommit_none (none : s.store.asked = false) : flushCommit s = s := if_neg (ne_true_of_eq_false none)

/-- A served request is over. -/
theorem flushCommit_asked (s : State) : (flushCommit s).store.asked = false := by
  cases asked : s.store.asked with
  | false => rwa [flushCommit_none asked]
  | true =>
    cases writing : s.store.writing with
    | none => rw [flushCommit_idle asked writing]
    | some r => rw [flushCommit_writing asked writing]

theorem settle_asked (s : State) : (settle s).store.asked = false := flushCommit_asked _

/-! ## Settings by their numbers (R191) -/

theorem settingValue_store_other {x : Settings} {n k : Nat} (other : k ≠ n) (v : Int) :
    settingValue (x.store n v) k = settingValue x k := by
  unfold Settings.store
  split
  all_goals
    unfold settingValue
    split
  all_goals try exact absurd rfl other
  all_goals rfl

theorem settingRange_nonneg (straps : Straps) {n : Nat} (counts : n ≤ 11 ∨ n = 19) (named : 1 ≤ n) :
    0 ≤ (settingRange straps n).1 := by
  rcases counts with low | rfl
  · interval_cases n
    all_goals exact Int.natCast_nonneg _
  · exact Int.natCast_nonneg _

theorem settingValue_store_same {x : Settings} {n : Nat} {v : Int} (named : 1 ≤ n) (small : n ≤ 19)
    (counts : n ≤ 11 ∨ n = 19 → 0 ≤ v) : settingValue (x.store n v) n = some v := by
  by_cases natural : n ≤ 11 ∨ n = 19
  · have whole : some ((v.toNat : Nat) : Int) = some v := by rw [Int.toNat_of_nonneg (counts natural)]
    rcases natural with low | rfl
    · interval_cases n
      all_goals exact whole
    · exact whole
  · have signed : 12 ≤ n ∧ n ≤ 18 := by omega
    obtain ⟨low, high⟩ := signed
    interval_cases n
    all_goals rfl

/-! ## WRITE_SETTING (R191) -/

theorem clampedStatus_ne (a b : Int) : clampedStatus (decide (a ≠ b)) = if a = b then .ok else .clamped := by
  by_cases same : a = b
  · simp [clampedStatus, same]
  · simp [clampedStatus, same]

/-- The state of a taken WRITE_SETTING with the value stored, before the units follow it. -/
def settingStored (n : Nat) (v : Int) (s : State) : State := { s with settings := s.settings.store n v }

theorem writeSetting_eq (n : Nat) (v : Int) (s : State) : writeSetting n v s =
    askCommit (raiseEvent .settingsChanged (numberArg n) (afterWrite n (settingStored n v s))) := rfl

/-- Raising SETTINGS_CHANGED and asking for the commit leave the units as they have followed the write. -/
theorem writeSetting_units (n : Nat) (v : Int) (s : State) :
    (writeSetting n v s).scale = (afterWrite n (settingStored n v s)).scale ∧
      (writeSetting n v s).ret = (afterWrite n (settingStored n v s)).ret ∧
      (writeSetting n v s).share = (afterWrite n (settingStored n v s)).share ∧
      (writeSetting n v s).marker = (afterWrite n (settingStored n v s)).marker ∧
      (writeSetting n v s).settings = (afterWrite n (settingStored n v s)).settings := by
  rw [writeSetting_eq]
  simp

/-- What the units follow is the account and the remainder of the steam used. -/
theorem afterWrite_chargeOnly (n : Nat) (s : State) : ChargeOnly s (afterWrite n s) := by
  unfold afterWrite
  split
  · exact ⟨rfl, rfl, rfl⟩
  · exact ⟨rfl, rfl, rfl⟩
  · exact evaluateLevel_chargeOnly s
  · exact ⟨rfl, rfl, rfl⟩

theorem afterWrite_account (n : Nat) (s : State) :
    (afterWrite n s).scale.deposit = s.scale.deposit ∧ (n = 1 ∨ n = 2 → (afterWrite n s).scale.carry = 0) ∧
      (n = 2 → (afterWrite n s).ret.run.steamRemainder = 0) ∧
      (n = 3 → (afterWrite n s).scale.level = levelOf s.scale.deposit s.settings.scaleLimit) := by
  unfold afterWrite
  split
  · exact ⟨rfl, fun _ => rfl, nofun, nofun⟩
  · exact ⟨rfl, fun _ => rfl, fun _ => rfl, nofun⟩
  · obtain ⟨e, st, leveled⟩ := evaluateLevel_eq s
    rw [leveled]
    exact ⟨rfl, nofun, nofun, fun _ => rfl⟩
  · next notH notK notLimit =>
    exact ⟨rfl, fun named => named.elim (absurd · notH) (absurd · notK), (absurd · notK), (absurd · notLimit)⟩

theorem ChargeOnly.settings_kept {t : State} (h : ChargeOnly s t) :
    t.settings = s.settings ∧ t.share = s.share ∧ t.marker = s.marker ∧ t.out = s.out ∧
      t.store.writing = s.store.writing := by
  rw [h.only]
  exact ⟨rfl, rfl, rfl, rfl, rfl⟩

/-- The state of a taken WRITE_SETTING, against the state that has only stored the value. -/
theorem writeSetting_steady (n : Nat) (v : Int) (s : State) :
    Steady { s with settings := (writeSetting n v s).settings } (writeSetting n v s) := by
  have follows := afterWrite_chargeOnly n (settingStored n v s)
  obtain ⟨settings, -, -, out, writing⟩ := follows.settings_kept
  have same : (writeSetting n v s).settings = (settingStored n v s).settings := settings
  rw [same]
  exact Kept.steady (askCommit_kept (raiseEvent_kept _ _ (afterWrite_kept n (Kept.refl (settingStored n v s)))))
    out follows.steering writing

/-! ## SCALE_RESET (R114) -/

theorem evaluateLevel_scale (s : State) :
    (evaluateLevel s).scale = { s.scale with level := levelOf s.scale.deposit s.settings.scaleLimit } := by
  obtain ⟨e, st, leveled⟩ := evaluateLevel_eq s
  rw [leveled]

theorem evaluateLevel_others (s : State) : (evaluateLevel s).settings = s.settings ∧ (evaluateLevel s).ret = s.ret ∧
    (evaluateLevel s).marker = s.marker := by
  obtain ⟨e, st, leveled⟩ := evaluateLevel_eq s
  rw [leveled]
  exact ⟨rfl, rfl, rfl⟩

theorem clearAccount_scale (s : State) :
    (clearAccount s).scale = { deposit := 0, carry := 0, level := levelOf 0 s.settings.scaleLimit } :=
  evaluateLevel_scale { s with scale := { s.scale with deposit := 0, carry := 0 } }

theorem clearAccount_others (s : State) : (clearAccount s).settings = s.settings ∧ (clearAccount s).ret = s.ret ∧
    (clearAccount s).marker = s.marker :=
  evaluateLevel_others { s with scale := { s.scale with deposit := 0, carry := 0 } }

theorem clearAccount_steady (s : State) : Steady s (clearAccount s) := by
  have follows := evaluateLevel_chargeOnly { s with scale := { s.scale with deposit := 0, carry := 0 } }
  obtain ⟨-, -, -, out, writing⟩ := follows.settings_kept
  exact Kept.steady (clearAccount_kept (Kept.refl s)) out follows.steering writing

end

end Sys2Proof.Machine

open Sys2Proof Sys2Proof.Machine

/-- Settles O58. -/
theorem commitsAreServedAndEnd : Obligations.CommitsAreServedAndEnd := by
  refine ⟨fun s asked idle => ?_, fun s r asked writing => flushCommit_writing asked writing, fun s none =>
    flushCommit_none none, settle_asked, fun good s idle => ?_, fun good s r writing => ?_⟩
  · rw [flushCommit_idle asked idle]
    rfl
  · show execCommitEnd good s = _
    unfold execCommitEnd
    rw [idle]
  · refine ⟨endWrite good r s, ?_, ?_⟩
    · show execCommitEnd good s = _
      unfold execCommitEnd
      rw [writing]
    · have ended : ∀ u : State, hasFault .storeWrite (nextWrite u) = hasFault .storeWrite u := fun _ => rfl
      cases good with
      | true =>
        refine ⟨?_, ?_, fun f other => ?_, ?_⟩
        · unfold endWrite nextWrite
          rw [if_pos rfl, leaveFault_only]
          rfl
        · show hasFault .storeWrite (leaveFault .storeWrite _) = true ↔ _
          simp [hasFault_leaveFault]
        · rw [← hasFault_iff, ← hasFault_iff]
          show hasFault f (leaveFault .storeWrite _) = true ↔ _
          rw [hasFault_leaveFault]
          simp [other]
          rfl
        · unfold endWrite nextWrite
          rw [if_pos rfl, leaveFault_only]
      | false =>
        refine ⟨?_, ?_, fun f other => ?_, ?_⟩
        · unfold endWrite nextWrite
          rw [if_neg (by decide), enterFault_only]
          rfl
        · show hasFault .storeWrite (enterFault .storeWrite _) = true ↔ _
          simp [hasFault_enterFault]
        · rw [← hasFault_iff, ← hasFault_iff]
          show hasFault f (enterFault .storeWrite _) = true ↔ _
          rw [hasFault_enterFault]
          simp [other]
        · unfold endWrite nextWrite
          rw [if_neg (by decide), enterFault_only]

/-- Settles O57. -/
theorem settingsAreWritten : Obligations.SettingsAreWritten := by
  refine ⟨fun p => ?_, fun x => rfl, fun l n v3 v2 v1 v0 s opened ready unnamed => ?_,
    fun l n v3 v2 v1 v0 s reaches low high => ?_, fun l s reaches => ?_⟩
  · obtain ⟨_, budget, _⟩ := p
    cases budget <;> rfl
  · refine frame_refuses rfl opened ?_
    have up : (acceptFrame l s).start.ready = true := by rw [acceptFrame_ready]; exact ready
    unfold decideCommand
    rw [if_pos unnamed, up]
    rfl
  · obtain ⟨opened, ready, unlocked⟩ := reaches
    have up : (acceptFrame l s).start.ready = true := by rw [acceptFrame_ready]; exact ready
    have free : locked (settingGroup n.toNat) l (acceptFrame l s) = false := by
      rw [locked_acceptFrame]
      exact unlocked
    have value_eq : storedValue (acceptFrame l s).start.straps n.toNat (signed4 (number4 v3 v2 v1 v0)) =
        storedValue s.start.straps n.toNat (signed4 (number4 v3 v2 v1 v0)) := by rw [acceptFrame_ready]
    have decides : decideCommand true false (if n.toNat = 0 ∨ 19 < n.toNat then some .badArgument else none)
        (locked (settingGroup n.toNat) l (acceptFrame l s))
        (ownWrite n.toNat (signed4 (number4 v3 v2 v1 v0))) (acceptFrame l s) =
          ownWrite n.toNat (signed4 (number4 v3 v2 v1 v0)) (acceptFrame l s) := by
      rw [if_neg (by omega), free]
      exact decideCommand_owned up false
    intro value range stored
    have follows := afterWrite_chargeOnly n.toNat (settingStored n.toNat stored (acceptFrame l s))
    obtain ⟨settings, share, marker, -, -⟩ := follows.settings_kept
    obtain ⟨deposit, carry, remainder, level⟩ :=
      afterWrite_account n.toNat (settingStored n.toNat stored (acceptFrame l s))
    obtain ⟨p, q, accepted⟩ := acceptFrame_only l s
    obtain ⟨scaleAs, retAs, shareAs, markerAs, settingsAs⟩ := writeSetting_units n.toNat stored (acceptFrame l s)
    have settings' : (writeSetting n.toNat stored (acceptFrame l s)).settings = s.settings.store n.toNat stored := by
      rw [settingsAs, settings, settingStored, acceptFrame_settings]
    refine ⟨writeSetting n.toNat stored (acceptFrame l s), ?_, ?_, fun k other => ?_, fun k listed => ?_, rfl, ?_,
      ?_, ?_, fun limit => ?_, ?_, ?_, writeSetting_steady _ _ _⟩
    · refine frame_answered rfl opened (decides.trans ?_)
      unfold ownWrite
      dsimp only
      rw [value_eq, clampedStatus_ne]
      rfl
    · rw [settings']
      refine settingValue_store_same low high fun natural => ?_
      have least := settingRange_nonneg s.start.straps natural low
      show 0 ≤ if n.toNat = 5 ∧ value = 0 then 0 else max range.1 (min value range.2)
      split
      · exact Int.le_refl 0
      · exact Int.le_trans least (Int.le_max_left ..)
    · rw [settings', settingValue_store_other other]
    · have told := raiseEvent_raised .settingsChanged (numberArg n.toNat)
        (afterWrite n.toNat (settingStored n.toNat stored (acceptFrame l s))) k
        (by rw [follows.steering]; show (steeringOf (acceptFrame l s).events.steering _).get k = true; rwa [accepted])
      obtain ⟨e, member, kind, unread, argument⟩ := told
      exact ⟨e, member, kind, argument.trans (congrArg some (BitVec.ofNat_toNat ..)), unread⟩
    · rwa [scaleAs]
    · rwa [retAs]
    · rw [scaleAs, deposit, settingStored, accepted]
    · rw [scaleAs, level limit, settings', settingStored, accepted]
    · rw [shareAs, share, settingStored, accepted]
    · rw [markerAs, marker, settingStored, accepted]
  · obtain ⟨opened, ready, unlocked⟩ := reaches
    have owned : OwnedBy (.scaleReset l []) l 0x40 .service ownScaleReset s := ⟨rfl, opened, ready, unlocked⟩
    obtain ⟨settings, ret, marker⟩ := clearAccount_others (acceptFrame l s)
    refine ⟨clearAccount (acceptFrame l s), owned.takes rfl, clearAccount_steady _, ?_, rfl,
      settings.trans (acceptFrame_settings l s), ret.trans (acceptFrame_ret l s), ?_⟩
    · rw [clearAccount_scale, acceptFrame_settings]
    · rw [marker, acceptFrame_eq]

end

section
/-! SUPPORT. What a charge conserves (R109, R140), and the cancellation of a dose (R95, R96). -/

namespace Sys2Proof.Machine

section
variable {s : State}

/-- What a charge of `p` pulses adds to the carry (R109). -/
theorem chargeFactor_eq (d : Destination) :
    chargeFactor d = if d = .boiler then 1000 else if d = .nozzle then 600 else 0 := by
  cases d <;> rfl

theorem countSteam_active (active : runActive s = true) (p : Nat) :
    countSteam p s =
      setRun
        { s.ret.run with
          steamUsed := s.ret.run.steamUsed + (s.ret.run.steamRemainder + p * 1000) / s.settings.flowConstant
          steamRemainder := (s.ret.run.steamRemainder + p * 1000) % s.settings.flowConstant } s := if_pos active

/-- Quotient and remainder carry all of what came in. -/
theorem carried (a x : Nat) (u : Nat) : (a + x / u) * u + x % u = a * u + x := by
  rw [Nat.add_mul, Nat.add_assoc, Nat.div_add_mod']

/-- The cancellation of a dose that does not run only frees its channel (R95). -/
theorem cancelDose_idle {c : Chan} (h : c ≠ .ch3) (rests : (chan s c).state ≠ .running) :
    cancelDose c s = setChan c ⟨.idle, none⟩ s := by
  unfold cancelDose
  rw [if_neg (fun drains => h drains.1)]
  dsimp only
  rw [if_neg rests]

end

end Sys2Proof.Machine

open Sys2Proof Sys2Proof.Machine

/-- Settles O13: the account's and the sequencer's divisions keep their remainders (`carried`), and a cancelled dose has
run or rests. -/
theorem chargesAreConserved : Obligations.ChargesAreConserved := by
  refine ⟨fun p d s positive => ?_, fun c d s supply dose => ⟨chan_cancelDose supply s, fun runs =>
    ⟨cancelDose_handsOn supply runs dose, cancelDose_releases supply runs⟩, fun rests => ?_⟩⟩
  · intro k x t
    have account : t.scale =
        { deposit := min (s.scale.deposit + x / (k * 1000)) 9999999, carry := x % (k * 1000)
          level := levelOf (min (s.scale.deposit + x / (k * 1000)) 9999999) s.settings.scaleLimit } := by
      have charged := chargeAccount_scale p d s
      rw [chargeFactor_eq] at charged
      exact charged
    have unit : 0 < k * 1000 := Nat.mul_pos positive (by decide)
    refine ⟨by rw [account], by rw [account]; exact Nat.mod_lt _ unit, fun fits => ?_, fun full => ?_, by rw [account],
      fun active => ?_, fun idle => if_neg (ne_true_of_eq_false idle)⟩
    · rw [account, Nat.min_eq_left fits]
      exact carried ..
    · rw [account]
      exact Nat.min_eq_right (Nat.le_of_lt full)
    · rw [countSteam_active active]
      exact ⟨carried .., Nat.mod_lt _ positive⟩
  · rw [cancelDose_idle supply rests]
    exact ⟨⟨rfl, rfl, rfl⟩, rfl⟩

end

section
/-! SUPPORT. The supply path arbiter and the seven water outputs (R84, R85, R88, R92, R98). -/

namespace Sys2Proof.Machine

section
variable {s : State}

/-! ## The arbiter (R85) -/

/-- A waiting drain starts (R98). -/
def drainStarted (s : State) : State := if (chan s .ch3).state = .requesting then setChanState .ch3 .running s else s

/-- The free path goes to the REQUESTING channel of highest priority. -/
def pathTaken (s : State) : State :=
  if (chan s .ch2).state = .requesting then grantPath .ch2 s
  else if (chan s .ch0).state = .requesting then grantPath .ch0 s
  else if (chan s .ch1).state = .requesting then grantPath .ch1 s
  else s

theorem arbitrate_eq (s : State) : arbitrate s =
    if serviceHold s then s
    else if (drainStarted s).water.path = .free then pathTaken (drainStarted s) else drainStarted s := rfl

theorem drainStarted_path (s : State) : (drainStarted s).water.path = s.water.path := by
  unfold drainStarted
  split <;> rfl

theorem chan_drainStarted {c : Chan} (supply : c ≠ .ch3) (s : State) : chan (drainStarted s) c = chan s c := by
  unfold drainStarted setChanState
  split
  · rw [chan_setChan, if_neg supply]
  · rfl

theorem chan_drainStarted_drain (s : State) : chan (drainStarted s) .ch3 =
    { chan s .ch3 with state := if (chan s .ch3).state = .requesting then .running else (chan s .ch3).state } := by
  unfold drainStarted setChanState
  split
  · rw [chan_setChan, if_pos rfl]
  · rfl

theorem grantPath_path (c : Chan) (s : State) : (grantPath c s).water.path = .granted c := by
  unfold grantPath
  dsimp only
  split <;> rfl

theorem grantPath_noFlow (c : Chan) (s : State) : (grantPath c s).water.noFlowTimer = 0 := by
  unfold grantPath
  dsimp only
  split <;> rfl

theorem chan_grantPath_other {c c' : Chan} (other : c' ≠ c) (s : State) : chan (grantPath c s) c' = chan s c' := by
  unfold grantPath setChanState
  dsimp only
  split
  · rw [chan_setChan, if_neg other]
    rfl
  · rw [chan_setChan, if_neg other]
    rfl

/-- A granted dose runs and starts its portion (R88). -/
theorem chan_grantPath (c : Chan) (s : State) : chan (grantPath c s) c =
    ⟨.running, (chan s c).dose.map (fun d => { d with portionLeft := min d.portion d.remaining })⟩ := by
  unfold grantPath setChanState
  dsimp only
  split
  · next none =>
    rw [chan_setChan, if_pos rfl, none]
    show (⟨_, (chan s c).dose⟩ : Channel) = _
    rw [none]
    rfl
  · next d dose =>
    rw [chan_setChan, if_pos rfl, dose]
    rfl

/-- Where the arbiter leaves the path free, nobody asked for it. -/
theorem pathTaken_free (free : (pathTaken s).water.path = .free) {c : Chan} (supply : c ≠ .ch3) :
    (chan (pathTaken s) c).state ≠ .requesting := by
  unfold pathTaken at free ⊢
  split at free
  · rw [grantPath_path] at free
    cases free
  · next two =>
    split at free
    · rw [grantPath_path] at free
      cases free
    · next zero =>
      split at free
      · rw [grantPath_path] at free
        cases free
      · next one =>
        rw [if_neg two, if_neg zero, if_neg one]
        cases c with
        | ch0 => exact zero
        | ch1 => exact one
        | ch2 => exact two
        | ch3 => exact absurd rfl supply

/-- The channel of highest priority is granted the free path. -/
theorem pathTaken_granted {c : Chan}
    (first : c = .ch2 ∨ (c = .ch0 ∧ (chan s .ch2).state ≠ .requesting) ∨
      (c = .ch1 ∧ (chan s .ch2).state ≠ .requesting ∧ (chan s .ch0).state ≠ .requesting))
    (asks : (chan s c).state = .requesting) : pathTaken s = grantPath c s := by
  unfold pathTaken
  rcases first with rfl | ⟨rfl, two⟩ | ⟨rfl, two, zero⟩
  · rw [if_pos asks]
  · rw [if_neg two, if_pos asks]
  · rw [if_neg two, if_neg zero, if_pos asks]

theorem chan_pathTaken_drain (s : State) : chan (pathTaken s) .ch3 = chan s .ch3 := by
  unfold pathTaken
  repeat' split
  · exact chan_grantPath_other (by decide) s
  · exact chan_grantPath_other (by decide) s
  · exact chan_grantPath_other (by decide) s
  · rfl

theorem arbitrate_held (held : serviceHold s = true) : arbitrate s = s := if_pos held

theorem arbitrate_free (idle : serviceHold s = false) (free : s.water.path = .free) :
    arbitrate s = pathTaken (drainStarted s) := by
  rw [arbitrate_eq, if_neg (ne_true_of_eq_false idle), drainStarted_path, if_pos free]

theorem arbitrate_taken (idle : serviceHold s = false) (taken : s.water.path ≠ .free) :
    arbitrate s = drainStarted s := by
  rw [arbitrate_eq, if_neg (ne_true_of_eq_false idle), drainStarted_path, if_neg taken]

/-- Whether the arbiter has a free path to give or not, a waiting drain starts. -/
theorem chan_arbitrate_drain (idle : serviceHold s = false) :
    chan (arbitrate s) .ch3 =
      { chan s .ch3 with state := if (chan s .ch3).state = .requesting then .running else (chan s .ch3).state } := by
  by_cases free : s.water.path = .free
  · rw [arbitrate_free idle free, chan_pathTaken_drain, chan_drainStarted_drain]
  · rw [arbitrate_taken idle free, chan_drainStarted_drain]

theorem arbitrate_drainStarts (idle : serviceHold s = false) : (chan (arbitrate s) .ch3).state ≠ .requesting := by
  rw [chan_arbitrate_drain idle]
  dsimp only
  split
  · decide
  · assumption

/-- Without a hold, a path that the arbiter leaves free is one that nobody requests. -/
theorem arbitrate_noneWaits (idle : serviceHold s = false) (free : (arbitrate s).water.path = .free) (c : Chan) :
    (chan (arbitrate s) c).state ≠ .requesting := by
  by_cases supply : c = .ch3
  · rw [supply]
    exact arbitrate_drainStarts idle
  · by_cases was : s.water.path = .free
    · rw [arbitrate_free idle was] at free ⊢
      exact pathTaken_free free supply
    · rw [arbitrate_taken idle was, drainStarted_path] at free
      exact absurd free was

/-- The end of a step decides on the path last, but for the commit. -/
theorem settle_arbitrates (s : State) :
    ∃ u, (settle s).water = (arbitrate u).water ∧ serviceHold u = serviceHold (settle s) := by
  refine ⟨followWaterConditions (beforeConditions s), ?_, ?_⟩
  · rw [settle_eq, flushCommit_only]
  · rw [settle_eq, flushCommit_only, arbitrate_only]
    rfl

/-! ## The seven water outputs (R84) -/

theorem waterLevel_own {o : Output} (free : forceEntry o s = none) (unpulsed : inPulse o s = false) :
    waterLevel o s = ownWaterLevel o s := by
  unfold waterLevel
  rw [override_free free, unpulsed]
  rfl

/-- Nothing flows without a granted path or without the mains. -/
theorem flowing_none (rests : s.water.path = .free ∨ s.water.path = .settling ∨ s.meas.mainsPresent = false) :
    flowing s = none := by
  unfold flowing
  rcases rests with free | settling | lost
  · rw [free]
  · rw [settling]
  · rw [lost]
    split
    · split <;> rfl
    · rfl

theorem flowing_some {c : Chan} {d : Dose} {src : Source} (granted : s.water.path = .granted c)
    (dose : (chan s c).dose = some d) (source : d.source = some src) (mains : s.meas.mainsPresent = true) :
    flowing s = some (src, d.effective) := by
  unfold flowing
  rw [granted]
  dsimp only
  rw [dose]
  dsimp only
  rw [mains, source]
  rfl

theorem effective_iff {d : Dose} {x : Destination} (real : x ≠ .drainLine) :
    d.effective = x ↔ d.mode ≠ .flush ∧ d.destination = x := by
  unfold Dose.effective
  split
  · next flush => simp [flush, Ne.symm real]
  · next other => simp [other]

theorem effective_drainLine_iff {d : Dose} :
    d.effective = .drainLine ↔ d.mode = .flush ∨ d.destination = .drainLine := by
  unfold Dose.effective
  split
  · next flush => simp [flush]
  · next other => simp [other]

end

end Sys2Proof.Machine

open Sys2Proof Sys2Proof.Machine

/-- Settles O14. -/
theorem pathGoesByPriority : Obligations.PathGoesByPriority := by
  intro s
  refine ⟨fun idle free c first asks => ?_, fun busy => ?_, arbitrate_held, chan_arbitrate_drain, fun idle => ?_,
    fun o water => ⟨fun x entered => ?_, fun free pulsed => ?_⟩, ?_⟩
  · rw [arbitrate_free idle free]
    have supply : c ≠ .ch3 := by
      rcases first with rfl | ⟨rfl, -⟩ | ⟨rfl, -⟩
      · decide
      · decide
      · decide
    have granted : pathTaken (drainStarted s) = grantPath c (drainStarted s) := by
      refine pathTaken_granted ?_ (by rwa [chan_drainStarted supply])
      rwa [chan_drainStarted (by decide), chan_drainStarted (by decide)]
    rw [granted, chan_grantPath, chan_drainStarted supply]
    refine ⟨grantPath_path .., grantPath_noFlow .., rfl, rfl, fun c' other supply' => ?_⟩
    rw [chan_grantPath_other other, chan_drainStarted supply']
  · cases hold : serviceHold s with
    | true =>
      rw [arbitrate_held hold]
      exact ⟨rfl, fun _ _ => rfl⟩
    | false =>
      rw [arbitrate_taken hold (busy.resolve_right (by rw [hold]; decide))]
      exact ⟨drainStarted_path s, fun c supply => chan_drainStarted supply s⟩
  · obtain ⟨u, water, hold⟩ := settle_arbitrates s
    have idle' : serviceHold u = false := hold.trans idle
    have chans : ∀ c, chan (settle s) c = chan (arbitrate u) c := fun c =>
      congrArg (fun w : Water => w.chans.get c) water
    refine ⟨by rw [chans]; exact arbitrate_drainStarts idle', fun free c => ?_⟩
    rw [chans]
    exact arbitrate_noneWaits idle' (by rw [← water]; exact free) c
  · unfold waterLevel
    rw [override_entry entered]
    rfl
  · unfold waterLevel
    rw [override_free free, pulsed]
    rfl
  · intro own
    refine ⟨fun rests o listed free => ?_, fun c d src granted dose source mains => ?_, fun o listed free => ?_⟩
    · have still := flowing_none rests
      rw [waterLevel_own free.1 free.2]
      simp only [List.mem_cons, List.not_mem_nil, or_false] at listed
      rcases listed with rfl | rfl | rfl | rfl | rfl
      all_goals simp [ownWaterLevel, still]
    · have flows := flowing_some granted dose source mains
      refine ⟨fun free => ?_, fun free => ?_, fun free => ?_, fun free => ?_, fun free => ?_⟩
      all_goals rw [waterLevel_own free.1 free.2]
      · simp [ownWaterLevel, flows]
      · simp [ownWaterLevel, flows]
      · simpa [ownWaterLevel, flows] using effective_iff (by decide)
      · simpa [ownWaterLevel, flows] using effective_iff (by decide)
      · simpa [ownWaterLevel, flows] using effective_drainLine_iff
    · rw [waterLevel_own free.1 free.2]
      simp only [List.mem_cons, List.not_mem_nil, or_false] at listed
      rcases listed with rfl | rfl
      all_goals simp [ownWaterLevel, draining]

end

section
/-! SUPPORT. The frames of the link (R182): the check byte, and what a frame's bytes decode to. -/

namespace Sys2Proof

theorem byteSum_append (a b : List Byte) : byteSum (a ++ b) = byteSum a + byteSum b := by
  induction a with
  | nil => exact (BitVec.zero_add _).symm
  | cons x rest ih =>
    rw [List.cons_append, byteSum, byteSum, ih, BitVec.add_assoc]

theorem byteSum_snoc (body : List Byte) (check : Byte) : byteSum (body ++ [check]) = byteSum body + check := by
  rw [byteSum_append]
  exact congrArg _ (BitVec.add_zero _)

/-- The check byte makes the sum of length, body and check 0. -/
theorem checkByte_sum (body : List Byte) :
    BitVec.ofNat 8 body.length + byteSum (body ++ [checkByte body]) = 0 := by
  rw [byteSum_snoc, ← BitVec.add_assoc]
  unfold checkByte
  generalize BitVec.ofNat 8 body.length + byteSum body = sum
  bv_omega

theorem lengthByte_toNat {body : List Byte} (short : body.length ≤ 250) :
    (BitVec.ofNat 8 body.length).toNat = body.length := by
  rw [BitVec.toNat_ofNat]
  exact Nat.mod_eq_of_lt (by omega)

theorem decodeFrame_cons (l : Link) (len : Byte) (rest : List Byte) : decodeFrame l (len :: rest) =
    if len = 0 ∨ 250 < len.toNat then some (.badFrame l .badLength)
    else if rest.length ≠ len.toNat + 1 then none
    else if len + byteSum rest ≠ 0 then some (.badFrame l .badCheck)
    else match rest.take len.toNat with
      | [] => none
      | code :: fields => some (commandOf l code fields) := rfl

/-- A whole frame of a sound length is decided by its check byte. -/
theorem decodeFrame_whole (l : Link) {code : Byte} {fields : List Byte}
    (short : (code :: fields).length ≤ 250) (check : Byte) :
    decodeFrame l (BitVec.ofNat 8 (code :: fields).length :: ((code :: fields) ++ [check])) =
      if BitVec.ofNat 8 (code :: fields).length + byteSum ((code :: fields) ++ [check]) ≠ 0 then
        some (.badFrame l .badCheck)
      else some (commandOf l code fields) := by
  have length := lengthByte_toNat short
  have whole : ¬(BitVec.ofNat 8 (code :: fields).length = 0 ∨
      250 < (BitVec.ofNat 8 (code :: fields).length).toNat) := by
    rintro (zero | long)
    · rw [zero] at length
      exact absurd length (by simp)
    · omega
  have count : ¬(((code :: fields) ++ [check]).length ≠ (BitVec.ofNat 8 (code :: fields).length).toNat + 1) := by
    rw [length, List.length_append]
    simp
  rw [decodeFrame_cons, if_neg whole, if_neg count, length, List.take_left]

theorem commandOf_unknown (l : Link) {code : Byte} {fields : List Byte} (unknown : code ∉ catalogue) :
    commandOf l code fields = .unknownCommand l code fields := by
  simp only [catalogue, List.mem_cons, List.not_mem_nil, or_false, not_or] at unknown
  simp only [commandOf, unknown, if_false]

/-- A well-formed command is the one its code byte names, and its frame fits. -/
theorem wellFormed_command {i : Instr} {l : Link} {code : Byte} {fields : List Byte}
    (link : linkCommand i = some (l, code, fields)) (sound : WellFormed i = true) :
    commandOf l code fields = i ∧ fieldsFit fields = true := by
  cases i
  case unknownCommand k c f =>
    obtain ⟨fits, unknown⟩ := Bool.and_eq_true_iff.mp sound
    cases link
    exact ⟨commandOf_unknown l (by simpa using unknown), fits⟩
  all_goals cases link
  all_goals exact ⟨rfl, sound⟩

end Sys2Proof

open Sys2Proof Sys2Proof.Machine

/-- Settles O4: the check byte makes the sum 0, and the code byte names the command. -/
theorem decodeOfEncodedFrame : Obligations.DecodeOfEncodedFrame := by
  intro i l code fields link sound
  obtain ⟨names, fits⟩ := wellFormed_command link sound
  refine ⟨BitVec.ofNat 8 (code :: fields).length :: ((code :: fields) ++ [checkByte (code :: fields)]), ?_, ?_⟩
  · unfold encodeFrame
    rw [link]
    rfl
  · have short : (code :: fields).length ≤ 250 := by
      simp [fieldsFit] at fits
      simp
      omega
    rw [decodeFrame_whole l short, checkByte_sum, if_neg (not_not.mpr rfl), names]

/-- Settles O5. -/
theorem badFramesAreDiscarded : Obligations.BadFramesAreDiscarded := by
  refine ⟨fun l len rest bad => ?_, fun l body check some short wrong => ?_⟩
  · rw [decodeFrame_cons, if_pos (bad.imp_left fun zero => BitVec.eq_of_toNat_eq zero)]
  · obtain ⟨code, fields, rfl⟩ := List.exists_cons_of_ne_nil some
    rw [decodeFrame_whole l short, byteSum_snoc, ← BitVec.add_assoc, if_pos wrong]

end


section
/-! SUPPORT. The measurement unit: a channel's good and bad samples, the lowest of the core points, and the edges that
decide the frequency. -/

namespace Sys2Proof.Machine

/-- A core point counts in the core reading. -/
def counts (p : SampleChannel × CoreRuns) : Bool :=
  decide (p.1.state = .ok) && p.1.loaded && decide (0 < p.2.inRange)

theorem pointInRange_eq (p : SampleChannel × CoreRuns) :
    pointInRange p.1 p.2 = if counts p then some p.1.value else none := by
  simp [pointInRange, counts, and_assoc]

/-- The core reading keeps its value where no point counts, and is else the least value of those that count. -/
theorem lowest_points (old : Int) (points : List (SampleChannel × CoreRuns)) :
    let low := lowest old (points.map fun p => pointInRange p.1 p.2)
    (points.filter counts = [] → low = old) ∧
      (points.filter counts ≠ [] →
        (∀ p ∈ points.filter counts, low ≤ p.1.value) ∧ ∃ p ∈ points.filter counts, low = p.1.value) := by
  induction points with
  | nil => exact ⟨fun _ => rfl, fun h => absurd rfl h⟩
  | cons p rest ih =>
    obtain ⟨none, least⟩ := ih
    by_cases counted : counts p = true
    · have others : (rest.map fun p => pointInRange p.1 p.2).any Option.isSome = true ↔ rest.filter counts ≠ [] := by
        simp [pointInRange_eq, List.filter_eq_nil_iff, List.any_eq_true, apply_ite Option.isSome]
      simp only [List.map_cons, pointInRange_eq p, if_pos counted, lowest, List.filter_cons_of_pos counted]
      refine ⟨nofun, fun _ => ?_⟩
      by_cases more : rest.filter counts = []
      · rw [if_neg (fun any => others.mp any more), more]
        exact ⟨by simp, p, by simp, rfl⟩
      · obtain ⟨below, q, mem, value⟩ := least more
        rw [if_pos (others.mpr more)]
        refine ⟨fun r hr => ?_, ?_⟩
        · rcases List.mem_cons.mp hr with rfl | hr
          · exact Int.min_le_left ..
          · exact (Int.min_le_right ..).trans (below r hr)
        · rcases Int.le_total p.1.value q.1.value with le | le
          · exact ⟨p, by simp, by rw [value]; exact Int.min_eq_left le⟩
          · exact ⟨q, by simp [mem], by rw [value]; exact Int.min_eq_right le⟩
    · simp only [List.map_cons, pointInRange_eq p, if_neg counted, lowest, List.filter_cons_of_neg counted]
      exact ⟨none, least⟩

/-- The core points' share of a period stands in the period's result. -/
theorem measure_core (fitted : Bool) (offsets : Offsets) (raw : RawSamples) (m : Measurement) :
    let u := measure fitted offsets raw m
    let v := measureCore fitted offsets raw m
    u.chans.coreA = v.chans.coreA ∧ u.chans.coreB = v.chans.coreB ∧ u.chans.coreC = v.chans.coreC ∧
      u.runsA = v.runsA ∧ u.runsB = v.runsB ∧ u.runsC = v.runsC ∧ u.core = v.core ∧
      u.probePresent = v.probePresent := by
  unfold measure
  generalize measureCore fitted offsets raw m = v, 100 * millisecond = period
  exact ⟨rfl, rfl, rfl, rfl, rfl, rfl, rfl, rfl⟩

/-- The core reading and the probe state follow the points and the runs of the period, the probe being fitted. -/
theorem measure_fitted (offsets : Offsets) (raw : RawSamples) (m : Measurement) :
    let u := measure true offsets raw m
    u.core =
        lowest m.core
          ([(u.chans.coreA, u.runsA), (u.chans.coreB, u.runsB), (u.chans.coreC, u.runsC)].map
            fun p => pointInRange p.1 p.2) ∧
      u.probePresent = probeAfter m.probePresent u.runsA u.runsB u.runsC := by
  obtain ⟨a, b, c, ra, rb, rc, core, probe⟩ := measure_core true offsets raw m
  dsimp only
  rw [a, b, c, ra, rb, rc, core, probe]
  exact ⟨rfl, rfl⟩

theorem probeAfter_iff (present : Bool) (a b c : CoreRuns) :
    probeAfter present a b c = true ↔
      if present then ¬(a.openRun = 10 ∧ b.openRun = 10 ∧ c.openRun = 10)
      else a.inRange = 10 ∨ b.inRange = 10 ∨ c.inRange = 10 := by
  cases present <;> simp [probeAfter, imp_iff_not_or, or_assoc]

/-- An OPEN sample of a core point. -/
theorem takeCore_opened (c : SampleChannel) :
    let k := { c with count := min (c.count + 1) 10 }
    (c.state = .ok → c.takeCore .opened = { k with bad := 0, loaded := false }) ∧
      (c.state = .faulted → c.good < 9 →
        c.takeCore .opened = { k with good := c.good + 1, shadowLoaded := false }) ∧
      (c.state = .faulted → c.good = 9 →
        c.takeCore .opened =
          { k with
            state := .ok, value := c.shadow, loaded := false, bad := 0, good := 0, shadowLoaded := false }) := by
  simp only [SampleChannel.takeCore, SampleChannel.takeGood, SampleChannel.counted]
  refine ⟨fun ok => ?_, fun faulted few => ?_, fun faulted ten => ?_⟩
  · simp [ok]
  · simp [faulted, show ¬10 ≤ c.good + 1 by omega]
  · simp [faulted, ten]

/-- A core point's share of one period, by its sample. -/
theorem takeCore_moves (c : SampleChannel) (r : CoreRuns) (x : Int) :
    let k := { c with count := min (c.count + 1) 10 }
    r.take (.inRange x) = ⟨min (r.inRange + 1) 10, 0⟩ ∧ r.take .opened = ⟨0, min (r.openRun + 1) 10⟩ ∧
      r.take .shorted = ⟨0, 0⟩ ∧
      c.takeCore (.inRange x) = k.takeGood (some x) ∧ c.takeCore .shorted = k.takeBad ∧
      (c.state = .ok → c.takeCore .opened = { k with bad := 0, loaded := false }) ∧
      (c.state = .faulted → c.good < 9 →
        c.takeCore .opened = { k with good := c.good + 1, shadowLoaded := false }) ∧
      (c.state = .faulted → c.good = 9 →
        c.takeCore .opened =
          { k with
            state := .ok, value := c.shadow, loaded := false, bad := 0, good := 0, shadowLoaded := false }) :=
  ⟨rfl, rfl, rfl, rfl, rfl, takeCore_opened c⟩

end Sys2Proof.Machine

open Sys2Proof Sys2Proof.Machine

/-- Settles O19: a case split on the sensor state and on whether the count reaches its limit with this sample. -/
theorem samplesMoveFiltersAndSensorStates : Obligations.SamplesMoveFiltersAndSensorStates := by
  intro c x moved
  have steps (old : Int) (loaded : Bool) : filterStep x old loaded = moved old loaded := rfl
  simp only [SampleChannel.takeGood, SampleChannel.takeBad, steps]
  refine ⟨fun ok => ?_, fun faulted => ?_⟩
  · simp only [ok]
    refine ⟨trivial, fun few => ?_, fun two => ?_⟩
    · rw [if_neg (by omega)]
    · rw [if_pos (by omega)]
  · simp only [faulted]
    refine ⟨trivial, fun few => ?_, fun nine => ?_⟩
    · rw [if_neg (by omega)]; rfl
    · rw [if_pos (by omega)]
      exact ⟨rfl, rfl, rfl, rfl⟩

/-- Settles O21: the core points' share of a period, with the lowest of the points that count. -/
theorem coreProbeIsMeasured : Obligations.CoreProbeIsMeasured := by
  intro offsets raw m u v
  obtain ⟨a, b, c, ra, rb, rc, -, -⟩ := measure_core true offsets raw m
  obtain ⟨a', b', c', ra', rb', rc', core', probe'⟩ := measure_core false offsets raw m
  obtain ⟨reading, state⟩ := measure_fitted offsets raw m
  refine ⟨a, b, c, ra, rb, rc, ?_, ?_, a', b', c', ra', rb', rc', core', probe', takeCore_moves⟩
  · rw [state]
    exact probeAfter_iff ..
  · rw [reading]
    exact lowest_points ..

end


section
/-! SUPPORT. A zero-crossing (R15 to R17, R63 to R65): what each of its steps moves, from the mains state to the loads
that fire. -/

namespace Sys2Proof.Machine

section
variable {k : EventKind} {s t u : State}

/-! ## The run context through the end of a stage -/

/-- The end of a run leaves the context IDLE, with the steam that its burst has used. -/
theorem endRun_context (result : RunResult) (fault : Option FaultKind) (s : State) :
    ∃ n m, (endRun result fault s).ret.run = { s.ret.run with steamUsed := n, steamRemainder := m }.idle := by
  obtain ⟨n, m, burst⟩ := burstEnded_run s
  have acts : RegulatorActs (runClosed result fault (burstEnded s)) (climateClosed result fault s) :=
    (withholdSteam_acts false _).trans (endClimate_acts _)
  have closed : (climateClosed result fault s).ret.run =
      { s.ret.run with steamUsed := n, steamRemainder := m }.idle := by
    rw [acts.units.1]
    show (burstEnded s).ret.run.idle = _
    rw [burst]
    rfl
  obtain ⟨n', m', drain⟩ := (markDrain_reacts true (.refl (climateClosed result fault s))).run
  rw [endRun_eq, askCommit_ret]
  split
  · exact ⟨n', m', by rw [drain, closed]; rfl⟩
  · exact ⟨n, m, closed⟩

/-- Once MAINS is absent, no end of a stage brings it back: only a START looks at the mains (R138). -/
theorem endStages_mains (fuel : Nat) {s : State} (absent : s.ret.run.causes.mains = false) :
    (endStages fuel s).ret.run.causes.mains = false := by
  induction fuel generalizing s with
  | zero => exact absent
  | succ n ih =>
    have closed : (closeStage s).ret.run.causes.mains = false := by
      obtain ⟨-, _, _, _, run⟩ := closeStage_run s
      rw [run]
      exact absent
    have ended : ∀ result fault (t : State), (endRun result fault t).ret.run.causes.mains = false := by
      intro result fault t
      obtain ⟨_, _, run⟩ := endRun_context result fault t
      rw [run]
      rfl
    have entered : (entryAfter s).1.ret.run.causes.mains = false := by
      unfold entryAfter
      rcases enterStage_outcome (s.ret.run.stageIndex + 1) false (closeStage s) with entry | ⟨f, u, entry⟩
      · rw [entry]
        obtain ⟨-, mains, -⟩ := stageEntered_causes (s.ret.run.stageIndex + 1) false (closeStage s)
        rw [mains, closed]
        rfl
      · rw [entry]
        exact ended _ _ u
    by_cases following : hasFollowing s
    · rw [endStages_following n following]
      split
      · exact ih entered
      · exact entered
    · rw [endStages_last n following]
      exact ended _ _ _

theorem checkStageEnd_mains (absent : s.ret.run.causes.mains = false) :
    (checkStageEnd s).ret.run.causes.mains = false := by
  unfold checkStageEnd
  split
  · exact endStages_mains 12 absent
  · exact absent

/-! ## The sequencer takes the regulator's reports -/

theorem takeReports_mains (report : ReachedReport) (absent : s.ret.run.causes.mains = false) :
    (takeReports report s).ret.run.causes.mains = false := by
  cases active : runActive s with
  | false => rw [takeReports_idle report active]; exact absent
  | true =>
    rw [takeReports_active report active]
    exact checkStageEnd_mains (by rw [reportsTaken_run]; exact absent)

theorem takeReports_grants (report : ReachedReport) (s : State) :
    (takeReports report s).share.currentGrants = s.share.currentGrants := by
  have taken : (reportsTaken report s).share = s.share := by
    unfold reportsTaken
    dsimp only
    split <;> split <;> rfl
  cases active : runActive s with
  | false => rw [takeReports_idle report active]
  | true =>
    rw [takeReports_active report active, ← taken]
    exact congrArg (fun a : Aside => a.share.currentGrants) (checkStageEnd_sequencer _).aside

/-! ## The mains state becomes PRESENT -/

theorem mainsReturns_parts (s : State) :
    (mainsReturns s).meas = { s.meas with mainsPresent := true } ∧ hasFault .mainsLost (mainsReturns s) = false ∧
      (mainsReturns s).start = { s.start with outageTimer := 0 } ∧ (mainsReturns s).windows = s.windows ∧
      (mainsReturns s).inputs = s.inputs := by
  have told := mainsReturns_runOnly s
  have gone : hasFault .mainsLost (mainsPresented s) = false := by
    show hasFault .mainsLost (leaveFault .mainsLost _) = false
    rw [hasFault_leaveFault]
    simp
  refine ⟨?_, ?_, ?_, ?_, ?_⟩
  · rw [told.kept.meas, mainsPresented_only]
  · rw [hasFault_congr told.faults, gone]
  · rw [told.kept.start, mainsPresented_only]
  · rw [told.kept.windows, mainsPresented_only]
  · rw [told.kept.inputs, mainsPresented_only]

/-- MAINS leaves the causes of a run, which goes on where it was the last (R144, R148). -/
theorem mainsReturns_run (s : State) :
    (runActive s = false → (mainsReturns s).ret.run = s.ret.run) ∧
      (runActive s = true →
        (s.ret.run.causes = ⟨false, false, false, true⟩ →
          (mainsReturns s).ret.run = { s.ret.run with causes := Causes.none, state := .running } ∧
            RaisedTo .programResumed (stageArg s) s (mainsReturns s)) ∧
          (s.ret.run.causes ≠ ⟨false, false, false, true⟩ →
            (mainsReturns s).ret.run =
              { s.ret.run with causes := { s.ret.run.causes with mains := false } })) := by
  have presented := mainsPresented_only s
  have ret : (mainsPresented s).ret = s.ret := by rw [presented]
  have active : runActive (mainsPresented s) = runActive s := by
    unfold runActive
    rw [presented]
  have steering : (mainsPresented s).events.steering = s.events.steering :=
    (leaveFault_entriesKept (k := .programResumed) (by decide) .mainsLost _).steering
  have cases : mainsReturns s =
      if runActive s then removeCause .mains (mainsPresented s) else mainsPresented s := by
    rw [← active]
    rfl
  refine ⟨fun idle => ?_, fun runs => ⟨fun goes => ?_, fun stays => ?_⟩⟩
  · rw [cases, idle]
    exact congrArg Retained.run ret
  · rw [cases, if_pos runs]
    have has : (mainsPresented s).ret.run.causes.has .mains = true := by rw [ret, goes]; rfl
    have last : ((mainsPresented s).ret.run.causes.put .mains false).isEmpty = true := by rw [ret, goes]; rfl
    obtain ⟨-, raised⟩ := removeCause_resumes has last
    refine ⟨?_, ?_⟩
    · rw [removeCause_context, if_pos has, last, ret, goes]
      rfl
    · rw [show stageArg s = stageArg (mainsPresented s) by unfold stageArg; rw [ret]]
      exact raised.from steering
  · rw [cases, if_pos runs, removeCause_context, ret]
    rcases causes : s.ret.run.causes with ⟨door, water, probe, mains⟩
    cases mains with
    | false => exact (if_neg (by simp [Causes.has])).trans (by rw [← causes])
    | true =>
      have more : (Causes.put ⟨door, water, probe, true⟩ .mains false).isEmpty = false := by
        revert stays
        rw [causes]
        cases door <;> cases water <;> cases probe <;> decide
      have has : (Causes.mk door water probe true).has .mains = true := rfl
      rw [if_pos has, more]
      rfl

/-! ## A window start -/

theorem enterFault_entriesKept (other : k ≠ .faultActive) (f : FaultKind) (s : State) :
    EntriesKept k s (enterFault f s) := by
  unfold enterFault
  split
  · exact .same rfl
  · refine EntriesKept.trans ?_ (raiseEvent_entriesKept other _ _)
    exact ⟨rfl, fun _ _ _ => id, id⟩

theorem followFault_entriesKept (other : k ≠ .faultActive) (f : FaultKind) (b : Bool) (s : State) :
    EntriesKept k s (followFault f b s) :=
  .ite (enterFault_entriesKept other f s) (leaveFault_entriesKept other f s)

/-- What the units leave alone at a zero-crossing, before the sequencer takes the reports. -/
structure CrossingActs (s t : State) : Prop where
  ret : t.ret = s.ret
  meas : t.meas = s.meas
  start : t.start = s.start
  settings : t.settings = s.settings
  inputs : t.inputs = s.inputs
  halfCycle : t.out.halfCycle = s.out.halfCycle
  events : ∀ k : EventKind, k ≠ .faultActive → EntriesKept k s t
  lost : hasFault .mainsLost t = hasFault .mainsLost s

theorem CrossingActs.trans (h : CrossingActs s t) (g : CrossingActs t u) : CrossingActs s u where
  ret := g.ret.trans h.ret
  meas := g.meas.trans h.meas
  start := g.start.trans h.start
  settings := g.settings.trans h.settings
  inputs := g.inputs.trans h.inputs
  halfCycle := g.halfCycle.trans h.halfCycle
  events k other := (h.events k other).trans (g.events k other)
  lost := g.lost.trans h.lost

theorem RegulatorActs.crossing (h : RegulatorActs s t) (kept : Kept s t) : CrossingActs s t where
  ret := h.units.1
  meas := kept.meas
  start := kept.start
  settings := kept.settings
  inputs := kept.inputs
  halfCycle := kept.halfCycle
  events := h.events
  lost := by rw [Bool.eq_iff_iff, hasFault_iff, hasFault_iff]; exact kept.faults .mainsLost rfl

/-- An allocation that has not ended hands on its results before the window (R51). -/
theorem finishAllocation_crossing (s : State) : CrossingActs s (finishAllocation s) := by
  unfold finishAllocation
  split
  · exact ⟨rfl, rfl, rfl, rfl, rfl, rfl, fun _ _ => .same rfl, rfl⟩
  · next a allocated =>
    rw [endAllocation_eq]
    refine ⟨?_, ?_, ?_, ?_, ?_, ?_, fun k other => ?_, ?_⟩
    · rw [followFault_only]; rfl
    · rw [followFault_only]; rfl
    · rw [followFault_only]; rfl
    · rw [followFault_only]; rfl
    · rw [followFault_only]; rfl
    · rw [followFault_only]; rfl
    · have handed : EntriesKept k s (resultsHanded a s) := .same rfl
      exact handed.trans (followFault_entriesKept other _ _ _)
    · exact (hasFault_followFault ..).trans (if_neg (by decide))

theorem adoptWindow_crossing (s : State) : CrossingActs s (adoptWindow s) :=
  ⟨rfl, rfl, rfl, rfl, rfl, rfl, fun _ _ => .same rfl, rfl⟩

theorem testReached_acts (r : SetpointRecord) (s : State) : RegulatorActs s (testReached r s).1 := by
  unfold testReached
  dsimp only
  split
  · exact (setClimate_acts _ s).trans (requestModeVent_acts _)
  · exact .refl s

theorem testReached_kept (r : SetpointRecord) (s : State) : Kept s (testReached r s).1 := by
  unfold testReached
  dsimp only
  split
  · exact requestModeVent_kept (Kept.refl s).with_climate
  · exact .refl s

theorem testMoisture_acts (r : SetpointRecord) (s : State) : RegulatorActs s (testMoisture r s).1 := by
  rw [testMoisture_eq]
  exact setClimate_acts _ s

theorem testMoisture_kept (r : SetpointRecord) (s : State) : Kept s (testMoisture r s).1 := by
  rw [testMoisture_eq]
  exact (Kept.refl s).with_climate

theorem posted_acts (r : SetpointRecord) (s : State) : RegulatorActs s (posted r s) :=
  RegulatorActs.trans (.silent rfl) (handSteamRequest_acts _ _)

theorem runLoops_acts (r : SetpointRecord) (s : State) : RegulatorActs s (runLoops r s) := by
  rw [runLoops_eq]
  refine .ite ((posted_acts r s).trans ?_) (posted_acts r s)
  unfold issueMoistureVent
  split
  · exact .refl _
  · exact .ite (.refl _) (requestVent_acts _ _)

theorem regulatorWindow_acts (s : State) : RegulatorActs s (regulatorWindow s).1 := by
  unfold regulatorWindow
  split
  · exact postZeros_acts s
  · next r _ => exact ((testReached_acts r s).trans (testMoisture_acts r _)).trans (runLoops_acts r _)

theorem regulatorWindow_kept (s : State) : Kept s (regulatorWindow s).1 := by
  unfold regulatorWindow
  split
  · exact postZeros_kept (.refl s)
  · next r _ => exact runLoops_kept r ((testReached_kept r s).trans (testMoisture_kept r _))

theorem postBoiler_regulates (s : State) : RegulatorActs s (postBoiler s) := by
  rw [postBoiler_eq]
  exact .silent rfl

theorem beginAllocation_acts (s : State) : RegulatorActs s (beginAllocation s) := by
  have only := (beginAllocation_keeps s).only
  have climate : (beginAllocation s).climate = s.climate := by rw [only]
  have boiler : (beginAllocation s).boiler = s.boiler := by rw [only]
  refine .silent ?_
  rw [climate, boiler]
  exact only

/-- Whatever order the units act in at a window start, they move no other unit (R33, R50). -/
theorem windowUnits_acts (s : State) : RegulatorActs s (windowUnits s).1 := by
  have regulated := regulatorWindow_acts
  have posted := postBoiler_regulates
  have allocated := beginAllocation_acts
  unfold windowUnits
  dsimp only
  split
  · split
    · exact ((regulated s).trans (posted _)).trans (allocated _)
    · exact ((regulated s).trans (allocated _)).trans (posted _)
  · split
    · exact ((posted s).trans (allocated _)).trans (regulated _)
    · exact ((allocated s).trans (regulated _)).trans (posted _)

theorem windowUnits_kept (s : State) : Kept s (windowUnits s).1 := by
  unfold windowUnits
  dsimp only
  split
  · split
    · exact beginAllocation_kept (postBoiler_kept (regulatorWindow_kept s))
    · exact postBoiler_kept (beginAllocation_kept (regulatorWindow_kept s))
  · split
    · exact (beginAllocation_kept (postBoiler_kept (.refl s))).trans (regulatorWindow_kept _)
    · exact postBoiler_kept ((beginAllocation_kept (.refl s)).trans (regulatorWindow_kept _))

theorem windowStart_crossing (s : State) : CrossingActs s (windowStart s).1 :=
  ((finishAllocation_crossing s).trans (adoptWindow_crossing _)).trans
    ((windowUnits_acts _).crossing (windowUnits_kept _))

/-- Of the arbiter, the demands alone have moved. -/
def DemandsOnly (s t : State) : Prop := t.share = { s.share with demands := t.share.demands }

theorem postBoiler_demands (s : State) : DemandsOnly s (postBoiler s) := by
  unfold DemandsOnly
  rw [postBoiler_eq]

theorem regulatorWindow_demands (s : State) : DemandsOnly s (regulatorWindow s).1 := by
  unfold DemandsOnly
  cases h : s.climate.record with
  | none => rw [regulatorWindow_zeros h, postZeros_eq]
  | some r =>
    obtain ⟨e, eq, -, -⟩ := tested_facts h
    have ran : (posted r (tested r s)).share = { s.share with demands := (posted r (tested r s)).share.demands } := by
      rw [posted_eq h, eq]
    rw [regulatorWindow_eq h, runLoops_eq]
    dsimp only
    split
    · obtain ⟨-, -, share, -⟩ := issueMoistureVent_moves r (posted r (tested r s))
      rw [share]
      exact ran
    · exact ran

/-- The next window's limits stand prepared and its allocation is in progress; what the window runs on is untouched. -/
structure Prepares (s t : State) : Prop where
  window : t.share.window = s.share.window
  grants : t.share.currentGrants = s.share.currentGrants
  prepared : t.share.prepared = limitsOf s.start.straps s.settings
  allocation : t.share.allocation.isSome = true

theorem DemandsOnly.prepares (h : DemandsOnly s t) (kept : Kept s t) (g : Prepares t u) : Prepares s u where
  window := g.window.trans (by rw [h])
  grants := g.grants.trans (by rw [h])
  prepared := by rw [g.prepared, kept.start, kept.settings]
  allocation := g.allocation

theorem Prepares.then (g : Prepares s t) (h : DemandsOnly t u) : Prepares s u where
  window := Eq.trans (by rw [h]) g.window
  grants := Eq.trans (by rw [h]) g.grants
  prepared := Eq.trans (by rw [h]) g.prepared
  allocation := Eq.trans (by rw [h]) g.allocation

theorem removeForce_prepares (o : Output) (g : Prepares s t) : Prepares s (removeForce o t) := by
  cases entered : (forceEntry o t).isSome with
  | false => rw [removeForce_none entered]; exact g
  | true =>
    obtain ⟨window, grants, prepared, allocation⟩ := g
    rw [removeForce_eq entered]
    by_cases heat : (outputLoad o).isSome = true
    · refine ⟨?_, ?_, ?_, ?_⟩ <;> rw [if_pos heat]
      exacts [window, grants, prepared, Option.isSome_map.trans allocation]
    · refine ⟨?_, ?_, ?_, ?_⟩ <;> rw [if_neg heat]
      exacts [window, grants, prepared, allocation]

theorem beginAllocation_prepares (s : State) : Prepares s (beginAllocation s) := by
  have begun : Prepares s (allocationBegun s) := ⟨rfl, rfl, rfl, rfl⟩
  rw [beginAllocation_eq]
  unfold refuseClaim
  split
  · exact begun
  · split
    · exact begun
    · exact removeForce_prepares _ begun

/-- Whatever order the units act in at a window start (R33, R50). -/
theorem windowUnits_prepares (s : State) : Prepares s (windowUnits s).1 := by
  have regulated := regulatorWindow_demands
  have posted := postBoiler_demands
  have kept := regulatorWindow_kept
  unfold windowUnits
  dsimp only
  split
  · split
    · exact (regulated s).prepares (kept s)
        ((posted _).prepares (postBoiler_kept (.refl _)) (beginAllocation_prepares _))
    · exact (regulated s).prepares (kept s) ((beginAllocation_prepares _).then (posted _))
  · split
    · exact (posted s).prepares (postBoiler_kept (.refl s)) ((beginAllocation_prepares _).then (regulated _))
    · exact ((beginAllocation_prepares s).then (regulated _)).then (posted _)

/-! ## The half-cycle that begins -/

/-- The half-cycle is counted. -/
def halfCounted (s : State) : State := { s with out := { s.out with halfCycle := some (nextHalfCycle s) } }

/-- The window start of a crossing that begins a window. -/
def windowTaken (s : State) : State × ReachedReport :=
  if nextHalfCycle s = 0 then windowStart (halfCounted s) else (halfCounted s, ⟨false, false⟩)

/-- The relay's turn, at a crossing that begins a cycle. -/
def relayTaken (s : State) : State :=
  if nextHalfCycle s % 2 = 0 then relayAtZeroCross (nextHalfCycle s / 2) (windowTaken s).1 else (windowTaken s).1

/-- The state in which the sequencer takes the regulator's reports. -/
def crossingFired (s : State) : State := fireHalfCycle (nextHalfCycle s / 2) (relayTaken s)

theorem handEdge_eq (s : State) : handEdge s = settle (takeReports (windowTaken s).2 (crossingFired s)) := rfl

theorem relayAtZeroCross_crossing (c : Nat) (s : State) : CrossingActs s (relayAtZeroCross c s) := by
  unfold relayAtZeroCross
  split
  · exact ⟨rfl, rfl, rfl, rfl, rfl, rfl, fun _ _ => .same rfl, rfl⟩
  · exact ⟨rfl, rfl, rfl, rfl, rfl, rfl, fun _ _ => .same rfl, rfl⟩

theorem CrossingActs.refl (s : State) : CrossingActs s s :=
  ⟨rfl, rfl, rfl, rfl, rfl, rfl, fun _ _ => .same rfl, rfl⟩

theorem crossingFired_acts (s : State) : CrossingActs (halfCounted s) (crossingFired s) := by
  have window : CrossingActs (halfCounted s) (windowTaken s).1 := by
    unfold windowTaken
    split
    · exact windowStart_crossing _
    · exact .refl _
  have relay : CrossingActs (windowTaken s).1 (relayTaken s) := by
    unfold relayTaken
    split
    · exact relayAtZeroCross_crossing _ _
    · exact .refl _
  have fired : CrossingActs (relayTaken s) (crossingFired s) :=
    ⟨rfl, rfl, rfl, rfl, rfl, rfl, fun _ _ => .same rfl, rfl⟩
  exact (window.trans relay).trans fired

/-- The relay and the loads leave the arbiter, the window count and the runs alone. -/
theorem crossingFired_runs (s : State) :
    (crossingFired s).share = (windowTaken s).1.share ∧ (crossingFired s).windows = (windowTaken s).1.windows ∧
      ∀ l : Load, ((crossingFired s).out.heat.get l).active = ((windowTaken s).1.out.heat.get l).active ∧
        ((crossingFired s).out.heat.get l).pending = ((windowTaken s).1.out.heat.get l).pending := by
  have relay : (relayTaken s).share = (windowTaken s).1.share ∧ (relayTaken s).windows = (windowTaken s).1.windows ∧
      (relayTaken s).out.heat = (windowTaken s).1.out.heat := by
    unfold relayTaken relayAtZeroCross
    split
    · split <;> exact ⟨rfl, rfl, rfl⟩
    · exact ⟨rfl, rfl, rfl⟩
  obtain ⟨share, windows, heat⟩ := relay
  refine ⟨share, windows, fun l => ?_⟩
  rw [← heat]
  cases l <;> exact ⟨rfl, rfl⟩

/-- A half-cycle that begins no window leaves the window as it is. -/
theorem crossingFired_inside (inside : nextHalfCycle s ≠ 0) :
    (crossingFired s).windows = s.windows ∧ (crossingFired s).share = s.share ∧
      ∀ l : Load, ((crossingFired s).out.heat.get l).active = (s.out.heat.get l).active := by
  obtain ⟨share, windows, runs⟩ := crossingFired_runs s
  have taken : (windowTaken s).1 = halfCounted s := by
    unfold windowTaken
    rw [if_neg inside]
  rw [taken] at share windows runs
  exact ⟨windows, share, fun l => (runs l).1⟩

/-- The half-cycle that begins a window adopts what was prepared for it, and the next allocation begins. -/
theorem crossingFired_first (first : nextHalfCycle s = 0) (unallocated : s.share.allocation = none) :
    (crossingFired s).windows = s.windows + 1 ∧ (crossingFired s).share.window = s.share.prepared ∧
      (crossingFired s).share.currentGrants = s.share.preparedGrants ∧
      (crossingFired s).share.allocation.isSome = true ∧
      (crossingFired s).share.prepared = limitsOf s.start.straps s.settings ∧
      ∀ l : Load, ((crossingFired s).out.heat.get l).active = (s.out.heat.get l).pending ∧
        ((crossingFired s).out.heat.get l).pending = Run.empty := by
  obtain ⟨share, windows, runs⟩ := crossingFired_runs s
  have finished : finishAllocation (halfCounted s) = halfCounted s := by
    unfold finishAllocation
    rw [show (halfCounted s).share.allocation = none from unallocated]
  have taken : (windowTaken s).1 = (windowUnits (adoptWindow (halfCounted s))).1 := by
    unfold windowTaken windowStart
    rw [if_pos first, finished]
  obtain ⟨window, grants, prepared, allocation⟩ := windowUnits_prepares (adoptWindow (halfCounted s))
  have heat : (windowTaken s).1.out.heat = s.out.heat.map HeatChannel.adopt := by
    rw [taken]
    exact (windowUnits_kept _).heat
  have counted : (windowTaken s).1.windows = s.windows + 1 := by
    rw [taken]
    exact (windowUnits_kept _).windows
  rw [heat] at runs
  rw [share, windows, counted, taken]
  refine ⟨rfl, window, grants, allocation, prepared, fun l => ?_⟩
  obtain ⟨active, pending⟩ := runs l
  rw [active, pending, PerLoad.get_map]
  exact ⟨rfl, rfl⟩

/-! ## The loads that fire (R65) -/

theorem fireHalfCycle_fires (c : Nat) (s : State) (l : Load) :
    ((fireHalfCycle c s).out.heat.get l).fired = fires l c (fireHalfCycle c s) := by
  cases l <;> rfl

/-- The reports move nothing that decides whether a load fires. -/
theorem takeReports_fires (report : ReachedReport) (l : Load) (c : Nat) (s : State) :
    fires l c (takeReports report s) = fires l c s := by
  have kept := takeReports_kept report (.refl s)
  have forced : forcedFiring l (takeReports report s) = forcedFiring l s := by
    have same := takeReports_draw report s
    rw [Bool.eq_iff_iff]
    exact ⟨ForcesFrom.firing fun e => mem_of_draw same, ForcesFrom.firing fun e => mem_of_draw same.symm⟩
  have relay : (takeReports report s).out.heaterRelay.state = s.out.heaterRelay.state := by
    obtain ⟨relay, -⟩ := contacts_eq_iff.mp (takeReports_contacts report s)
    rw [relay]
  unfold fires gatesOpen cutoutOpen doorOpen lowCovered heaterClosed
  rw [kept.heat, kept.inputs, forced, relay]

theorem fires_iff {l : Load} {c : Nat} :
    fires l c s = true ↔
      (cutoutOpen s = false ∧
        (if l.isCavity then doorOpen s = false ∧ s.out.heaterRelay.state = .closed else lowCovered s = true)) ∧
      ((s.out.heat.get l).active.covers c = true ∨
        ∃ e ∈ s.out.forces, outputLoad e.output = some l ∧ e.phase = .firing) := by
  unfold fires gatesOpen heaterClosed
  rw [Bool.and_eq_true, Bool.or_eq_true, forcedFiring_iff, and_comm]
  cases l.isCavity <;> simp

/-- The state in which the step of a zero-crossing settles, once the edge is handed on in `s`. -/
def reportsHanded (s : State) : State := takeReports (windowTaken s).2 (crossingFired s)

theorem reportsHanded_leaves (s : State) :
    (reportsHanded s).meas = s.meas ∧ (reportsHanded s).start = s.start ∧ (reportsHanded s).inputs = s.inputs ∧
      hasFault .mainsLost (reportsHanded s) = hasFault .mainsLost s ∧
      (reportsHanded s).out.halfCycle = some (nextHalfCycle s) ∧
      (s.ret.run.causes.mains = false → (reportsHanded s).ret.run.causes.mains = false) := by
  have acts := crossingFired_acts s
  have kept := takeReports_kept (windowTaken s).2 (.refl (crossingFired s))
  refine ⟨kept.meas.trans acts.meas, kept.start.trans acts.start, kept.inputs.trans acts.inputs, ?_,
    kept.halfCycle.trans acts.halfCycle, fun absent => ?_⟩
  · refine Eq.trans ?_ acts.lost
    rw [Bool.eq_iff_iff, hasFault_iff, hasFault_iff]
    exact kept.faults .mainsLost rfl
  · exact takeReports_mains _ (by rw [acts.ret]; exact absent)

/-- The loads fire by the runs, the forces and the gates that the step leaves (R65). -/
theorem reportsHanded_fires (s : State) (l : Load) :
    ((reportsHanded s).out.heat.get l).fired = fires l (nextHalfCycle s / 2) (reportsHanded s) := by
  have kept := takeReports_kept (windowTaken s).2 (.refl (crossingFired s))
  unfold reportsHanded
  rw [takeReports_fires, kept.heat]
  exact fireHalfCycle_fires ..

/-! ## The edge itself (R15, R17) -/

theorem edgeAccepted_iff (m : Measurement) :
    edgeAccepted m = true ↔ m.edgeSeen = false ∨ 5000 ≤ m.edgeAge := by
  unfold edgeAccepted
  rw [Bool.or_eq_true, Bool.not_eq_true', decide_eq_true_iff, show 5 * millisecond = 5000 from rfl]

theorem exec_zeroCross_early (seen : s.meas.edgeSeen = true) (early : s.meas.edgeAge < 5000) :
    exec .zeroCross s = .next s := by
  have refused : ¬edgeAccepted s.meas = true := by
    rw [edgeAccepted_iff, seen]
    rintro (fresh | late)
    · exact Bool.noConfusion fresh
    · exact absurd late (Nat.not_le_of_lt early)
  rw [exec_zeroCross]
  exact if_neg refused

/-- What an edge leaves of the state in which it is handed on. -/
theorem edgeHanded_parts (s : State) :
    (edgeHanded s).meas =
        { s.meas with edgeSeen := true, edgeMeasures := true, edgeAge := 0, mainsPresent := true } ∧
      (edgeHanded s).windows = s.windows ∧ (edgeHanded s).inputs = s.inputs ∧ (edgeHanded s).settings = s.settings ∧
      (edgeHanded s).start.straps = s.start.straps ∧ nextHalfCycle (edgeHanded s) = nextHalfCycle s ∧
      (s.meas.mainsPresent = true → (edgeHanded s).start = s.start) ∧
      (s.meas.mainsPresent = false → edgeHanded s = mainsReturns (setMeas s.meas.edgeTaken s)) := by
  have next : nextHalfCycle (edgeHanded s) = nextHalfCycle s := by
    unfold nextHalfCycle cycles
    rw [(edgeHanded_outputs s).1, (edgeHanded_alike s).frequency]
  cases present : s.meas.mainsPresent with
  | true =>
    have handed : edgeHanded s = setMeas s.meas.edgeTaken s := if_pos present
    refine ⟨?_, ?_, ?_, ?_, ?_, next, fun _ => ?_, nofun⟩
    · have same : s.meas.edgeTaken.mainsPresent = true := present
      rw [handed]
      show s.meas.edgeTaken = { s.meas.edgeTaken with mainsPresent := true }
      rw [← same]
    all_goals rw [handed]; rfl
  | false =>
    have handed : edgeHanded s = mainsReturns (setMeas s.meas.edgeTaken s) := if_neg (by rw [present]; decide)
    obtain ⟨meas, -, start, windows, inputs⟩ := mainsReturns_parts (setMeas s.meas.edgeTaken s)
    refine ⟨?_, ?_, ?_, ?_, ?_, next, nofun, fun _ => handed⟩
    · rw [handed, meas]; rfl
    · rw [handed, windows]; rfl
    · rw [handed, inputs]; rfl
    · rw [handed, mainsReturns_settings]; rfl
    · rw [handed, start]; rfl

/-! ## The decision on the frequency (R16) -/

theorem exec_zeroCross_undecided (undecided : s.meas.frequency = .undecided) (accepted : edgeAccepted s.meas = true) :
    exec .zeroCross s = .next (undecidedEdge s) := by
  rw [exec_zeroCross]
  unfold execZeroCross
  rw [if_pos accepted, if_pos undecided]

/-- An average outside both bands decides nothing; one within them gives the frequency. -/
theorem frequencyOf_cases (average : Nat) :
    (average < 7500 ∨ 11000 < average → frequencyOf average = .undecided) ∧
      (7500 ≤ average → average ≤ 11000 → frequencyOf average = if 9000 ≤ average then .hz50 else .hz60) := by
  unfold frequencyOf
  refine ⟨fun outside => ?_, fun low high => ?_⟩
  · rw [if_neg (by omega), if_neg (by omega)]
  · by_cases slow : 9000 ≤ average
    · rw [if_pos ⟨slow, high⟩, if_pos slow]
    · rw [if_neg (by omega), if_pos (by omega), if_neg slow]

/-- The deciding edge: the mains becomes PRESENT and the first half-cycle begins. -/
theorem mainsReturns_handed {m : Measurement} (s : State) :
    let u := reportsHanded (mainsReturns (setMeas m s))
    u.meas = { m with mainsPresent := true } ∧ hasFault .mainsLost u = false ∧
      u.start = { s.start with outageTimer := 0 } ∧ (runActive s = true → u.ret.run.causes.mains = false) ∧
      u.out.halfCycle = some (nextHalfCycle { s with meas := u.meas }) := by
  obtain ⟨meas, lost, start, -, -⟩ := mainsReturns_parts (setMeas m s)
  obtain ⟨meas', start', -, lost', count, paused⟩ := reportsHanded_leaves (mainsReturns (setMeas m s))
  refine ⟨meas'.trans meas, lost'.trans lost, start'.trans start, fun runs => paused ?_, ?_⟩
  · obtain ⟨goes, stays⟩ := (mainsReturns_run (setMeas m s)).2 runs
    by_cases alone : s.ret.run.causes = ⟨false, false, false, true⟩
    · rw [(goes alone).1]; rfl
    · rw [stays alone]
  · rw [count, meas']
    unfold nextHalfCycle cycles
    rw [(mainsReturns_outputs _).1]
    rfl

end

end Sys2Proof.Machine

open Sys2Proof Sys2Proof.Machine

/-- Settles O23: the timeouts by their conditions, and the edge by what the group makes of its half-period. -/
theorem frequencyIsDecided : Obligations.FrequencyIsDecided := by
  have group (s : State) : groupTimeoutDue s = true ↔
      s.meas.frequency = .undecided ∧ s.meas.edgeMeasures = true ∧ 30000 ≤ s.meas.edgeAge := by
    unfold groupTimeoutDue
    rw [show 30 * millisecond = 30000 from rfl]
    simp [and_assoc]
  have wait (s : State) : frequencyTimeoutDue s = true ↔
      s.meas.frequency = .undecided ∧ s.meas.frequencyWaitOver = false ∧ 2000000 ≤ s.now := by
    unfold frequencyTimeoutDue
    rw [show 2 * second = 2000000 from rfl]
    simp [and_assoc]
  refine ⟨group, wait, fun s idle => ?_, fun s idle => ?_, fun s undecided => ?_⟩
  · exact if_neg (by rw [idle]; decide)
  · exact if_neg (by rw [idle]; decide)
  · intro m average
    refine ⟨exec_zeroCross_early, fun accepted fresh => ?_, fun accepted measures few => ?_,
      fun accepted measures last => ?_, fun due => if_pos due, fun waits late => ?_⟩
    · rw [exec_zeroCross_undecided undecided accepted]
      unfold undecidedEdge
      rw [fresh]
      rfl
    · rw [exec_zeroCross_undecided undecided accepted]
      have joined : joinGroup s.meas.edgeAge s.meas.edgeTaken =
          { m with groupSum := s.meas.groupSum + s.meas.edgeAge, groupCount := s.meas.groupCount + 1 } :=
        if_pos (show s.meas.groupCount + 1 < 16 by omega)
      unfold undecidedEdge
      rw [if_pos measures, joined]
      exact congrArg Host.Outcome.next (if_pos undecided)
    · have joined : joinGroup s.meas.edgeAge s.meas.edgeTaken =
          { m with groupSum := 0, groupCount := 0, frequency := frequencyOf average } :=
        if_neg (show ¬s.meas.groupCount + 1 < 16 by omega)
      have taken : undecidedEdge s =
          if frequencyOf average = .undecided then
            setMeas { m with groupSum := 0, groupCount := 0, frequency := frequencyOf average } s
          else
            handEdge (mainsReturns
              (setMeas { m with groupSum := 0, groupCount := 0, frequency := frequencyOf average } s)) := by
        unfold undecidedEdge
        rw [if_pos measures, joined]
      obtain ⟨outside, within⟩ := frequencyOf_cases average
      rw [exec_zeroCross_undecided undecided accepted, taken]
      refine ⟨fun out => ?_, fun low high => ?_⟩
      · rw [if_pos (outside out), outside out, ← undecided]
        rfl
      · rw [within low high, if_neg (by split <;> decide)]
        exact ⟨_, rfl, mainsReturns_handed s⟩
    · exact if_pos ((wait s).mpr ⟨undecided, waits, late⟩)

/-- Settles O27: the edge is handed on in the state that the mains leaves, and each part of the step by its lemma. -/
theorem zeroCrossBeginsAHalfCycle : Obligations.ZeroCrossBeginsAHalfCycle := by
  intro s decided
  refine ⟨exec_zeroCross_early, fun accepted => ?_⟩
  obtain ⟨meas, windows, inputs, settings, straps, next, present, returns⟩ := edgeHanded_parts s
  obtain ⟨out, share⟩ := edgeHanded_outputs s
  obtain ⟨meas', start', inputs', lost', count, paused⟩ := reportsHanded_leaves (edgeHanded s)
  have kept := takeReports_kept (windowTaken (edgeHanded s)).2 (.refl (crossingFired (edgeHanded s)))
  have draw := takeReports_draw (windowTaken (edgeHanded s)).2 (crossingFired (edgeHanded s))
  have grants := takeReports_grants (windowTaken (edgeHanded s)).2 (crossingFired (edgeHanded s))
  obtain ⟨window, prepared, -, allocation, heat⟩ := draw_share draw
  refine ⟨reportsHanded (edgeHanded s), nextHalfCycle s, ?_, rfl, ?_, meas'.trans meas, fun absent => ?_,
    fun absent => ?_, fun there => start'.trans (present there), fun inside => ?_, fun first unallocated => ?_,
    fun l => ?_⟩
  · rw [exec_zeroCross_decided decided accepted, handEdge_eq]
    rfl
  · rw [count, next]
  · rw [returns absent]
    obtain ⟨-, lost, start, runs, -⟩ := mainsReturns_handed (m := s.meas.edgeTaken) s
    exact ⟨lost, start, runs⟩
  · have ret := (crossingFired_acts (edgeHanded s)).ret
    have events := (crossingFired_acts (edgeHanded s)).events .programResumed (by decide)
    obtain ⟨idle, active⟩ := mainsReturns_run (setMeas s.meas.edgeTaken s)
    rw [← returns absent] at idle active
    refine ⟨crossingFired (edgeHanded s), _, rfl, fun rests => ?_, fun runs => ⟨fun goes => ?_, fun stays => ?_⟩⟩
    · rw [ret]; exact idle rests
    · obtain ⟨run, raised⟩ := (active runs).1 goes
      exact ⟨by rw [ret]; exact run, events.raised raised⟩
    · rw [ret]; exact (active runs).2 stays
  · obtain ⟨counted, arbiter, runs⟩ := crossingFired_inside (s := edgeHanded s) (by rw [next]; exact inside)
    refine ⟨?_, ?_, fun l => ?_⟩
    · rw [← windows, ← counted]; exact kept.windows
    · rw [← share, ← arbiter]; exact grants
    · rw [← out, ← runs l]; exact congrArg (fun h => (h.get l).active) heat
  · obtain ⟨counted, adopted, granted, begun, limits, runs⟩ :=
      crossingFired_first (s := edgeHanded s) (by rw [next]; exact first) (by rw [share]; exact unallocated)
    refine ⟨?_, ?_, ?_, ?_, ?_, fun l => ?_⟩
    · rw [← windows, ← counted]; exact kept.windows
    · rw [← share, ← adopted]; exact window
    · rw [← share, ← granted]; exact grants
    · rw [← begun]; exact congrArg Option.isSome allocation
    · rw [← straps, ← settings, ← limits]; exact prepared
    · obtain ⟨active, pending⟩ := runs l
      rw [← out, ← active, ← pending]
      exact ⟨congrArg (fun h => (h.get l).active) heat, congrArg (fun h => (h.get l).pending) heat⟩
  · intro covered gates forced
    have fired := reportsHanded_fires (edgeHanded s) l
    rw [next] at fired
    rw [fired, fires_iff]
    show _ ↔ gates ∧ _
    unfold cutoutOpen doorOpen lowCovered
    rw [inputs', inputs]
    exact .rfl

end


section
/-! SUPPORT. A loss of the mains (R17): the charging points of the doses that run, and what each unit is left with. -/

namespace Sys2Proof.Machine

section
variable {s t u : State}

/-! ## The charging points (R96) -/

/-- A dose to neither the boiler nor the nozzle hands nothing on. -/
theorem HandsOn.nothing {p : Nat} {d : Dose} (h : HandsOn p d s t) (out : d.effective = .out) : ChargesNothing s t := by
  refine h.2 fun ⟨mode, destination⟩ => ?_
  unfold Dose.effective at out
  rw [if_neg mode] at out
  rw [out] at destination
  exact destination.elim nofun nofun

theorem passPulses_dose {c : Chan} {d : Dose} (dose : (chan s c).dose = some d) :
    (chan (passPulses c s) c).dose = some { d with charged := d.delivered } := by
  have water := (passPulses_handsOn dose).2
  have moved : chan (passPulses c s) c = chan (setDose c { d with charged := d.delivered } s) c := by
    unfold chan
    rw [water]
  rw [moved, setDose, chan_setChan, if_pos rfl]

/-- The charging point of the channel that holds the path. -/
theorem chargePath_granted {c : Chan} (granted : s.water.path = .granted c) : chargePath s = passPulses c s := by
  unfold chargePath
  rw [granted]

theorem chargePath_none (none : s.water.path = .free ∨ s.water.path = .settling) : chargePath s = s := by
  unfold chargePath
  rcases none with path | path <;> rw [path]

theorem chargePath_drain (s : State) : (chan (chargePath s) .ch3).state = (chan s .ch3).state := by
  unfold chargePath
  split
  · next c _ =>
    by_cases drain : c = .ch3
    · rw [drain]
      exact (chan_passPulses_self .ch3 s).1
    · rw [chan_passPulses_other (Ne.symm drain)]
  · rfl

theorem chargeRunning_chargeOnly (s : State) :
    ChargeOnly s (chargeRunning s) ∧ (chargeRunning s).water.path = s.water.path := by
  have first : ChargeOnly s (chargePath s) ∧ (chargePath s).water.path = s.water.path := by
    unfold chargePath
    split
    · exact ⟨passPulses_chargeOnly _ s, passPulses_path _ s⟩
    · exact ⟨.refl s, rfl⟩
  unfold chargeRunning
  dsimp only
  split
  · exact ⟨first.1.trans (passPulses_chargeOnly .ch3 _), (passPulses_path .ch3 _).trans first.2⟩
  · exact first

/-- Of the run, the charging points move the steam used alone. -/
theorem chargeRunning_run (s : State) :
    ∃ n m, (chargeRunning s).ret.run = { s.ret.run with steamUsed := n, steamRemainder := m } := by
  have first : BoilerReacts s (chargePath s) := by
    unfold chargePath
    split
    · exact passPulses_reacts _ (.refl s)
    · exact .refl s
  exact (show BoilerReacts s (chargeRunning s) from .ite (passPulses_reacts .ch3 first) first).run

/-- A drain that runs comes to its charging point. -/
theorem chargeRunning_drain {d : Dose} (runs : (chan s .ch3).state = .running) (dose : (chan s .ch3).dose = some d) :
    (chan (chargeRunning s) .ch3).dose = some { d with charged := d.delivered } := by
  have still : (chan (chargePath s) .ch3).dose = some d ∨
      (chan (chargePath s) .ch3).dose = some { d with charged := d.delivered } := by
    unfold chargePath
    split
    · next c _ =>
      by_cases drain : c = .ch3
      · rw [drain]
        exact .inr (passPulses_dose dose)
      · rw [chan_passPulses_other (Ne.symm drain)]
        exact .inl dose
    · exact .inl dose
  unfold chargeRunning
  dsimp only
  rw [if_pos ((chargePath_drain s).trans runs)]
  rcases still with dose | dose
  · exact passPulses_dose dose
  · rw [passPulses_dose dose]

/-- The dose that holds the path comes to its charging point. -/
theorem chargeRunning_path {c : Chan} {d : Dose} (granted : s.water.path = .granted c)
    (dose : (chan s c).dose = some d) :
    (chan (chargeRunning s) c).dose = some { d with charged := d.delivered } := by
  have charged : (chan (chargePath s) c).dose = some { d with charged := d.delivered } := by
    rw [chargePath_granted granted]
    exact passPulses_dose dose
  unfold chargeRunning
  dsimp only
  split
  · by_cases drain : c = .ch3
    · rw [drain] at charged ⊢
      rw [passPulses_dose charged]
    · rw [chan_passPulses_other drain]
      exact charged
  · exact charged

/-- The drain's charging point hands nothing on, whose pulses go out. -/
theorem chargeRunning_after
    (out : (chan s .ch3).state = .running → ∃ d, (chan s .ch3).dose = some d ∧ d.effective = .out) :
    ChargesNothing (chargePath s) (chargeRunning s) := by
  unfold chargeRunning
  dsimp only
  split
  · next runs =>
    obtain ⟨d, dose, effective⟩ := out ((chargePath_drain s).symm.trans runs)
    have still : ∃ e, (chan (chargePath s) .ch3).dose = some e ∧ e.effective = .out := by
      unfold chargePath
      split
      · next c _ =>
        by_cases drain : c = .ch3
        · rw [drain]
          exact ⟨_, passPulses_dose dose, effective⟩
        · rw [chan_passPulses_other (Ne.symm drain)]
          exact ⟨d, dose, effective⟩
      · exact ⟨d, dose, effective⟩
    obtain ⟨e, dose, effective⟩ := still
    exact (passPulses_handsOn dose).1.nothing effective
  · exact .refl _

/-! ## The loss, unit by unit -/

/-- The fault is raised, the windows stop and the grants are 0; the charging points are still to come. -/
def windowsLost (s : State) : State :=
  grantsLost (enterFault .mainsLost (setMeas { s.meas with mainsPresent := false } s))

/-- The sequencer is told of the loss. -/
def lossTold (s : State) : State := if runActive s then addCause .mains s else s

theorem loseMains_eq (s : State) :
    loseMains s =
      askCommit
        { lossTold (chargeRunning (windowsLost s)) with
          start := { (lossTold (chargeRunning (windowsLost s))).start with outageTimer := 0 } } := rfl

theorem windowsLost_only (s : State) :
    windowsLost s =
      { s with
        meas := { s.meas with mainsPresent := false }
        events := (windowsLost s).events
        share := { s.share with currentGrants := .all 0, preparedGrants := .all 0, allocation := none }
        out :=
          { s.out with
            halfCycle := none, heat := (s.out.heat.map HeatChannel.cut).map HeatChannel.dark
            forces := s.out.forces.map ForceEntry.toPlacing } } := by
  unfold windowsLost
  rw [enterFault_only]
  rfl

theorem windowsLost_fault (s : State) : hasFault .mainsLost (windowsLost s) = true := by
  have entered :
      hasFault .mainsLost (enterFault .mainsLost (setMeas { s.meas with mainsPresent := false } s)) = true := by
    rw [hasFault_enterFault]
    simp
  exact entered

theorem lossTold_runOnly (s : State) : RunOnly s (lossTold s) := by
  unfold lossTold
  split
  · exact addCause_runOnly _ _
  · exact .refl _

theorem lossTold_run (active : runActive s = true) :
    (lossTold s).ret.run.causes.mains = true ∧
      (s.ret.run.causes.isEmpty = true → (lossTold s).ret.run.state = .paused) := by
  unfold lossTold
  rw [if_pos active]
  refine ⟨by rw [addCause_causes]; rfl, fun empty => (addCause_pauses .mains empty).1⟩

theorem lossTold_chargesNothing (s : State) : ChargesNothing s (lossTold s) := by
  unfold lossTold
  split
  · obtain ⟨_, run, -⟩ := addCause_moves .mains s
    refine ⟨by rw [(addCause_runOnly .mains s).only], ?_, ?_⟩ <;> rw [run]
  · exact .refl s

/-- What a loss of the mains moves, unit by unit. -/
theorem loseMains_only (s : State) :
    loseMains s =
      { s with
        meas := { s.meas with mainsPresent := false }
        start := { s.start with outageTimer := 0 }
        share := { s.share with currentGrants := .all 0, preparedGrants := .all 0, allocation := none }
        out := (windowsLost s).out
        water := (chargeRunning (windowsLost s)).water
        scale := (chargeRunning (windowsLost s)).scale
        ret := { s.ret with run := (lossTold (chargeRunning (windowsLost s))).ret.run }
        events := (lossTold (chargeRunning (windowsLost s))).events
        store := { s.store with asked := true } } := by
  have told := (lossTold_runOnly (chargeRunning (windowsLost s))).only
  have charged := (chargeRunning_chargeOnly (windowsLost s)).1.only
  have lost := windowsLost_only s
  rw [loseMains_eq]
  generalize lossTold (chargeRunning (windowsLost s)) = t at *
  generalize chargeRunning (windowsLost s) = c at *
  generalize windowsLost s = l at *
  rw [told, charged, lost]
  rfl

theorem loseMains_fault (s : State) : hasFault .mainsLost (loseMains s) = true := by
  have told := (lossTold_runOnly (chargeRunning (windowsLost s))).faults
  have charged := (chargeRunning_chargeOnly (windowsLost s)).1.faults
  rw [← windowsLost_fault s]
  exact hasFault_congr (told.trans charged) .mainsLost

theorem windowsLost_outputs (s : State) :
    (windowsLost s).out.halfCycle = none ∧
      (∀ l : Load, (windowsLost s).out.heat.get l = ⟨Run.empty, Run.empty, false⟩) ∧
      ∀ e ∈ (windowsLost s).out.forces, e.phase = .placing := by
  rw [windowsLost_only]
  refine ⟨rfl, fun l => by cases l <;> rfl, fun e member => ?_⟩
  obtain ⟨x, -, rfl⟩ := List.mem_map.mp member
  rfl

/-- The account and the steam used are what the charging points leave. -/
theorem loseMains_charges (s : State) :
    ChargesNothing (chargeRunning (windowsLost s)) (loseMains s) := by
  have told := lossTold_chargesNothing (chargeRunning (windowsLost s))
  exact told.trans ⟨rfl, rfl, rfl⟩

theorem windowsLost_chargesNothing (s : State) : ChargesNothing s (windowsLost s) := by
  rw [windowsLost_only]
  exact ⟨rfl, rfl, rfl⟩

theorem mainsLostDue_iff :
    mainsLostDue s = true ↔
      s.meas.frequency ≠ .undecided ∧ s.meas.mainsPresent = true ∧ 30000 ≤ s.meas.edgeAge := by
  unfold mainsLostDue
  rw [show 30 * millisecond = 30000 from rfl]
  simp [and_assoc]

end

end Sys2Proof.Machine

open Sys2Proof Sys2Proof.Machine

/-- Settles O28: the windows are lost first, then the doses that run are charged, then the sequencer is told. -/
theorem mainsLostStopsWindows : Obligations.MainsLostStopsWindows := by
  intro s
  refine ⟨mainsLostDue_iff, fun idle => if_neg (by rw [idle]; decide), fun decided present late => ?_⟩
  have only := loseMains_only s
  have lost := windowsLost_only s
  have chans (c : Chan) : chan (windowsLost s) c = chan s c := by rw [lost]; rfl
  have path : (windowsLost s).water.path = s.water.path := by rw [lost]
  obtain ⟨charge, kept⟩ := chargeRunning_chargeOnly (windowsLost s)
  obtain ⟨off, dark, placing⟩ := windowsLost_outputs s
  have moved (c : Chan) : chan (loseMains s) c = chan (chargeRunning (windowsLost s)) c := by rw [only]; rfl
  have still (out : (chan s .ch3).state = .running → ∃ d, (chan s .ch3).dose = some d ∧ d.effective = .out) :
      ChargesNothing (chargePath (windowsLost s)) (loseMains s) :=
    (chargeRunning_after (by rw [chans]; exact out)).trans (loseMains_charges s)
  have idle (out : (chan s .ch3).state = .running → ∃ d, (chan s .ch3).dose = some d ∧ d.effective = .out)
      (none : s.water.path = .free ∨ s.water.path = .settling) : ChargesNothing s (loseMains s) := by
    have after := still out
    rw [chargePath_none (by rw [path]; exact none)] at after
    exact (windowsLost_chargesNothing s).trans after
  refine ⟨loseMains s, if_pos (mainsLostDue_iff.mpr ⟨decided, present, late⟩), ?_, loseMains_fault s, ?_, ?_, ?_, ?_,
    ?_, fun c d granted dose => ?_, fun d runs dose => ⟨?_, fun out none => ?_⟩,
    fun out => ⟨fun c d granted dose => ?_, ?_⟩,
    fun active => ?_, ?_, ?_, ?_, ?_, ?_, ?_, ?_⟩
  · rw [only]
  · rw [only]; exact off
  · rw [only]; exact dark
  · rw [only]
  · rw [only]; exact placing
  · rw [only]; exact kept.trans path
  · rw [moved]
    exact chargeRunning_path (path.trans granted) (by rw [chans]; exact dose)
  · rw [moved]
    exact chargeRunning_drain (by rw [chans]; exact runs) (by rw [chans]; exact dose)
  · exact idle (fun _ => ⟨d, dose, out⟩) none
  · have charged := (passPulses_handsOn (s := windowsLost s) (c := c) (by rw [chans]; exact dose)).1
    rw [← chargePath_granted (path.trans granted)] at charged
    exact (charged.after (still out)).before (by rw [lost]) (by rw [lost]) (by rw [lost]) (by rw [lost])
  · exact idle out
  · obtain ⟨_, _, run⟩ := chargeRunning_run (windowsLost s)
    have before : (windowsLost s).ret = s.ret := by rw [lost]
    have runs : runActive (chargeRunning (windowsLost s)) = true := by
      rw [← active]
      unfold runActive
      rw [run, before, charge.only, lost]
    obtain ⟨mains, pauses⟩ := lossTold_run runs
    rw [run, before] at pauses
    rw [only]
    exact ⟨mains, pauses⟩
  all_goals rw [only]

end


section
/-! SUPPORT. FORCE_OUTPUT and PULSE_OUTPUT decided by their owner (R79, R82): the cases in their order, and what a
taken one makes. -/

namespace Sys2Proof.Machine

section
variable {s : State}

/-! ## The cases before the output -/

theorem restCase_run (runs : s.ret.run.state ≠ .idle) : restCase s = some .runActive := if_pos runs

theorem restCase_descale (idle : s.ret.run.state = .idle) (descales : s.ret.descale.phase ≠ .idle) :
    restCase s = some .descaleActive := by
  unfold restCase
  rw [if_neg (not_not.mpr idle), if_pos descales]

theorem restCase_climate (idle : s.ret.run.state = .idle) (still : s.ret.descale.phase = .idle)
    (works : s.climate.state ≠ .off) : restCase s = some .busy := by
  unfold restCase
  rw [if_neg (not_not.mpr idle), if_neg (not_not.mpr still), if_pos works]

theorem restCase_none (idle : s.ret.run.state = .idle) (still : s.ret.descale.phase = .idle)
    (off : s.climate.state = .off) : restCase s = none := by
  unfold restCase
  rw [if_neg (not_not.mpr idle), if_neg (not_not.mpr still), if_neg (not_not.mpr off)]

/-! ## The force table -/

/-- An output without an entry takes the table's end. -/
theorem placeForce_absent {o : Output} (level ended : Bool) {es : List ForceEntry} (absent : ∀ e ∈ es, e.output ≠ o) :
    placeForce o level ended es =
      es ++ [{ output := o, level := level, age := 0, phase := .placing, ended := ended }] := by
  induction es with
  | nil => rfl
  | cons e rest ih =>
    obtain ⟨other, others⟩ := List.forall_mem_cons.mp absent
    rw [placeForce, if_neg other, ih others, List.cons_append]

/-- An entry that is there is replaced in its place, with its mark. -/
theorem placeForce_present {o : Output} (level ended : Bool) {es : List ForceEntry}
    (once : (es.map ForceEntry.output).Nodup) (present : o ∈ es.map ForceEntry.output) :
    placeForce o level ended es =
      es.map (fun e => if e.output = o then { e with level := level, age := 0, ended := ended } else e) := by
  induction es with
  | nil => exact absurd present List.not_mem_nil
  | cons e rest ih =>
    obtain ⟨fresh, once⟩ := List.nodup_cons.mp once
    rw [placeForce, List.map_cons]
    by_cases own : e.output = o
    · have others : ∀ x ∈ rest, x.output ≠ o := fun x member same =>
        fresh (own ▸ same ▸ List.mem_map_of_mem member)
      rw [if_pos own, if_pos own]
      congr 1
      exact (List.map_id'' (fun x => rfl) rest).symm.trans
        (List.map_congr_left fun x member => (if_neg (others x member)).symm)
    · rw [if_neg own, if_neg own]
      congr 1
      exact ih once ((List.mem_cons.mp present).resolve_left (Ne.symm own))

/-! ## FORCE_OUTPUT by its level (R79) -/

theorem ownForce_unknown {v : Nat} (b : Nat) (high : 2 < v) : ownForce b v s = refuse .badArgument s := by
  obtain ⟨n, rfl⟩ := Nat.exists_eq_add_of_lt high
  rw [show 2 + n + 1 = n + 3 by omega]
  rfl

theorem ownForce_level {v : Nat} (b : Nat) (low : v < 2) :
    ownForce b v s = ownForceLevel (outputOfNumber b) (decide (v = 1)) s := by
  obtain rfl | rfl : v = 0 ∨ v = 1 := by omega
  · rfl
  · rfl

theorem ownForce_release (b : Nat) : ownForce b 2 s = ownRelease (outputOfNumber b) s := rfl

theorem ownForceLevel_busy (o : Option Output) (level : Bool) {st : Status} (works : restCase s = some st) :
    ownForceLevel o level s = refuse st s := by
  unfold ownForceLevel
  rw [works]

theorem ownForceLevel_unknown (level : Bool) (rests : restCase s = none) :
    ownForceLevel none level s = refuse .badArgument s := by
  unfold ownForceLevel
  rw [rests]

theorem ownForceLevel_refused {o : Output} {level : Bool} {st : Status} (rests : restCase s = none)
    (barred : outputCase o level s = some st) : ownForceLevel (some o) level s = refuse st s := by
  unfold ownForceLevel
  rw [rests]
  dsimp only
  rw [barred]

theorem ownForceLevel_taken {o : Output} {level : Bool} (rests : restCase s = none)
    (free : outputCase o level s = none) : ownForceLevel (some o) level s = forceTaken (makeForce o level s) := by
  unfold ownForceLevel
  rw [rests]
  dsimp only
  rw [free]

theorem outputCase_heat {o : Output} {h : Load} (level : Bool) (heats : outputLoad o = some h) :
    outputCase o level s = heatCase o h level s := by
  unfold outputCase
  rw [heats]

theorem heatCase_over {h : Load} (o : Output) (exceeds : overHeadroom h s = true) :
    heatCase o h true s = some .badArgument := by
  unfold heatCase
  rw [if_neg Bool.noConfusion, if_pos exceeds]

theorem heatCase_busy {o : Output} {h : Load} (fits : overHeadroom h s = false)
    (busy : otherHeatForced o s = true ∨ (h.isCavity = true ∧ doorOpen s = true)) :
    heatCase o h true s = some .busy := by
  unfold heatCase
  rw [if_neg Bool.noConfusion, fits, if_neg Bool.noConfusion]
  by_cases other : otherHeatForced o s = true
  · rw [if_pos other]
  · obtain ⟨cavity, door⟩ := busy.resolve_left other
    rw [if_neg other, cavity, door]
    rfl

theorem heatCase_free {o : Output} {h : Load} (fits : overHeadroom h s = false) (alone : otherHeatForced o s = false)
    (shut : h.isCavity = true → doorOpen s = false) : heatCase o h true s = none := by
  unfold heatCase
  rw [if_neg Bool.noConfusion, fits, if_neg Bool.noConfusion, alone, if_neg Bool.noConfusion]
  refine if_neg fun open_ => ?_
  obtain ⟨cavity, door⟩ := Bool.and_eq_true_iff.mp open_
  exact Bool.noConfusion ((shut cavity).symm.trans door)

theorem outputCase_busy {o : Output} (level : Bool) (cold : outputLoad o = none)
    (busy : otherVentForced o s = true ∨ (outputIsWater o = true ∧ waterBusy s = true) ∨ inPulse o s = true) :
    outputCase o level s = some .busy := by
  unfold outputCase
  rw [cold]
  dsimp only
  by_cases vent : otherVentForced o s = true
  · rw [if_pos vent]
  · rw [if_neg vent]
    rcases busy.resolve_left vent with ⟨water, flows⟩ | pulsed
    · rw [water, flows]
      rfl
    · rw [if_pos pulsed, ite_self]

theorem outputCase_free {o : Output} (level : Bool) (cold : outputLoad o = none) (vent : otherVentForced o s = false)
    (water : outputIsWater o = true → waterBusy s = false) (still : inPulse o s = false) :
    outputCase o level s = none := by
  unfold outputCase
  rw [cold, vent, still]
  dsimp only
  have dry : ¬(outputIsWater o && waterBusy s) = true := fun busy => by
    obtain ⟨drawn, flows⟩ := Bool.and_eq_true_iff.mp busy
    exact Bool.noConfusion ((water drawn).symm.trans flows)
  rw [if_neg Bool.noConfusion, if_neg dry, if_neg Bool.noConfusion]

theorem makeForce_heat {o : Output} {h : Load} (heats : outputLoad o = some h) :
    makeForce o true s =
      { s with
        out := { s.out with forces := placeForce o true false s.out.forces }
        share := { s.share with claim := some h } } := by
  have starts : startsAtEnd s o = false := by
    cases o with
    | ventOpenDrive => cases heats
    | ventCloseDrive => cases heats
    | _ => rfl
  unfold makeForce
  rw [heats, starts]

/-- The end switch that a drive's entry takes, written out. -/
theorem startsAtEnd_eq (s : State) (o : Output) :
    startsAtEnd s o =
      ((decide (o = .ventOpenDrive) && s.inputs.ventOpenEnd.reading) ||
        (decide (o = .ventCloseDrive) && s.inputs.ventClosedEnd.reading)) := by
  cases o <;> simp [startsAtEnd, endReached]

theorem makeForce_cold {o : Output} (level : Bool) (cold : outputLoad o = none) :
    makeForce o level s =
      { s with out := { s.out with forces := placeForce o level (startsAtEnd s o) s.out.forces } } := by
  unfold makeForce
  rw [cold]

/-! ## PULSE_OUTPUT (R82) -/

theorem ownPulse_busy (os : List Output) (ms : Nat) {st : Status} (works : restCase s = some st) :
    ownPulse os ms s = refuse st s := by
  unfold ownPulse
  rw [works]

theorem ownPulse_bad {os : List Output} (ms : Nat) (rests : restCase s = none) (bad : badSet os = true) :
    ownPulse os ms s = refuse .badArgument s := by
  unfold ownPulse
  rw [rests]
  exact if_pos bad

theorem ownPulse_held {os : List Output} (ms : Nat) (rests : restCase s = none) (good : badSet os = false)
    (busy : pulseBusy os s = true) : ownPulse os ms s = refuse .busy s := by
  unfold ownPulse
  rw [rests]
  dsimp only
  rw [good, if_neg Bool.noConfusion, if_pos busy]

theorem badSet_iff (os : List Output) :
    badSet os = true ↔ os = [] ∨ (∃ o ∈ os, (outputLoad o).isSome = true) ∨
      (Output.ventOpenDrive ∈ os ∧ Output.ventCloseDrive ∈ os) := by
  simp [badSet, isHeatOutput, or_assoc]

theorem pulseBusy_iff (os : List Output) :
    pulseBusy os s = true ↔ s.out.pulse.isSome = true ∨ (∃ o ∈ os, (forceEntry o s).isSome = true) ∨
      ((∃ o ∈ os, outputIsWater o = true) ∧ waterBusy s = true) := by
  simp [pulseBusy, or_assoc]

/-- A pulse starts at an end where it drives a vent to an end that is reached. -/
theorem startsAtEnd_any (s : State) (os : List Output) :
    os.any (startsAtEnd s) =
      ((decide (Output.ventOpenDrive ∈ os) && s.inputs.ventOpenEnd.reading) ||
        (decide (Output.ventCloseDrive ∈ os) && s.inputs.ventClosedEnd.reading)) := by
  induction os with
  | nil => rfl
  | cons o rest ih =>
    rw [List.any_cons, ih, startsAtEnd_eq]
    cases o <;> cases s.inputs.ventOpenEnd.reading <;> cases s.inputs.ventClosedEnd.reading <;> simp

theorem ownPulse_taken {os : List Output} (ms : Nat) (rests : restCase s = none) (good : badSet os = false)
    (free : pulseBusy os s = false) :
    ownPulse os ms s =
      taken ⟨if max 10 (min ms 5000) = ms then .ok else .clamped, bytes2 (max 10 (min ms 5000))⟩
        { s with
          out :=
            { s.out with
              pulse :=
                some
                  { outputs := os, remaining := max 10 (min ms 5000) * 1000
                    ended := os.any (startsAtEnd s) } } } := by
  have status : clampedStatus (decide (clampNat ms 10 5000 ≠ ms)) =
      if max 10 (min ms 5000) = ms then .ok else .clamped := by
    unfold clampedStatus clampNat
    by_cases same : max 10 (min ms 5000) = ms
    · simp [same]
    · simp [same]
  unfold ownPulse
  rw [rests]
  dsimp only
  rw [good, if_neg Bool.noConfusion, free, if_neg Bool.noConfusion, status]
  rfl

end

end Sys2Proof.Machine

open Sys2Proof Sys2Proof.Machine

/-- Settles O33: the owner decides on the state with the frame accepted, which differs from `s` in the port alone; each
case by the lemma of its branch. -/
theorem forceOutputIsDecidedInOrder : Obligations.ForceOutputIsDecidedInOrder := by
  rintro l b v s ⟨opened, ready, unlocked⟩ i a limits
  have owned : OwnedBy i l 0x41 .service (ownForce b.toNat v.toNat) s := ⟨rfl, opened, ready, unlocked⟩
  obtain ⟨p, q, eq⟩ := acceptFrame_only l s
  have rests : restCase a = restCase s := by rw [show a = _ from eq]; rfl
  have busy (low : v.toNat < 2) {st : Status} (works : restCase s = some st) : Refuses i l 0x41 st s := by
    refine owned.refuses ?_
    rw [ownForce_level _ low]
    exact ownForceLevel_busy _ _ (rests.trans works)
  refine ⟨fun high => owned.refuses (ownForce_unknown _ high), fun o output release => ?_, fun unknown release => ?_,
    fun low runs => busy low (restCase_run runs), fun low idle descales => busy low (restCase_descale idle descales),
    fun low idle still works => busy low (restCase_climate idle still works), fun low idle still off => ?_,
    fun o level ended es => placeForce_absent level ended, fun o level ended es => placeForce_present level ended,
    fun t => rfl⟩
  · refine owned.answered ?_
    rw [release, ownForce_release, output]
    rfl
  · refine owned.answered ?_
    rw [release, ownForce_release, unknown]
    rfl
  · have free : restCase a = none := rests.trans (restCase_none idle still off)
    refine ⟨fun unknown => owned.refuses ?_, fun o output => ?_⟩
    · rw [ownForce_level _ low, unknown]
      exact ownForceLevel_unknown _ free
    · have refuses {st : Status} (barred : outputCase o (decide (v.toNat = 1)) a = some st) :
          Refuses i l 0x41 st s := by
        refine owned.refuses ?_
        rw [ownForce_level _ low, output]
        exact ownForceLevel_refused free barred
      have takes (clear : outputCase o (decide (v.toNat = 1)) a = none) :
          ownForce b.toNat v.toNat a = forceTaken (makeForce o (decide (v.toNat = 1)) a) := by
        rw [ownForce_level _ low, output]
        exact ownForceLevel_taken free clear
      have other : otherHeatForced o a = otherHeatForced o s := by rw [show a = _ from eq]; rfl
      have door : doorOpen a = doorOpen s := by rw [show a = _ from eq]; rfl
      refine ⟨fun h heats => ⟨fun zero => ?_, fun one exceeds => ?_, fun one fits =>
        ⟨fun held => ?_, fun alone shut => ?_⟩⟩, fun cold => ⟨fun held => ?_, fun vent water still => ?_⟩⟩
      · exact refuses (by rw [outputCase_heat _ heats, zero]; rfl)
      · refine refuses ?_
        rw [outputCase_heat _ heats, one]
        exact heatCase_over o (by rw [show a = _ from eq]; exact decide_eq_true exceeds)
      · have room : overHeadroom h a = false := by rw [show a = _ from eq]; exact decide_eq_false (Nat.not_lt.mpr fits)
        refine refuses ?_
        rw [outputCase_heat _ heats, one]
        exact heatCase_busy room (by rw [other, door]; exact held)
      · have room : overHeadroom h a = false := by rw [show a = _ from eq]; exact decide_eq_false (Nat.not_lt.mpr fits)
        refine owned.answered ?_
        rw [takes, one, show decide (1 = 1) = true from rfl, makeForce_heat heats]
        · rfl
        · rw [outputCase_heat _ heats, one]
          exact heatCase_free room (other.trans alone) (by rw [door]; exact shut)
      · refine refuses (outputCase_busy _ cold ?_)
        rw [show a = _ from eq]
        exact held
      · refine owned.answered ?_
        rw [takes, makeForce_cold _ cold, startsAtEnd_eq]
        · rw [show (acceptFrame l s).inputs = s.inputs by rw [eq]]
          rfl
        · refine outputCase_free _ cold ?_ ?_ ?_
          · rw [show a = _ from eq]; exact vent
          · rw [show a = _ from eq]; exact water
          · rw [show a = _ from eq]; exact still

/-- Settles O34: as FORCE_OUTPUT, each case by the lemma of its branch. -/
theorem pulseOutputIsDecidedInOrder : Obligations.PulseOutputIsDecidedInOrder := by
  rintro l m1 m0 t1 t0 s ⟨opened, ready, unlocked⟩ i a os ms time
  have owned : OwnedBy i l 0x42 .service (ownPulse os ms) s := ⟨rfl, opened, ready, unlocked⟩
  obtain ⟨p, q, eq⟩ := acceptFrame_only l s
  have rests : restCase a = restCase s := by rw [show a = _ from eq]; rfl
  have held : pulseBusy os a = pulseBusy os s := by rw [show a = _ from eq]; rfl
  have busy {st : Status} (works : restCase s = some st) : Refuses i l 0x42 st s :=
    owned.refuses (ownPulse_busy os ms (rests.trans works))
  refine ⟨fun runs => busy (restCase_run runs), fun idle descales => busy (restCase_descale idle descales),
    fun idle still works => busy (restCase_climate idle still works), fun idle still off => ?_⟩
  have free : restCase a = none := rests.trans (restCase_none idle still off)
  refine ⟨fun bad => owned.refuses (ownPulse_bad ms free ((badSet_iff os).mpr bad)), fun good taken => ?_,
    fun good clear => ?_⟩
  · exact owned.refuses (ownPulse_held ms free good (held.trans ((pulseBusy_iff os).mpr taken)))
  · rw [owned.takes (ownPulse_taken ms free good (held.trans clear)), startsAtEnd_any]
    rw [show (acceptFrame l s).inputs = s.inputs by rw [eq]]

end


section
/-! SUPPORT. LOAD_PROGRAM and CLEAR_SLOT (R131 to R134): the cases in their order, the bad stages and what a slot keeps
of a stage. -/

namespace Sys2Proof.Machine

/-- The owner's answer stands on the port, and nothing but the port has moved where the owner moves nothing. -/
theorem OwnedBy.replies {i : Instr} {l : Link} {code : Byte} {g : Group} {own : State → Reply × State} {s : State}
    (h : OwnedBy i l code g own s) {r : Reply} (decided : own (acceptFrame l s) = (r, acceptFrame l s)) :
    ∃ t, exec i s = .next t ∧ Replies l code r s t ∧ OnlyPorts s t := by
  refine ⟨_, h.answered decided, answer_replies rfl, ?_⟩
  unfold OnlyPorts answer
  rw [acceptFrame_eq]
  rfl

/-! ## The stages as sent (R132) -/

theorem modeNumber_none (n : Nat) : (Mode.ofNumber n).isNone = true ↔ 7 < n := by
  by_cases high : 7 < n
  · obtain ⟨k, rfl⟩ := Nat.exists_eq_add_of_lt high
    rw [show 7 + k + 1 = k + 8 by omega]
    exact iff_of_true rfl (by omega)
  · interval_cases n <;> decide

theorem endNumber_none (n : Nat) : (StageEnd.ofNumber n).isNone = true ↔ 3 < n := by
  by_cases high : 3 < n
  · obtain ⟨k, rfl⟩ := Nat.exists_eq_add_of_lt high
    rw [show 3 + k + 1 = k + 4 by omega]
    exact iff_of_true rfl (by omega)
  · interval_cases n <;> decide

theorem policyNumber_none (n : Nat) : (Policy.ofNumber n).isNone = true ↔ 1 < n := by
  by_cases high : 1 < n
  · obtain ⟨k, rfl⟩ := Nat.exists_eq_add_of_lt high
    rw [show 1 + k + 1 = k + 2 by omega]
    exact iff_of_true rfl (by omega)
  · interval_cases n <;> decide

theorem timerNumber_none (n : Nat) : (TimerStart.ofNumber n).isNone = true ↔ 1 < n := by
  by_cases high : 1 < n
  · obtain ⟨k, rfl⟩ := Nat.exists_eq_add_of_lt high
    rw [show 1 + k + 1 = k + 2 by omega]
    exact iff_of_true rfl (by omega)
  · interval_cases n <;> decide

theorem outsideSet_iff {α : Type} (ofNumber : Nat → Option α) (n : Nat) :
    outsideSet ofNumber n = true ↔ (ofNumber n).isNone = true ∧ n ≠ 255 := by
  unfold outsideSet
  rw [Bool.and_eq_true, decide_eq_true_iff, and_comm, show absent1 = 255 from rfl]

theorem parseStage_badName {m s1 s0 h f e d3 d2 d1 d0 c1 c0 b1 b0 p t x y : Byte} {st : SentStage}
    (parsed : parseStage [m, s1, s0, h, f, e, d3, d2, d1, d0, c1, c0, b1, b0, p, t, x, y] = some st) :
    st.badName = true ↔
      (7 < m.toNat ∧ m.toNat ≠ 255) ∨ (3 < e.toNat ∧ e.toNat ≠ 255) ∨ (1 < p.toNat ∧ p.toNat ≠ 255) ∨
        (1 < t.toNat ∧ t.toNat ≠ 255) := by
  have named : st.badName =
      (outsideSet Mode.ofNumber m.toNat || outsideSet StageEnd.ofNumber e.toNat
        || outsideSet Policy.ofNumber p.toNat || outsideSet TimerStart.ofNumber t.toNat) := by
    obtain rfl := Option.some.inj parsed
    rfl
  rw [named]
  simp only [Bool.or_eq_true, outsideSet_iff, modeNumber_none, endNumber_none, policyNumber_none, timerNumber_none,
    or_assoc]

theorem bad_iff (fitted : Bool) (st : SentStage) :
    st.bad fitted = true ↔
      st.badName = true ∨ st.mode = none ∨ st.setpoint = none ∨ st.ending = none ∨
        (st.ending = some .time ∧ st.duration = none) ∨
        (st.ending = some .core ∧ (st.core = none ∨ fitted = false)) := by
  simp only [SentStage.bad, Bool.or_eq_true, Bool.and_eq_true, Option.isNone_iff_eq_none, decide_eq_true_eq,
    Bool.not_eq_true', or_assoc]

theorem firstBad_some {fitted : Bool} {stages : List SentStage} {k : Nat} :
    firstBad fitted stages = some k ↔
      (∃ st, stages[k]? = some st ∧ st.bad fitted = true) ∧
        ∀ j : Nat, j < k → ∀ st, stages[j]? = some st → st.bad fitted = false := by
  unfold firstBad
  rw [List.findIdx?_eq_some_iff_getElem]
  refine ⟨fun ⟨short, bad, before⟩ => ⟨⟨stages[k], List.getElem?_eq_getElem short, bad⟩, fun j below st there => ?_⟩,
    fun ⟨⟨st, there, bad⟩, before⟩ => ?_⟩
  · obtain ⟨_, rfl⟩ := List.getElem?_eq_some_iff.mp there
    exact Bool.eq_false_iff.mpr (before j below)
  · obtain ⟨short, rfl⟩ := List.getElem?_eq_some_iff.mp there
    exact ⟨short, bad, fun j below =>
      Bool.eq_false_iff.mp (before j below _ (List.getElem?_eq_getElem (below.trans short)))⟩

theorem firstBad_none {fitted : Bool} {stages : List SentStage} :
    firstBad fitted stages = none ↔ ∀ st ∈ stages, st.bad fitted = false :=
  List.findIdx?_eq_none_iff

/-! ## The stages as kept (R133) -/

/-- What a slot keeps of a stage, and when that differs from what was sent. -/
theorem store_eq {st : SentStage} {m : Mode} {x : Int} {e : StageEnd} (mode : st.mode = some m)
    (setpoint : st.setpoint = some x) (ending : st.ending = some e) :
    let row := modeRow m
    let kept := st.store.1
    kept.mode = m ∧ kept.setpoint = max row.low (min x row.high) ∧
      (row.moisture = none → kept.moisture = none) ∧
      (∀ lo hi : Int, row.moisture = some (lo, hi) → kept.moisture = st.moisture.map (fun n => max lo (min n hi))) ∧
      kept.fanCode = st.fanCode.map (fun n => min n 15) ∧ kept.ending = e ∧
      kept.duration = st.duration.map (fun n => max 1 (min n 86400)) ∧
      (e = .core → kept.core = st.core.map (fun n => max 200 (min n 990))) ∧ (e ≠ .core → kept.core = none) ∧
      kept.burst = st.burst.map (fun n => max 10 (min n 200)) ∧ kept.policy = st.policy ∧
      kept.timerStart = st.timerStart ∧
      (st.store.2 = true ↔ kept.setpoint ≠ x ∨ kept.moisture ≠ st.moisture ∨ kept.fanCode ≠ st.fanCode ∨
        kept.duration ≠ st.duration ∨ (e = .core ∧ kept.core ≠ st.core) ∨ kept.burst ≠ st.burst) := by
  unfold SentStage.store limitNat clampNat
  rw [mode, setpoint, ending]
  simp only [Option.getD_some, Nat.zero_max]
  refine ⟨trivial, rfl, fun none => ?_, fun lo hi range => ?_, trivial, trivial, trivial, fun core => ?_,
    fun other => ?_, trivial, trivial, trivial, ?_⟩
  · rw [none]
  · rw [range]
    rfl
  · rw [if_pos core]
    rfl
  · rw [if_neg other]
  · simp only [Bool.or_eq_true, Bool.and_eq_true, decide_eq_true_eq, or_assoc]

/-! ## The owners' cases (R132, R134) -/

section
variable {l : Link} {p : SentProgram} {s : State}

theorem ownLoad_argument (large : 3 < p.slot ∨ 24 < p.label.length) : ownLoad l p s = refuse .badArgument s :=
  if_pos large

theorem ownLoad_busy (slot : p.slot ≤ 3) (label : p.label.length ≤ 24)
    (used : (s.ret.slots.get p.slot).state = .inUse) : ownLoad l p s = refuse .busy s := by
  unfold ownLoad
  rw [if_neg (by omega), if_pos used]

theorem ownLoad_count (slot : p.slot ≤ 3) (label : p.label.length ≤ 24)
    (free : (s.ret.slots.get p.slot).state ≠ .inUse) (count : p.stages.length = 0 ∨ 12 < p.stages.length) :
    ownLoad l p s = (⟨.badProgram, [0xFF]⟩, s) := by
  unfold ownLoad
  rw [if_neg (by omega), if_neg free, if_pos (by rwa [List.length_eq_zero_iff] at count)]
  rfl

/-- A program of a sound length is loaded where no stage is bad. -/
theorem ownLoad_stages (slot : p.slot ≤ 3) (label : p.label.length ≤ 24)
    (free : (s.ret.slots.get p.slot).state ≠ .inUse) (some : 0 < p.stages.length) (few : p.stages.length ≤ 12) :
    (∀ k : Nat, firstBad s.start.straps.probeFitted p.stages = .some k →
      ownLoad l p s = (⟨.badProgram, bytes1 k⟩, s)) ∧
      (firstBad s.start.straps.probeFitted p.stages = none →
        let x := (s.ret.slots.get p.slot).load l p
        ownLoad l p s =
          (⟨if p.stages.any (fun st => st.store.2) then .clamped else .ok, bytes2 x.generation⟩,
            setSlot p.slot x s)) := by
  have counted : ¬(p.stages = [] ∨ 12 < p.stages.length) := by
    rw [← List.length_eq_zero_iff]
    omega
  unfold ownLoad
  rw [if_neg (by omega), if_neg free, if_neg counted]
  refine ⟨fun k bad => ?_, fun good => ?_⟩
  · rw [bad]
  · rw [good]
    rfl

theorem ownClear_argument {n : Nat} (large : 3 < n) : ownClear n s = refuse .badArgument s := if_pos large

theorem ownClear_slot {n : Nat} (slot : n ≤ 3) :
    ((s.ret.slots.get n).state = .inUse → ownClear n s = refuse .busy s) ∧
      ((s.ret.slots.get n).state = .empty → ownClear n s = (Reply.bare .ok, s)) ∧
      ((s.ret.slots.get n).state = .loaded →
        ownClear n s =
          (Reply.bare .ok,
            setSlot n { s.ret.slots.get n with state := .empty, link := none, label := [], stages := [] } s)) := by
  unfold ownClear
  rw [if_neg (by omega)]
  refine ⟨fun used => ?_, fun empty => ?_, fun loaded => ?_⟩
  · rw [used]
  · rw [empty]
  · rw [loaded]

end

end Sys2Proof.Machine

open Sys2Proof Sys2Proof.Machine

/-- Settles O48: the owners' cases by their lemmas, and what a stage is kept as by `store_eq`. -/
theorem slotsAreLoadedAndCleared : Obligations.SlotsAreLoadedAndCleared := by
  refine ⟨?_, bad_iff, fun fitted stages => ⟨fun k => firstBad_some, firstBad_none⟩,
    fun m s1 s0 h f e d3 d2 d1 d0 c1 c0 b1 b0 p t x y st => parseStage_badName,
    fun st m x e mode setpoint ending => store_eq mode setpoint ending, ?_⟩
  · rintro l fields p s parsed ⟨opened, ready, unlocked⟩ i x
    have runs : exec i s = onFrame l 0x10 (groupCommand .run l true (ownLoad l p)) s := by
      show execLoadProgram l fields s = _
      unfold execLoadProgram
      rw [parsed]
    have owned : OwnedBy i l 0x10 .run (ownLoad l p) s := ⟨runs, opened, ready, unlocked⟩
    obtain ⟨ports, prot, eq⟩ := acceptFrame_only l s
    have slots : (acceptFrame l s).ret.slots = s.ret.slots := by rw [eq]
    have straps : (acceptFrame l s).start.straps = s.start.straps := by rw [eq]
    refine ⟨fun large => owned.refuses (ownLoad_argument large), fun slot label used => ?_,
      fun slot label free count => ?_, fun slot label free some few => ?_⟩
    · exact owned.refuses (ownLoad_busy slot label (by rw [slots]; exact used))
    · exact owned.replies (ownLoad_count slot label (by rw [slots]; exact free) count)
    · obtain ⟨bad, good⟩ :=
        ownLoad_stages (l := l) (s := acceptFrame l s) slot label (by rw [slots]; exact free) some few
      rw [straps] at bad good
      rw [slots] at good
      exact ⟨fun k first => owned.replies (bad k first), fun none => owned.answered (good none)⟩
  · rintro l n s ⟨opened, ready, unlocked⟩ i x
    have owned : OwnedBy i l 0x11 .run (ownClear n.toNat) s := ⟨rfl, opened, ready, unlocked⟩
    obtain ⟨ports, prot, eq⟩ := acceptFrame_only l s
    have slots : (acceptFrame l s).ret.slots = s.ret.slots := by rw [eq]
    refine ⟨fun large => owned.refuses (ownClear_argument large), fun slot => ?_, fun slot => ?_, fun slot => ?_⟩
    all_goals
      obtain ⟨used, empty, loaded⟩ := ownClear_slot (s := acceptFrame l s) slot
      rw [slots] at used empty loaded
    · exact fun taken => owned.refuses (used taken)
    · exact fun none => owned.answered (empty none)
    · exact fun there => owned.answered (loaded there)

end


section
/-! SUPPORT. What a link command meets before its owner (R183): its port, its layout, the STARTING state, the early
checks and the lock of its group. -/

namespace Sys2Proof.Machine

section
variable {i : Instr} {l : Link} {code : Byte} {fields : List Byte} {s : State}

/-! ## The layout and the tests of a command -/

/-- A decision on a command: a wrong layout is refused; a sound one meets the tests in their order, then its owner. -/
def DecidedInOrder (l : Link) (code : Byte) (fields : List Byte) (decision : State → Reply × State) : Prop :=
  (layoutFits code fields = false → ∀ t, decision t = refuse .badArgument t) ∧
    (layoutFits code fields = true → ∃ own, ∀ t, decision t =
      decideCommand true (readCode code) (if earlyFault code fields then some .badArgument else none)
        (commandLocked code fields l t) own t)

/-- A command without fields. -/
theorem decidedInOrder_empty {reads : Bool} {lock : State → Bool} {own : State → Reply × State}
    (layout : layoutFits code fields = decide (fields.length = 0)) (read : readCode code = reads)
    (early : earlyFault code fields = false) (locks : ∀ t, commandLocked code fields l t = lock t) :
    DecidedInOrder l code fields (fun t => decideCommand fields.isEmpty reads none (lock t) own t) := by
  refine ⟨fun bad t => ?_, fun good => ⟨own, fun t => ?_⟩⟩
  · have filled : fields.isEmpty = false := by
      rw [layout] at bad
      cases fields with
      | nil => cases bad
      | cons _ _ => rfl
    rw [filled]
    rfl
  · have empty : fields.isEmpty = true := by
      rw [layout, decide_eq_true_iff, List.length_eq_zero_iff] at good
      rw [good]
      rfl
    rw [empty, read, early, locks]
    rfl

theorem earlyFault_start (n g1 g0 : Byte) :
    (if earlyFault 0x12 [n, g1, g0] then some Status.badArgument else none) =
      if 3 < n.toNat then some Status.badArgument else none := by
  have early : earlyFault 0x12 [n, g1, g0] = decide (3 < n.toNat) := rfl
  rw [early]
  simp only [decide_eq_true_eq]

theorem earlyFault_write (n v3 v2 v1 v0 : Byte) :
    (if earlyFault 0x30 [n, v3, v2, v1, v0] then some Status.badArgument else none) =
      if n.toNat = 0 ∨ 19 < n.toNat then some Status.badArgument else none := by
  have early : earlyFault 0x30 [n, v3, v2, v1, v0] = decide (n.toNat = 0 ∨ 19 < n.toNat) := rfl
  rw [early]
  simp only [decide_eq_true_eq]

/-- Every command of the catalogue is decided in the order of the tests, once its fields are as its layout says. -/
theorem linkCommand_decided (link : linkCommand i = some (l, code, fields)) (known : code ∈ catalogue)
    (sound : WellFormed i = true) :
    ∃ decision, (∀ s, exec i s = onFrame l code decision s) ∧ DecidedInOrder l code fields decision := by
  cases i with
  | unknownCommand k c f =>
    obtain ⟨-, unknown⟩ := Bool.and_eq_true_iff.mp sound
    cases link
    simp [known] at unknown
  | getStatus k f => cases link; exact ⟨_, fun s => rfl, decidedInOrder_empty rfl rfl rfl fun t => rfl⟩
  | getSnapshot k f => cases link; exact ⟨_, fun s => rfl, decidedInOrder_empty rfl rfl rfl fun t => rfl⟩
  | getLastRun k f => cases link; exact ⟨_, fun s => rfl, decidedInOrder_empty rfl rfl rfl fun t => rfl⟩
  | readScale k f => cases link; exact ⟨_, fun s => rfl, decidedInOrder_empty rfl rfl rfl fun t => rfl⟩
  | stop k f => cases link; exact ⟨_, fun s => rfl, decidedInOrder_empty rfl rfl rfl fun t => rfl⟩
  | descaleStart k f => cases link; exact ⟨_, fun s => rfl, decidedInOrder_empty rfl rfl rfl fun t => rfl⟩
  | descaleAbort k f => cases link; exact ⟨_, fun s => rfl, decidedInOrder_empty rfl rfl rfl fun t => rfl⟩
  | serviceUnlock k f => cases link; exact ⟨_, fun s => rfl, decidedInOrder_empty rfl rfl rfl fun t => rfl⟩
  | serviceLock k f => cases link; exact ⟨_, fun s => rfl, decidedInOrder_empty rfl rfl rfl fun t => rfl⟩
  | clearFaults k f => cases link; exact ⟨_, fun s => rfl, decidedInOrder_empty rfl rfl rfl fun t => rfl⟩
  | scaleReset k f => cases link; exact ⟨_, fun s => rfl, decidedInOrder_empty rfl rfl rfl fun t => rfl⟩
  | fetchEvents k f =>
    have runs (s : State) : exec (.fetchEvents k f) s = execFetchEvents k f s := rfl
    unfold execFetchEvents at runs
    cases link
    refine ⟨_, runs, fun bad t => ?_, fun good => ?_⟩
    · split
      · cases bad
      · rfl
    · match fields, of_decide_eq_true good with
      | [m], _ => exact ⟨_, fun t => rfl⟩
  | readSlot k f =>
    have runs (s : State) : exec (.readSlot k f) s = execReadSlot k f s := rfl
    unfold execReadSlot at runs
    cases link
    refine ⟨_, runs, fun bad t => ?_, fun good => ?_⟩
    · split
      · cases bad
      · rfl
    · match fields, of_decide_eq_true good with
      | [n], _ => exact ⟨_, fun t => rfl⟩
  | readSetting k f =>
    have runs (s : State) : exec (.readSetting k f) s = execReadSetting k f s := rfl
    unfold execReadSetting at runs
    cases link
    refine ⟨_, runs, fun bad t => ?_, fun good => ?_⟩
    · split
      · cases bad
      · rfl
    · match fields, of_decide_eq_true good with
      | [n], _ => exact ⟨_, fun t => rfl⟩
  | clearSlot k f =>
    have runs (s : State) : exec (.clearSlot k f) s = execClearSlot k f s := rfl
    unfold execClearSlot at runs
    cases link
    refine ⟨_, runs, fun bad t => ?_, fun good => ?_⟩
    · split
      · cases bad
      · rfl
    · match fields, of_decide_eq_true good with
      | [n], _ => exact ⟨_, fun t => rfl⟩
  | start k f =>
    have runs (s : State) : exec (.start k f) s = execStart k f s := rfl
    unfold execStart at runs
    cases link
    refine ⟨_, runs, fun bad t => ?_, fun good => ?_⟩
    · split
      · cases bad
      · rfl
    · match fields, of_decide_eq_true good with
      | [n, g1, g0], _ => exact ⟨_, fun t => by rw [earlyFault_start]; rfl⟩
  | adjust k f =>
    have runs (s : State) : exec (.adjust k f) s = execAdjust k f s := rfl
    unfold execAdjust at runs
    cases link
    refine ⟨_, runs, fun bad t => ?_, fun good => ?_⟩
    · split
      · cases bad
      · rfl
    · match fields, of_decide_eq_true good with
      | [r1, r0, i, mask, s1, s0, d3, d2, d1, d0, m], _ => exact ⟨_, fun t => rfl⟩
  | skipStage k f =>
    have runs (s : State) : exec (.skipStage k f) s = execSkipStage k f s := rfl
    unfold execSkipStage at runs
    cases link
    refine ⟨_, runs, fun bad t => ?_, fun good => ?_⟩
    · split
      · cases bad
      · rfl
    · match fields, of_decide_eq_true good with
      | [r1, r0, i], _ => exact ⟨_, fun t => rfl⟩
  | confirm k f =>
    have runs (s : State) : exec (.confirm k f) s = execConfirm k f s := rfl
    unfold execConfirm at runs
    cases link
    refine ⟨_, runs, fun bad t => ?_, fun good => ?_⟩
    · split
      · cases bad
      · rfl
    · match fields, of_decide_eq_true good with
      | [r1, r0, i], _ => exact ⟨_, fun t => rfl⟩
  | inject k f =>
    have runs (s : State) : exec (.inject k f) s = execInject k f s := rfl
    unfold execInject at runs
    cases link
    refine ⟨_, runs, fun bad t => ?_, fun good => ?_⟩
    · split
      · cases bad
      · rfl
    · match fields, of_decide_eq_true good with
      | [r1, r0, i, v1, v0], _ => exact ⟨_, fun t => rfl⟩
  | descaleConfirm k f =>
    have runs (s : State) : exec (.descaleConfirm k f) s = execDescaleConfirm k f s := rfl
    unfold execDescaleConfirm at runs
    cases link
    refine ⟨_, runs, fun bad t => ?_, fun good => ?_⟩
    · split
      · cases bad
      · rfl
    · match fields, of_decide_eq_true good with
      | [p], _ => exact ⟨_, fun t => rfl⟩
  | writeSetting k f =>
    have runs (s : State) : exec (.writeSetting k f) s = execWriteSetting k f s := rfl
    unfold execWriteSetting at runs
    cases link
    refine ⟨_, runs, fun bad t => ?_, fun good => ?_⟩
    · split
      · cases bad
      · rfl
    · match fields, of_decide_eq_true good with
      | [n, v3, v2, v1, v0], _ => exact ⟨_, fun t => by rw [earlyFault_write]; rfl⟩
  | setLock k f =>
    have runs (s : State) : exec (.setLock k f) s = execSetLock k f s := rfl
    unfold execSetLock at runs
    cases link
    refine ⟨_, runs, fun bad t => ?_, fun good => ?_⟩
    · split
      · cases bad
      · rfl
    · match fields, of_decide_eq_true good with
      | [i, v], _ => exact ⟨_, fun t => rfl⟩
  | lamp k f =>
    have runs (s : State) : exec (.lamp k f) s = execLamp k f s := rfl
    unfold execLamp at runs
    cases link
    refine ⟨_, runs, fun bad t => ?_, fun good => ?_⟩
    · split
      · cases bad
      · rfl
    · match fields, of_decide_eq_true good with
      | [a], _ => exact ⟨_, fun t => rfl⟩
  | forceOutput k f =>
    have runs (s : State) : exec (.forceOutput k f) s = execForceOutput k f s := rfl
    unfold execForceOutput at runs
    cases link
    refine ⟨_, runs, fun bad t => ?_, fun good => ?_⟩
    · split
      · cases bad
      · rfl
    · match fields, of_decide_eq_true good with
      | [o, v], _ => exact ⟨_, fun t => rfl⟩
  | pulseOutput k f =>
    have runs (s : State) : exec (.pulseOutput k f) s = execPulseOutput k f s := rfl
    unfold execPulseOutput at runs
    cases link
    refine ⟨_, runs, fun bad t => ?_, fun good => ?_⟩
    · split
      · cases bad
      · rfl
    · match fields, of_decide_eq_true good with
      | [m1, m0, t1, t0], _ => exact ⟨_, fun t => rfl⟩
  | loadProgram k f =>
    have runs (s : State) : exec (.loadProgram k f) s = execLoadProgram k f s := rfl
    unfold execLoadProgram at runs
    cases link
    have layout : layoutFits 0x10 fields = (parseProgram fields).isSome := rfl
    refine ⟨_, runs, fun bad t => ?_, fun good => ?_⟩
    · rw [layout, Option.isSome_eq_false_iff, Option.isNone_iff_eq_none] at bad
      rw [bad]
    · rw [layout] at good
      obtain ⟨p, parsed⟩ := Option.isSome_iff_exists.mp good
      rw [parsed]
      exact ⟨_, fun t => rfl⟩
  | setSteering k f =>
    have runs (s : State) : exec (.setSteering k f) s = execSetSteering k f s := rfl
    unfold execSetSteering at runs
    cases link
    refine ⟨_, runs, fun bad t => ?_, fun good => ?_⟩
    · cases fields with
      | nil => rfl
      | cons n rest =>
        have layout : layoutFits 0x34 (n :: rest) = (parsePairs n.toNat rest).isSome := rfl
        rw [layout, Option.isSome_eq_false_iff, Option.isNone_iff_eq_none] at bad
        dsimp only
        rw [bad]
    · cases fields with
      | nil => cases good
      | cons n rest =>
        have layout : layoutFits 0x34 (n :: rest) = (parsePairs n.toNat rest).isSome := rfl
        rw [layout] at good
        obtain ⟨pairs, parsed⟩ := Option.isSome_iff_exists.mp good
        dsimp only
        rw [parsed]
        exact ⟨_, fun t => rfl⟩
  | _ => cases link

/-- A code outside the catalogue stands in the row of an unknown command alone. -/
theorem linkCommand_unknown (link : linkCommand i = some (l, code, fields)) (unknown : code ∉ catalogue) :
    i = .unknownCommand l code fields := by
  cases i
  case unknownCommand => cases link; rfl
  all_goals cases link
  all_goals exact absurd (by decide) unknown

/-- Every link command is its frame's decision. -/
theorem linkCommand_framed (link : linkCommand i = some (l, code, fields)) (sound : WellFormed i = true) :
    ∃ decision, ∀ s, exec i s = onFrame l code decision s := by
  by_cases known : code ∈ catalogue
  · obtain ⟨decision, runs, -⟩ := linkCommand_decided link known sound
    exact ⟨decision, runs⟩
  · rw [linkCommand_unknown link known]
    exact ⟨_, fun s => rfl⟩

theorem earlyFault_iff (code : Byte) (fields : List Byte) :
    earlyFault code fields = true ↔
      (code = 0x12 ∧ 3 < (fields.headD 0).toNat) ∨
        (code = 0x30 ∧ ((fields.headD 0).toNat = 0 ∨ 19 < (fields.headD 0).toNat)) := by
  unfold earlyFault
  by_cases start : code = 0x12
  · simp [start]
  · by_cases write : code = 0x30
    · simp [write]
    · rw [if_neg start, if_neg write]
      exact iff_of_false Bool.false_ne_true (by rintro (⟨is, -⟩ | ⟨is, -⟩); exacts [start is, write is])

/-! ## The port (R182, R185) -/

theorem portOpen_iff :
    portOpen s l ↔ ((port s l).state = .receiving ∧ (port s l).quiet ≤ 20000) ∨
      ((port s l).state = .idle ∧ (port s l).discard = false) := by
  unfold portOpen Port.open Port.silent
  rw [show 20 * millisecond = 20000 from rfl]
  simp

/-- A port that is not open discards the frame: an overrun while it is busy, else the frame is abandoned. -/
theorem discardFrame_eq (p : Port) :
    p.discardFrame =
      if p.state = .executing ∨ p.state = .replying then
        { p with line := [], overrun := true, discard := true, quiet := 0 }
      else { p with state := .idle, line := [], quiet := 0 } := by
  obtain ⟨state, _, _, _, _, _, _⟩ := p
  cases state <;> rfl

/-! ## The locks of the groups (R178) -/

theorem commandLocked_acceptFrame : commandLocked code fields l (acceptFrame l s) = commandLocked code fields l s := by
  unfold commandLocked
  simp only [locked_acceptFrame]

/-- The lock of a group on each link. -/
theorem locked_links (s : State) (ready : s.start.ready = true) (l : Link) :
    let silent := !s.prot.serviceUnlock
    let remote := !s.prot.remotePermission
    let child := s.settings.childLock
    (locked .run l s = match l with | .panel => child | .network => remote | .service => silent) ∧
      (locked .descale l s = match l with | .panel => child | .network => remote | .service => silent) ∧
      (locked .userSettings l s =
        match l with
        | .panel => child && decide (s.ret.run.state ≠ .idle)
        | .network => true
        | .service => silent) ∧
      (locked .service l s = match l with | .panel => true | .network => true | .service => silent) := by
  cases l with
  | panel =>
    refine ⟨rfl, rfl, ?_, rfl⟩
    show (s.settings.childLock && runActive s) = _
    unfold runActive
    rw [ready]
    rfl
  | network => exact ⟨rfl, rfl, rfl, rfl⟩
  | service => exact ⟨rfl, rfl, rfl, rfl⟩

theorem commandLocked_setting (fields : List Byte) :
    commandLocked 0x30 fields l s = locked (settingGroup (fields.headD 0).toNat) l s := rfl

end

end Sys2Proof.Machine

open Sys2Proof Sys2Proof.Machine

/-- Settles O54: every command of the catalogue meets the same tests, and the lock is that of its group. -/
theorem commandsAreDecidedInOrder : Obligations.CommandsAreDecidedInOrder := by
  refine ⟨fun i l code fields s link sound => ⟨fun closed => ?_, portOpen_iff, fun opened => ⟨fun unknown => ?_,
    fun known => ?_⟩⟩, earlyFault_iff, fun code fields l s ready => ?_, fun l code fields s opened => ?_⟩
  · obtain ⟨decision, runs⟩ := linkCommand_framed link sound
    rw [runs, ← discardFrame_eq]
    exact if_neg closed
  · rw [linkCommand_unknown link unknown]
    exact frame_refuses rfl opened rfl
  · obtain ⟨decision, runs, bad, good⟩ := linkCommand_decided link known sound
    refine ⟨fun wrong => frame_refuses (runs s) opened (bad wrong _), fun fits reads => ?_⟩
    obtain ⟨own, decided⟩ := good fits
    have refused {st : Status}
        (test : decideCommand true false (if earlyFault code fields then some .badArgument else none)
          (commandLocked code fields l s) own (acceptFrame l s) = refuse st (acceptFrame l s)) :
        Refuses i l code st s := by
      refine frame_refuses (runs s) opened ?_
      rw [decided, reads, commandLocked_acceptFrame]
      exact test
    unfold decideCommand at refused
    rw [acceptFrame_ready] at refused
    refine ⟨fun starting => refused ?_, fun ready => ⟨fun early => refused ?_, fun none lock => refused ?_⟩⟩
    · rw [starting]
      rfl
    · rw [ready, early]
      rfl
    · rw [ready, none, lock]
      rfl
  · obtain ⟨run, descale, user, service⟩ := locked_links s ready l
    intro setting is locks
    refine ⟨fun known => ?_, fun known => ?_, fun known => ?_, fun known => ?_, fun known => ?_, fun known => ?_⟩
    · simp only [List.mem_cons, List.not_mem_nil, or_false] at known
      rcases known with rfl | rfl | rfl | rfl | rfl | rfl | rfl | rfl <;> cases l <;> rfl
    · simp only [List.mem_cons, List.not_mem_nil, or_false] at known
      rcases known with rfl | rfl | rfl | rfl | rfl | rfl | rfl | rfl | rfl | rfl
      iterate 7 exact run
      iterate 3 exact descale
    · rcases known with known | ⟨rfl, number⟩
      · simp only [List.mem_cons, List.not_mem_nil, or_false] at known
        rcases known with rfl | rfl | rfl <;> exact user
      · have group : settingGroup (fields.headD 0).toNat = .userSettings :=
          if_pos (by simpa [List.mem_cons] using number)
        show commandLocked _ _ _ _ = _
        rw [commandLocked_setting, group]
        exact user
    · rcases known with known | ⟨rfl, number⟩
      · simp only [List.mem_cons, List.not_mem_nil, or_false] at known
        rcases known with rfl | rfl | rfl <;> exact service
      · have group : settingGroup (fields.headD 0).toNat = .service := by
          simp only [List.mem_cons, List.not_mem_nil, or_false] at number
          exact if_neg (by omega)
        show commandLocked _ _ _ _ = _
        rw [commandLocked_setting, group]
        exact service
    · subst known
      cases l <;> rfl
    · simp only [List.mem_cons, List.not_mem_nil, or_false] at known
      rcases known with rfl | rfl <;> cases l <;> rfl
  · obtain ⟨t, runs, replies, only⟩ :=
      frame_refuses (s := s) (l := l) (code := code) (i := .unknownCommand l code fields) rfl opened
        (st := .unknownCommand) rfl
    have events : attention t l = attention s l := by
      unfold attention
      rw [only]
    unfold Replies at replies
    refine ⟨t, runs, only, by rw [replies], by rw [replies], ?_⟩
    rw [replies, events]
    rfl

end


section
/-! SUPPORT. The commands of the group READ (R130, R134, R158, R188 to R191): their records field by field, and their
replies. -/

namespace Sys2Proof.Machine

section
variable {i : Instr} {l : Link} {code : Byte} {own : State → Reply × State} {s : State}

/-! ## Encodings (R187) -/

theorem bytes4_eq (n : Nat) :
    bytes4 n =
      [BitVec.ofNat 8 (n / 16777216), BitVec.ofNat 8 (n / 65536), BitVec.ofNat 8 (n / 256), BitVec.ofNat 8 n] := by
  have first : n / 65536 / 256 = n / 16777216 := by omega
  have third : BitVec.ofNat 8 (n % 65536 / 256) = BitVec.ofNat 8 (n / 256) :=
    BitVec.eq_of_toNat_eq (by rw [BitVec.toNat_ofNat, BitVec.toNat_ofNat]; omega)
  have last : BitVec.ofNat 8 (n % 65536) = BitVec.ofNat 8 n :=
    BitVec.eq_of_toNat_eq (by rw [BitVec.toNat_ofNat, BitVec.toNat_ofNat]; omega)
  show [BitVec.ofNat 8 (n / 65536 / 256), _, BitVec.ofNat 8 (n % 65536 / 256), BitVec.ofNat 8 (n % 65536)] = _
  rw [first, third, last]

theorem flagByte_eq (b : Bool) : flagByte b = [if b then 1 else 0] := by cases b <;> rfl

theorem optByte_eq (o : Option Nat) : optByte o = match o with | none => [0xFF] | some k => bytes1 k := by
  cases o <;> rfl

/-! ## The records -/

theorem strapsNumber_eq (p : Straps) :
    strapsNumber p =
      (if p.supply = .plumbed then 1 else 0) + (if p.probeFitted then 2 else 0) +
        (match p.budget with | .w2990 => 0 | .w3450 => 4 | .w3680 => 8) := by
  obtain ⟨supply, probeFitted, budget⟩ := p
  cases supply <;> cases probeFitted <;> cases budget <;> rfl

/-- GET_STATUS (R189). -/
theorem statusRecord_eq (s : State) :
    let straps := s.start.straps
    statusRecord s =
      flagByte s.start.ready ++ bytes1 s.start.kind.number ++ bytes2 s.start.outage ++ flagByte s.start.resumed ++
        bytes1 s.meas.frequency.number ++
        bytes1
          ((if straps.supply = .plumbed then 1 else 0) + (if straps.probeFitted then 2 else 0) +
            (match straps.budget with | .w2990 => 0 | .w3450 => 4 | .w3680 => 8)) ++
        bytes4 (min (s.now / 1000000) 4294967295) ++ bytes1 s.ret.run.state.number ++ bytes2 s.ret.run.runId := by
  dsimp only
  rw [← strapsNumber_eq]
  unfold statusRecord seconds
  rw [show second = 1000000 from rfl]

theorem statusRecord_length (s : State) : (statusRecord s).length = 14 := rfl

/-- The run's part of the snapshot: run state, run id, stage, remaining time and pause causes. -/
theorem snapshotRun_eq (r : RunContext) :
    let on := fun (b : Bool) (k : Nat) => if b then k else 0
    snapshotRun r =
      bytes1 r.state.number ++ bytes2 r.runId ++ (if r.known then bytes1 r.stageIndex else [0xFF]) ++
        bytes4
          (match r.state, r.duration with
            | .idle, _ => 0xFFFFFFFF | _, none => 0xFFFFFFFF | _, some d => d - r.elapsed) ++
        bytes1 (on r.causes.door 1 + on r.causes.water 2 + on r.causes.probe 4 + on r.causes.mains 8) := by
  intro on
  have stage : bytes1 (if r.known then r.stageIndex else absent1) =
      if r.known then bytes1 r.stageIndex else [0xFF] := by
    cases r.known <;> rfl
  have left : (if r.state = .idle then absent4 else (stageRemaining r).getD absent4) =
      match r.state, r.duration with
      | .idle, _ => 0xFFFFFFFF | _, none => 0xFFFFFFFF | _, some d => d - r.elapsed := by
    unfold stageRemaining
    cases r.state <;> cases r.duration <;> rfl
  have causes : causesNumber r.causes =
      on r.causes.door 1 + on r.causes.water 2 + on r.causes.probe 4 + on r.causes.mains 8 := rfl
  unfold snapshotRun
  rw [stage, left, causes]

theorem snapshotClimate_eq (c : Climate) :
    snapshotClimate c =
      bytes1 c.state.number ++
        (match c.record with
          | none => [0xFF, 0x80, 0] | some x => bytes1 x.mode.number ++ signedBytes2 x.setpoint) := by
  unfold snapshotClimate
  cases c.record <;> rfl

/-- GET_SNAPSHOT (R190). -/
theorem snapshotRecord_eq (s : State) :
    let r := s.ret.run
    let on := fun (b : Bool) (k : Nat) => if b then k else 0
    snapshotRecord s =
      bytes1 r.state.number ++ bytes2 r.runId ++ (if r.known then bytes1 r.stageIndex else [0xFF]) ++
        bytes4
          (match r.state, r.duration with
            | .idle, _ => 0xFFFFFFFF | _, none => 0xFFFFFFFF | _, some d => d - r.elapsed) ++
        bytes1 (on r.causes.door 1 + on r.causes.water 2 + on r.causes.probe 4 + on r.causes.mains 8) ++
        bytes1 s.climate.state.number ++
        (match s.climate.record with
          | none => [0xFF, 0x80, 0] | some x => bytes1 x.mode.number ++ signedBytes2 x.setpoint) ++
        signedBytes2 s.meas.cavity ++ bytes1 s.meas.moisture.toNat ++ signedBytes2 s.meas.core ++
        flagByte s.meas.probePresent ++ bytes1 s.boiler.state.number ++ bytes1 s.water.path.number ++
        bytes1 s.scale.level.number ++ bytes1 s.ret.descale.phase.number ++ flagByte s.marker ++
        bytes2 ((s.events.faults.map (fun f => 2 ^ (f.number - 1))).sum) ++
        bytes1
          (on s.settings.childLock 1 + on s.prot.remotePermission 2 + on s.prot.serviceUnlock 4) ++
        bytes1 s.meas.frequency.number ++ bytes1 s.share.currentGrants.top ++ bytes1 s.share.currentGrants.bottom ++
        bytes1 s.share.currentGrants.ring ++ bytes1 s.share.currentGrants.grill ++
        bytes1 s.share.currentGrants.boiler := by
  intro r on
  have locks : lockInputs s =
      on s.settings.childLock 1 + on s.prot.remotePermission 2 + on s.prot.serviceUnlock 4 := rfl
  unfold snapshotRecord snapshotMeasured grantBytes faultMask
  rw [snapshotRun_eq, snapshotClimate_eq, locks]
  simp only [List.append_assoc]
  rfl

theorem snapshotRecord_length (s : State) : (snapshotRecord s).length = 33 := by
  have climate : (snapshotClimate s.climate).length = 4 := by
    unfold snapshotClimate
    cases s.climate.record <;> rfl
  unfold snapshotRecord
  simp only [List.length_append, climate]
  rfl

theorem scaleRecord_length (s : State) : (scaleRecord s).length = 24 := rfl

/-- The stage record (R188). -/
theorem stageBytes_eq (st : Stage) :
    stageBytes st =
      bytes1 st.mode.number ++ signedBytes2 st.setpoint ++
        bytes1 (match st.moisture with | none => 0xFF | some h => h.toNat) ++ optByte st.fanCode ++
        bytes1 (match st.ending with | .time => 0 | .core => 1 | .reached => 2 | .confirm => 3) ++
        bytes4 (st.duration.getD 0xFFFFFFFF) ++
        (match st.core with | none => bytes2 0x8000 | some c => signedBytes2 c) ++ bytes2 (st.burst.getD 0xFFFF) ++
        bytes1 (match st.policy with | none => 0xFF | some .heatFirst => 0 | some .steamFirst => 1) ++
        bytes1 (match st.timerStart with | none => 0xFF | some .immediate => 0 | some .afterReached => 1) ++
        [0, 0] := by
  have moisture : (st.moisture.map Int.toNat).getD absent1 =
      match st.moisture with | none => 0xFF | some h => h.toNat := by
    cases st.moisture <;> rfl
  have ending : st.ending.number = match st.ending with | .time => 0 | .core => 1 | .reached => 2 | .confirm => 3 := by
    cases st.ending <;> rfl
  have policy : (st.policy.map Policy.number).getD absent1 =
      match st.policy with | none => 0xFF | some .heatFirst => 0 | some .steamFirst => 1 := by
    rcases st.policy with _ | (_ | _) <;> rfl
  have timer : (st.timerStart.map TimerStart.number).getD absent1 =
      match st.timerStart with | none => 0xFF | some .immediate => 0 | some .afterReached => 1 := by
    rcases st.timerStart with _ | (_ | _) <;> rfl
  rw [← moisture, ← ending, ← policy, ← timer]
  rfl

theorem settingValue_none (x : Settings) {n : Nat} (high : 20 < n) : settingValue x n = none := by
  obtain ⟨k, rfl⟩ := Nat.exists_eq_add_of_lt high
  rw [show 20 + k + 1 = k + 21 by omega]
  rfl

/-! ## The replies -/

/-- A command of the group READ is answered in every state (R178, R198). -/
theorem decideCommand_read (s : State) : decideCommand true true none false own s = own s := by
  unfold decideCommand
  cases s.start.ready <;> rfl

/-- A record that reads neither port nor silence timer is the reply, and nothing but the port has moved. -/
theorem read_replies {result : State → Reply} (runs : exec i s = onFrame l code (readCommand true result) s)
    (opened : portOpen s l) {r : Reply} (record : result (acceptFrame l s) = r) :
    ∃ t, exec i s = .next t ∧ Replies l code r s t ∧ OnlyPorts s t := by
  refine ⟨_, frame_answered runs opened (decideCommand_read _), ?_, ?_⟩
  · rw [← record]
    exact answer_replies rfl
  · unfold OnlyPorts answer
    rw [acceptFrame_eq]
    rfl

theorem ownLastRun_some {r : LastRun} (last : s.ret.lastRun = some r) :
    ownLastRun s = (⟨.ok, flagByte true ++ lastRunBytes r⟩, s) := by
  unfold ownLastRun
  rw [last]

theorem ownLastRun_none (absent : s.ret.lastRun = none) :
    ownLastRun s =
      (⟨.ok, flagByte false ++ absentRunBytes (Config.absentRecordByte s.draws)⟩, { s with draws := s.draws + 1 }) := by
  unfold ownLastRun
  rw [absent]

end

end Sys2Proof.Machine

open Sys2Proof Sys2Proof.Machine

/-- Settles O55: each record by its equation, and each reply by the record. -/
theorem readCommandsReply : Obligations.ReadCommandsReply := by
  refine ⟨fun n i b o => ⟨rfl, rfl, bytes4_eq n, rfl, rfl, flagByte_eq b, optByte_eq o⟩, by decide, stageBytes_eq,
    fun x => rfl, fun x => ⟨rfl, fun n => settingValue_none x⟩, fun l s opened => ?_⟩
  have settings : (acceptFrame l s).settings = s.settings := acceptFrame_settings l s
  have ret : (acceptFrame l s).ret = s.ret := acceptFrame_ret l s
  intro reads
  refine ⟨read_replies rfl opened ?_, statusRecord_length s, statusRecord_eq s, read_replies rfl opened ?_,
    snapshotRecord_length s, snapshotRecord_eq s, fun r last => ?_, fun absent => ?_,
    fun n slot => read_replies rfl opened ?_, fun n large => read_replies rfl opened ?_,
    fun n v value => read_replies rfl opened ?_, fun n unnamed => read_replies rfl opened ?_,
    read_replies rfl opened ?_, scaleRecord_length s, rfl⟩
  · rw [acceptFrame_eq]; rfl
  · rw [acceptFrame_eq]; rfl
  · have decided : ownLastRun (acceptFrame l s) = (⟨.ok, flagByte true ++ lastRunBytes r⟩, acceptFrame l s) :=
      ownLastRun_some (by rw [ret]; exact last)
    refine ⟨_, frame_answered rfl opened ((decideCommand_read _).trans decided), ?_, ?_⟩
    · have bytes : flagByte true ++ bytes2 r.runId ++ bytes1 r.slot ++ bytes2 r.generation ++ bytes1 r.result.number ++
            optByte (r.fault.map FaultKind.number) ++ bytes1 r.finalStage ++ bytes4 r.runTime ++
            flagByte r.degradedAny ++ bytes4 r.steamUsed = flagByte true ++ lastRunBytes r := rfl
      rw [bytes]
      exact answer_replies rfl
    · unfold OnlyPorts answer
      rw [acceptFrame_eq]
      rfl
  · have decided := ownLastRun_none (s := acceptFrame l s) (by rw [ret]; exact absent)
    refine ⟨_, _, _, _, _, _, _, _, _, _, frame_answered rfl opened ((decideCommand_read _).trans decided),
      answer_replies rfl, ?_⟩
    unfold OnlyPorts answer
    rw [acceptFrame_eq]
    rfl
  · unfold readSlotReply
    rw [if_neg (by omega), ret]
  · exact if_pos large
  · unfold readSettingReply
    rw [settings, value]
    rfl
  · unfold readSettingReply
    have none : settingValue s.settings n.toNat = none := by
      rcases unnamed with zero | high
      · rw [zero]; rfl
      · exact settingValue_none _ high
    rw [settings, none]
  · rw [acceptFrame_eq]; rfl

end


section
/-! SUPPORT. FETCH_EVENTS (R168): the entries that are returned and the queue that is left. -/

namespace Sys2Proof.Machine

section
variable {e : Entry} {n : Nat} {rest q : List Entry}

theorem fetch_reported (n : Nat) (read : e.reported = true) (rest : List Entry) :
    fetch n (e :: rest) = ((fetch n rest).1, e :: (fetch n rest).2) := by
  rw [fetch.eq_def]
  exact if_pos read

theorem fetch_full (fresh : e.reported = false) (rest : List Entry) : fetch 0 (e :: rest) = ([], e :: rest) := by
  rw [fetch, if_neg (by rw [fresh]; decide)]

theorem fetch_fresh (n : Nat) (fresh : e.reported = false) (rest : List Entry) :
    fetch (n + 1) (e :: rest) = (e :: (fetch n rest).1, e.afterReturn ++ (fetch n rest).2) := by
  rw [fetch, if_neg (by rw [fresh]; decide)]

theorem unreported_cons (e : Entry) (rest : List Entry) :
    unreported (e :: rest) = if e.reported then unreported rest else e :: unreported rest := by
  unfold unreported
  rw [List.filter_cons]
  cases e.reported <;> rfl

theorem unreported_append (p q : List Entry) : unreported (p ++ q) = unreported p ++ unreported q :=
  List.filter_append ..

theorem unreported_afterReturn (e : Entry) : unreported e.afterReturn = [] := by
  unfold Entry.afterReturn
  split <;> rfl

/-- The first unreported entries are returned and the others are left. -/
theorem fetch_splits (n : Nat) (q : List Entry) :
    (fetch n q).1 = (unreported q).take n ∧ unreported (fetch n q).2 = (unreported q).drop n := by
  induction q generalizing n with
  | nil => cases n <;> exact ⟨rfl, rfl⟩
  | cons e rest ih =>
    cases fresh : e.reported with
    | true =>
      obtain ⟨taken, left⟩ := ih n
      rw [fetch_reported n fresh, unreported_cons, unreported_cons, fresh]
      exact ⟨taken, left⟩
    | false =>
      rw [unreported_cons, fresh]
      cases n with
      | zero =>
        rw [fetch_full fresh, unreported_cons, fresh]
        exact ⟨rfl, rfl⟩
      | succ n =>
        obtain ⟨taken, left⟩ := ih n
        rw [fetch_fresh n fresh, unreported_append, unreported_afterReturn, taken, left]
        exact ⟨rfl, rfl⟩

/-- What the returned part of a queue leaves of an entry. -/
def Entry.passed (e : Entry) : List Entry := if e.reported then [e] else e.afterReturn

theorem Entry.passed_eq (e : Entry) :
    e.passed =
      if e.reported then [e]
      else
        match e.standing with
        | .edge => []
        | .holding => [{ e with reported := true }]
        | .ended => [] := by
  unfold Entry.passed Entry.afterReturn
  cases e.standing <;> rfl

/-- A fetch passes over a head of the queue, which holds what it returns, and leaves the rest as it is. -/
theorem fetch_passes (n : Nat) (q : List Entry) :
    ∃ passed kept : List Entry, q = passed ++ kept ∧ unreported passed = (fetch n q).1 ∧
      (kept = [] ∨ (fetch n q).1.length = n) ∧ (fetch n q).2 = passed.flatMap Entry.passed ++ kept := by
  induction q generalizing n with
  | nil => exact ⟨[], [], rfl, by cases n <;> rfl, .inl rfl, by cases n <;> rfl⟩
  | cons e rest ih =>
    cases fresh : e.reported with
    | true =>
      obtain ⟨passed, kept, split, returned, ends, left⟩ := ih n
      have own : e.passed = [e] := if_pos fresh
      rw [fetch_reported n fresh]
      refine ⟨e :: passed, kept, by rw [split]; rfl, ?_, ends, ?_⟩
      · rw [unreported_cons, fresh]
        exact returned
      · rw [left, List.flatMap_cons, own]
        rfl
    | false =>
      cases n with
      | zero => exact ⟨[], e :: rest, rfl, by rw [fetch_full fresh]; rfl, .inr (by rw [fetch_full fresh]; rfl), by
          rw [fetch_full fresh]; rfl⟩
      | succ n =>
        obtain ⟨passed, kept, split, returned, ends, left⟩ := ih n
        have own : e.passed = e.afterReturn := if_neg (by rw [fresh]; decide)
        rw [fetch_fresh n fresh]
        refine ⟨e :: passed, kept, by rw [split]; rfl, ?_, ends.imp id fun many => congrArg (· + 1) many, ?_⟩
        · rw [unreported_cons, fresh, ← returned]
          rfl
        · rw [left, List.flatMap_cons, own, List.append_assoc]

/-- A reported entry stays. -/
theorem fetch_keeps (n : Nat) {q : List Entry} (member : e ∈ q) (read : e.reported = true) : e ∈ (fetch n q).2 := by
  obtain ⟨passed, kept, split, -, -, left⟩ := fetch_passes n q
  rw [left, List.mem_append, List.mem_flatMap]
  rw [split] at member
  exact (List.mem_append.mp member).imp_left fun passes =>
    ⟨e, passes, by rw [Entry.passed, if_pos read]; exact List.mem_singleton_self e⟩

/-- A returned entry whose condition holds stays as a reported one. -/
theorem fetch_marks (n : Nat) {q : List Entry} (returned : e ∈ (fetch n q).1) (holds : e.standing = .holding) :
    { e with reported := true } ∈ (fetch n q).2 := by
  obtain ⟨passed, kept, -, taken, -, left⟩ := fetch_passes n q
  rw [← taken] at returned
  obtain ⟨passes, fresh⟩ := List.mem_filter.mp returned
  rw [left, List.mem_append, List.mem_flatMap]
  refine .inl ⟨e, passes, ?_⟩
  rw [Entry.passed, if_neg (by simpa using fresh), Entry.afterReturn, holds]
  exact List.mem_singleton_self _

end

theorem entryBytes_eq (e : Entry) :
    entryBytes e =
      bytes1 e.kind.number ++ bytes1 e.count ++ bytes4 e.time ++
        [match e.argument with | none => 0xFF | some a => a,
          match e.standing with | .edge => 0 | .holding => 1 | .ended => 2] := by
  have argument : e.argument.getD 0xFF = match e.argument with | none => 0xFF | some a => a := by
    cases e.argument <;> rfl
  have standing : bytes1 e.standing.number =
      [match e.standing with | .edge => 0 | .holding => 1 | .ended => 2] := by
    cases e.standing <;> rfl
  unfold entryBytes
  rw [argument, standing, List.append_assoc]
  rfl

theorem ownFetch_taken {l : Link} {m : Nat} {s : State} (some : 0 < m) :
    ownFetch l m s =
      (⟨if 8 < m then .clamped else .ok,
          bytes1 (fetch (min m 8) (s.events.queues.get l)).1.length ++
            (fetch (min m 8) (s.events.queues.get l)).1.flatMap entryBytes ++
            bytes1 (unreported (fetch (min m 8) (s.events.queues.get l)).2).length⟩,
        setQueue l (fetch (min m 8) (s.events.queues.get l)).2 s) := by
  have status : clampedStatus (decide (8 < m)) = if 8 < m then .clamped else .ok := by
    unfold clampedStatus
    simp only [decide_eq_true_eq]
  unfold ownFetch
  rw [if_neg (by omega), status]

end Sys2Proof.Machine

end

section
/-! SUPPORT. SET_STEERING (R165): the sets that the named kinds take, and the conditions that joining links are
given. -/

namespace Sys2Proof.Machine

section
variable {k k' : EventKind} {s t u : State}

/-! ## The kinds by their numbers -/

theorem ofNumber_number (k : EventKind) : EventKind.ofNumber k.number = some k := by cases k <;> rfl

theorem number_of_ofNumber {n : Nat} (named : EventKind.ofNumber n = some k) : k.number = n := by
  unfold EventKind.ofNumber at named
  split at named <;> cases named <;> rfl

theorem number_bounds (k : EventKind) : 1 ≤ k.number ∧ k.number ≤ 24 := by cases k <;> decide

theorem number_inj (same : k.number = k'.number) : k = k' := by
  have named := ofNumber_number k
  rw [same, ofNumber_number] at named
  exact (Option.some.inj named).symm

/-- The table with one kind's set replaced. -/
theorem steeringOf_set {table : List LinkSet} (whole : table.length = 24) (k : EventKind) (set : LinkSet)
    (k' : EventKind) :
    steeringOf (table.set (k.number - 1) set) k' = if k' = k then set else steeringOf table k' := by
  obtain ⟨low, high⟩ := number_bounds k
  obtain ⟨low', -⟩ := number_bounds k'
  unfold steeringOf
  rw [List.getD_eq_getElem?_getD, List.getElem?_set]
  by_cases same : k' = k
  · rw [same, if_pos rfl, if_pos (by omega), if_pos rfl]
    rfl
  · have apart : k.number - 1 ≠ k'.number - 1 := fun eq => same (number_inj (by omega)).symm
    rw [if_neg apart, if_neg same, List.getD_eq_getElem?_getD]

/-! ## The raise of a condition in one queue -/

theorem filter_placeEntry_same (k : EventKind) (a : Option Byte) (n : Nat) (q : List Entry) :
    (placeEntry k a n q).filter (fun e => decide (e.kind = k)) =
      placeEntry k a n (q.filter (fun e => decide (e.kind = k))) := by
  induction q with
  | nil => simp [placeEntry]
  | cons x rest ih =>
    rw [placeEntry]
    by_cases own : x.kind = k
    · simp [own, placeEntry]
    · rw [if_neg own, List.filter_cons_of_neg (by simpa using own), List.filter_cons_of_neg (by simpa using own), ih]

theorem placeEntry_appends (k : EventKind) (a : Option Byte) (n : Nat) (q : List Entry) :
    ∃ added : List EventKind, (placeEntry k a n q).map Entry.kind = q.map Entry.kind ++ added := by
  rw [placeEntry_kinds]
  split
  · exact ⟨[], (List.append_nil _).symm⟩
  · exact ⟨[k], rfl⟩

/-! ## One kind's new set -/

/-- A link joins the set of a kind whose condition holds. -/
def Joins (s u : State) (q : Link) (k : EventKind) : Prop :=
  (steeringOf s.events.steering k).get q = false ∧ (steeringOf u.events.steering k).get q = true ∧
    conditionHolds k s = true

theorem addedLinks_get (old new : LinkSet) (q : Link) : (addedLinks old new).get q = (new.get q && !old.get q) := by
  cases q <;> rfl

/-- A queue stays, or its link is one that joins while the condition holds, and it is given the condition. -/
theorem steer_queue (k : EventKind) (set : LinkSet) (s : State) (q : Link) :
    (s.events.conditions.find? (fun c => decide (c.kind = k)) = none ∧
        (steer k set s).events.queues.get q = s.events.queues.get q) ∨
      ∃ c, s.events.conditions.find? (fun c => decide (c.kind = k)) = some c ∧
        (steer k set s).events.queues.get q =
          if set.get q && !(steeringOf s.events.steering k).get q then
            placeEntry k c.argument (seconds s) (s.events.queues.get q)
          else s.events.queues.get q := by
  unfold steer
  dsimp only
  split
  · next none => exact .inl ⟨none, rfl⟩
  · next c found => exact .inr ⟨c, found, by rw [placeInSet_get, addedLinks_get]⟩

theorem steer_steering (whole : s.events.steering.length = 24) (k : EventKind) (set : LinkSet) (k' : EventKind) :
    steeringOf (steer k set s).events.steering k' = if k' = k then set else steeringOf s.events.steering k' :=
  steeringOf_set whole k set k'

theorem steer_joins {set : LinkSet} {c : Condition} {q : Link} (whole : s.events.steering.length = 24)
    (joins : Joins s (steer k set s) q k)
    (holds : s.events.conditions.find? (fun c => decide (c.kind = k)) = some c) :
    (steer k set s).events.queues.get q = placeEntry k c.argument (seconds s) (s.events.queues.get q) := by
  obtain ⟨was, is, -⟩ := joins
  rw [steer_steering whole, if_pos rfl] at is
  rcases steer_queue k set s q with ⟨none, -⟩ | ⟨c', found, queue⟩
  · exact absurd (holds.symm.trans none) nofun
  · obtain rfl : c = c' := Option.some.inj (holds.symm.trans found)
    rw [queue, was, is]
    rfl

theorem steer_stays {set : LinkSet} {q : Link} (whole : s.events.steering.length = 24)
    (stays : ¬Joins s (steer k set s) q k) : (steer k set s).events.queues.get q = s.events.queues.get q := by
  rcases steer_queue k set s q with ⟨-, queue⟩ | ⟨c, found, queue⟩
  · exact queue
  · refine queue.trans (if_neg fun added => stays ?_)
    obtain ⟨is, was⟩ := Bool.and_eq_true_iff.mp added
    have member := List.mem_of_find?_eq_some found
    have own : c.kind = k := by simpa using List.find?_some found
    refine ⟨by simpa using was, ?_, List.any_eq_true.mpr ⟨c, member, decide_eq_true own⟩⟩
    rw [steer_steering whole, if_pos rfl]
    exact is

/-! ## The pairs one after another -/

/-- SET_STEERING has led from `s` to `u` by `pairs`. -/
structure Steered (pairs : List (Nat × Nat)) (s u : State) : Prop where
  only : u = { s with events := u.events }
  faults : u.events.faults = s.events.faults
  conditions : u.events.conditions = s.events.conditions
  named : ∀ p ∈ pairs, ∀ k : EventKind, EventKind.ofNumber p.1 = some k →
    steeringOf u.events.steering k = linkSetOfMask p.2
  others : ∀ k : EventKind, (∀ p ∈ pairs, p.1 ≠ k.number) →
    steeringOf u.events.steering k = steeringOf s.events.steering k
  given : ∀ (q : Link) (k : EventKind) (c : Condition), Joins s u q k →
    s.events.conditions.find? (fun c => decide (c.kind = k)) = some c →
      (u.events.queues.get q).filter (fun e => decide (e.kind = k)) =
        placeEntry k c.argument (seconds s) ((s.events.queues.get q).filter (fun e => decide (e.kind = k)))
  kept : ∀ (q : Link) (k : EventKind), ¬Joins s u q k →
    (u.events.queues.get q).filter (fun e => decide (e.kind = k)) =
      (s.events.queues.get q).filter (fun e => decide (e.kind = k))
  still : ∀ q : Link, (∀ k : EventKind, ¬Joins s u q k) → u.events.queues.get q = s.events.queues.get q
  order : ∀ q : Link, ∃ added : List EventKind,
    (u.events.queues.get q).map Entry.kind = (s.events.queues.get q).map Entry.kind ++ added

theorem joins_irrefl (q : Link) (k : EventKind) : ¬Joins s s q k :=
  fun ⟨was, is, _⟩ => Bool.noConfusion (was.symm.trans is)

theorem Steered.refl (s : State) : Steered [] s s where
  only := rfl
  faults := rfl
  conditions := rfl
  named _ member := nomatch member
  others _ _ := rfl
  given q k _ joins := absurd joins (joins_irrefl q k)
  kept _ _ _ := rfl
  still _ _ := rfl
  order _ := ⟨[], (List.append_nil _).symm⟩

/-- A pair before pairs that do not name its kind. -/
theorem Steered.cons {rest : List (Nat × Nat)} {n m : Nat} (whole : s.events.steering.length = 24)
    (name : EventKind.ofNumber n = some k) (once : ∀ p ∈ rest, p.1 ≠ n)
    (h : Steered rest (steer k (linkSetOfMask m) s) u) : Steered ((n, m) :: rest) s u := by
  have number := number_of_ofNumber name
  generalize first : steer k (linkSetOfMask m) s = t at h
  have own : steeringOf t.events.steering k = linkSetOfMask m := by
    rw [← first, steer_steering whole, if_pos rfl]
  have other {k' : EventKind} (differs : k' ≠ k) :
      steeringOf t.events.steering k' = steeringOf s.events.steering k' := by
    rw [← first, steer_steering whole, if_neg differs]
  have unnamed : steeringOf u.events.steering k = steeringOf t.events.steering k :=
    h.others k fun p member => by rw [number]; exact once p member
  have conditions : t.events.conditions = s.events.conditions := by rw [← first]; rfl
  have time : seconds t = seconds s := by rw [← first]; rfl
  have holds (k' : EventKind) : conditionHolds k' t = conditionHolds k' s := by
    unfold conditionHolds
    rw [conditions]
  have joinsFirst (q : Link) : Joins s u q k ↔ Joins s t q k := by
    unfold Joins
    rw [unnamed]
  have settled (q : Link) : ¬Joins t u q k := fun ⟨was, is, _⟩ => by
    rw [unnamed, was] at is
    exact Bool.noConfusion is
  have joinsLater {k' : EventKind} (differs : k' ≠ k) (q : Link) : Joins s u q k' ↔ Joins t u q k' := by
    unfold Joins
    rw [other differs, holds]
  have queueOf {k' : EventKind} (differs : k' ≠ k) (q : Link) :
      (t.events.queues.get q).filter (fun e => decide (e.kind = k')) =
        (s.events.queues.get q).filter (fun e => decide (e.kind = k')) := by
    rw [← first]
    rcases steer_queue k (linkSetOfMask m) s q with ⟨-, queue⟩ | ⟨c, -, queue⟩
    · rw [queue]
    · rw [queue]
      split
      · exact filter_placeEntry_other differs _ _ _
      · rfl
  refine ⟨?_, ?_, h.conditions.trans conditions, fun p member k' named => ?_, fun k' absent => ?_,
    fun q k' c joins found => ?_, fun q k' stays => ?_, fun q stays => ?_, fun q => ?_⟩
  · rw [h.only, ← first]
    rfl
  · rw [h.faults, ← first]
    rfl
  · rcases List.mem_cons.mp member with rfl | later
    · obtain rfl : k = k' := Option.some.inj (name.symm.trans named)
      rw [unnamed, own]
    · exact h.named p later k' named
  · obtain ⟨apart, others⟩ := List.forall_mem_cons.mp absent
    have differs : k' ≠ k := fun same => apart (by rw [same, number])
    rw [h.others k' others, other differs]
  · by_cases same : k' = k
    · subst same
      rw [h.kept q k' (settled q), ← filter_placeEntry_same, ← first]
      exact congrArg _ (steer_joins whole (by rw [first]; exact (joinsFirst q).mp joins) found)
    · rw [h.given q k' c ((joinsLater same q).mp joins) (by rw [conditions]; exact found), time, queueOf same]
  · by_cases same : k' = k
    · subst same
      rw [h.kept q k' (settled q), ← first]
      exact congrArg _ (steer_stays whole (by rw [first]; exact fun joins => stays ((joinsFirst q).mpr joins)))
    · rw [h.kept q k' fun joins => stays ((joinsLater same q).mpr joins), queueOf same]
  · have later : ∀ k' : EventKind, ¬Joins t u q k' := fun k' joins => by
      by_cases same : k' = k
      · exact settled q (same ▸ joins)
      · exact stays k' ((joinsLater same q).mpr joins)
    rw [h.still q later, ← first]
    exact steer_stays whole (by rw [first]; exact fun joins => stays k ((joinsFirst q).mpr joins))
  · obtain ⟨added, order⟩ := h.order q
    have placed : ∃ new : List EventKind,
        (t.events.queues.get q).map Entry.kind = (s.events.queues.get q).map Entry.kind ++ new := by
      rw [← first]
      rcases steer_queue k (linkSetOfMask m) s q with ⟨-, queue⟩ | ⟨c, -, queue⟩
      · exact ⟨[], by rw [queue, List.append_nil]⟩
      · rw [queue]
        split
        · exact placeEntry_appends ..
        · exact ⟨[], (List.append_nil _).symm⟩
    obtain ⟨new, place⟩ := placed
    exact ⟨new ++ added, by rw [order, place, List.append_assoc]⟩

theorem steerPairs_steered {pairs : List (Nat × Nat)} (good : pairs.any badPair = false)
    (once : namedTwice pairs = false) (whole : s.events.steering.length = 24) :
    Steered pairs s (steerPairs pairs s) := by
  induction pairs generalizing s with
  | nil => exact .refl s
  | cons p rest ih =>
    obtain ⟨n, m⟩ := p
    rw [List.any_cons, Bool.or_eq_false_iff] at good
    obtain ⟨sound, good⟩ := good
    obtain ⟨apart, once⟩ := Bool.or_eq_false_iff.mp (show (_ || _) = false from once)
    have named : (EventKind.ofNumber n).isNone = false := (Bool.or_eq_false_iff.mp sound).1
    obtain ⟨k, name⟩ : ∃ k, EventKind.ofNumber n = some k :=
      Option.isSome_iff_exists.mp (by simpa [← Option.not_isSome] using named)
    have stepped : steerPairs ((n, m) :: rest) s = steerPairs rest (steer k (linkSetOfMask m) s) := by
      rw [steerPairs, name]
    rw [stepped]
    refine Steered.cons whole name (fun q member same => ?_) (ih good once ?_)
    · exact Bool.noConfusion ((List.any_eq_true.mpr ⟨q, member, decide_eq_true same⟩).symm.trans apart)
    · exact (List.length_set ..).trans whole

end

end Sys2Proof.Machine

end

section
/-! SUPPORT. CLEAR_FAULTS (R171): the members that leave, and what the units do once they have left. -/

namespace Sys2Proof.Machine

section
variable {s v : State}

/-! ## The removals -/

theorem leaveFault_faults (f : FaultKind) (s : State) :
    (leaveFault f s).events.faults = s.events.faults.filter (fun g => decide (g ≠ f)) := by
  unfold leaveFault
  dsimp only
  split
  · split
    · next gone => exact gone.symm ▸ gone.symm
    · rfl
  · next absent =>
    refine (List.filter_eq_self.mpr fun g member => ?_).symm
    have differs : g ≠ f := fun same => absent (hasFault_iff.mpr (same ▸ member))
    exact decide_eq_true differs

/-- One member is tested. -/
def clearFault (s : State) (f : FaultKind) : State := if clearable f s then leaveFault f s else s

theorem clearFault_only (s : State) (f : FaultKind) :
    clearFault s f = { s with events := (clearFault s f).events } := by
  unfold clearFault
  split
  · rw [leaveFault_only]
  · rfl

theorem clearFault_faults (s : State) (f : FaultKind) :
    (clearFault s f).events.faults = s.events.faults.filter (fun g => !(decide (g = f) && clearable g s)) := by
  unfold clearFault
  by_cases clears : clearable f s = true
  · rw [if_pos clears, leaveFault_faults]
    refine List.filter_congr fun g _ => ?_
    by_cases same : g = f
    · subst same; simp [clears]
    · simp [same]
  · rw [if_neg clears]
    refine (List.filter_eq_self.mpr fun g _ => ?_).symm
    by_cases same : g = f
    · subst same; simp [clears]
    · simp [same]

/-- Every member of a list is tested in turn, by readings that the removals do not move. -/
theorem clearFaults_fold (fs : List FaultKind) (s : State) :
    fs.foldl clearFault s = { s with events := (fs.foldl clearFault s).events } ∧
      (fs.foldl clearFault s).events.faults =
        s.events.faults.filter (fun g => !(decide (g ∈ fs) && clearable g s)) := by
  induction fs generalizing s with
  | nil => exact ⟨rfl, by simp⟩
  | cons f rest ih =>
    obtain ⟨only, faults⟩ := ih (clearFault s f)
    have first := clearFault_only s f
    have reads : ∀ g, clearable g (clearFault s f) = clearable g s := fun g => by
      rw [first]
      cases g <;> rfl
    rw [List.foldl_cons]
    refine ⟨?_, ?_⟩
    · rw [only, first]
    · rw [faults, clearFault_faults, List.filter_filter]
      refine List.filter_congr fun g _ => ?_
      rw [reads]
      by_cases same : g = f
      · subst same; cases clearable g s <;> simp
      · simp [same]

/-- Only the latched members can leave by the command. -/
theorem latched_of_clearable {f : FaultKind} (clears : clearable f s = true) : f ∈ latchedFaults := by
  cases f
  case thermalCutout | heatRunaway | boilerDry | fanStall | levelSense => decide
  all_goals cases clears

theorem removeFaults_eq (s : State) :
    removeFaults s = { s with events := (removeFaults s).events } ∧
      (removeFaults s).events.faults = s.events.faults.filter (fun f => !clearable f s) := by
  obtain ⟨only, faults⟩ := clearFaults_fold latchedFaults s
  refine ⟨only, faults.trans (List.filter_congr fun f _ => ?_)⟩
  cases clears : clearable f s with
  | false => simp
  | true => rw [decide_eq_true (latched_of_clearable clears)]; rfl

/-! ## The units after the removals (R43, R73, R105) -/

/-- HEAT_RUNAWAY has gone while the regulator is in FAULT. -/
def Cools (v : State) : Prop := v.climate.state = .fault ∧ hasFault .heatRunaway v = false

/-- The regulator's outputs in OFF. -/
theorem leaveClimateFault_eq (cools : Cools v) :
    leaveClimateFault v =
      requestVent .closed (issueFan 0 (askRelay false (setClimate { v.climate with state := .off } v))) :=
  if_pos cools

theorem leaveClimateFault_stays (stays : ¬Cools v) : leaveClimateFault v = v := if_neg stays

theorem issueFan_stop (s : State) :
    (issueFan 0 s).out.fan.code = 0 ∧
      (s.out.fan.phase = .running →
        (issueFan 0 s).out.fan.phase = .stopped ∧ (issueFan 0 s).out.fan.duty = 0) ∧
      (s.out.fan.phase ≠ .running → (issueFan 0 s).out.fan = { s.out.fan with code := 0 }) := by
  refine ⟨issueFan_code 0 s, fun runs => ?_, fun rests => ?_⟩
  · have stopped : issueFan 0 s = setFan (FanDrive.stop { s.out.fan with code := 0 }) _ := if_pos runs
    rw [stopped]
    exact ⟨rfl, rfl⟩
  · have coded : issueFan 0 s = setFan { s.out.fan with code := 0 } s := if_neg rests
    rw [coded]
    rfl

/-- The regulator leaves FAULT for OFF: its fan code is 0 and its vent request is for CLOSED (R43). -/
theorem leaveClimateFault_cools (cools : Cools v) :
    let u := leaveClimateFault v
    u.climate = { v.climate with state := .off, relayAsk := false } ∧ u.out.fan.code = 0 ∧
      (v.out.fan.phase = .running → u.out.fan.phase = .stopped ∧ u.out.fan.duty = 0) ∧
      (v.out.fan.phase ≠ .running → u.out.fan = { v.out.fan with code := 0 }) ∧
      u.out.vent = ventAfter .closed v := by
  have fan := issueFan_stop (askRelay false (setClimate { v.climate with state := .off } v))
  have code := issueFan_eq 0 (askRelay false (setClimate { v.climate with state := .off } v))
  dsimp only
  rw [leaveClimateFault_eq cools, requestVent_climate, requestVent_out]
  refine ⟨?_, fan.1, fan.2.1, fan.2.2, ?_⟩
  · rw [code]
    rfl
  · exact ventAfter_congr .closed (by rw [code]; rfl) (by rw [code]; rfl)

/-- The regulator's part touches neither the boiler nor the readings, and of the fault set VENT_STUCK alone. -/
theorem leaveClimateFault_others (v : State) :
    (leaveClimateFault v).boiler = v.boiler ∧ (leaveClimateFault v).inputs = v.inputs ∧
      ∀ f : FaultKind, f ≠ .ventStuck → hasFault f (leaveClimateFault v) = hasFault f v := by
  by_cases cools : Cools v
  · have code := issueFan_eq 0 (askRelay false (setClimate { v.climate with state := .off } v))
    rw [leaveClimateFault_eq cools, requestVent_boiler, requestVent_inputs]
    refine ⟨by rw [code]; rfl, by rw [code]; rfl, fun f other => ?_⟩
    rw [requestVent_hasFault .closed other, code]
    rfl
  · rw [leaveClimateFault_stays cools]
    exact ⟨rfl, rfl, fun _ _ => rfl⟩

/-- A STOPPED fan with a code above 0 that nothing holds (R73, R74). -/
def Starts (v : State) : Prop :=
  v.out.fan.phase = .stopped ∧ 0 < v.out.fan.code ∧ doorOpen v = false ∧ hasFault .fanStall v = false

theorem startFan_starts (starts : Starts v) :
    startFan v = setFan { v.out.fan with duty := 400, phase := .running, stallTimer := 0 } v := by
  obtain ⟨stopped, code, shut, runs⟩ := starts
  exact if_pos ⟨stopped, code, by unfold fanHeld; rw [shut, runs]; rfl⟩

theorem startFan_rests (rests : ¬Starts v) : startFan v = v :=
  if_neg fun ⟨stopped, code, free⟩ => rests ⟨stopped, code, Bool.or_eq_false_iff.mp free⟩

/-- Neither fault that a dry boiler waits for remains (R105). -/
def LeavesDry (v : State) : Prop :=
  v.boiler.state = .dryFault ∧ hasFault .boilerDry v = false ∧ hasFault .levelSense v = false

theorem leavesDry_congr {t : State} (boiler : t.boiler = v.boiler)
    (dry : hasFault .boilerDry t = hasFault .boilerDry v) (level : hasFault .levelSense t = hasFault .levelSense v) :
    LeavesDry t ↔ LeavesDry v := by
  unfold LeavesDry
  rw [boiler, dry, level]

theorem leaveDryFault_leaves (leaves : LeavesDry v) : leaveDryFault v = enterBoiler (boilerByLevel v) v :=
  if_pos leaves

theorem leaveDryFault_stays (stays : ¬LeavesDry v) : leaveDryFault v = v := if_neg stays

theorem leaveDryFault_reacts (v : State) : BoilerReacts v (leaveDryFault v) :=
  .ite (enterBoiler_reacts _ (.refl v)) (.refl v)

/-- The three units after the removals, each on what the one before it leaves. -/
theorem afterRemovals_units (v : State) :
    let u := leaveDryFault (startFan (leaveClimateFault v))
    (Cools v → u.climate = { v.climate with state := .off, relayAsk := false } ∧ u.out.fan.code = 0 ∧
      (v.out.fan.phase = .running → u.out.fan.phase = .stopped ∧ u.out.fan.duty = 0) ∧
      (v.out.fan.phase ≠ .running → u.out.fan = { v.out.fan with code := 0 }) ∧
      u.out.vent.state.isFor .closed = true ∧ VentAsked .closed v u) ∧
    (¬Cools v → u.climate = v.climate ∧ u.out.vent = v.out.vent ∧
      (Starts v → u.out.fan = { v.out.fan with duty := 400, phase := .running, stallTimer := 0 }) ∧
      (¬Starts v → u.out.fan = v.out.fan)) ∧
    (LeavesDry v → u.boiler.state = if lowCovered v then .heating else .empty) ∧
    (¬LeavesDry v → u.boiler = v.boiler) ∧
    ∀ f : FaultKind, f ≠ .ventStuck → (f ∈ u.events.faults ↔ f ∈ v.events.faults) := by
  obtain ⟨boiler, inputs, faults⟩ := leaveClimateFault_others v
  obtain ⟨fan, started⟩ := startFan_eq (leaveClimateFault v)
  have dry := leaveDryFault_reacts (startFan (leaveClimateFault v))
  have leaves : LeavesDry (startFan (leaveClimateFault v)) ↔ LeavesDry v := by
    rw [started]
    exact leavesDry_congr boiler (faults .boilerDry (by decide)) (faults .levelSense (by decide))
  refine ⟨fun cools => ?_, fun stays => ?_, fun dries => ?_, fun stays => ?_, fun f other => ?_⟩
  · obtain ⟨climate, code, stops, coded, vent⟩ := leaveClimateFault_cools cools
    have still : startFan (leaveClimateFault v) = leaveClimateFault v :=
      startFan_rests fun ⟨_, above, _⟩ => absurd code (Nat.ne_of_gt above)
    rw [still] at dry ⊢
    rw [dry.climate, dry.out]
    refine ⟨climate, code, stops, coded, by rw [vent]; exact ventAfter_isFor .closed v, ?_⟩
    rw [ventAsked_iff, dry.out, vent]
  · rw [leaveClimateFault_stays stays] at dry ⊢
    rw [dry.climate, dry.out]
    by_cases starts : Starts v
    · rw [startFan_starts starts]
      exact ⟨rfl, rfl, fun _ => rfl, fun rests => absurd starts rests⟩
    · rw [startFan_rests starts]
      exact ⟨rfl, rfl, fun runs => absurd runs starts, fun _ => rfl⟩
  · rw [leaveDryFault_leaves (leaves.mpr dries), enterBoiler_state, started]
    show (if (leaveClimateFault v).inputs.boilerLow.reading then BoilerState.heating else .empty) = _
    rw [inputs]
    rfl
  · rw [leaveDryFault_stays fun dries => stays (leaves.mp dries), started]
    exact boiler
  · have same := faults f other
    rw [Bool.eq_iff_iff, hasFault_iff, hasFault_iff] at same
    rw [dry.faults, started]
    exact same

end

end Sys2Proof.Machine

open Sys2Proof Sys2Proof.Machine

/-- Settles O56: the queue by `fetch_passes`, the sets by `steerPairs_steered`, and the units after the removals one by
one. -/
theorem eventCommands : Obligations.EventCommands := by
  refine ⟨entryBytes_eq, by decide, fun l m s opened => ⟨fun zero => ?_, fun some => ?_⟩,
    fun l n rest pairs s parsed reaches => ?_, fun v => ?_, fun l s reaches => ?_⟩
  · exact frame_refuses rfl opened ((decideCommand_read _).trans (if_pos zero))
  · have events : (acceptFrame l s).events = s.events := by rw [acceptFrame_eq]
    have taken := ownFetch_taken (l := l) (s := acceptFrame l s) some
    rw [events] at taken
    obtain ⟨passed, kept, split, returned, ends, left⟩ := fetch_passes (min m.toNat 8) (s.events.queues.get l)
    obtain ⟨first, others⟩ := fetch_splits (min m.toNat 8) (s.events.queues.get l)
    refine ⟨_, _, frame_answered rfl opened ((decideCommand_read _).trans taken), first, others,
      ⟨passed, kept, split, returned, ends, ?_⟩, fun e member read => fetch_keeps _ member read,
      fun e returned holds => fetch_marks _ returned holds⟩
    rw [left]
    exact congrArg (· ++ kept) (List.flatMap_congr fun e _ => e.passed_eq)
  · obtain ⟨opened, ready, unlocked⟩ := reaches
    have runs : exec (.setSteering l (n :: rest)) s =
        onFrame l 0x34 (groupCommand .userSettings l true (ownSteering pairs)) s := by
      show execSetSteering l (n :: rest) s = _
      unfold execSetSteering
      dsimp only
      rw [parsed]
    have owned : OwnedBy (.setSteering l (n :: rest)) l 0x34 .userSettings (ownSteering pairs) s :=
      ⟨runs, opened, ready, unlocked⟩
    refine ⟨fun bad => owned.refuses (if_pos bad), fun good whole => ?_⟩
    have taken := owned.answered (if_neg good)
    obtain ⟨p, q, accepted⟩ := acceptFrame_only l s
    have events : (acceptFrame l s).events = s.events := by rw [accepted]
    have steered : Steered pairs (acceptFrame l s) (steerPairs pairs (acceptFrame l s)) := by
      obtain ⟨-, -, sound, once⟩ : _ ∧ _ ∧ pairs.any badPair = false ∧ namedTwice pairs = false := by
        simpa only [not_or, Bool.not_eq_true] using good
      exact steerPairs_steered sound once (by rw [events]; exact whole)
    refine ⟨_, taken, ?_⟩
    generalize steerPairs pairs (acceptFrame l s) = u at steered
    rw [accepted] at steered ⊢
    exact ⟨steered.only, steered.faults, steered.conditions, steered.named, steered.others, fun q =>
      ⟨steered.given q, steered.kept q, steered.still q, steered.order q⟩⟩
  · obtain ⟨cools, warm, leaves, stays, faults⟩ := afterRemovals_units v
    refine ⟨cools, fun not => ?_, leaves, stays, faults⟩
    obtain ⟨climate, vent, runs, rests⟩ := warm not
    refine ⟨climate, vent, ?_⟩
    by_cases starts : Starts v
    · exact (runs starts).trans (if_pos starts).symm
    · exact (rests starts).trans (if_neg starts).symm
  · obtain ⟨opened, ready, unlocked⟩ := reaches
    have owned : OwnedBy (.clearFaults l []) l 0x35 .userSettings ownClearFaults s := ⟨rfl, opened, ready, unlocked⟩
    obtain ⟨only, faults⟩ := removeFaults_eq (acceptFrame l s)
    refine ⟨removeFaults (acceptFrame l s), owned.takes rfl, only, ?_⟩
    rw [faults, acceptFrame_eq]
    rfl

end


section
/-! SUPPORT. START (R136 to R138): what bars a program, the run that a taken one begins and the entry of its first
stage. -/

namespace Sys2Proof.Machine

section
variable {s : State}

/-! ## What a START leaves when it ends every force and any pulse (R81, R82) -/

theorem removeForce_only (o : Output) (s : State) :
    ∃ sh x e, removeForce o s = { s with share := sh, out := x, events := e } := by
  by_cases entered : (forceEntry o s).isSome = true
  · rw [removeForce_eq entered]
    exact ⟨_, _, _, rfl⟩
  · rw [removeForce_none (Bool.eq_false_of_not_eq_true entered)]
    exact ⟨s.share, s.out, s.events, rfl⟩

theorem removeEach_only (os : List Output) (s : State) :
    ∃ sh x e, os.foldl (fun s o => removeForce o s) s = { s with share := sh, out := x, events := e } := by
  induction os generalizing s with
  | nil => exact ⟨s.share, s.out, s.events, rfl⟩
  | cons o os ih =>
    obtain ⟨sh, x, e, removed⟩ := removeForce_only o s
    obtain ⟨sh', x', e', rest⟩ := ih (removeForce o s)
    rw [List.foldl_cons, rest, removed]
    exact ⟨sh', x', e', rfl⟩

theorem endPulse_only (s : State) : ∃ x e, endPulse s = { s with out := x, events := e } := by
  cases pulsed : s.out.pulse with
  | none =>
    rw [endPulse_none pulsed]
    exact ⟨s.out, s.events, rfl⟩
  | some p =>
    rw [endPulse_eq pulsed]
    exact ⟨_, _, rfl⟩

theorem endForces_only (s : State) : ∃ sh x e, endForces s = { s with share := sh, out := x, events := e } := by
  obtain ⟨sh, x, e, removed⟩ := removeEach_only allOutputs s
  obtain ⟨x', e', ended⟩ := endPulse_only (removeForces (fun _ => true) s)
  unfold endForces
  rw [ended, removeForces_all, removed]
  exact ⟨sh, x', e', rfl⟩

/-- Where nothing is forced or pulsed, nothing ends. -/
theorem endForces_same (free : s.out.forces = []) (still : s.out.pulse = none) : endForces s = s := by
  have each : ∀ os : List Output, os.foldl (fun s o => removeForce o s) s = s := by
    intro os
    induction os with
    | nil => rfl
    | cons o os ih =>
      have absent : (forceEntry o s).isSome = false := by
        unfold forceEntry
        rw [free]
        rfl
      rw [List.foldl_cons, removeForce_none absent]
      exact ih
  unfold endForces
  rw [removeForces_all, each, endPulse_none still]

/-! ## What bars a program (R136) -/

theorem isFan_iff (m : Mode) : m.isFan = true ↔ m ≠ .topBottom ∧ m ≠ .grill := by
  cases m <;> decide

theorem usesSteam_iff (st : Stage) :
    st.usesSteam = true ↔ st.mode = .steam ∨ st.mode = .combi ∨ st.mode = .proof ∨ st.burst ≠ none := by
  have steams : st.mode.isSteam = true ↔ st.mode = .steam ∨ st.mode = .combi ∨ st.mode = .proof := by
    cases st.mode <;> decide
  unfold Stage.usesSteam
  rw [Bool.or_eq_true, steams, Option.isSome_iff_ne_none, or_assoc, or_assoc]

theorem startBarred_iff (stages : List Stage) (s : State) :
    startBarred stages s = true ↔
      FaultKind.thermalCutout ∈ s.events.faults ∨ FaultKind.heatRunaway ∈ s.events.faults ∨
        FaultKind.sensorCavity ∈ s.events.faults ∨
        (FaultKind.fanStall ∈ s.events.faults ∧ ∃ st ∈ stages, st.mode ≠ .topBottom ∧ st.mode ≠ .grill) ∨
        ((FaultKind.boilerDry ∈ s.events.faults ∨ FaultKind.levelSense ∈ s.events.faults) ∧
          ∃ st ∈ stages, st.mode = .steam ∨ st.mode = .combi ∨ st.mode = .proof ∨ st.burst ≠ none) := by
  unfold startBarred programUsesSteam
  simp only [Bool.or_eq_true, Bool.and_eq_true, hasFault_iff, List.any_eq_true, isFan_iff, usesSteam_iff, or_assoc]

/-! ## The owner's cases in order (R136) -/

section
variable {n g : Nat}

theorem ownStart_active (runs : runActive s = true) : ownStart n g s = refuse .runActive s := if_pos runs

theorem ownStart_noProgram (rests : runActive s = false)
    (absent : (s.ret.slots.get n).state = .empty ∨ (s.ret.slots.get n).generation ≠ g) :
    ownStart n g s = refuse .noProgram s := by
  unfold ownStart
  dsimp only
  rw [if_neg (ne_true_of_eq_false rests), if_pos absent]

variable (rests : runActive s = false)
  (present : (s.ret.slots.get n).state ≠ .empty ∧ (s.ret.slots.get n).generation = g)
include rests present

theorem ownStart_descales (descales : s.ret.descale.phase ≠ .idle) : ownStart n g s = refuse .descaleActive s := by
  unfold ownStart
  dsimp only
  rw [if_neg (ne_true_of_eq_false rests), if_neg (not_or.mpr ⟨present.1, not_not.mpr present.2⟩), if_pos descales]

variable (still : s.ret.descale.phase = .idle)
include still

theorem ownStart_agent (marked : s.marker = true) : ownStart n g s = refuse .agentPresent s := by
  unfold ownStart
  dsimp only
  rw [if_neg (ne_true_of_eq_false rests), if_neg (not_or.mpr ⟨present.1, not_not.mpr present.2⟩),
    if_neg (not_not.mpr still), if_pos marked]

variable (clean : s.marker = false)
include clean

theorem ownStart_blocked (blocked : s.scale.level = .blocked ∧ programUsesSteam (s.ret.slots.get n).stages = true) :
    ownStart n g s = refuse .steamBlocked s := by
  unfold ownStart
  dsimp only
  rw [if_neg (ne_true_of_eq_false rests), if_neg (not_or.mpr ⟨present.1, not_not.mpr present.2⟩),
    if_neg (not_not.mpr still), if_neg (ne_true_of_eq_false clean), if_pos blocked]

variable (free : ¬(s.scale.level = .blocked ∧ programUsesSteam (s.ret.slots.get n).stages = true))
include free

theorem ownStart_barred (barred : startBarred (s.ret.slots.get n).stages s = true) :
    ownStart n g s = refuse .faultActive s := by
  unfold ownStart
  dsimp only
  rw [if_neg (ne_true_of_eq_false rests), if_neg (not_or.mpr ⟨present.1, not_not.mpr present.2⟩),
    if_neg (not_not.mpr still), if_neg (ne_true_of_eq_false clean), if_neg free, if_pos barred]

theorem ownStart_taken (bars : startBarred (s.ret.slots.get n).stages s = false) :
    ownStart n g s = taken ⟨.ok, bytes2 (beginRun n s).ret.run.runId⟩ (beginRun n s) := by
  unfold ownStart
  dsimp only
  rw [if_neg (ne_true_of_eq_false rests), if_neg (not_or.mpr ⟨present.1, not_not.mpr present.2⟩),
    if_neg (not_not.mpr still), if_neg (ne_true_of_eq_false clean), if_neg free, if_neg (ne_true_of_eq_false bars)]

end

/-! ## The run that is begun (R137) -/

/-- The slot is IN_USE and the context of its run is new. -/
def slotTaken (n : Nat) (s : State) : State :=
  let x := s.ret.slots.get n
  let s := setSlot n { x with state := .inUse } s
  setRun (s.ret.run.started n x.generation (steamFault s)) s

/-- Every force and any pulse has ended, and WATER has no condition that holds. -/
def contextBegun (n : Nat) (s : State) : State :=
  let t := endForces (slotTaken n s)
  { t with seq := { t.seq with waterCondition := false } }

/-- The state that the entry of the first stage finds. -/
def runBegun (n : Nat) (s : State) : State :=
  if programUsesSteam (s.ret.slots.get n).stages then markDrain false (contextBegun n s) else contextBegun n s

theorem beginRun_eq (n : Nat) (s : State) : beginRun n s = enterFirst (runBegun n s) := by
  unfold beginRun runBegun contextBegun slotTaken
  dsimp only

theorem slotTaken_facts (n : Nat) (s : State) :
    let x := s.ret.slots.get n
    let u := slotTaken n s
    u.ret.slots = s.ret.slots.set n { x with state := .inUse } ∧
      u.ret.run = s.ret.run.started n x.generation (steamFault s) :=
  ⟨rfl, rfl⟩

theorem slotTaken_only (n : Nat) (s : State) : ∃ r, slotTaken n s = { s with ret := r } := ⟨_, rfl⟩

theorem contextBegun_facts (n : Nat) (s : State) :
    (contextBegun n s).ret = (slotTaken n s).ret ∧ (contextBegun n s).climate = s.climate ∧
      (contextBegun n s).out.forces = [] ∧ (contextBegun n s).out.pulse = none ∧ Kept s (contextBegun n s) := by
  obtain ⟨_, _, _, ended⟩ := endForces_only (slotTaken n s)
  have ret : (endForces (slotTaken n s)).ret = (slotTaken n s).ret := by rw [ended]
  have climate : (endForces (slotTaken n s)).climate = (slotTaken n s).climate := by rw [ended]
  obtain ⟨forces, pulse, -⟩ := endForces_out (slotTaken n s)
  obtain ⟨r, only⟩ := slotTaken_only n s
  unfold contextBegun
  dsimp only
  refine ⟨ret, climate.trans (by rw [only]), forces, pulse, (endForces_kept ?_).with_seq⟩
  rw [only]
  exact (Kept.refl s).with_ret

theorem contextBegun_still (n : Nat) (free : s.out.forces = []) (still : s.out.pulse = none) :
    (contextBegun n s).events = s.events ∧ (contextBegun n s).out = s.out := by
  obtain ⟨r, only⟩ := slotTaken_only n s
  have same : endForces (slotTaken n s) = slotTaken n s := by
    rw [only]
    exact endForces_same free still
  unfold contextBegun
  rw [same, only]
  exact ⟨rfl, rfl⟩

/-- Clearing drain-pending moves the boiler and the arbiter alone. -/
theorem markDrain_false_only (s : State) :
    ∃ b sh, markDrain false s = { s with boiler := b, share := sh } ∧ b.drainPending = false := by
  rw [markDrain_false, postBoiler_eq]
  exact ⟨_, _, rfl, rfl⟩

theorem runBegun_only (n : Nat) (s : State) :
    ∃ b sh, runBegun n s = { contextBegun n s with boiler := b, share := sh } ∧
      (programUsesSteam (s.ret.slots.get n).stages = true → b.drainPending = false) := by
  unfold runBegun
  by_cases steams : programUsesSteam (s.ret.slots.get n).stages = true
  · rw [if_pos steams]
    obtain ⟨b, sh, only, clear⟩ := markDrain_false_only (contextBegun n s)
    exact ⟨b, sh, only, fun _ => clear⟩
  · rw [if_neg steams]
    generalize contextBegun n s = t
    exact ⟨t.boiler, t.share, rfl, fun uses => absurd uses steams⟩

/-! ## The entry of the first stage (R138) -/

theorem enterFirst_eq (s : State) :
    enterFirst s =
      if (enterStage 0 true s).2 then checkStageEnd (enterStage 0 true s).1 else (enterStage 0 true s).1 := by
  unfold enterFirst
  obtain ⟨t, entered⟩ := enterStage 0 true s
  cases entered <;> rfl

/-- An entry that is carried through leaves the entered stage. -/
theorem enterStage_carried {k : Nat} {atStart : Bool} (carried : (enterStage k atStart s).2 = true) :
    (enterStage k atStart s).1 = stageEntered k atStart s := by
  obtain entry | ⟨f, u, entry⟩ := enterStage_outcome k atStart s
  · rw [entry]
  · rw [entry] at carried
    cases carried

theorem lossTaken_runId (k : Nat) (s : State) : (lossTaken k s).ret.run.runId = s.ret.run.runId := by
  obtain ⟨-, -, -, st, w, x, d, n, m, run, -⟩ := lossTaken_facts k s
  rw [run]
  rfl

theorem stageEntered_runId (k : Nat) (atStart : Bool) (s : State) :
    (stageEntered k atStart s).ret.run.runId = s.ret.run.runId := by
  have stays : StageStays .stageStarted (stageAnnounced k s) (stageEntered k atStart s) :=
    stageEntered_stays rfl (by decide)
  rw [stays.field RunContext.runId, (stageAnnounced_units k s).1, lossTaken_runId]

theorem endRun_runId (result : RunResult) (fault : Option FaultKind) (s : State) :
    (endRun result fault s).ret.run.runId = s.ret.run.runId := by
  obtain ⟨n, m, run⟩ := endRun_context result fault s
  rw [run]
  rfl

/-- An entry keeps the run's number, also where it ends the run. -/
theorem enterStage_runId (k : Nat) (atStart : Bool) (s : State) :
    (enterStage k atStart s).1.ret.run.runId = s.ret.run.runId := by
  obtain entry | ⟨-, -, -⟩ := enterStage_outcome k atStart s
  · rw [entry]
    exact stageEntered_runId k atStart s
  · by_cases fails : fatalFault (stageTaken k s) ≠ none ∨ s.climate.state = .fault
    · obtain ⟨f, u, entry, taken⟩ := enterStage_abandoned (atStart := atStart) fails
      rw [entry, endRun_runId]
      obtain rfl | rfl := taken
      · rfl
      · exact lossTaken_runId k s
    · obtain ⟨calm, works⟩ := not_or.mp fails
      rw [enterStage_entered atStart (not_not.mp calm) works]
      exact stageEntered_runId k atStart s

theorem enterFirst_runId (s : State) : (enterFirst s).ret.run.runId = s.ret.run.runId := by
  rw [enterFirst_eq]
  split
  · rw [show (checkStageEnd (enterStage 0 true s).1).ret.run.runId = _ from
      congrArg Aside.runId (checkStageEnd_sequencer _).aside]
    exact enterStage_runId 0 true s
  · exact enterStage_runId 0 true s

end

end Sys2Proof.Machine

open Sys2Proof Sys2Proof.Machine

/-- Settles O49: the entry of stage 0 by the lemmas of a carried-through entry; the owner decides on the state with the
frame accepted, case by case, and a taken START enters stage 0 on `runBegun`. -/
theorem startBeginsARun : Obligations.StartBeginsARun := by
  refine ⟨enterFirst_eq, fun s carried => ?_, startBarred_iff, ?_⟩
  · dsimp only
    rw [enterStage_carried carried]
    obtain ⟨door, mains, -⟩ := stageEntered_causes 0 true s
    refine ⟨stageEntered_raised, fun opened => ?_, fun absent => ?_, fun active => stageEntered_takesUp active⟩
    · rw [door, opened]
      exact Bool.or_true _
    · rw [mains, absent]
      exact Bool.or_true _
  · rintro l n g1 g0 s ⟨opened, ready, unlocked⟩ low i x ok0 ok1 ok2 ok3 ok4
    have runs : exec i s = onFrame l 0x12 (groupCommand .run l true (ownStart n.toNat (number2 g1 g0))) s := by
      show onFrame l 0x12 (fun s => decideCommand true false (if 3 < n.toNat then some .badArgument else none)
        (locked .run l s) (ownStart n.toNat (number2 g1 g0)) s) s = _
      rw [if_neg (Nat.not_lt.mpr low)]
      rfl
    have owned : OwnedBy i l 0x12 .run (ownStart n.toNat (number2 g1 g0)) s := ⟨runs, opened, ready, unlocked⟩
    obtain ⟨p, q, eq⟩ := acceptFrame_only l s
    have steams : steamFault (acceptFrame l s) = steamFault s := by rw [eq]; rfl
    have slots : (acceptFrame l s).ret = s.ret := acceptFrame_ret l s
    have rests (h : ok0) : runActive (acceptFrame l s) = false := by rw [eq]; exact h
    have present (h : ok1) : ((acceptFrame l s).ret.slots.get n.toNat).state ≠ .empty ∧
        ((acceptFrame l s).ret.slots.get n.toNat).generation = number2 g1 g0 := by rw [slots]; exact h.2
    have still (h : ok2) : (acceptFrame l s).ret.descale.phase = .idle := by rw [slots]; exact h.2
    have clean (h : ok3) : (acceptFrame l s).marker = false := by rw [eq]; exact h.2
    have free (h : ok4) : ¬((acceptFrame l s).scale.level = .blocked ∧
        programUsesSteam ((acceptFrame l s).ret.slots.get n.toNat).stages = true) := by rw [eq]; exact h.2
    have barred : startBarred ((acceptFrame l s).ret.slots.get n.toNat).stages (acceptFrame l s) =
        startBarred x.stages s := by rw [eq]; rfl
    refine ⟨fun active => owned.refuses (ownStart_active ?_),
      fun h absent => owned.refuses (ownStart_noProgram (rests h) ?_),
      fun h descales => owned.refuses (ownStart_descales (rests h.1) (present h) ?_),
      fun h marked => owned.refuses (ownStart_agent (rests h.1.1) (present h.1) (still h) ?_),
      fun h blocked => owned.refuses (ownStart_blocked (rests h.1.1.1) (present h.1.1) (still h.1) (clean h) ?_),
      fun h bars => owned.refuses (ownStart_barred (rests h.1.1.1.1) (present h.1.1.1) (still h.1.1) (clean h.1)
        (free h) (barred.trans bars)),
      fun h opens => ?_⟩
    · rw [eq]
      exact Bool.eq_true_of_not_eq_false active
    · rw [slots]
      by_contra named
      obtain ⟨loaded, same⟩ := not_or.mp named
      exact absent ⟨h, loaded, not_not.mp same⟩
    · rw [slots]
      exact fun idle => descales ⟨h, idle⟩
    · rw [eq]
      exact Bool.eq_true_of_not_eq_false fun unmarked => marked ⟨h, unmarked⟩
    · rw [eq]
      exact not_not.mp fun passes => blocked ⟨h, passes⟩
    · intro id
      obtain ⟨ret, climate, forces, pulse, kept⟩ := contextBegun_facts n.toNat (acceptFrame l s)
      obtain ⟨b, sh, only, drained⟩ := runBegun_only n.toNat (acceptFrame l s)
      obtain ⟨slot, run⟩ := slotTaken_facts n.toNat (acceptFrame l s)
      have begun : (runBegun n.toNat (acceptFrame l s)).ret.run =
          s.ret.run.started n.toNat x.generation (steamFault s) := by
        rw [only]
        dsimp only
        rw [ret, run, slots, steams]
      refine ⟨runBegun n.toNat (acceptFrame l s), ?_, ?_, begun, ?_, ?_⟩
      · rw [owned.takes (ownStart_taken (rests h.1.1.1.1) (present h.1.1.1) (still h.1.1) (clean h.1) (free h)
          (barred.trans opens)), beginRun_eq, enterFirst_runId, begun]
        rfl
      all_goals rw [only]
      · dsimp only
        rw [ret, slot, slots]
      · rw [slots] at drained
        exact drained
      · dsimp only
        refine ⟨forces, pulse, kept.heat.trans (by rw [eq]), fun unforced unpulsed => ?_, climate.trans (by rw [eq]),
          kept.meas.trans (by rw [eq]), kept.settings.trans (by rw [eq])⟩
        obtain ⟨events, out⟩ := contextBegun_still (s := acceptFrame l s) n.toNat (by rw [eq]; exact unforced)
          (by rw [eq]; exact unpulsed)
        exact ⟨events.trans (by rw [eq]), out.trans (by rw [eq])⟩

end


section
/-! SUPPORT. WATER_TIMEOUT (R146): the stage that is degraded, told and without its burst (R149). -/

namespace Sys2Proof.Machine

section
variable {s t : State}

theorem SequencerActs.steady (h : SequencerActs s t) (kept : Kept s t) : Steady s t := kept.steady_of_settles h.settles

theorem cancelBurst_free (s : State) : holdsDose (cancelBurst s) .ch1 = false := by
  unfold cancelBurst
  cases held : holdsDose s .ch1
  · exact held
  · rw [if_pos rfl]
    unfold holdsDose
    rw [chan_cancelDose (by decide)]
    rfl

theorem cancelBurst_kindRests {k : EventKind} (due : k ≠ .scaleDue) (blocked : k ≠ .scaleBlocked) (s : State) :
    KindRests k s (cancelBurst s) := by
  unfold cancelBurst
  split
  · exact cancelDose_kindRests due blocked .ch1 s
  · exact .same rfl

theorem stageMarked_raised (s : State) : RaisedTo .steamDegraded (stageArg s) s (stageMarked s) :=
  ((withholdSteam_acts true _).events .steamDegraded (by decide)).raised
    ((raiseEvent_raised .steamDegraded (stageArg s) _).from rfl)

/-- A stage that becomes degraded is told, and it goes on without steam and without its burst (R149). -/
theorem degradeStage_tells (uses : (currentStage s).usesSteam = true) (fresh : s.ret.run.degraded = false) :
    (degradeStage s).climate.steamWithheld = true ∧ RaisedTo .steamDegraded (stageArg s) s (degradeStage s) ∧
      holdsDose (degradeStage s) .ch1 = false := by
  have only := (removeCause_runOnly .water (burstDropped s)).only
  have water : (degradeStage s).water = (cancelBurst (stageMarked s)).water := by
    rw [degradeStage_eq uses fresh, only]
    rfl
  have burst : KindRests .steamDegraded (stageMarked s) (burstDropped s) :=
    (cancelBurst_kindRests (by decide) (by decide) _).trans (.same rfl)
  have stays : StageGoesOn .steamDegraded (burstDropped s) (removeCause .water (burstDropped s)) :=
    removeCause_goesOn rfl .water
  refine ⟨?_, ?_, ?_⟩
  · rw [degradeStage_eq uses fresh, setRun_climate, removeCause_climate]
    show (cancelBurst (stageMarked s)).climate.steamWithheld = true
    rw [(cancelBurst_reacts _).climate]
    unfold stageMarked
    rw [withholdSteam_climate]
  · rw [degradeStage_eq uses fresh]
    exact stays.events.raised (burst.raised (stageMarked_raised s))
  · rw [holdsDose_congr (congrArg (fun w : Water => w.chans.get .ch1) water)]
    exact cancelBurst_free _

/-! ## WATER_TIMEOUT (R146) -/

theorem waterTimeoutDue_iff (s : State) :
    waterTimeoutDue s = true ↔ runActive s = true ∧ s.ret.run.causes.water = true ∧ 300 ≤ s.ret.run.waterTimer := by
  simp [waterTimeoutDue, and_assoc]

/-- WATER is removed with its timer, and steam is withheld as the stage's mark says. -/
def waterTimedOut (s : State) : State :=
  let s := removeCause .water s
  withholdSteam s.ret.run.degraded (setRun { s.ret.run with waterTimer := 0 } s)

theorem waterTimedOut_ret (s : State) :
    ∃ st, (waterTimedOut s).ret =
      { s.ret with
        run := { s.ret.run with state := st, causes := s.ret.run.causes.put .water false, waterTimer := 0 } } := by
  obtain ⟨st, moved, -⟩ := removeCause_moves .water s
  refine ⟨st, ?_⟩
  unfold waterTimedOut
  dsimp only
  rw [(withholdSteam_units ..).1, setRun_ret, moved, (removeCause_runOnly .water s).only]

theorem waterTimedOut_sequencer (s : State) : SequencerActs s (waterTimedOut s) :=
  ((removeCause_sequencer .water s).trans
    (setRun_sequencer (r := { (removeCause .water s).ret.run with waterTimer := 0 }) rfl)).trans
      (withholdSteam_sequencer _ _)

theorem waterTimedOut_kept (s : State) : Kept s (waterTimedOut s) :=
  withholdSteam_kept _ (setRun_kept _ (removeCause_kept .water (.refl s)))

theorem waterTimedOut_stage (s : State) :
    currentStage (waterTimedOut s) = currentStage s ∧ stageArg (waterTimedOut s) = stageArg s ∧
      (waterTimedOut s).events.steering = s.events.steering := by
  obtain ⟨st, ret⟩ := waterTimedOut_ret s
  unfold currentStage stageAt runStages stageArg
  rw [ret]
  exact ⟨rfl, rfl, (waterTimedOut_sequencer s).events.steering⟩

end

end Sys2Proof.Machine

open Sys2Proof Sys2Proof.Machine

/-- Settles O47: WATER is removed and the stage degraded, by the lemmas of the two; the end of the stage follows. -/
theorem waterTimesOut : Obligations.WaterTimesOut := by
  refine ⟨waterTimeoutDue_iff, fun s early => if_neg (ne_true_of_eq_false early), fun s active water timed => ?_⟩
  obtain ⟨st, ret⟩ := waterTimedOut_ret s
  obtain ⟨stage, arg, steering⟩ := waterTimedOut_stage s
  refine ⟨degradeStage (waterTimedOut s), ?_, ?_, ?_⟩
  · exact if_pos ((waterTimeoutDue_iff s).mpr ⟨active, water, timed⟩)
  · exact ((waterTimedOut_sequencer s).trans (degradeStage_sequencer _)).steady
      (degradeStage_kept (waterTimedOut_kept s))
  · by_cases degrades : (currentStage (waterTimedOut s)).usesSteam = true ∧ (waterTimedOut s).ret.run.degraded = false
    · obtain ⟨uses, fresh⟩ := degrades
      obtain ⟨-, -, -, st', n, m, run, -⟩ := degradeStage_degrades uses fresh
      obtain ⟨withheld, told, free⟩ := degradeStage_tells uses fresh
      rw [run, ret]
      rw [arg] at told
      exact ⟨rfl, rfl, rfl, fun _ _ => ⟨rfl, rfl, withheld, told.from steering, free, rfl⟩⟩
    · rw [degradeStage_same degrades]
      rw [stage] at degrades
      rw [ret] at degrades ⊢
      exact ⟨rfl, rfl, rfl, fun uses fresh => absurd ⟨uses, fresh⟩ degrades⟩

end


section
/-! SUPPORT. What the regulator does with the record, the pause and the end that the sequencer sends it (R21 to R28). -/

namespace Sys2Proof.Machine

section
variable {s : State}

/-! ## The adopted record (R21) -/

theorem modeRow_ordered (m : Mode) :
    (modeRow m).low ≤ (modeRow m).high ∧ ∀ lo hi : Int, (modeRow m).moisture = some (lo, hi) → lo ≤ hi := by
  cases m <;> simp [modeRow]

theorem adoptSetpoint_bounds (m : Mode) (x : Int) :
    (modeRow m).low ≤ adoptSetpoint m x ∧ adoptSetpoint m x ≤ (modeRow m).high :=
  ⟨le_max_left _ _, max_le (modeRow_ordered m).1 (min_le_right _ _)⟩

theorem adoptSetpoint_inside {m : Mode} {x : Int} (low : (modeRow m).low ≤ x) (high : x ≤ (modeRow m).high) :
    adoptSetpoint m x = x := by
  unfold adoptSetpoint clampInt
  rw [min_eq_left high, max_eq_right low]

theorem adoptMoisture_none {m : Mode} (dry : (modeRow m).moisture = none) (x : Option Int) :
    adoptMoisture m x = none := by
  unfold adoptMoisture
  rw [dry]

theorem adoptMoisture_absent {m : Mode} {lo hi : Int} (moist : (modeRow m).moisture = some (lo, hi)) :
    adoptMoisture m none = some (Int.tdiv (lo + hi) 2) := by
  unfold adoptMoisture
  rw [moist]
  rfl

theorem adoptMoisture_present {m : Mode} {lo hi : Int} (moist : (modeRow m).moisture = some (lo, hi)) (h : Int) :
    adoptMoisture m (some h) = some (max lo (min h hi)) := by
  unfold adoptMoisture
  rw [moist]
  rfl

/-! ## A stage entry (R23) -/

/-- The regulator with the record of an entered stage. -/
def recordEntered (sent : SentRecord) (s : State) : Climate :=
  let r := (completeRecord sent).1
  let kept := s.climate.record.any fun old => decide (old.mode = r.mode)
  { s.climate with
    record := some r, iacc := if kept then s.climate.iacc else 0, tempReached := false, moistReached := false
    direction := directionOf s.meas.cavity r.setpoint, runaway := 0, runawayArmed := false, reversal := 0 }

theorem stageEntry_refused {sent : SentRecord} (broken : s.climate.state = .fault) : stageEntry sent s = (s, none) :=
  if_pos broken

theorem stageEntry_paused {sent : SentRecord} (paused : s.climate.state = .paused) :
    (stageEntry sent s).1 = setClimate { recordEntered sent s with returnState := some .preheat } s := by
  unfold stageEntry recordEntered
  rw [if_neg (by rw [paused]; decide)]
  dsimp only
  rw [if_pos paused]
  cases s.climate.record <;> rfl

theorem stageEntry_preheats {sent : SentRecord} (works : s.climate.state ≠ .fault) (awake : s.climate.state ≠ .paused) :
    (stageEntry sent s).1 = issueOutputs (setClimate { recordEntered sent s with state := .preheat } s) := by
  unfold stageEntry recordEntered
  rw [if_neg works]
  dsimp only
  rw [if_neg awake]
  cases s.climate.record <;> rfl

/-- Whatever the state that an entry leads to, the regulator starts on the record anew. -/
theorem stageEntry_starts {sent : SentRecord} (works : s.climate.state ≠ .fault) :
    ∃ st back ask, (stageEntry sent s).1.climate =
      { recordEntered sent s with state := st, returnState := back, relayAsk := ask } := by
  by_cases paused : s.climate.state = .paused
  · rw [stageEntry_paused paused]
    exact ⟨_, _, _, rfl⟩
  · rw [stageEntry_preheats works paused]
    obtain ⟨ask, climate⟩ := issueOutputs_climate (setClimate { recordEntered sent s with state := .preheat } s)
    rw [climate]
    exact ⟨_, _, _, rfl⟩

theorem recordEntered_iacc (sent : SentRecord) (s : State) :
    (recordEntered sent s).iacc =
      (match s.climate.record with
        | none => 0
        | some old => if old.mode = (completeRecord sent).1.mode then s.climate.iacc else 0) := by
  unfold recordEntered
  cases s.climate.record with
  | none => rfl
  | some old => simp only [Option.any_some, decide_eq_true_eq]

/-- An entry outside PAUSED begins with PREHEAT and what that calls for. -/
theorem stageEntry_issues {sent : SentRecord} (works : s.climate.state ≠ .fault) (awake : s.climate.state ≠ .paused) :
    let t := (stageEntry sent s).1
    let r := (completeRecord sent).1
    t.climate.state = .preheat ∧ t.climate.relayAsk = true ∧ t.out.fan.code = r.fanCode ∧ ModeVentAsked r.mode s t := by
  obtain ⟨climate, outputs⟩ := issueOutputs_works
    (s := setClimate { recordEntered sent s with state := .preheat } s) rfl
  obtain ⟨fan, vent⟩ := outputs (completeRecord sent).1 rfl
  dsimp only
  rw [stageEntry_preheats works awake, climate]
  exact ⟨rfl, rfl, fan, vent.of_same rfl rfl rfl⟩

/-! ## DOOR (R26) -/

theorem pauseClimate_iacc (works : working s = true) : (pauseClimate s).climate.iacc = s.climate.iacc := by
  rw [pauseClimate_working works, restOutputs_climate, postZeros_climate]
  rfl

/-! ## The end of the climate (R28) -/

/-- The end the flap is asked for when the climate ends. -/
def endVent (s : State) : VentEnd := if 600 ≤ s.meas.cavity then .opened else .closed

/-- The regulator, which ran, without record or demand. -/
def climateGivenUp (s : State) : State :=
  postZeros (setClimate (s.climate.discard (if 600 ≤ s.meas.cavity then .cooldown else .off)) s)

theorem endClimate_rests (h : s.climate.state = .fault ∨ s.climate.state = .off ∨ s.climate.state = .cooldown) :
    endClimate s = s := by
  unfold endClimate
  obtain state | state | state := h <;> rw [state]

theorem issueOutputs_cooldown (cools : s.climate.state = .cooldown) : issueOutputs s = restOutputs .opened s := by
  unfold issueOutputs restOutputs
  rw [cools]

theorem endClimate_ends (h : working s = true ∨ s.climate.state = .paused) :
    endClimate s = restOutputs (endVent s) (climateGivenUp s) := by
  have ends : endClimate s = issueOutputs (climateGivenUp s) := by
    unfold endClimate climateGivenUp
    unfold working at h
    rw [Bool.or_eq_true, decide_eq_true_iff, decide_eq_true_iff, or_assoc] at h
    obtain state | state | state := h <;> rw [state]
  have state : (climateGivenUp s).climate.state = if 600 ≤ s.meas.cavity then .cooldown else .off := by
    unfold climateGivenUp
    rw [postZeros_climate]
    rfl
  rw [ends]
  unfold endVent
  by_cases hot : 600 ≤ s.meas.cavity
  · rw [if_pos hot] at state ⊢
    exact issueOutputs_cooldown state
  · rw [if_neg hot] at state ⊢
    exact issueOutputs_off state

theorem endClimate_climate (h : working s = true ∨ s.climate.state = .paused) :
    (endClimate s).climate =
      { s.climate.discard (if 600 ≤ s.meas.cavity then .cooldown else .off) with relayAsk := false } := by
  rw [endClimate_ends h, restOutputs_climate]
  unfold climateGivenUp
  rw [postZeros_climate]
  rfl

theorem endClimate_vent (h : working s = true ∨ s.climate.state = .paused) :
    VentAsked (endVent s) s (endClimate s) := by
  rw [ventAsked_iff, endClimate_ends h, restOutputs_vent]
  refine ventAfter_congr _ ?_ ?_
  all_goals
    unfold climateGivenUp
    rw [postZeros_eq]
    rfl

theorem endClimate_posts (h : working s = true ∨ s.climate.state = .paused) :
    let t := endClimate s
    t.out.fan.code = 0 ∧ t.boiler.steamRequest = 0 ∧ t.share.demands.top = 0 ∧ t.share.demands.bottom = 0 ∧
      t.share.demands.ring = 0 ∧ t.share.demands.grill = 0 := by
  obtain ⟨share, boiler, -⟩ := restOutputs_units (endVent s) (climateGivenUp s)
  dsimp only
  rw [endClimate_ends h, restOutputs_fanCode, share, boiler]
  unfold climateGivenUp
  rw [postZeros_eq]
  exact ⟨rfl, rfl, rfl, rfl, rfl, rfl⟩

end

end Sys2Proof.Machine

open Sys2Proof Sys2Proof.Machine

/-- Settles O39: one lemma for each message that the regulator takes. -/
theorem climateFollowsTheRun : Obligations.ClimateFollowsTheRun := by
  refine ⟨fun sent => ?_, fun sent s => stageEntry_refused, fun sent s works => ?_, fun s works => ?_,
    fun s w paused back => ?_, fun s => endClimate_rests, fun s runs => ?_⟩
  · obtain ⟨low, high⟩ := adoptSetpoint_bounds sent.mode sent.setpoint
    refine ⟨rfl, low, high, adoptSetpoint_inside, fun dry => adoptMoisture_none dry _, fun lo hi moist =>
      ⟨fun absent => ?_, fun h present => ?_⟩, rfl, ?_⟩
    · show adoptMoisture sent.mode sent.moisture = _
      rw [absent]
      exact adoptMoisture_absent moist
    · show adoptMoisture sent.mode sent.moisture = _
      rw [present]
      exact adoptMoisture_present moist h
    · show sent.policy.getD _ = _
      cases sent.policy <;> rfl
  · obtain ⟨st, back, ask, climate⟩ := stageEntry_starts (sent := sent) works
    dsimp only
    refine ⟨?_, ?_, ?_, ?_, ?_, ?_, ?_, ?_, fun paused => ?_, fun awake => stageEntry_issues works awake⟩
    on_goal 9 =>
      rw [stageEntry_paused paused]
      exact ⟨paused, rfl, rfl, rfl⟩
    all_goals rw [climate]
    case refine_8 => exact recordEntered_iacc sent s
    all_goals rfl
  · obtain ⟨state, back, ask, fan, steam, top, bottom, ring, grill, towards, vent⟩ := pauseClimate_pauses works
    exact ⟨state, back, top, bottom, ring, grill, steam, ask, fan, vent, towards, pauseClimate_iacc works⟩
  · obtain ⟨climate, outputs⟩ := unpauseClimate_resumes paused back
    rw [climate]
    exact ⟨rfl, rfl, rfl, outputs⟩
  · obtain ⟨fan, steam, demands⟩ := endClimate_posts runs
    have vent := endClimate_vent runs
    unfold endVent at vent
    dsimp only
    rw [endClimate_climate runs]
    refine ⟨rfl, rfl, fun hot => ?_, fun cool => ?_, rfl, rfl, fan, steam, demands⟩
    · rw [if_pos hot] at vent
      exact vent
    · rw [if_neg (not_le.mpr cool)] at vent
      exact vent

end


section
/-! SUPPORT. The end of a run (R157), with DOOR_TIMEOUT (R145) among its causes. -/

namespace Sys2Proof.Machine

section
variable {k : EventKind} {s t u : State}

/-! ## What the regulator's operations leave of the events -/

theorem requestVent_kindRests (other : k ≠ .faultActive) (e : VentEnd) (s : State) :
    KindRests k s (requestVent e s) := by
  obtain ⟨entries, condition⟩ := leaveFault_kindRests other .ventStuck s
  rw [requestVent_eq]
  split
  · exact ⟨entries, condition⟩
  · exact .same rfl

theorem requestModeVent_kindRests (other : k ≠ .faultActive) (s : State) : KindRests k s (requestModeVent s) := by
  unfold requestModeVent
  split
  · exact .same rfl
  · split
    · exact .same rfl
    · exact requestVent_kindRests other _ s

theorem issueFan_kindRests (code : Nat) (closed : Bool) (s : State) :
    KindRests k s (issueFan code (askRelay closed s)) := by
  rw [issueFan_eq]
  exact .same rfl

theorem issueOutputs_kindRests (other : k ≠ .faultActive) (s : State) : KindRests k s (issueOutputs s) := by
  unfold issueOutputs
  split
  case h_1 => exact (issueFan_kindRests _ _ s).trans (requestModeVent_kindRests other _)
  case h_2 => exact (issueFan_kindRests _ _ s).trans (requestModeVent_kindRests other _)
  case h_3 => exact (issueFan_kindRests _ _ s).trans (requestVent_kindRests other _ _)
  case h_4 => exact (issueFan_kindRests _ _ s).trans (requestVent_kindRests other _ _)

theorem endClimate_kindRests (other : k ≠ .faultActive) (s : State) : KindRests k s (endClimate s) := by
  have given : ∀ st, KindRests k s (postZeros (setClimate (s.climate.discard st) s)) := fun st => by
    rw [postZeros_eq]
    exact .same rfl
  unfold endClimate
  split
  case h_4 => exact .same rfl
  all_goals exact (given _).trans (issueOutputs_kindRests other _)

theorem withholdSteam_kindRests (b : Bool) (s : State) : KindRests k s (withholdSteam b s) := by
  unfold withholdSteam
  dsimp only
  split
  · rw [handSteamRequest_eq]
    exact .same rfl
  · exact .same rfl

/-! ## Pulses that no run counts (R140) -/

theorem passPulses_inactive (rests : runActive s = false) (c : Chan) : (passPulses c s).ret = s.ret := by
  unfold passPulses
  split
  · rfl
  · next d _ =>
    dsimp only
    split
    · obtain ⟨ret, -, start, -⟩ := chargeAccount_ret (d.delivered - d.charged) d.effective
        (setDose c { d with charged := d.delivered } s)
      have still : ¬runActive (chargeAccount (d.delivered - d.charged) d.effective
          (setDose c { d with charged := d.delivered } s)) = true := by
        unfold runActive
        rw [ret, start]
        exact ne_true_of_eq_false rests
      unfold chargeDelivered countSteam
      rw [if_neg still]
      exact ret
    · rfl

theorem cancelDose_inactive (rests : runActive s = false) (c : Chan) : (cancelDose c s).ret = s.ret := by
  have released : ∀ t : State, (releasePath c t).ret = t.ret := fun t => by
    unfold releasePath
    split <;> rfl
  unfold cancelDose
  dsimp only
  split
  · rfl
  · split
    · exact (released _).trans (passPulses_inactive rests c)
    · rfl

theorem markDrain_inactive (rests : runActive s = false) (b : Bool) : (markDrain b s).ret = s.ret := by
  have cancelled : ∀ t : State, t.start = s.start → t.ret = s.ret → (cancelTopUp t).ret = s.ret := fun t start ret => by
    unfold cancelTopUp
    split
    · refine (cancelDose_inactive ?_ .ch0).trans ret
      unfold runActive
      rw [start, ret]
      exact rests
    · exact ret
  unfold markDrain
  dsimp only
  rw [postBoiler_eq]
  split
  · exact cancelled _ rfl rfl
  · rfl

/-! ## The burst that the end of a run cancels (R96, R157) -/

theorem releasePath_ret (c : Chan) (s : State) : (releasePath c s).ret = s.ret := by
  unfold releasePath
  split <;> rfl

theorem countSteam_used_le (p : Nat) (s : State) : s.ret.run.steamUsed ≤ (countSteam p s).ret.run.steamUsed := by
  by_cases active : runActive s = true
  · rw [countSteam_active active]
    exact Nat.le_add_right _ _
  · exact (congrArg (fun t : State => t.ret.run.steamUsed) (if_neg active)).ge

theorem passPulses_used_le (c : Chan) (s : State) : s.ret.run.steamUsed ≤ (passPulses c s).ret.run.steamUsed := by
  cases dose : (chan s c).dose with
  | none =>
    unfold passPulses
    rw [dose]
  | some d =>
    obtain ⟨⟨charges, free⟩, -⟩ := passPulses_handsOn dose
    by_cases counted : d.mode ≠ .flush ∧ (d.destination = .boiler ∨ d.destination = .nozzle)
    · rw [(charges counted).2.1]
      exact countSteam_used_le _ s
    · exact (free counted).2.1.ge

/-- Steam that has been counted stays counted. -/
theorem cancelBurst_used_le (s : State) : s.ret.run.steamUsed ≤ (cancelBurst s).ret.run.steamUsed := by
  have cancelled : s.ret.run.steamUsed ≤ (cancelDose .ch1 s).ret.run.steamUsed := by
    unfold cancelDose
    rw [if_neg fun drain => absurd drain.1 (by decide)]
    dsimp only
    rw [setChan_ret]
    split
    · rw [releasePath_ret]
      exact passPulses_used_le .ch1 s
    · exact le_rfl
  unfold cancelBurst
  split
  · exact cancelled
  · exact le_rfl

theorem cancelBurst_chargesNothing (rests : (chan s .ch1).state ≠ .running) : ChargesNothing s (cancelBurst s) := by
  unfold cancelBurst
  split
  · rw [cancelDose_idle (by decide) rests]
    exact ⟨rfl, rfl, rfl⟩
  · exact .refl s

theorem cancelBurst_handsOn {d : Dose} (runs : (chan s .ch1).state = .running) (dose : (chan s .ch1).dose = some d) :
    HandsOn (d.delivered - d.charged) d s (cancelBurst s) := by
  have held : holdsDose s .ch1 = true := by
    unfold holdsDose
    rw [runs]
    rfl
  rw [show cancelBurst s = cancelDose .ch1 s from if_pos held]
  exact cancelDose_handsOn (by decide) runs dose

theorem chan_cancelBurst_other {c : Chan} (other : c ≠ .ch1) (s : State) : chan (cancelBurst s) c = chan s c := by
  unfold cancelBurst
  split
  · exact chan_cancelDose_other other s
  · rfl

/-! ## The end of a run (R157) -/

theorem doorTimeoutDue_iff (s : State) :
    doorTimeoutDue s = true ↔ runActive s = true ∧ s.ret.run.causes.door = true ∧ 600 ≤ s.ret.run.doorTimer := by
  simp [doorTimeoutDue, and_assoc]

variable {result : RunResult} {fault : Option FaultKind}

theorem climateClosed_acts : RegulatorActs (runClosed result fault (burstEnded s)) (climateClosed result fault s) :=
  (withholdSteam_acts false _).trans (endClimate_acts _)

theorem climateClosed_inactive : runActive (climateClosed result fault s) = false := by
  unfold runActive
  rw [climateClosed_acts.units.1]
  exact Bool.and_false _

/-- Retained memory is what the end of the run wrote: the drain that may follow counts nothing. -/
theorem endRun_ret : (endRun result fault s).ret = (runClosed result fault (burstEnded s)).ret := by
  rw [endRun_eq, askCommit_ret]
  split
  · rw [markDrain_inactive climateClosed_inactive, climateClosed_acts.units.1]
  · exact climateClosed_acts.units.1

/-- The run that `endRun` closes has, but for its burst, the context of the run that ends. -/
theorem endRun_run :
    (endRun result fault s).ret.run =
      { s.ret.run with
        steamUsed := (cancelBurst s).ret.run.steamUsed
        steamRemainder := (cancelBurst s).ret.run.steamRemainder }.idle := by
  obtain ⟨n, m, run⟩ := (cancelBurst_reacts s).run
  rw [endRun_ret]
  show { (cancelBurst s).ret.run with deferredBurst := none }.idle = _
  rw [run]
  rfl

theorem endRun_lastRun :
    (endRun result fault s).ret.lastRun =
      some (lastRunOf { s.ret.run with steamUsed := (cancelBurst s).ret.run.steamUsed } result fault) := by
  obtain ⟨n, m, run⟩ := (cancelBurst_reacts s).run
  rw [endRun_ret]
  show some (lastRunOf { (cancelBurst s).ret.run with deferredBurst := none } result fault) = _
  rw [run]
  rfl

theorem runClosed_regulator (t : State) :
    (runClosed result fault t).water = t.water ∧ (runClosed result fault t).scale = t.scale ∧
      (runClosed result fault t).climate = t.climate ∧ (runClosed result fault t).meas = t.meas := ⟨rfl, rfl, rfl, rfl⟩

theorem burstEnded_units (s : State) :
    (burstEnded s).water = (cancelBurst s).water ∧ (burstEnded s).scale = (cancelBurst s).scale ∧
      (burstEnded s).climate = s.climate ∧ (burstEnded s).meas = s.meas := by
  have climate := cancelBurst_climate s
  have meas := (cancelBurst_kept (.refl s)).meas
  unfold burstEnded
  generalize cancelBurst s = t at *
  exact ⟨rfl, rfl, climate, meas⟩

theorem climateClosed_units :
    (climateClosed result fault s).water = (cancelBurst s).water ∧
      (climateClosed result fault s).scale = (cancelBurst s).scale := by
  have acts : RegulatorActs (runClosed result fault (burstEnded s)) (climateClosed result fault s) := climateClosed_acts
  obtain ⟨-, -, water, scale, -, -⟩ := acts.units
  obtain ⟨waterClosed, scaleClosed, -⟩ := runClosed_regulator (result := result) (fault := fault) (burstEnded s)
  obtain ⟨waterEnded, scaleEnded, -⟩ := burstEnded_units s
  exact ⟨(water.trans waterClosed).trans waterEnded, (scale.trans scaleClosed).trans scaleEnded⟩

theorem endRun_burst : holdsDose (endRun result fault s) .ch1 = false := by
  have closed : holdsDose (climateClosed result fault s) .ch1 = false := by
    rw [holdsDose_congr (congrArg (fun w : Water => w.chans.get .ch1) climateClosed_units.1)]
    exact cancelBurst_free s
  have drained : holdsDose (markDrain true (climateClosed result fault s)) .ch1 = false := by
    have topUp : ∀ t : State, chan (cancelTopUp t) .ch1 = chan t .ch1 := fun t => by
      unfold cancelTopUp
      split
      · exact chan_cancelDose_other (by decide) t
      · rfl
    have same : chan (markDrain true (climateClosed result fault s)) .ch1 =
        chan (climateClosed result fault s) .ch1 := by
      unfold markDrain
      dsimp only
      rw [if_pos rfl, postBoiler_eq]
      exact topUp _
    rw [holdsDose_congr same]
    exact closed
  rw [endRun_eq]
  split
  · exact drained
  · exact closed

theorem runClosed_kindRests (other : k ≠ .programEnded) (t : State) : KindRests k t (runClosed result fault t) := by
  have closed : ∀ r q, KindRests k t { t with ret := r, seq := q } := fun _ _ => .same rfl
  unfold runClosed
  exact KindRests.trans (closed _ _) (raiseEvent_kindRests other _ _)

theorem endRun_confirms : conditionHolds .confirmAwaited (endRun result fault s) = false := by
  have ended : conditionHolds .confirmAwaited (burstEnded s) = false := conditionHolds_endCondition _ _
  have told : KindRests .confirmAwaited (burstEnded s) (climateClosed result fault s) :=
    ((runClosed_kindRests (by decide) _).trans (withholdSteam_kindRests false _)).trans
      (endClimate_kindRests (by decide) _)
  have drained := told.trans (markDrain_kindRests (by decide) (by decide) true (climateClosed result fault s))
  rw [endRun_eq]
  split
  · exact drained.condition.trans ended
  · exact told.condition.trans ended

theorem markDrain_uncharged (b : Bool) (s : State) : Uncharged s (markDrain b s) := by
  have marked : Uncharged s (setBoiler { s.boiler with drainPending := b } s) := .same rfl rfl rfl
  exact (Uncharged.ite (marked.trans cancelTopUp_uncharged) marked).trans postBoiler_uncharged

/-- No drain that a run leaves behind takes the path from a running channel but CH0. -/
theorem endRun_charges (rests : (chan s .ch0).state ≠ .running) :
    ChargesNothing (cancelBurst s) (endRun result fault s) := by
  have still : (chan (climateClosed result fault s) .ch0).state ≠ .running := by
    rw [show chan (climateClosed result fault s) .ch0 = chan (cancelBurst s) .ch0 from
      congrArg (fun w : Water => w.chans.get .ch0) climateClosed_units.1, chan_cancelBurst_other (by decide)]
    exact rests
  have scale : (endRun result fault s).scale = (climateClosed result fault s).scale := by
    rw [endRun_eq, askCommit_scale]
    split
    · obtain ⟨-, scale, -⟩ := markDrain_uncharged true (climateClosed result fault s) still
      exact scale
    · rfl
  refine ⟨scale.trans climateClosed_units.2, ?_, ?_⟩
  · rw [endRun_run]
    rfl
  · rw [endRun_run]
    rfl

theorem endRun_climate : (endRun result fault s).climate = (climateClosed result fault s).climate := by
  rw [endRun_eq, askCommit_climate]
  split
  · exact (markDrain_reacts true (.refl _)).climate
  · rfl

theorem endRun_drains (steamed : enteredSteam s = true) : (endRun result fault s).boiler.drainPending = true := by
  rw [endRun_eq, if_pos steamed, askCommit_boiler, markDrain_boiler]

/-- What the regulator is told in: its state and the cavity reading are those of the run. -/
theorem steamAllowed_regulator (result : RunResult) (fault : Option FaultKind) (s : State) :
    let t := withholdSteam false (runClosed result fault (burstEnded s))
    t.climate.state = s.climate.state ∧ t.meas = s.meas := by
  obtain ⟨-, -, climateClosed, measClosed⟩ := runClosed_regulator (result := result) (fault := fault) (burstEnded s)
  obtain ⟨-, -, climateEnded, measEnded⟩ := burstEnded_units s
  refine ⟨?_, (withholdSteam_kept false (.refl _)).meas.trans (measClosed.trans measEnded)⟩
  rw [withholdSteam_climate, climateClosed, climateEnded]

end

end Sys2Proof.Machine

open Sys2Proof Sys2Proof.Machine

/-- Settles O46: what `endRun` leaves of the run context, the record, the account, the regulator and the events. -/
theorem runsEnd : Obligations.RunsEnd := by
  refine ⟨doorTimeoutDue_iff, fun s early => if_neg (ne_true_of_eq_false early), fun s active door timed =>
    if_pos ((doorTimeoutDue_iff s).mpr ⟨active, door, timed⟩), fun result fault s inside => ?_⟩
  obtain ⟨asked, slots, told, -⟩ := endRun_tells result fault s
  obtain ⟨state, meas⟩ := steamAllowed_regulator result fault s
  dsimp only
  refine ⟨endRun_burst, endRun_confirms, ?_, ?_, ?_, ?_, fun used => ?_, ?_, fun rests => ?_,
    fun d runs dose path => ?_, told, fun runs => ?_, fun broken => ?_, endRun_drains, asked⟩
  · rw [endRun_run]
    rfl
  · rw [endRun_run]
    rfl
  · rw [endRun_run]
    rfl
  · rw [endRun_run]
    rfl
  · rw [slots, PerSlot.get_set, if_pos rfl]
    exact if_pos used
  · refine ⟨_, endRun_lastRun, rfl, rfl, rfl, rfl, rfl, rfl, rfl, rfl, ?_, cancelBurst_used_le s⟩
    rw [endRun_run]
    rfl
  · rw [endRun_run]
    exact (cancelBurst_chargesNothing rests).2.1
  · refine (cancelBurst_handsOn runs dose).after (endRun_charges fun other => ?_)
    have own := (path.1 .ch1 (by decide)).mp runs
    have granted := (path.1 .ch0 (by decide)).mp other
    rw [own] at granted
    exact absurd granted (by decide)
  · have active : working (withholdSteam false (runClosed result fault (burstEnded s))) = true ∨
        (withholdSteam false (runClosed result fault (burstEnded s))).climate.state = .paused := by
      unfold working
      rw [state]
      exact runs
    rw [endRun_climate]
    unfold climateClosed
    rw [endClimate_climate active, meas]
    rfl
  · rw [endRun_climate]
    unfold climateClosed
    rw [endClimate_rests (.inl (state.trans broken))]
    exact state.trans broken

end


section
/-! SUPPORT. SETTLE_END (R85) and NO_FLOW (R92): the dose that faults, and what its requester makes of it. -/

namespace Sys2Proof.Machine

section
variable {c : Chan} {d : Dose} {s t : State}

theorem settleEndDue_iff (s : State) :
    settleEndDue s = true ↔ s.water.path = .settling ∧ 500000 ≤ s.water.settleTimer := by
  simp [settleEndDue, millisecond]

theorem noFlowDue_iff (s : State) :
    noFlowDue s = true ↔ (∃ c : Chan, s.water.path = .granted c) ∧ 4000000 ≤ s.water.noFlowTimer := by
  unfold noFlowDue
  rw [Bool.and_eq_true, decide_eq_true_iff, show 4 * second = 4000000 from rfl]
  cases s.water.path <;> simp

/-! ## The settle timer under a top-up's cancellation -/

theorem passPulses_timer (c : Chan) (s : State) :
    (passPulses c s).water.path = s.water.path ∧ (passPulses c s).water.settleTimer = s.water.settleTimer := by
  refine ⟨passPulses_path c s, ?_⟩
  cases dose : (chan s c).dose with
  | none =>
    unfold passPulses
    rw [dose]
  | some d =>
    rw [(passPulses_handsOn dose).2]
    rfl

/-- A path that settles goes on settling when a dose is cancelled. -/
theorem cancelDose_timer (settles : s.water.path = .settling) (c : Chan) :
    (cancelDose c s).water.settleTimer = s.water.settleTimer := by
  obtain ⟨path, timer⟩ := passPulses_timer c s
  have free : releasePath c (passPulses c s) = passPulses c s := by
    refine if_neg (ne_true_of_eq_false (decide_eq_false ?_))
    rw [path, settles]
    exact nofun
  unfold cancelDose
  split
  · rfl
  · dsimp only
    split
    · rw [free]
      exact timer
    · rfl

theorem cancelTopUp_timer (settles : s.water.path = .settling) :
    (cancelTopUp s).water.settleTimer = s.water.settleTimer := by
  unfold cancelTopUp
  split
  · exact cancelDose_timer settles .ch0
  · rfl

theorem enterBoiler_timer (settles : s.water.path = .settling) (st : BoilerState) :
    (enterBoiler st s).water.settleTimer = s.water.settleTimer := by
  unfold enterBoiler
  split
  · rfl
  · dsimp only
    rw [postBoiler_eq]
    split
    · rfl
    · exact cancelTopUp_timer settles

/-! ## The requester of a dose that has faulted (R100 to R102, R125) -/

/-- The work of a descale dose that has faulted keeps the count for the confirm, and the boiler goes by its level where
the dose was CH0's. -/
def faultNoted (c : Chan) (s : State) : State :=
  let s := setWork { s.work with faulted := restOf c s } s
  if c = .ch0 then boilerAfterFill s else s

theorem descaleDoseFaulted_eq (c : Chan) (s : State) : descaleDoseFaulted c s = setStall .flow (faultNoted c s) := rfl

theorem faultNoted_acts (c : Chan) (s : State) : WaterActs c s (faultNoted c s) :=
  (setWork_acts _).trans (.ite boilerAfterFill_acts.toWaterActs (BoilerActs.refl _ _).toWaterActs)

theorem faultNoted_reacts (c : Chan) (s : State) : BoilerReacts s (faultNoted c s) :=
  .ite (boilerAfterFill_reacts (setWork_reacts _ (.refl s))) (setWork_reacts _ (.refl s))

theorem boilerAfterFill_uncharged : Uncharged s (boilerAfterFill s) := .ite (.refl s) (enterBoiler_uncharged _)

theorem faultNoted_uncharged (c : Chan) (s : State) : Uncharged s (faultNoted c s) := by
  have noted : ∀ w : DescaleWork, Uncharged s (setWork w s) := fun _ => .same rfl rfl rfl
  exact .ite ((noted _).trans boilerAfterFill_uncharged) (noted _)

theorem faultNoted_timer (settles : s.water.path = .settling) (c : Chan) :
    (faultNoted c s).water.settleTimer = s.water.settleTimer := by
  unfold faultNoted boilerAfterFill
  dsimp only
  split
  · split
    · rfl
    · exact enterBoiler_timer (s := setWork { s.work with faulted := restOf c s } s) settles _
  · rfl

theorem faultNoted_work (c : Chan) (s : State) :
    (faultNoted c s).work.faulted = restOf c s ∧ (faultNoted c s).ret.descale = s.ret.descale := by
  unfold faultNoted
  dsimp only
  split
  · have acts : BoilerActs .ch0 (setWork { s.work with faulted := restOf c s } s)
        (boilerAfterFill (setWork { s.work with faulted := restOf c s } s)) := boilerAfterFill_acts
    exact ⟨congrArg DescaleWork.faulted acts.work, acts.descale⟩
  · exact ⟨rfl, rfl⟩

theorem boilerAfterFill_state (s : State) :
    (boilerAfterFill s).boiler.state =
      if s.boiler.state = .dryFault then .dryFault else if lowCovered s then .heating else .empty := by
  unfold boilerAfterFill
  split
  · next dry => exact dry
  · exact enterBoiler_state _ s

theorem doseFaulted_acts : WaterActs c s (doseFaulted c d s) := by
  have stays : WaterActs c s s := (BoilerActs.refl c s).toWaterActs
  have held : ∀ b : Boiler, b.soakTarget = s.boiler.soakTarget → BoilerActs c s (setBoiler b s) :=
    fun _ target => setBoiler_acts target
  unfold doseFaulted
  split
  · exact .ite ((held { s.boiler with fillHeld := true } rfl).trans (enterBoiler_acts _)).toWaterActs
      (held { s.boiler with topUpHeld := true } rfl).toWaterActs
  · rw [descaleDoseFaulted_eq]
    exact (faultNoted_acts c s).trans (setStall_acts .flow)
  · exact stays

theorem doseFaulted_faults (c : Chan) (d : Dose) (s : State) :
    (doseFaulted c d s).events.faults = s.events.faults := by
  have held : ∀ b : Boiler, b.steamRequest = s.boiler.steamRequest → b.derived = s.boiler.derived →
      BoilerReacts s (setBoiler b s) := fun b steam derived => setBoiler_reacts (.refl s) steam derived
  unfold doseFaulted
  split
  · split
    · exact (enterBoiler_reacts _ (held { s.boiler with fillHeld := true } rfl rfl)).faults
    · rfl
  · rw [descaleDoseFaulted_eq]
    exact (setStall_reacts .flow (faultNoted_reacts c s)).faults
  · rfl

theorem doseFaulted_uncharged (c : Chan) (d : Dose) (s : State) : Uncharged s (doseFaulted c d s) := by
  have held : ∀ b : Boiler, Uncharged s (setBoiler b s) := fun _ => .same rfl rfl rfl
  unfold doseFaulted
  split
  · exact .ite ((held _).trans (enterBoiler_uncharged _)) (held _)
  · rw [descaleDoseFaulted_eq]
    exact (faultNoted_uncharged c s).trans (setStall_uncharged .flow)
  · exact .refl s

theorem doseFaulted_timer (settles : s.water.path = .settling) (c : Chan) (d : Dose) :
    (doseFaulted c d s).water.settleTimer = s.water.settleTimer := by
  unfold doseFaulted
  split
  · split
    · exact enterBoiler_timer (s := setBoiler { s.boiler with fillHeld := true } s) settles _
    · rfl
  · rw [descaleDoseFaulted_eq, setStall_water]
    exact faultNoted_timer settles c
  · rfl

/-- A fill of the boiler controller that faults is held, and the boiler goes by its level (R100, R101). -/
theorem doseFaulted_fill (boiler : d.requester = .boilerControl) (demand : d.mode = .demand) :
    (doseFaulted c d s).boiler.fillHeld = true ∧
      (doseFaulted c d s).boiler.state = if lowCovered s then .heating else .empty := by
  have noted : doseFaulted c d s = enterBoiler (boilerByLevel s) (setBoiler { s.boiler with fillHeld := true } s) := by
    unfold doseFaulted
    rw [boiler]
    dsimp only
    rw [if_pos demand]
  rw [noted]
  refine ⟨?_, enterBoiler_state _ _⟩
  by_cases there : (setBoiler { s.boiler with fillHeld := true } s).boiler.state = boilerByLevel s
  · unfold enterBoiler
    rw [if_pos there]
    rfl
  · rw [enterBoiler_boiler _ there]
    rfl

theorem doseFaulted_topUp (boiler : d.requester = .boilerControl) (other : d.mode ≠ .demand) :
    (doseFaulted c d s).boiler.topUpHeld = true := by
  unfold doseFaulted
  rw [boiler]
  dsimp only
  rw [if_neg other]
  rfl

/-- A dose of the descale controller that faults stalls the phase with the count it had left (R101, R125). -/
theorem doseFaulted_descale (descale : d.requester = .descale) :
    let u := doseFaulted c d s
    u.ret.descale.stall = .flow ∧ u.ret.descale.phase = s.ret.descale.phase ∧ u.work.faulted = restOf c s ∧
      (c = .ch0 → u.boiler.state =
        if s.boiler.state = .dryFault then .dryFault else if lowCovered s then .heating else .empty) ∧
      (c ≠ .ch0 → u.boiler.state = s.boiler.state) := by
  have noted : doseFaulted c d s = setStall .flow (faultNoted c s) := by
    unfold doseFaulted
    rw [descale]
    exact descaleDoseFaulted_eq c s
  obtain ⟨work, record⟩ := faultNoted_work c s
  dsimp only
  rw [noted, setStall_record, setStall_work, setStall_boiler]
  refine ⟨rfl, by rw [record], work, fun own => ?_, fun other => ?_⟩
  · unfold faultNoted
    rw [if_pos own]
    exact boilerAfterFill_state _
  · unfold faultNoted
    rw [if_neg other]
    rfl

/-! ## NO_FLOW (R92) -/

/-- The dose on the path has faulted. -/
def flowFailed (c : Chan) (s : State) : State := endDose c .fault (enterFault .noFlow s)

theorem exec_noFlow (granted : s.water.path = .granted c) (dose : (chan s c).dose = some d)
    (timed : 4000000 ≤ s.water.noFlowTimer) :
    exec .noFlow s = .next (settle (doseFaulted c d (flowFailed c s))) := by
  have due : noFlowDue s = true := (noFlowDue_iff s).mpr ⟨⟨c, granted⟩, timed⟩
  show execNoFlow s = _
  unfold execNoFlow
  rw [granted]
  dsimp only
  rw [if_pos due]
  unfold faultChannel
  rw [dose]
  rfl

theorem exec_noFlow_early (early : noFlowDue s = false) : exec .noFlow s = .next s := by
  show execNoFlow s = _
  unfold execNoFlow
  split
  · exact if_neg (ne_true_of_eq_false early)
  · rfl

theorem flowFailed_steady (c : Chan) (s : State) : Steady s (flowFailed c s) :=
  ((enterFault_acts (c := c) .noFlow).toWaterActs.steady (enterFault_kept .noFlow rfl (.refl s))).trans
    ((endDose_chargeOnly c .fault _).steady (endDose_kept c .fault (.refl _)))

theorem flowFailed_faults (c : Chan) (s : State) : hasFault .noFlow (flowFailed c s) = true := by
  unfold flowFailed
  rw [hasFault_congr (endDose_chargeOnly c .fault _).faults, hasFault_enterFault]
  exact Bool.or_true _

theorem flowFailed_facts (granted : s.water.path = .granted c) (dose : (chan s c).dose = some d) :
    (flowFailed c s).water.path = .settling ∧ (flowFailed c s).water.settleTimer = 0 ∧
      (∀ c', chan (flowFailed c s) c' =
        if c' = c then ⟨.fault, some { d with charged := d.delivered }⟩ else chan s c') ∧
      HandsOn (d.delivered - d.charged) d s (flowFailed c s) := by
  have channels : ∀ c', chan (enterFault .noFlow s) c' = chan s c' := fun c' =>
    congrArg (fun w : Water => w.chans.get c') (enterFault_water .noFlow s)
  obtain ⟨path, timer, chans, handsOn⟩ := endDose_facts (s := enterFault .noFlow s) .fault
    ((congrArg Water.path (enterFault_water .noFlow s)).trans granted) ((congrArg Channel.dose (channels c)).trans dose)
  refine ⟨path, timer, fun c' => ?_, handsOn.before (enterFault_scale ..) (enterFault_ret ..) (enterFault_settings ..)
    (enterFault_start ..)⟩
  rw [← channels c']
  exact chans c'

/-- Only the path's channel runs, so that the fault of its dose leaves none RUNNING. -/
theorem flowFailed_idle (sound : PathSound s) (granted : s.water.path = .granted c) (dose : (chan s c).dose = some d) :
    (chan (flowFailed c s) .ch0).state ≠ .running := by
  obtain ⟨-, -, chans, -⟩ := flowFailed_facts granted dose
  rw [chans]
  split
  · exact nofun
  · next other =>
    intro runs
    rw [(sound.1 .ch0 (by decide)).mp runs] at granted
    exact other (PathState.granted.inj granted)

end

end Sys2Proof.Machine

open Sys2Proof Sys2Proof.Machine

/-- Settles O36: what `flowFailed` leaves of the path and the dose, and what the requester makes of it. -/
theorem settleEndAndNoFlow : Obligations.SettleEndAndNoFlow := by
  refine ⟨fun s settles timed => if_pos ((settleEndDue_iff s).mpr ⟨settles, timed⟩), fun s early => if_neg ?_,
    noFlowDue_iff, fun s => exec_noFlow_early, fun s c d granted dose timed => ?_⟩
  · rw [settleEndDue_iff]
    rintro ⟨settles, timed⟩
    exact early.elim (fun other => other settles) fun before => by omega
  · obtain ⟨path, timer, chans, handsOn⟩ := flowFailed_facts granted dose
    have own := (chans c).trans (if_pos rfl)
    have acts : WaterActs c (flowFailed c s) (doseFaulted c d (flowFailed c s)) := doseFaulted_acts
    have before : Steady s (flowFailed c s) := flowFailed_steady c s
    have low : lowCovered (flowFailed c s) = lowCovered s := by
      obtain ⟨-, -, -, -, -, inputs, -⟩ := before
      unfold lowCovered
      rw [inputs]
    have left : restOf c (flowFailed c s) = d.remaining := by
      unfold restOf
      rw [own]
    refine ⟨doseFaulted c d (flowFailed c s), exec_noFlow granted dose timed,
      before.trans (acts.steady (doseFaulted_kept c d (.refl _))), ?_, acts.path path,
      (doseFaulted_timer path c d).trans timer, ?_, fun sound => ?_, fun boiler demand => ?_, fun boiler other =>
      doseFaulted_topUp boiler other, fun descale => ?_⟩
    · rw [hasFault_congr (doseFaulted_faults c d _)]
      exact flowFailed_faults c s
    · rw [acts.chan (.inr (by unfold holdsDose; rw [own]; rfl)), own]
    · exact handsOn.after (doseFaulted_uncharged c d _ (flowFailed_idle sound granted dose)).2
    · rw [← low]
      exact doseFaulted_fill boiler demand
    · obtain ⟨stall, phase, work, boiler, other⟩ := doseFaulted_descale (c := c) (s := flowFailed c s) descale
      rw [left] at work
      rw [low] at boiler
      have units : (flowFailed c s).boiler = s.boiler ∧ (flowFailed c s).ret.descale = s.ret.descale := by
        unfold flowFailed
        rw [(endDose_chargeOnly c .fault _).only]
        dsimp only
        rw [enterFault_ret]
        exact ⟨enterFault_boiler .noFlow s, rfl⟩
      rw [units.1] at boiler other
      rw [units.2] at phase
      exact ⟨stall, phase, work, boiler, other⟩

end


section
/-! SUPPORT. DRAIN_TERMINAL_COUNT (R91, R98): what the end of a drain leaves of the boiler and of the descale phase. -/

namespace Sys2Proof.Machine

section
variable {c : Chan} {d : Dose} {s t : State}

theorem drainCountDue_iff (s : State) :
    drainCountDue s = true ↔
      (chan s .ch3).state = .running ∧ ∃ d, (chan s .ch3).dose = some d ∧ d.remaining = 0 := by
  unfold drainCountDue
  rw [Bool.and_eq_true, decide_eq_true_iff]
  cases (chan s .ch3).dose <;> simp

theorem drainPhase_iff (r : Descale) :
    drainPhase r = true ↔
      r.phase = .prepare ∨ r.phase = .drainAgent ∨
        ((r.phase = .rinse1 ∨ r.phase = .rinse2) ∧ r.step = some .drain) := by
  unfold drainPhase
  cases r.phase <;> simp

/-! ## The drain stops (R91, R98) -/

/-- A dose that leaves the system has nothing to charge: only the water unit moves when it stops. -/
theorem endDose_out (dose : (chan s c).dose = some d) (out : d.effective = .out) (st : ChanState) :
    (∃ w, endDose c st s = { s with water := w }) ∧ (chan (endDose c st s) c).state = st ∧
      ∀ c', c' ≠ c → chan (endDose c st s) c' = chan s c' := by
  have passed : passPulses c s = setDose c { d with charged := d.delivered } s := by
    unfold passPulses
    rw [dose]
    dsimp only
    rw [if_neg (by rw [out]; decide)]
  have released : ∀ t : State, ∃ w, releasePath c t = { t with water := w } := fun t => by
    unfold releasePath
    split
    · exact ⟨_, rfl⟩
    · exact ⟨t.water, rfl⟩
  refine ⟨?_, endDose_state c st s, fun c' other => ?_⟩
  · unfold endDose
    rw [passed]
    obtain ⟨w, only⟩ := released (setDose c { d with charged := d.delivered } s)
    rw [only]
    exact ⟨_, rfl⟩
  · unfold endDose setChanState
    rw [chan_setChan, if_neg other, chan_releasePath]
    exact chan_passPulses_other other s

/-! ## What the end of NO_FLOW leaves (R91) -/

theorem endNoFlow_kindRests {k : EventKind} (other : k ≠ .faultActive) (s : State) : KindRests k s (endNoFlow s) := by
  have held : ∀ b : Boiler, KindRests k s (setBoiler b s) := fun _ => .same rfl
  unfold endNoFlow
  split
  · exact (held _).trans (leaveFault_kindRests other _ _)
  · exact .same rfl

theorem endNoFlow_others (s : State) :
    (endNoFlow s).boiler.drainPending = s.boiler.drainPending ∧ (endNoFlow s).water = s.water ∧
      (endNoFlow s).scale = s.scale ∧ (endNoFlow s).marker = s.marker ∧ (endNoFlow s).store = s.store := by
  rw [endNoFlow_only]
  exact ⟨rfl, rfl, rfl, rfl, rfl⟩

/-! ## The end of a drain with BOILER_LOW covered (R106, R121) -/

/-- LEVEL_SENSE is raised, and the boiler goes on HEATING without a drain that waits, but from DRY_FAULT. -/
def levelRaised (s : State) : State :=
  let s := enterFault .levelSense s
  if s.boiler.state = .dryFault then s else enterBoiler .heating (markDrain false s)

/-- The phase waits for the drain that has ended. -/
def drainStalls (d : Dose) (r : Descale) : Bool :=
  decide (d.requester = .descale) && drainPhase r || decide (r.phase = .prepare)

theorem drainStalls_iff (d : Dose) (r : Descale) :
    drainStalls d r = true ↔
      r.phase = .prepare ∨ (d.requester = .descale ∧
        (r.phase = .drainAgent ∨ ((r.phase = .rinse1 ∨ r.phase = .rinse2) ∧ r.step = some .drain))) := by
  unfold drainStalls
  rw [Bool.or_eq_true, Bool.and_eq_true, decide_eq_true_iff, decide_eq_true_iff, drainPhase_iff]
  tauto

theorem levelRaised_acts : WaterActs c s (levelRaised s) := by
  have raised : BoilerActs c s (enterFault .levelSense s) := enterFault_acts .levelSense
  exact (BoilerActs.ite raised ((raised.trans (markDrain_acts false)).trans (enterBoiler_acts .heating))).toWaterActs

theorem levelRaised_descale (s : State) : (levelRaised s).ret.descale = s.ret.descale := by
  have raised : BoilerActs .ch3 s (enterFault .levelSense s) := enterFault_acts .levelSense
  exact (BoilerActs.ite raised ((raised.trans (markDrain_acts false)).trans (enterBoiler_acts .heating))).descale

theorem levelRaised_fault (s : State) : hasFault .levelSense (levelRaised s) = true := by
  have raised : hasFault .levelSense (enterFault .levelSense s) = true := by
    rw [hasFault_enterFault]
    exact Bool.or_true _
  have calm : BoilerReacts (enterFault .levelSense s) (levelRaised s) :=
    .ite (.refl _) (enterBoiler_reacts .heating (markDrain_reacts false (.refl _)))
  rw [hasFault_congr calm.faults]
  exact raised

theorem levelRaised_dry (dry : s.boiler.state = .dryFault) : (levelRaised s).boiler = s.boiler := by
  have state : (enterFault .levelSense s).boiler = s.boiler := enterFault_boiler ..
  unfold levelRaised
  dsimp only
  rw [if_pos (by rw [state]; exact dry)]
  exact state

theorem levelRaised_heats (sound : s.boiler.state ≠ .dryFault) :
    (levelRaised s).boiler.state = .heating ∧ (levelRaised s).boiler.drainPending = false := by
  have state : (enterFault .levelSense s).boiler = s.boiler := enterFault_boiler ..
  unfold levelRaised
  dsimp only
  rw [if_neg (by rw [state]; exact sound), enterBoiler_drainPending (by decide), markDrain_boiler]
  exact ⟨enterBoiler_state .heating _, rfl⟩

theorem drainEnded_covered (low : lowCovered s = true) :
    drainEnded d s =
      if drainStalls d (levelRaised s).ret.descale then setStall .level (levelRaised s) else levelRaised s := by
  rw [levelRaised_descale]
  have same := levelRaised_descale s
  unfold drainEnded drainStalls
  dsimp only
  rw [if_pos low]
  unfold levelRaised at same ⊢
  dsimp only at same ⊢
  rw [same]

/-! ## The end of a drain with BOILER_LOW uncovered (R117, R121 to R123) -/

/-- The boiler is EMPTY, but from DRY_FAULT. -/
def emptied (s : State) : State := if s.boiler.state = .dryFault then s else enterBoiler .empty s

theorem drainEnded_uncovered (low : lowCovered s = false) :
    drainEnded d s =
      if decide (d.requester = .descale) && drainPhase s.ret.descale then descaleDrainDone (emptied s)
      else emptied s := by
  unfold drainEnded
  dsimp only
  rw [if_neg (ne_true_of_eq_false low)]
  rfl

theorem emptied_acts : BoilerActs c s (emptied s) := .ite (.refl c s) (enterBoiler_acts .empty)

theorem emptied_kept : Kept s (emptied s) := by
  unfold emptied
  split
  · exact .refl s
  · exact enterBoiler_kept .empty (.refl s)

theorem emptied_state (s : State) :
    (emptied s).boiler.state = if s.boiler.state = .dryFault then .dryFault else .empty := by
  unfold emptied
  split
  · next dry => exact dry
  · exact enterBoiler_state .empty s

theorem emptied_drainPending (sound : s.boiler.state ≠ .dryFault) (full : s.boiler.state ≠ .empty) :
    (emptied s).boiler.drainPending = false := by
  unfold emptied
  rw [if_neg sound, enterBoiler_boiler _ full]
  exact Bool.and_false _

theorem emptied_scale (free : holdsDose s .ch0 = false) :
    (emptied s).scale = s.scale ∧ holdsDose (emptied s) .ch0 = false := by
  refine ⟨?_, (holdsDose_congr (emptied_acts.chan (.inr free))).trans free⟩
  unfold emptied
  split
  · rfl
  · exact (enterBoiler_free .empty free).2

/-! ## DONE (R123) -/

/-- The account has the credit of a descale that is done, or the result of an aborted one. -/
def doneCredited (s : State) : State :=
  let s := { s with marker := false }
  if s.ret.descale.aborted then askCommit (setDescale { s.ret.descale with result := .aborted } s)
  else clearAccount (setDescale { s.ret.descale with result := .completed } s)

/-- DESCALE_ENDED is raised, and the figures of the descale are cleared. -/
def doneTold (s : State) : State :=
  let s := raiseEvent .descaleEnded none (doneCredited s)
  setDescale { s.ret.descale with aborted := false, elapsed := 0, total := 0 } s

theorem descaleDone_eq (s : State) : descaleDone s = enterPhase .idle none (doneTold s) := rfl

theorem clearAccount_acts : BoilerActs c s (clearAccount s) := by
  have cleared : ∀ x : ScaleAccount, BoilerActs c s { s with scale := x } :=
    fun _ => ⟨⟨rfl, rfl, rfl, id, fun _ => rfl⟩, rfl, rfl, rfl⟩
  have asked : ∀ t : State, BoilerActs c t (askCommit t) :=
    fun _ => ⟨⟨rfl, rfl, rfl, id, fun _ => rfl⟩, rfl, rfl, rfl⟩
  exact ((cleared _).trans evaluateLevel_acts).trans (asked _)

theorem doneCredited_acts : WaterActs c s (doneCredited s) := by
  have unmarked : WaterActs c s { s with marker := false } := ⟨rfl, rfl, rfl, id, fun _ => rfl⟩
  have asked : ∀ t : State, WaterActs c t (askCommit t) := fun _ => ⟨rfl, rfl, rfl, id, fun _ => rfl⟩
  exact unmarked.trans
    (.ite ((setDescale_acts _).trans (asked _)) ((setDescale_acts _).trans clearAccount_acts.toWaterActs))

theorem doneTold_acts : WaterActs c s (doneTold s) :=
  (doneCredited_acts.trans (raiseEvent_acts .descaleEnded none).toWaterActs).trans (setDescale_acts _)

theorem descaleDone_acts : WaterActs c s (descaleDone s) := by
  rw [descaleDone_eq]
  exact doneTold_acts.trans (enterPhase_acts .idle none)

theorem doneCredited_facts (s : State) :
    (doneCredited s).marker = false ∧ (doneCredited s).store.asked = true ∧
      (doneCredited s).ret.descale =
        { s.ret.descale with result := if s.ret.descale.aborted then .aborted else .completed } ∧
      (s.ret.descale.aborted = false → (doneCredited s).scale.deposit = 0 ∧ (doneCredited s).scale.carry = 0) ∧
      (s.ret.descale.aborted = true → (doneCredited s).scale = s.scale) := by
  unfold doneCredited
  dsimp only
  by_cases aborted : s.ret.descale.aborted = true
  · rw [if_pos aborted, if_pos aborted]
    exact ⟨rfl, rfl, rfl, fun other => absurd aborted (ne_true_of_eq_false other), fun _ => rfl⟩
  · rw [if_neg aborted, if_neg aborted]
    generalize credited : setDescale { s.ret.descale with result := .completed } { s with marker := false } = t
    obtain ⟨-, ret, marker⟩ := clearAccount_others t
    rw [ret, marker, clearAccount_scale, ← credited]
    exact ⟨rfl, rfl, rfl, fun _ => ⟨rfl, rfl⟩, fun other => absurd other aborted⟩

theorem descaleDone_facts (s : State) :
    let u := descaleDone s
    u.marker = false ∧ u.store.asked = true ∧ RaisedTo .descaleEnded none s u ∧
      u.ret.descale =
        { s.ret.descale with
          phase := .idle, step := none, elapsed := 0, total := 0, aborted := false
          result := if s.ret.descale.aborted then .aborted else .completed } := by
  obtain ⟨marker, asked, record, -, -⟩ := doneCredited_facts s
  have books : BooksKept (doneTold s) (descaleDone s) := enterPhase_booksKept .idle none
  have credited : WaterActs .ch0 s (doneCredited s) := doneCredited_acts
  have raised : RaisedTo .descaleEnded none s (doneTold s) :=
    (raiseEvent_raised .descaleEnded none (doneCredited s)).from credited.steering
  refine ⟨books.marker.trans marker, books.asked asked, fun l steered => ?_, ?_⟩
  · obtain ⟨e, member, kind, fresh⟩ := raised l steered
    exact ⟨e, books.ended l e kind member, kind, fresh⟩
  · rw [descaleDone_eq, enterPhase_record]
    show { { (doneCredited s).ret.descale with aborted := false, elapsed := 0, total := 0 } with
      phase := DescalePhase.idle, step := none } = _
    rw [record]

/-- With CH0 free the account keeps the credit that it is given. -/
theorem descaleDone_scale (free : holdsDose s .ch0 = false) : (descaleDone s).scale = (doneCredited s).scale := by
  have still : holdsDose (doneTold s) .ch0 = false :=
    (holdsDose_congr (doneTold_acts.chan (.inr free))).trans free
  rw [descaleDone_eq]
  exact (enterPhase_uncharged .idle none (not_running_of_free still)).2.1

/-! ## The phase goes on (R117, R120, R122) -/

theorem wantDose_acts {c' : Chan} (other : c ≠ c') (a : DoseAmount) : WaterActs c s (wantDose c' a s) := by
  refine (setWork_acts _).trans (tryDescaleDose_acts fun c'' a' waits => ?_)
  cases Option.some.inj waits
  exact other

theorem descaleDrainDone_acts : WaterActs .ch3 s (descaleDrainDone s) := by
  have stays : WaterActs .ch3 s s := (BoilerActs.refl .ch3 s).toWaterActs
  unfold descaleDrainDone
  split
  · exact enterPhase_acts .awaitAgent none
  · exact enterPhase_acts .awaitRinse none
  · exact .ite ((enterPhase_acts .rinse2 _).trans (wantDose_acts (by decide) _)) stays
  · exact .ite descaleDone_acts stays
  · exact stays

theorem drainEnded_acts : WaterActs .ch3 s (drainEnded d s) := by
  cases low : lowCovered s with
  | true =>
    rw [drainEnded_covered low]
    exact .ite (levelRaised_acts.trans (setStall_acts .level)) levelRaised_acts
  | false =>
    rw [drainEnded_uncovered low]
    exact .ite (emptied_acts.toWaterActs.trans descaleDrainDone_acts) emptied_acts.toWaterActs

theorem drainEnded_own (low : lowCovered s = false) (own : d.requester = .descale)
    (waits : drainPhase s.ret.descale = true) : drainEnded d s = descaleDrainDone (emptied s) := by
  rw [drainEnded_uncovered low, waits, own]
  rfl

/-! ## The boiler, which the phase does not move -/

theorem wantDose_boiler (other : c ≠ .ch0) (a : DoseAmount) (s : State) : (wantDose c a s).boiler = s.boiler := by
  have loaded : ∀ (n : Nat) (t : State), (loadDose c .flush .drainLine .tank n false .descale t).boiler = t.boiler :=
    fun n t => by
      unfold loadDose
      split <;> rfl
  unfold wantDose tryDescaleDose
  dsimp only
  rw [setWork_work]
  dsimp only
  rw [if_neg fun h => other h.1, if_neg other]
  split
  · rfl
  · rw [loaded]
    rfl

theorem clearAccount_boiler (s : State) : (clearAccount s).boiler = s.boiler := by
  obtain ⟨e, st, leveled⟩ := evaluateLevel_eq { s with scale := { s.scale with deposit := 0, carry := 0 } }
  unfold clearAccount
  rw [leveled]
  rfl

theorem descaleDone_boiler (s : State) : (descaleDone s).boiler = s.boiler := by
  rw [descaleDone_eq, enterPhase_boiler]
  show (doneCredited s).boiler = s.boiler
  unfold doneCredited
  dsimp only
  split
  · rfl
  · exact clearAccount_boiler _

theorem descaleDrainDone_boiler (s : State) : (descaleDrainDone s).boiler = s.boiler := by
  unfold descaleDrainDone
  split
  · exact enterPhase_boiler ..
  · exact enterPhase_boiler ..
  · split
    · exact (wantDose_boiler (by decide) _ _).trans (enterPhase_boiler ..)
    · rfl
  · split
    · exact descaleDone_boiler s
    · rfl
  · rfl

theorem drainEnded_emptied (low : lowCovered s = false) : (drainEnded d s).boiler = (emptied s).boiler := by
  rw [drainEnded_uncovered low]
  split
  · exact descaleDrainDone_boiler _
  · rfl

/-! ## The phase after the drain (R117, R120, R122, R123) -/

theorem descaleDrainDone_prepare (prepares : s.ret.descale.phase = .prepare) :
    descaleDrainDone s = enterPhase .awaitAgent none s := by
  unfold descaleDrainDone
  rw [prepares]

theorem descaleDrainDone_agent (drains : s.ret.descale.phase = .drainAgent) :
    descaleDrainDone s = enterPhase .awaitRinse none s := by
  unfold descaleDrainDone
  rw [drains]

theorem descaleDrainDone_rinse1 (rinses : s.ret.descale.phase = .rinse1) (drains : s.ret.descale.step = some .drain) :
    descaleDrainDone s = enterRinse .rinse2 s := by
  unfold descaleDrainDone
  rw [rinses]
  exact if_pos drains

theorem descaleDrainDone_rinse2 (rinses : s.ret.descale.phase = .rinse2) (drains : s.ret.descale.step = some .drain) :
    descaleDrainDone s = descaleDone s := by
  unfold descaleDrainDone
  rw [rinses]
  exact if_pos drains

end

/-! ## DRAIN_TERMINAL_COUNT -/

section
variable {d : Dose} {s : State}

/-- The drain has stopped. -/
def drainStopped (s : State) : State := endDose .ch3 .done s

theorem exec_drainTerminalCount (runs : (chan s .ch3).state = .running) (dose : (chan s .ch3).dose = some d)
    (spent : d.remaining = 0) :
    exec .drainTerminalCount s = .next (settle (endNoFlow (drainEnded d (drainStopped s)))) := by
  show execDrainTerminalCount s = _
  unfold execDrainTerminalCount
  rw [dose]
  exact if_pos ((drainCountDue_iff s).mpr ⟨runs, d, dose, spent⟩)

theorem exec_drainTerminalCount_early (early : drainCountDue s = false) : exec .drainTerminalCount s = .next s := by
  show execDrainTerminalCount s = _
  unfold execDrainTerminalCount
  split
  · exact if_neg (ne_true_of_eq_false early)
  · rfl

theorem endNoFlow_drained (w : State) : (endNoFlow w).ret = w.ret ∧ hasFault .noFlow (endNoFlow w) = false := by
  refine ⟨endNoFlow_ret w, ?_⟩
  rw [endNoFlow_hasFault]
  simp

/-- The drain that ends uncovered on the last rinse leaves the part as R123 says (R113, R123). -/
theorem drainEnded_done {w : State} (free : holdsDose w .ch0 = false) (low : lowCovered w = false)
    (own : d.requester = .descale) (rinses : w.ret.descale.phase = .rinse2)
    (drains : w.ret.descale.step = some .drain) :
    (w.ret.descale.aborted = false → (drainEnded d w).scale.deposit = 0 ∧ (drainEnded d w).scale.carry = 0) ∧
      (w.ret.descale.aborted = true → (drainEnded d w).scale.deposit = w.scale.deposit) := by
  have record : (emptied w).ret.descale = w.ret.descale := (emptied_acts (c := .ch3)).descale
  obtain ⟨scale, idle⟩ := emptied_scale free
  obtain ⟨-, -, -, cleared, kept⟩ := doneCredited_facts (emptied w)
  rw [drainEnded_own low own ((drainPhase_iff _).mpr (.inr (.inr ⟨.inr rinses, drains⟩))),
    descaleDrainDone_rinse2 (by rw [record, rinses]) (by rw [record, drains]), descaleDone_scale idle]
  rw [record] at cleared kept
  exact ⟨cleared, fun aborted => by rw [kept aborted, scale]⟩

end

end Sys2Proof.Machine

open Sys2Proof Sys2Proof.Machine

/-- Settles O37: the drain stops, which moves the water unit alone; what its end then does goes by BOILER_LOW, the state
of the boiler and the phase. -/
theorem drainsEnd : Obligations.DrainsEnd := by
  refine ⟨drainCountDue_iff, fun s => exec_drainTerminalCount_early, fun s d runs dose spent out => ?_⟩
  intro phase stalls
  obtain ⟨⟨w, only⟩, done, others⟩ := endDose_out dose out .done
  have only : drainStopped s = { s with water := w } := only
  have acts : WaterActs .ch3 (drainStopped s) (drainEnded d (drainStopped s)) := drainEnded_acts
  have low : lowCovered (drainStopped s) = lowCovered s := by rw [only]; rfl
  have boiler : (drainStopped s).boiler = s.boiler := by rw [only]
  have ret : (drainStopped s).ret = s.ret := by rw [only]
  obtain ⟨pending, water, scale, marker, store⟩ := endNoFlow_others (drainEnded d (drainStopped s))
  obtain ⟨unchanged, noFlow⟩ := endNoFlow_drained (drainEnded d (drainStopped s))
  have channels : ∀ c, chan (endNoFlow (drainEnded d (drainStopped s))) c = chan (drainEnded d (drainStopped s)) c :=
    fun c => congrArg (fun w : Water => w.chans.get c) water
  refine ⟨endNoFlow (drainEnded d (drainStopped s)), exec_drainTerminalCount runs dose spent, ?_, ?_, noFlow,
    fun covered => ?_, fun uncovered => ?_⟩
  · have stopped : Steady s (drainStopped s) :=
      (endDose_chargeOnly .ch3 .done s).steady (endDose_kept .ch3 .done (.refl s))
    exact stopped.trans ((acts.trans endNoFlow_acts.toWaterActs).steady (endNoFlow_kept (drainEnded_kept d (.refl _))))
  · rw [channels, acts.chan (.inl (by decide))]
    exact done
  · have ended := drainEnded_covered (d := d) (low.trans covered)
    have raised := levelRaised_fault (drainStopped s)
    have record : (levelRaised (drainStopped s)).ret.descale = s.ret.descale := by rw [levelRaised_descale, ret]
    have same : (drainEnded d (drainStopped s)).boiler = (levelRaised (drainStopped s)).boiler := by
      rw [ended]
      split
      · exact setStall_boiler ..
      · rfl
    have faulted : hasFault .levelSense (drainEnded d (drainStopped s)) = true := by
      rw [ended]
      split
      · rw [hasFault_congr (setStall_reacts .level (.refl _)).faults]
        exact raised
      · exact raised
    rw [pending, endNoFlow_state, same, unchanged, endNoFlow_hasFault, faulted]
    refine ⟨rfl, ?_, fun sound => (levelRaised_heats (by rw [boiler]; exact sound)).2, fun dry => ?_, ?_⟩
    · by_cases dry : s.boiler.state = .dryFault
      · rw [if_pos dry, levelRaised_dry (by rw [boiler]; exact dry), boiler, dry]
      · rw [if_neg dry]
        exact (levelRaised_heats (by rw [boiler]; exact dry)).1
    · rw [levelRaised_dry (by rw [boiler]; exact dry), boiler]
    · have stall := drainStalls_iff d s.ret.descale
      rw [ended, record]
      by_cases waits : stalls
      · rw [if_pos waits, if_pos (stall.mpr waits), setStall_record, record]
      · rw [if_neg waits, if_neg (mt stall.mp waits)]
        exact record
  · have same := drainEnded_emptied (d := d) (low.trans uncovered)
    have keeps : BoilerActs .ch3 (drainStopped s) (emptied (drainStopped s)) := emptied_acts
    have record : (emptied (drainStopped s)).ret.descale = s.ret.descale := keeps.descale.trans (by rw [ret])
    have own : d.requester = .descale → drainPhase s.ret.descale = true →
        drainEnded d (drainStopped s) = descaleDrainDone (emptied (drainStopped s)) := fun own waits =>
      drainEnded_own (low.trans uncovered) own (by rw [ret]; exact waits)
    have waits := (drainPhase_iff s.ret.descale).mpr
    rw [pending, endNoFlow_state, same, unchanged, endNoFlow_work, marker, store, scale, channels, emptied_state,
      boiler]
    refine ⟨rfl, fun sound full => emptied_drainPending (by rw [boiler]; exact sound) (by rw [boiler]; exact full),
      fun owns prepares => ?_, fun owns drains => ?_, fun owns rinses drains => ?_, fun owns rinses drains => ?_⟩
    · rw [own owns (waits (.inl prepares)), descaleDrainDone_prepare (by rw [record]; exact prepares),
        enterPhase_record]
    · rw [own owns (waits (.inr (.inl drains))), descaleDrainDone_agent (by rw [record]; exact drains),
        enterPhase_record]
    · obtain ⟨-, next, free, held⟩ := enterRinse_facts .rinse2 (emptied (drainStopped s))
      have flush : chan (emptied (drainStopped s)) .ch2 = chan s .ch2 :=
        ((emptied_acts (c := .ch2)).chan (.inl (by decide))).trans (others .ch2 (by decide))
      have kept : Kept s (emptied (drainStopped s)) := (endDose_kept .ch3 .done (.refl s)).trans emptied_kept
      rw [own owns (waits (.inr (.inr ⟨.inl rinses, drains⟩))),
        descaleDrainDone_rinse1 (by rw [record]; exact rinses) (by rw [record]; exact drains), next, record]
      rw [holdsDose_congr flush, flush] at held
      rw [holdsDose_congr flush] at free
      refine ⟨rfl, held, fun idle => ?_⟩
      obtain ⟨work, loaded⟩ := free idle
      exact ⟨work, loaded.trans (descaleLoad_kept kept .flush .drainLine (.millilitres 150))⟩
    · obtain ⟨unmarked, asked, told, ended⟩ := descaleDone_facts (emptied (drainStopped s))
      have idle (free : holdsDose s .ch0 = false) : holdsDose (drainStopped s) .ch0 = false :=
        (holdsDose_congr (others .ch0 (by decide))).trans free
      have credit (free : holdsDose s .ch0 = false) := drainEnded_done (d := d) (idle free) (low.trans uncovered) owns
        (by rw [ret]; exact rinses) (by rw [ret]; exact drains)
      rw [ret] at credit
      have whole := own owns (waits (.inr (.inr ⟨.inr rinses, drains⟩)))
      rw [descaleDrainDone_rinse2 (by rw [record]; exact rinses) (by rw [record]; exact drains)] at whole
      have steering : (emptied (drainStopped s)).events.steering = s.events.steering :=
        keeps.steering.trans (by rw [only])
      have raised : RaisedTo .descaleEnded none s (drainEnded d (drainStopped s)) := by
        rw [whole]
        exact told.from steering
      refine ⟨by rw [whole]; exact unmarked, by rw [whole]; exact asked,
        (endNoFlow_kindRests (by decide) _).raised raised, by rw [whole, ended, record], fun free => (credit free).1,
        fun free aborted => ?_⟩
      rw [(credit free).2 aborted, only]

end


section
/-! SUPPORT. What holds the boiler controller's fill and top-up, and its earlier need, through the operations of the
units: only a terminal count and a new need release them (R91, R100, R102). One lemma per operation. -/

namespace Sys2Proof.Machine

/-- What the boiler controller remembers between two needs: its held fill, its held top-up and whether it was needed. -/
def Boiler.memory (b : Boiler) : Bool × Bool × Bool := (b.fillHeld, b.topUpHeld, b.wasNeeded)

section
variable {s : State}

/-! ## The boiler controller's own operations -/

theorem enterBoiler_memory (st : BoilerState) (s : State) :
    (enterBoiler st s).boiler.memory = s.boiler.memory := by
  by_cases there : s.boiler.state = st
  · rw [show enterBoiler st s = s from if_pos there]
  · rw [enterBoiler_boiler st there]
    rfl

theorem markDrain_memory (b : Bool) (s : State) : (markDrain b s).boiler.memory = s.boiler.memory := by
  rw [markDrain_boiler]
  rfl

theorem loadDrain_memory (r : Requester) (s : State) : (loadDrain r s).boiler.memory = s.boiler.memory := by
  have taken : (drainTaken r s).boiler.memory = s.boiler.memory := markDrain_memory ..
  cases held : holdsDose s .ch3 with
  | true => rw [show loadDrain r s = s from if_pos held]
  | false =>
    rw [loadDrain_eq r held]
    split
    · exact taken
    · rw [enterBoiler_memory, taken]

/-! ## The regulator and the run (R28, R149, R150, R157) -/

/-- The boiler controller without what a run's end and the regulator tell it. -/
def Boiler.course (b : Boiler) : Boiler := { b with drainPending := false, steamRequest := 0 }

theorem memory_of_course {t : State} (h : t.boiler.course = s.boiler.course) : t.boiler.memory = s.boiler.memory := by
  show Boiler.memory t.boiler.course = Boiler.memory s.boiler.course
  rw [h]

theorem markDrain_course (b : Bool) (s : State) : (markDrain b s).boiler.course = s.boiler.course := by
  rw [markDrain_boiler]
  rfl

theorem handSteamRequest_course (n : Nat) (s : State) :
    (handSteamRequest n s).boiler.course = s.boiler.course := by
  rw [handSteamRequest_eq]
  rfl

theorem withholdSteam_course (b : Bool) (s : State) : (withholdSteam b s).boiler.course = s.boiler.course := by
  unfold withholdSteam
  dsimp only
  split
  · exact handSteamRequest_course ..
  · rfl

theorem endClimate_course (s : State) : (endClimate s).boiler.course = s.boiler.course := by
  have given : ∀ c : Climate, (issueOutputs (postZeros (setClimate c s))).boiler.course = s.boiler.course := fun c => by
    rw [issueOutputs_boiler, postZeros_eq]
    rfl
  unfold endClimate
  split
  case h_4 => rfl
  all_goals exact given _

theorem removeCause_course (p : PauseCause) (s : State) : (removeCause p s).boiler.course = s.boiler.course := by
  rw [(removeCause_runOnly p s).only]

theorem addCause_course (p : PauseCause) (s : State) : (addCause p s).boiler.course = s.boiler.course := by
  rw [(addCause_runOnly p s).only]

theorem followWater_course (s : State) : (followWater s).boiler.course = s.boiler.course := by
  refine followWater_cases (P := fun t => t.boiler.course = s.boiler.course) s rfl ?_ ?_ rfl
  · unfold waterAdded
    rw [withholdSteam_course, addCause_course]
    rfl
  · unfold waterRemoved
    dsimp only
    rw [withholdSteam_course, setRun_boiler, removeCause_course]

theorem degradeStage_course (s : State) : (degradeStage s).boiler.course = s.boiler.course := by
  by_cases degrades : (currentStage s).usesSteam = true ∧ s.ret.run.degraded = false
  · have marked : (stageMarked s).boiler.course = s.boiler.course := withholdSteam_course _ _
    have dropped : (burstDropped s).boiler = (stageMarked s).boiler := cancelBurst_boiler _
    rw [degradeStage_eq degrades.1 degrades.2, setRun_boiler, removeCause_course, dropped, marked]
  · rw [degradeStage_same degrades]

theorem closeStage_course (s : State) : (closeStage s).boiler.course = s.boiler.course := by
  have ended : (burstEnded s).boiler = s.boiler := cancelBurst_boiler s
  rw [closeStage_eq, removeCause_course, ended]

theorem endRun_course (result : RunResult) (fault : Option FaultKind) (s : State) :
    (endRun result fault s).boiler.course = s.boiler.course := by
  have ended : (burstEnded s).boiler = s.boiler := cancelBurst_boiler s
  have closed : (runClosed result fault (burstEnded s)).boiler = (burstEnded s).boiler := rfl
  have told : (climateClosed result fault s).boiler.course = s.boiler.course := by
    unfold climateClosed
    rw [endClimate_course, withholdSteam_course, closed, ended]
  rw [endRun_eq, askCommit_boiler]
  split
  · rw [markDrain_course, told]
  · exact told

theorem lossTaken_course (k : Nat) (s : State) : (lossTaken k s).boiler.course = s.boiler.course := by
  unfold lossTaken
  split
  · exact degradeStage_course _
  · rfl

theorem stageAnnounced_course (k : Nat) (s : State) : (stageAnnounced k s).boiler.course = s.boiler.course := by
  rw [stageAnnounced_only]
  exact (withholdSteam_course _ _).trans ((congrArg Boiler.course (stageEntry_boiler _ _)).trans (lossTaken_course k s))

theorem stageEntered_course (k : Nat) (s : State) : (stageEntered k false s).boiler.course = s.boiler.course := by
  have probed : ∀ t : State, (followProbe t).boiler = t.boiler := fun t => by rw [(followProbe_runOnly t).only]
  have caused : (causesEntered k false s).boiler.course = s.boiler.course :=
    (followWater_course _).trans ((congrArg Boiler.course (probed _)).trans (stageAnnounced_course k s))
  refine Eq.trans ?_ caused
  refine enterBurst_cases (P := fun t => t.boiler.course = _) (causesEntered k false s) rfl (fun _ => rfl) fun ml => ?_
  rw [followWater_course, requestBurst_only]

theorem enterStage_course (k : Nat) (s : State) : (enterStage k false s).1.boiler.course = s.boiler.course := by
  by_cases fails : fatalFault (stageTaken k s) ≠ none ∨ s.climate.state = .fault
  · obtain ⟨f, u, entry, taken⟩ := enterStage_abandoned (atStart := false) fails
    rw [entry, endRun_course]
    obtain rfl | rfl := taken
    · rfl
    · exact lossTaken_course k s
  · obtain ⟨calm, works⟩ := not_or.mp fails
    rw [enterStage_entered false (not_not.mp calm) works]
    exact stageEntered_course k s

theorem endStages_course (fuel : Nat) (s : State) : (endStages fuel s).boiler.course = s.boiler.course := by
  induction fuel generalizing s with
  | zero => rfl
  | succ n ih =>
    have entered : (entryAfter s).1.boiler.course = s.boiler.course :=
      (enterStage_course _ _).trans (closeStage_course s)
    by_cases following : hasFollowing s
    · rw [endStages_following n following]
      split
      · exact (ih _).trans entered
      · exact entered
    · rw [endStages_last n following, endRun_course, closeStage_course]

theorem checkStageEnd_course (s : State) : (checkStageEnd s).boiler.course = s.boiler.course := by
  unfold checkStageEnd endStage
  split
  · exact endStages_course 12 s
  · rfl

theorem checkRunFaults_course (s : State) : (checkRunFaults s).boiler.course = s.boiler.course := by
  unfold checkRunFaults
  split
  · split
    · exact endRun_course ..
    · split
      · exact (checkStageEnd_course _).trans (degradeStage_course _)
      · rfl
  · rfl

/-! ## The descale controller (R119 to R127) -/

theorem tryDescaleDrain_memory (s : State) : (tryDescaleDrain s).boiler.memory = s.boiler.memory := by
  unfold tryDescaleDrain
  split
  · exact loadDrain_memory ..
  · rfl

theorem wantDrain_memory (s : State) : (wantDrain s).boiler.memory = s.boiler.memory := tryDescaleDrain_memory _

theorem followPrepare_memory (s : State) : (followPrepare s).boiler.memory = s.boiler.memory := by
  unfold followPrepare
  split
  · split
    · rw [enterPhase_boiler]
      rfl
    · split
      · rfl
      · exact wantDrain_memory s
    · split
      · rfl
      · exact wantDrain_memory s
    · rfl
  · rfl

theorem boilerAfterFill_memory (s : State) : (boilerAfterFill s).boiler.memory = s.boiler.memory := by
  unfold boilerAfterFill
  split
  · rfl
  · exact enterBoiler_memory ..

theorem abortWithCredit_memory (s : State) : (abortWithCredit s).boiler.memory = s.boiler.memory := by
  have filled : ∀ t : State, (cancelDescaleFill t).boiler.memory = t.boiler.memory := fun t => by
    unfold cancelDescaleFill
    split
    · rw [boilerAfterFill_memory, cancelDose_boiler]
    · rfl
  have withdrawn : ∀ t : State, (withdrawSoakTarget t).boiler.memory = t.boiler.memory := fun t => by
    rw [withdrawSoakTarget_boiler]
    rfl
  have credited : ∀ t : State, (creditAbort t).boiler = t.boiler := fun t => by
    unfold creditAbort
    rw [askCommit_boiler, evaluateLevel_boiler]
  unfold abortWithCredit enterDrainAgent
  dsimp only
  rw [wantDrain_memory, enterPhase_boiler, setStall_boiler, setDescale_boiler, credited, withdrawn, filled]
  rfl

theorem enterDryFault_memory (s : State) : (enterDryFault s).boiler.memory = s.boiler.memory := by
  have entered : (dryFaultEntered s).boiler.memory = s.boiler.memory := by
    rw [dryFaultEntered_boiler]
    exact enterBoiler_memory ..
  rw [enterDryFault_eq]
  split
  · rfl
  · split
    · rw [abortWithCredit_memory, entered]
    · exact entered

theorem wantDose_memory (c : Chan) (a : DoseAmount) (s : State) : (wantDose c a s).boiler.memory = s.boiler.memory := by
  have loaded : ∀ (c : Chan) (m : DoseMode) (dest : Destination) (n : Nat) (t : State),
      (loadDose c m dest .tank n false .descale t).boiler = t.boiler := fun _ _ _ _ _ => by
    unfold loadDose
    split <;> rfl
  unfold wantDose tryDescaleDose
  dsimp only
  rw [setWork_work]
  dsimp only
  split
  · rw [setStall_boiler]
    rfl
  · split
    · rfl
    · split
      · split
        · rw [loaded]
          rfl
        · rw [enterBoiler_memory, loaded]
          rfl
      · rw [loaded]
        rfl

theorem enterFill_memory (s : State) : (enterFill s).boiler.memory = s.boiler.memory := by
  unfold enterFill
  rw [wantDose_memory, enterPhase_boiler]

theorem descaleFillEnded_memory (s : State) : (descaleFillEnded s).boiler.memory = s.boiler.memory := by
  have met : (fillMet s).boiler.memory = s.boiler.memory := by
    unfold fillMet
    split
    · split
      · rfl
      · exact enterBoiler_memory ..
    · rw [enterDryFault_memory, enterFault_boiler]
  have soaks : ∀ t : State, (enterSoak t).boiler.memory = t.boiler.memory := fun t => by
    unfold enterSoak
    dsimp only
    rw [giveSoakTarget_boiler]
    show { (enterPhase .soak none t).boiler with soakTarget := true }.memory = _
    rw [enterPhase_boiler]
    rfl
  have drains : ∀ t : State, (enterDrainStep t).boiler.memory = t.boiler.memory := fun t => by
    unfold enterDrainStep
    rw [wantDrain_memory, enterPhase_boiler]
  unfold descaleFillEnded
  unfold fillMet at met
  dsimp only
  generalize (if lowCovered s then (if s.boiler.state = .dryFault then s else enterBoiler .heating s)
    else enterDryFault (enterFault .levelSense s)) = t at met ⊢
  refine Eq.trans ?_ met
  split
  · split
    · exact soaks t
    · exact abortWithCredit_memory t
  · split
    · exact drains t
    · rfl
  · split
    · exact drains t
    · rfl
  · rfl

theorem resumeSource_boiler (src : Source) (s : State) : (resumeSource src s).boiler = s.boiler := by
  unfold resumeSource
  simp only [List.foldl_cons, List.foldl_nil]
  split <;> split <;> split <;> rfl

theorem doseCompleted_memory (c : Chan) (d : Dose) (s : State) :
    (doseCompleted c d s).boiler.memory = s.boiler.memory := by
  unfold doseCompleted
  split
  · split
    · split
      · exact enterBoiler_memory ..
      · rw [enterDryFault_memory, enterFault_boiler]
    · rfl
  · rfl
  · split
    · exact descaleFillEnded_memory s
    · split
      · exact enterFill_memory s
      · rfl
  · split
    · rfl
    · rw [resumeSource_boiler]

theorem drainEnded_memory (d : Dose) (s : State) : (drainEnded d s).boiler.memory = s.boiler.memory := by
  cases low : lowCovered s with
  | true =>
    have raised : (levelRaised s).boiler.memory = s.boiler.memory := by
      unfold levelRaised
      dsimp only
      split
      · rw [enterFault_boiler]
      · rw [enterBoiler_memory, markDrain_memory, enterFault_boiler]
    rw [drainEnded_covered low]
    split
    · rw [setStall_boiler, raised]
    · exact raised
  | false =>
    rw [drainEnded_emptied low]
    unfold emptied
    split
    · rfl
    · exact enterBoiler_memory ..

/-! ## The end of NO_FLOW releases what it held (R91, R100, R102) -/

theorem endNoFlow_memory (s : State) :
    (endNoFlow s).boiler.memory =
      if hasFault .noFlow s then (false, false, s.boiler.wasNeeded) else s.boiler.memory := by
  unfold endNoFlow
  split
  · rw [leaveFault_boiler]
    rfl
  · rfl

end

end Sys2Proof.Machine
end


section
/-! SUPPORT. The boiler controller's own work (R99 to R106): its need, its rows, and what releases a held fill or
top-up. -/

namespace Sys2Proof.Machine

section
variable {s t : State}

/-! ## Need and the due moments (R99, R100, R102, R106, R121) -/

theorem isSteam_iff (m : Mode) : m.isSteam = true ↔ m = .steam ∨ m = .combi ∨ m = .proof := by
  cases m <;> decide

theorem climateSteams_iff (s : State) :
    climateSteams s = true ↔
      (∃ r, s.climate.record = some r ∧ (r.mode = .steam ∨ r.mode = .combi ∨ r.mode = .proof)) ∧
        (s.climate.state = .preheat ∨ s.climate.state = .hold) := by
  unfold climateSteams
  cases s.climate.record with
  | none => simp
  | some r => simp [isSteam_iff]

theorem descaleNeeds_iff (s : State) :
    descaleNeeds s = true ↔
      s.ret.descale.phase = .draw ∨ s.ret.descale.phase = .soak ∨
        ((s.ret.descale.phase = .rinse1 ∨ s.ret.descale.phase = .rinse2) ∧ s.ret.descale.step = some .fill) := by
  unfold descaleNeeds
  cases s.ret.descale.phase <;> simp

theorem boilerNeeded_iff (s : State) :
    boilerNeeded s = true ↔
      ((∃ r, s.climate.record = some r ∧ (r.mode = .steam ∨ r.mode = .combi ∨ r.mode = .proof)) ∧
        (s.climate.state = .preheat ∨ s.climate.state = .hold) ∧ s.ret.run.causes.door = false ∧
        s.ret.run.causes.water = false) ∨
      s.ret.descale.phase = .draw ∨ s.ret.descale.phase = .soak ∨
        ((s.ret.descale.phase = .rinse1 ∨ s.ret.descale.phase = .rinse2) ∧ s.ret.descale.step = some .fill) := by
  unfold boilerNeeded
  simp only [Bool.or_eq_true, Bool.and_eq_true, Bool.not_eq_true', climateSteams_iff, descaleNeeds_iff, and_assoc]

theorem boilerNeeded_congr (climate : t.climate = s.climate) (causes : t.ret.run.causes = s.ret.run.causes)
    (descale : descaleNeeds t = descaleNeeds s) : boilerNeeded t = boilerNeeded s := by
  unfold boilerNeeded climateSteams
  rw [climate, causes, descale]

theorem holdsDose_free (s : State) (c : Chan) :
    holdsDose s c = false ↔ (chan s c).state = .idle ∨ (chan s c).state = .done ∨ (chan s c).state = .fault := by
  unfold holdsDose
  cases (chan s c).state <;> decide

/-- A drain may be loaded where no tank is missing (R98). -/
theorem drainAllowed_iff (s : State) :
    (!tankOven s || tankPresent s) = true ↔ (s.start.straps.supply = .tank → s.inputs.tankPresent.reading = true) := by
  unfold tankOven tankPresent
  cases s.start.straps.supply <;> simp

theorem not_hasFault_iff {f : FaultKind} : hasFault f s = false ↔ f ∉ s.events.faults := by
  rw [← hasFault_iff, Bool.not_eq_true]

theorem boilerFillDue_iff (s : State) :
    boilerFillDue s = true ↔
      s.start.ready = true ∧ s.boiler.state = .empty ∧ boilerNeeded s = true ∧ s.ret.descale.phase = .idle ∧
        FaultKind.levelSense ∉ s.events.faults ∧ s.boiler.fillHeld = false ∧
        ((chan s .ch0).state = .idle ∨ (chan s .ch0).state = .done ∨ (chan s .ch0).state = .fault) := by
  unfold boilerFillDue
  simp only [Bool.and_eq_true, Bool.not_eq_true', decide_eq_true_eq, not_hasFault_iff, holdsDose_free, and_assoc]

theorem topUpDue_iff (s : State) :
    topUpDue s = true ↔
      s.start.ready = true ∧ (s.boiler.state = .heating ∨ s.boiler.state = .ready) ∧
        s.inputs.boilerHigh.reading = false ∧ s.ret.descale.phase = .idle ∧ s.boiler.drainPending = false ∧
        s.boiler.topUpHeld = false ∧
        ((chan s .ch0).state = .idle ∨ (chan s .ch0).state = .done ∨ (chan s .ch0).state = .fault) := by
  unfold topUpDue highCovered
  simp only [Bool.and_eq_true, Bool.or_eq_true, Bool.not_eq_true', decide_eq_true_eq, holdsDose_free, and_assoc]

theorem boilerDrainDue_iff (s : State) :
    boilerDrainDue s = true ↔
      s.start.ready = true ∧ s.boiler.drainPending = true ∧ (s.boiler.state = .heating ∨ s.boiler.state = .ready) ∧
        boilerNeeded s = false ∧ s.meas.boiler < 800 ∧ FaultKind.sensorBoiler ∉ s.events.faults ∧
        (s.start.straps.supply = .tank → s.inputs.tankPresent.reading = true) ∧
        ((chan s .ch3).state = .idle ∨ (chan s .ch3).state = .done ∨ (chan s .ch3).state = .fault) := by
  unfold boilerDrainDue
  simp only [Bool.and_eq_true, drainAllowed_iff, Bool.not_eq_true', decide_eq_true_eq, not_hasFault_iff, holdsDose_free,
    and_assoc]
  rw [Bool.or_eq_true, decide_eq_true_iff, decide_eq_true_iff]

theorem descaleDrainDue_iff (s : State) :
    descaleDrainDue s = true ↔
      s.start.ready = true ∧ s.work.drain = true ∧
        ((chan s .ch3).state = .idle ∨ (chan s .ch3).state = .done ∨ (chan s .ch3).state = .fault) ∧
        (s.start.straps.supply = .tank → s.inputs.tankPresent.reading = true) := by
  unfold descaleDrainDue
  simp only [Bool.and_eq_true, drainAllowed_iff, Bool.not_eq_true', holdsDose_free, and_assoc]

theorem heatUpDue_iff (s : State) :
    heatUpDue s = true ↔
      s.boiler.state = .heating ∧ s.ret.descale.phase = .idle ∧ s.meas.frequency ≠ .undecided ∧
        480 * cycles s ≤ s.boiler.heatUp := by
  unfold heatUpDue
  simp only [Bool.and_eq_true, decide_eq_true_eq, and_assoc]

/-! ## The doses that are loaded (R98, R100, R102) -/

/-- CH0 as the load of the controller's own fill or top-up leaves it. -/
def boilerLoad (m : DoseMode) (reload : Bool) (s : State) : Channel :=
  let src := sourceFor .boilerControl s
  let n := volumePulses s.settings.fillVolume s
  ⟨if m = .demand ∧ highCovered s = true then .done else if sourceLow src s then .suspended else .requesting,
    some
      { mode := m, destination := .boiler, source := some src, base := n, remaining := n, delivered := 0, charged := 0
        reload := reload, requester := .boilerControl, portion := if m = .single then volumePulses 25 s else 0
        portionLeft := 0 }⟩

theorem loadDose_boiler (free : holdsDose s .ch0 = false) (m : DoseMode) (reload : Bool) :
    loadDose .ch0 m .boiler (sourceFor .boilerControl s) (volumePulses s.settings.fillVolume s) reload .boilerControl
      s = setChan .ch0 (boilerLoad m reload s) s := if_neg (ne_true_of_eq_false free)

theorem sourceFor_boiler (s : State) : sourceFor .boilerControl s = if tankOven s then .tank else .inlet := by
  unfold sourceFor
  simp

/-- The controller has its fill loaded, which a covered high level ends at once (R100). -/
def fillBegun (s : State) : State :=
  let t := enterBoiler .filling (setChan .ch0 (boilerLoad .demand false s) s)
  if (chan t .ch0).state = .done then enterBoiler .heating t else t

theorem fillBegun_facts (s : State) :
    let u := fillBegun s
    u = { s with water := u.water, boiler := u.boiler, share := u.share } ∧
      u.boiler.state = (if highCovered s then .heating else .filling) ∧ chan u .ch0 = boilerLoad .demand false s := by
  have own : chan (setChan .ch0 (boilerLoad .demand false s) s) .ch0 = boilerLoad .demand false s := by
    rw [chan_setChan, if_pos rfl]
  have noTopUp : NoTopUp (setChan .ch0 (boilerLoad .demand false s) s) := by
    refine .inr ?_
    rw [own]
    rfl
  obtain ⟨b, sh, filling⟩ := enterBoiler_only .filling noTopUp
  have water : (enterBoiler .filling (setChan .ch0 (boilerLoad .demand false s) s)).water =
      (setChan .ch0 (boilerLoad .demand false s) s).water := enterBoiler_water .filling noTopUp
  have state : (enterBoiler .filling (setChan .ch0 (boilerLoad .demand false s) s)).boiler.state = .filling :=
    enterBoiler_state ..
  have chan0 : chan (enterBoiler .filling (setChan .ch0 (boilerLoad .demand false s) s)) .ch0 =
      boilerLoad .demand false s := (congrArg (fun w : Water => w.chans.get .ch0) water).trans own
  dsimp only
  unfold fillBegun
  dsimp only
  rw [chan0]
  cases high : highCovered s with
  | true =>
    have done : (boilerLoad .demand false s).state = .done := if_pos ⟨rfl, high⟩
    obtain ⟨b', sh', heating⟩ := enterBoiler_only .heating (noTopUp.congr water)
    rw [if_pos done, if_pos rfl]
    refine ⟨?_, enterBoiler_state .heating _, ?_⟩
    · rw [heating, filling]
      rfl
    · refine Eq.trans ?_ chan0
      exact congrArg (fun w : Water => w.chans.get .ch0) (enterBoiler_water .heating (noTopUp.congr water))
  | false =>
    have waits : (boilerLoad .demand false s).state ≠ .done := by
      unfold boilerLoad
      dsimp only
      rw [if_neg (by rw [high]; simp)]
      split <;> nofun
    rw [if_neg waits, if_neg (by decide)]
    refine ⟨?_, state, chan0⟩
    rw [filling]
    rfl

theorem exec_boilerFill (due : boilerFillDue s = true) : exec .boilerFill s = .next (settle (fillBegun s)) := by
  obtain ⟨-, -, -, -, -, -, free⟩ := (boilerFillDue_iff s).mp due
  show execBoilerFill s = _
  unfold execBoilerFill
  rw [if_pos due]
  dsimp only
  rw [loadDose_boiler ((holdsDose_free s .ch0).mpr free)]
  rfl

theorem exec_topUp (due : topUpDue s = true) :
    exec .topUp s = .next (settle (setChan .ch0 (boilerLoad .single true s) s)) := by
  obtain ⟨-, -, -, -, -, -, free⟩ := (topUpDue_iff s).mp due
  show execTopUp s = _
  unfold execTopUp
  rw [if_pos due, loadDose_boiler ((holdsDose_free s .ch0).mpr free)]

/-! ## A dry boiler (R104, R105) -/

theorem boilerDemand_dryFault (dry : s.boiler.state = .dryFault) (last : Nat) : boilerDemand s last = 0 := by
  unfold boilerDemand
  rw [dry]
  dsimp only
  split
  · rfl
  · split
    · rfl
    · split <;> rfl

/-- The entry of DRY_FAULT posts 0 once the part is READY, and the controller's own dose on CH0 is gone. -/
theorem dryFaultEntered_facts (wet : s.boiler.state ≠ .dryFault) :
    (s.start.ready = true → (dryFaultEntered s).share.demands.boiler = 0) ∧
      holdsFor (dryFaultEntered s) .ch0 .boilerControl = false := by
  have posted : s.start.ready = true → (enterBoiler .dryFault s).share.demands.boiler = 0 := fun ready => by
    unfold enterBoiler
    rw [if_neg wet]
    dsimp only
    rw [if_neg (by decide), postBoiler_eq]
    have dry : ∀ t : State, t.start.ready = true → t.boiler.state = .dryFault → postedDemand t = 0 := by
      intro t ready dry
      unfold postedDemand
      rw [if_pos ready]
      exact boilerDemand_dryFault dry _
    refine dry _ ((congrArg StartUp.ready (cancelTopUp_kept (.refl _)).start).trans ready) ?_
    rw [cancelTopUp_boiler]
    rfl
  unfold dryFaultEntered
  split
  · refine ⟨fun ready => ?_, ?_⟩
    · rw [(cancelDose_chargeOnly .ch0 _).only]
      exact posted ready
    · unfold holdsFor holdsDose
      rw [chan_cancelDose (by decide)]
      rfl
  · next free => exact ⟨posted, Bool.eq_false_of_not_eq_true free⟩

/-! ## NO_FLOW through the end of a dose (R91) -/

theorem wantDose_faults (c : Chan) (a : DoseAmount) (s : State) :
    (wantDose c a s).events.faults = s.events.faults := by
  have loaded : ∀ (c : Chan) (m : DoseMode) (dest : Destination) (n : Nat) (t : State),
      (loadDose c m dest .tank n false .descale t).events = t.events := fun _ _ _ _ _ => by
    unfold loadDose
    split <;> rfl
  unfold wantDose tryDescaleDose
  dsimp only
  rw [setWork_work]
  dsimp only
  split
  · exact (setStall_reacts .dry (.refl _)).faults
  · split
    · rfl
    · split
      · split
        · rw [loaded]
          rfl
        · rw [(enterBoiler_reacts .filling (.refl _)).faults, loaded]
          rfl
      · rw [loaded]
        rfl

theorem fillMet_noFlow (s : State) : hasFault .noFlow (fillMet s) = hasFault .noFlow s := by
  unfold fillMet
  split
  · split
    · rfl
    · exact hasFault_congr (enterBoiler_reacts .heating (.refl _)).faults _
  · rw [hasFault_congr (enterDryFault_reacts (.refl _)).faults, hasFault_enterFault]
    simp

theorem doseCompleted_noFlow (c : Chan) (d : Dose) (s : State) :
    hasFault .noFlow (doseCompleted c d s) = hasFault .noFlow s := by
  have resumed : ∀ src : Source, (resumeSource src s).events = s.events := fun src => by
    unfold resumeSource
    simp only [List.foldl_cons, List.foldl_nil]
    split <;> split <;> split <;> rfl
  unfold doseCompleted
  split
  · split
    · split
      · exact hasFault_congr (enterBoiler_reacts .heating (.refl _)).faults _
      · rw [hasFault_congr (enterDryFault_reacts (.refl _)).faults, hasFault_enterFault]
        simp
    · rfl
  · rfl
  · split
    · rw [hasFault_congr (descaleFillEnded_reacts s).1.faults]
      exact fillMet_noFlow s
    · split
      · refine hasFault_congr ((wantDose_faults ..).trans ?_) _
        exact (enterPhase_reacts _ _ (.refl _)).faults
      · rfl
  · split
    · rfl
    · next src _ => exact hasFault_congr (congrArg EventBlock.faults (resumed src)) _

theorem descaleDone_faults (s : State) : (descaleDone s).events.faults = s.events.faults := by
  have credited : (doneCredited s).events.faults = s.events.faults := by
    unfold doneCredited
    dsimp only
    split
    · rfl
    · unfold clearAccount
      exact (evaluateLevel_reacts (.refl _)).faults
  rw [descaleDone_eq, (enterPhase_reacts .idle none (.refl _)).faults]
  exact credited

theorem descaleDrainDone_faults (s : State) : (descaleDrainDone s).events.faults = s.events.faults := by
  unfold descaleDrainDone
  split
  · exact (enterPhase_reacts _ _ (.refl _)).faults
  · exact (enterPhase_reacts _ _ (.refl _)).faults
  · split
    · exact (wantDose_faults ..).trans (enterPhase_reacts _ _ (.refl _)).faults
    · rfl
  · split
    · exact descaleDone_faults s
    · rfl
  · rfl

theorem drainEnded_noFlow (d : Dose) (s : State) : hasFault .noFlow (drainEnded d s) = hasFault .noFlow s := by
  cases low : lowCovered s with
  | true =>
    have raised : hasFault .noFlow (levelRaised s) = hasFault .noFlow s := by
      have calm : BoilerReacts (enterFault .levelSense s) (levelRaised s) :=
        .ite (.refl _) (enterBoiler_reacts .heating (markDrain_reacts false (.refl _)))
      rw [hasFault_congr calm.faults, hasFault_enterFault]
      simp
    rw [drainEnded_covered low]
    split
    · rw [hasFault_congr (setStall_reacts .level (.refl _)).faults, raised]
    · exact raised
  | false =>
    have empty : (emptied s).events.faults = s.events.faults := by
      unfold emptied
      split
      · rfl
      · exact (enterBoiler_reacts .empty (.refl _)).faults
    rw [drainEnded_uncovered low]
    split
    · exact hasFault_congr ((descaleDrainDone_faults _).trans empty) _
    · exact hasFault_congr empty _

/-- Where a dose has ended, NO_FLOW and what it held of the controller are gone (R91, R100, R102). -/
theorem endNoFlow_releases {u : State} (memory : u.boiler.memory = s.boiler.memory)
    (flow : hasFault .noFlow u = hasFault .noFlow s) :
    hasFault .noFlow (endNoFlow u) = false ∧
      (hasFault .noFlow s = true → (endNoFlow u).boiler.fillHeld = false ∧ (endNoFlow u).boiler.topUpHeld = false) ∧
      (hasFault .noFlow s = false →
        (endNoFlow u).boiler.fillHeld = s.boiler.fillHeld ∧ (endNoFlow u).boiler.topUpHeld = s.boiler.topUpHeld) := by
  have held := endNoFlow_memory u
  rw [flow, memory] at held
  refine ⟨(endNoFlow_drained u).2, fun failed => ?_, fun flows => ?_⟩
  · rw [if_pos failed] at held
    simp only [Boiler.memory, Prod.mk.injEq] at held
    exact ⟨held.1, held.2.1⟩
  · rw [if_neg (ne_true_of_eq_false flows)] at held
    simp only [Boiler.memory, Prod.mk.injEq] at held
    exact ⟨held.1, held.2.1⟩

theorem exec_flowPulse_releases {c : Chan} {d : Dose} (hc : c ≠ .ch3) (granted : s.water.path = .granted c)
    (dose : (chan s c).dose = some d) (last : d.remaining = 1)
    (accepted : s.meas.pulseSeen = false ∨ 2000 ≤ s.meas.pulseAge) :
    ∃ u, exec .flowPulse s = .next (settle u) ∧ hasFault .noFlow u = false ∧
      (hasFault .noFlow s = true → u.boiler.fillHeld = false ∧ u.boiler.topUpHeld = false) ∧
      (hasFault .noFlow s = false →
        u.boiler.fillHeld = s.boiler.fillHeld ∧ u.boiler.topUpHeld = s.boiler.topUpHeld) := by
  obtain ⟨boiler, -, -, -, -, -, faults⟩ := doseStopped_units c .done d s
  have released := endNoFlow_releases (s := s) (u := doseCompleted c d.count (doseStopped c .done d s))
    (by rw [doseCompleted_memory, boiler]) (by rw [doseCompleted_noFlow, hasFault_congr faults])
  refine ⟨lastPulse c d s, exec_flowPulse_last hc granted dose last accepted, ?_⟩
  unfold lastPulse
  split <;> exact released

theorem exec_drainTerminalCount_releases {d : Dose} (runs : (chan s .ch3).state = .running)
    (dose : (chan s .ch3).dose = some d) (spent : d.remaining = 0) :
    ∃ u, exec .drainTerminalCount s = .next (settle u) ∧ hasFault .noFlow u = false ∧
      (hasFault .noFlow s = true → u.boiler.fillHeld = false ∧ u.boiler.topUpHeld = false) ∧
      (hasFault .noFlow s = false →
        u.boiler.fillHeld = s.boiler.fillHeld ∧ u.boiler.topUpHeld = s.boiler.topUpHeld) := by
  have stopped := endDose_chargeOnly .ch3 .done s
  have boiler : (drainStopped s).boiler = s.boiler := by
    unfold drainStopped
    rw [stopped.only]
  exact ⟨_, exec_drainTerminalCount runs dose spent, endNoFlow_releases
    (by rw [drainEnded_memory, boiler]) (by rw [drainEnded_noFlow]; exact hasFault_congr stopped.faults _)⟩

/-! ## Need at the end of a step (R99, R100, R102) -/

/-- PREPARE moves neither the regulator nor what the run and the descale phase need of the boiler. -/
theorem followPrepare_needed (s : State) : boilerNeeded (followPrepare s) = boilerNeeded s := by
  have awaits (prepares : s.ret.descale.phase = .prepare) :
      boilerNeeded (enterPhase .awaitAgent none (setWork { s.work with drain := false } s)) = boilerNeeded s := by
    have reacts : BoilerReacts s (enterPhase .awaitAgent none (setWork { s.work with drain := false } s)) :=
      enterPhase_reacts _ _ (setWork_reacts _ (.refl s))
    obtain ⟨n, m, run⟩ := reacts.run
    refine boilerNeeded_congr reacts.climate (by rw [run]) ?_
    unfold descaleNeeds
    rw [enterPhase_record, prepares]
  have drains : boilerNeeded (wantDrain s) = boilerNeeded s := by
    have reacts : BoilerReacts s (wantDrain s) := wantDrain_reacts (.refl s)
    obtain ⟨n, m, run⟩ := reacts.run
    refine boilerNeeded_congr reacts.climate (by rw [run]) ?_
    unfold descaleNeeds
    rw [(wantDrain_record s).1]
  unfold followPrepare
  split
  · next acts =>
    have prepares : s.ret.descale.phase = .prepare := by
      simp only [Bool.and_eq_true, decide_eq_true_eq] at acts
      exact acts.1.2
    split
    · exact awaits prepares
    · split
      · rfl
      · exact drains
    · split
      · rfl
      · exact drains
    · rfl
  · rfl

/-- The end of a step up to the need for the boiler. -/
def beforeNeed (s : State) : State := followWater (followTopUp (checkRunFaults s))

theorem yieldForces_only (s : State) :
    ∃ sh x e, yieldForces s = { s with share := sh, out := x, events := e } := by
  unfold yieldForces
  split
  · exact ⟨s.share, s.out, s.events, rfl⟩
  · exact endForces_only s

theorem settle_boiler (s : State) : (settle s).boiler = (followPrepare (followNeed (beforeNeed s))).boiler := by
  have boiler : (beforeConditions s).boiler = (beforeForces s).boiler := by
    obtain ⟨_, _, _, yields⟩ := yieldForces_only (beforeForces s)
    show (yieldForces (beforeForces s)).boiler = (beforeForces s).boiler
    rw [yields]
  rw [settle_only]
  exact boiler

theorem settle_needed (s : State) : boilerNeeded (settle s) = boilerNeeded (beforeNeed s) := by
  have yields : (yieldForces (beforeForces s)).ret = (beforeForces s).ret ∧
      (yieldForces (beforeForces s)).climate = (beforeForces s).climate := by
    obtain ⟨_, _, _, yields⟩ := yieldForces_only (beforeForces s)
    rw [yields]
    exact ⟨rfl, rfl⟩
  have ended : boilerNeeded (settle s) = boilerNeeded (beforeForces s) := by
    refine boilerNeeded_congr ?_ ?_ ?_
    · rw [settle_only]
      exact yields.2
    · rw [settle_only]
      exact congrArg (fun r : Retained => r.run.causes) yields.1
    · unfold descaleNeeds
      rw [settle_only]
      dsimp only
      rw [show (beforeConditions s).ret = (beforeForces s).ret from yields.1]
  rw [ended]
  exact followPrepare_needed _

theorem heldOn_iff (held needed was : Bool) :
    (held && !(needed && !was)) = true ↔ held = true ∧ ¬(needed = true ∧ was = false) := by
  revert held needed was
  decide

theorem settle_memory (s : State) :
    let t := settle s
    let again := boilerNeeded t = true ∧ s.boiler.wasNeeded = false
    t.boiler.wasNeeded = boilerNeeded t ∧
      (t.boiler.fillHeld = true ↔ s.boiler.fillHeld = true ∧ ¬again) ∧
      (t.boiler.topUpHeld = true ↔ s.boiler.topUpHeld = true ∧ ¬again) := by
  have before : (beforeNeed s).boiler.memory = s.boiler.memory := by
    unfold beforeNeed
    rw [memory_of_course (followWater_course _), followTopUp_boiler, memory_of_course (checkRunFaults_course s)]
  have kept : (settle s).boiler.memory = (followNeed (beforeNeed s)).boiler.memory := by
    rw [settle_boiler, followPrepare_memory]
  dsimp only
  rw [settle_needed]
  generalize beforeNeed s = v at before kept ⊢
  unfold followNeed at kept
  simp only [Boiler.memory, Prod.mk.injEq, setBoiler_boiler] at before kept
  obtain ⟨fill, topUp, was⟩ := before
  obtain ⟨fillKept, topUpKept, wasKept⟩ := kept
  rw [fillKept, topUpKept, wasKept, fill, topUp, was]
  exact ⟨rfl, heldOn_iff _ _ _, heldOn_iff _ _ _⟩

end

end Sys2Proof.Machine

open Sys2Proof Sys2Proof.Machine

/-- Settles O38: the due moments by their tests, the loads by what each row leaves, and the releases by
`Boiler.memory`. -/
theorem boilerWork : Obligations.BoilerWork := by
  refine ⟨fun s => ⟨boilerNeeded_iff s, boilerFillDue_iff s, topUpDue_iff s, boilerDrainDue_iff s,
    descaleDrainDue_iff s⟩, heatUpDue_iff, fun s => ?_, fun s => ?_⟩
  · refine ⟨fun due => ?_, fun due => ?_, fun due => ?_, fun due => ?_,
      fun early => if_neg (ne_true_of_eq_false early), fun early => if_neg (ne_true_of_eq_false early),
      fun early => if_neg (ne_true_of_eq_false early), fun early => if_neg (ne_true_of_eq_false early)⟩
    · obtain ⟨only, state, record⟩ := fillBegun_facts s
      refine ⟨fillBegun s, exec_boilerFill due, only, state, record.trans ?_⟩
      unfold boilerLoad
      rw [sourceFor_boiler]
      simp only [true_and]
      rfl
    · refine ⟨_, exec_topUp due, rfl, rfl, ?_⟩
      rw [chan_setChan, if_pos rfl]
      unfold boilerLoad
      rw [sourceFor_boiler]
      rfl
    · obtain ⟨-, -, boils, -, -, -, -, free⟩ := (boilerDrainDue_iff s).mp due
      have idle := (holdsDose_free s .ch3).mpr free
      obtain ⟨-, state⟩ := loadDrain_loaded .boilerControl idle
      obtain ⟨pending, record⟩ := loadDrain_taken .boilerControl idle
      have wet : s.boiler.state ≠ .dryFault := by
        rintro dry
        rw [dry] at boils
        exact boils.elim nofun nofun
      rw [if_neg wet] at state
      exact ⟨loadDrain .boilerControl s, if_pos due, (loadDrain_acts (c := .ch0) (by decide) _).toWaterActs.steady
        (loadDrain_kept _ (.refl s)), state, pending, record⟩
    · obtain ⟨-, waits, free, allowed⟩ := (descaleDrainDue_iff s).mp due
      have idle : holdsDose (setWork { s.work with drain := false } s) .ch3 = false := (holdsDose_free s .ch3).mpr free
      have loads : tryDescaleDrain s = loadDrain .descale (setWork { s.work with drain := false } s) := by
        refine if_pos ?_
        rw [waits, (holdsDose_free s .ch3).mpr free, (drainAllowed_iff s).mpr allowed]
        rfl
      have acts : BoilerActs .ch0 (setWork { s.work with drain := false } s)
          (loadDrain .descale (setWork { s.work with drain := false } s)) := loadDrain_acts (by decide) .descale
      obtain ⟨-, state⟩ := loadDrain_loaded .descale idle
      obtain ⟨pending, record⟩ := loadDrain_taken .descale idle
      refine ⟨tryDescaleDrain s, if_pos due, ?_⟩
      rw [loads]
      exact ⟨((setWork_acts _).trans acts.toWaterActs).steady (loadDrain_kept _ (setWork_kept _ (.refl s))),
        congrArg DescaleWork.drain acts.work, pending, state, record⟩
  · refine ⟨fun early => if_neg (ne_true_of_eq_false early), fun heats idle decided counted => ?_, settle_memory s,
      fun c d hc => exec_flowPulse_releases hc, fun d => exec_drainTerminalCount_releases⟩
    have boiler : (enterFault .boilerDry s).boiler = s.boiler := enterFault_boiler ..
    have wet : (enterFault .boilerDry s).boiler.state ≠ .dryFault := by
      rw [boiler, heats]
      exact nofun
    have acts : BoilerActs .ch1 s (dryFaultEntered (enterFault .boilerDry s)) :=
      (enterFault_acts .boilerDry).trans dryFaultEntered_acts
    have entered : enterDryFault (enterFault .boilerDry s) = dryFaultEntered (enterFault .boilerDry s) := by
      have phase : (dryFaultEntered (enterFault .boilerDry s)).ret.descale.phase = .idle := by
        rw [acts.descale, idle]
      rw [enterDryFault_eq, if_neg wet, phase, if_neg (by simp)]
    have reacts := enterDryFault_reacts (.refl (enterFault .boilerDry s))
    obtain ⟨posts, freed⟩ := dryFaultEntered_facts wet
    refine ⟨enterDryFault (enterFault .boilerDry s), if_pos ((heatUpDue_iff s).mpr ⟨heats, idle, decided, counted⟩), ?_,
      ?_, enterDryFault_state _, ?_⟩
    · rw [entered]
      refine acts.toWaterActs.steady ?_
      rw [← entered]
      exact (enterFault_kept .boilerDry rfl (.refl s)).trans reacts.kept
    · rw [hasFault_congr reacts.faults, hasFault_enterFault]
      exact Bool.or_true _
    · have slots := reacts.slots
      rw [entered] at slots ⊢
      exact ⟨fun ready => posts ((congrArg StartUp.ready (enterFault_start ..)).trans ready), freed,
        slots.trans (congrArg Retained.slots (enterFault_ret ..)), acts.descale⟩

end

section
/-! SUPPORT. One microsecond with no command waiting (R161, R162, DESIGN CHOICE of notes/assumptions/1.md): what passes,
and the timed rows that join the queue. -/

namespace Sys2Proof.Machine

variable {s : State}

/-! ## The microsecond -/

theorem passDrain_others (s : State) : passDrain s = { s with water := (passDrain s).water } := by
  unfold passDrain
  split
  · split
    · dsimp only
      split <;> rfl
    · rfl
  · rfl

theorem passDrain_rests (rests : draining s = false) : passDrain s = s := by
  simp [passDrain, rests]

theorem passDrain_counts (runs : draining s = true) (early : s.water.drainClock < 999999) :
    passDrain s = { s with water := { s.water with drainClock := s.water.drainClock + 1 } } := by
  rw [passDrain, if_pos runs, if_neg (by simp [second]; omega)]

theorem passDrain_second {d : Dose} (runs : draining s = true) (late : 999999 ≤ s.water.drainClock)
    (loaded : (chan s .ch3).dose = some d) :
    passDrain s = setDose .ch3 d.drainSecond { s with water := { s.water with drainClock := 0 } } := by
  rw [passDrain, if_pos runs, if_pos (by simp [second]; omega)]
  dsimp only
  rw [show chan { s with water := { s.water with drainClock := 0 } } .ch3 = chan s .ch3 from rfl, loaded]

theorem passDrain_empty (runs : draining s = true) (late : 999999 ≤ s.water.drainClock)
    (empty : (chan s .ch3).dose = none) :
    passDrain s = { s with water := { s.water with drainClock := 0 } } := by
  rw [passDrain, if_pos runs, if_pos (by simp [second]; omega)]
  dsimp only
  rw [show chan { s with water := { s.water with drainClock := 0 } } .ch3 = chan s .ch3 from rfl, empty]

theorem drainSecond_counts {d : Dose} (left : 0 < d.remaining) :
    d.drainSecond = { d with remaining := d.remaining - 1, delivered := d.delivered + 1 } :=
  if_neg (Nat.pos_iff_ne_zero.mp left)

theorem drainSecond_ended {d : Dose} (ended : d.remaining = 0) : d.drainSecond = d := if_pos ended

/-- What the passing microsecond leaves of the path is its holder. -/
theorem passPath_path (mains : Bool) (w : Water) : (passPath mains w).path = w.path := by
  unfold passPath
  split <;> rfl

/-! ## The rows that are due -/

/-- Every row that a timer or a condition brings, in the order in which `due` lists them. -/
def timedRows : List Instr :=
  List.flatten
    [[.tachoTimeout, .zeroCrossGroupTimeout, .frequencyTimeout, .mainsLost, .allocationEnd],
      allRelays.map .relayChangeStart, allRelays.map .relayContactEnd, allRelays.map .relayRecoveryEnd,
      [.fanTick, .fanStall, .reversalTimerExpiry, .slowTimerExpiry, .ventStuck, .lampOneShotExpiry],
      allOutputs.map .forceExpiry,
      [.pulseEnd, .heatUpCountExpiry, .settleEnd, .noFlow, .drainTerminalCount, .boilerFill, .topUp,
        .boilerDrainStart, .soakEnd, .descaleDoseLoad, .descaleDrainLoad, .sequencerTick, .stageTimeEnd, .doorTimeout,
        .waterTimeout],
      allInputs.map .inputChange, [.serviceSilenceTimeout, .startingEnd],
      allLinks.map .frameGapTimeout, allLinks.map .discardMarkClear, allLinks.map .replySent]

/-- The condition under which the part brings a row; it brings no row that is not a timed one. -/
def rowDue (s : State) : Instr → Bool
  | .tachoTimeout => tachoTimeoutDue s && decide (s.meas.speed ≠ 0)
  | .zeroCrossGroupTimeout => groupTimeoutDue s
  | .frequencyTimeout => frequencyTimeoutDue s
  | .mainsLost => mainsLostDue s
  | .allocationEnd => s.share.allocation.isSome
  | .relayChangeStart r => relayChangeDue r s
  | .relayContactEnd r => relayContactDue r s
  | .relayRecoveryEnd r => relayRecoveryDue r s
  | .fanTick => fanTickDue s
  | .fanStall => fanStallDue s
  | .reversalTimerExpiry => reversalDue s
  | .slowTimerExpiry => slowTimerDue s
  | .ventStuck => ventStuckDue s
  | .lampOneShotExpiry => lampShotDue s
  | .forceExpiry o => forceDue o s
  | .pulseEnd => pulseDue s
  | .heatUpCountExpiry => heatUpDue s
  | .settleEnd => settleEndDue s
  | .noFlow => noFlowDue s
  | .drainTerminalCount => drainCountDue s
  | .boilerFill => boilerFillDue s
  | .topUp => topUpDue s
  | .boilerDrainStart => boilerDrainDue s
  | .soakEnd => soakEndDue s
  | .descaleDoseLoad => descaleDoseDue s
  | .descaleDrainLoad => descaleDrainDue s
  | .sequencerTick => sequencerTickDue s
  | .stageTimeEnd => stageTimeDue s
  | .doorTimeout => doorTimeoutDue s
  | .waterTimeout => waterTimeoutDue s
  | .inputChange i => inputChangeDue i s
  | .serviceSilenceTimeout => silenceDue s
  | .startingEnd => startingEndDue s
  | .frameGapTimeout l => frameGapDue l s
  | .discardMarkClear l => discardClearDue l s
  | .replySent l => replySentDue l s
  | _ => false

theorem filter_eq_flatMap_whenDue (p : Instr → Bool) (l : List Instr) :
    l.filter p = l.flatMap (fun c => whenDue (p c) c) := by
  induction l with
  | nil => rfl
  | cons c l ih =>
    rw [List.flatMap_cons, ← ih, List.filter_cons, whenDue]
    split <;> rfl

theorem due_eq (s : State) : due s = timedRows.filter (rowDue s) := by
  rw [filter_eq_flatMap_whenDue]
  simp only [due, dueMeasurement, dueOutputs, dueWater, dueRest, timedRows, allRelays, allOutputs, allInputs, allLinks,
    List.flatten_cons, List.flatten_nil, List.flatMap_cons, List.flatMap_nil, List.map_cons, List.map_nil,
    List.append_assoc, List.cons_append, List.nil_append, List.append_nil, rowDue]

theorem timedRows_nodup : timedRows.Nodup := by decide

theorem due_nodup (s : State) : (due s).Nodup := by
  rw [due_eq]
  exact timedRows_nodup.filter _

theorem mem_timedRows_of_rowDue {c : Instr} (d : rowDue s c = true) : c ∈ timedRows := by
  cases c
  case relayChangeStart r => cases r <;> decide
  case relayContactEnd r => cases r <;> decide
  case relayRecoveryEnd r => cases r <;> decide
  case forceExpiry o => cases o <;> decide
  case inputChange i => cases i <;> decide
  case frameGapTimeout l => cases l <;> decide
  case discardMarkClear l => cases l <;> decide
  case replySent l => cases l <;> decide
  all_goals (revert d; simp [rowDue, timedRows])

theorem mem_due {c : Instr} : c ∈ due s ↔ rowDue s c = true := by
  rw [due_eq, List.mem_filter]
  exact ⟨And.right, fun d => ⟨mem_timedRows_of_rowDue d, d⟩⟩

theorem lampShotDue_iff : lampShotDue s = true ↔ ∃ n, s.out.lampShot = some n ∧ 120000000 ≤ n := by
  unfold lampShotDue
  cases s.out.lampShot <;> simp [second]

theorem rowDue_relayChangeStart (r : RelayId) : rowDue s (.relayChangeStart r) = true ↔
    (relay s r).recovering = false ∧
      (((relay s r).state = .opened ∧ (relay s r).askClosed = true) ∨
        ((relay s r).state = .closed ∧ (relay s r).askClosed = false)) ∧ relayFree r s = true := by
  show relayChangeDue r s = true ↔ _
  rw [relayChangeDue_iff, Relay.mayChange_iff, and_assoc]

theorem rowDue_relayContactEnd (r : RelayId) : rowDue s (.relayContactEnd r) = true ↔
    ((relay s r).state = .closing ∨ (relay s r).state = .opening) ∧ 30000 ≤ (relay s r).timer := by
  show relayContactDue r s = true ↔ _
  rw [relayContactDue_iff, Relay.moving_iff]

theorem rowDue_relayRecoveryEnd (r : RelayId) : rowDue s (.relayRecoveryEnd r) = true ↔
    (relay s r).recovering = true ∧ ((relay s r).state = .opened ∨ (relay s r).state = .closed) ∧
      2000000 ≤ (relay s r).timer := by
  show relayRecoveryDue r s = true ↔ _
  rw [relayRecoveryDue_iff, Relay.stands_iff]

/-! ## The ports and the inputs -/

theorem port_pass (l : Link) : (s.ports.map Port.pass).get l = (port s l).pass := by
  cases l <;> rfl

/-- The next byte on the line has ended. -/
theorem pass_hears {p : Port} (comes : p.line ≠ []) (ended : p.line.headD 0 ≤ p.quiet) : p.pass =
    { p with
      quiet := 1, line := p.line.tail
      sending := if p.state = .replying then p.sending + 1 else p.sending } := by
  cases line : p.line with
  | nil => exact absurd line comes
  | cons g rest =>
    rw [line] at ended
    have heard : p.listen = { p with quiet := 0, line := rest } := by
      rw [Port.listen, line]
      exact if_pos ended
    rw [Port.pass, heard]
    rfl

theorem pass_silent {p : Port} (waits : ¬(p.line ≠ [] ∧ p.line.headD 0 ≤ p.quiet)) : p.pass =
    { p with quiet := p.quiet + 1, sending := if p.state = .replying then p.sending + 1 else p.sending } := by
  have same : p.listen = p := by
    unfold Port.listen
    cases line : p.line with
    | nil => rfl
    | cons g rest => exact if_neg fun ended => waits ⟨by simp [line], by simpa [line] using ended⟩
  rw [Port.pass, same]

theorem passInputs_get (i : Input) : (passInputs (tankOven s) s.inputs).get i =
    { s.inputs.get i with
      timer :=
        if watched s i = false then (s.inputs.get i).timer
        else if (s.inputs.get i).raw = (s.inputs.get i).reading then 0
        else (s.inputs.get i).timer + 1 } := by
  unfold passInputs watched
  cases tankOven s <;> cases i <;> rfl

/-! ## The fields of the state that a microsecond leaves -/

theorem reversalCounts_iff (s : State) : reversalCounts s = true ↔
    ∃ r, s.climate.record = some r ∧ (s.climate.state = .preheat ∨ s.climate.state = .hold) ∧
      0 < (modeRow r.mode).reversal ∧ 0 < r.fanCode ∧ s.meas.mainsPresent = true ∧ s.out.fan.phase ≠ .braking ∧
      s.out.fan.phase ≠ .switching := by
  unfold reversalCounts
  cases s.climate.record with
  | none => simp
  | some r => simp [working, Machine.reversing, and_assoc]

theorem soakCounts_iff (s : State) : (soakCounts s && decide ((s.now + 1) % second = 0)) = true ↔
    s.start.ready = true ∧ s.ret.descale.phase = .soak ∧ 570 ≤ s.meas.boiler ∧ hasFault .sensorBoiler s = false ∧
      s.meas.mainsPresent = true ∧ (s.now + 1) % 1000000 = 0 := by
  simp [soakCounts, second, and_assoc]

/-- The microsecond for every unit but a drain that counts. -/
def clocked (s : State) : State :=
  { s with
    now := s.now + 1, meas := s.meas.pass
    climate :=
      { s.climate with reversal := if reversalCounts s then s.climate.reversal + 1 else s.climate.reversal }
    out := s.out.pass s.meas.speed, water := passPath s.meas.mainsPresent s.water
    seq := { s.seq with tickClock := s.seq.tickClock + 1 }
    ret :=
      { s.ret with
        descale :=
          { s.ret.descale with
            elapsed :=
              if soakCounts s && decide ((s.now + 1) % second = 0) then s.ret.descale.elapsed + 1
              else s.ret.descale.elapsed } }
    inputs := passInputs (tankOven s) s.inputs
    prot := { s.prot with silence := if s.prot.serviceUnlock then s.prot.silence + 1 else s.prot.silence }
    ports := s.ports.map Port.pass
    start :=
      { s.start with
        outageTimer := if s.meas.mainsPresent then s.start.outageTimer else s.start.outageTimer + 1 } }

theorem advance_eq (s : State) : advance s = { clocked s with water := (passDrain (clocked s)).water } :=
  passDrain_others (clocked s)

/-- What a microsecond takes from the water unit: the path and its timers by `passPath`, the drain by `passDrain`. -/
theorem passPath_others (mains : Bool) (w : Water) :
    (passPath mains w).drainClock = w.drainClock ∧ (passPath mains w).chans = w.chans := by
  unfold passPath
  split <;> exact ⟨rfl, rfl⟩

theorem chan_clocked (s : State) (c : Chan) : chan (clocked s) c = chan s c := by
  show (passPath s.meas.mainsPresent s.water).chans.get c = _
  rw [(passPath_others _ _).2]
  rfl

theorem drainClock_clocked (s : State) : (clocked s).water.drainClock = s.water.drainClock :=
  (passPath_others _ _).1

theorem draining_iff (s : State) :
    draining s = true ↔ (chan s .ch3).state = .running ∧ s.meas.mainsPresent = true := by
  simp [draining]

theorem passDrain_path (s : State) :
    (passDrain s).water.path = s.water.path ∧ (passDrain s).water.settleTimer = s.water.settleTimer ∧
      (passDrain s).water.noFlowTimer = s.water.noFlowTimer := by
  unfold passDrain
  split
  · split
    · dsimp only
      split <;> exact ⟨rfl, rfl, rfl⟩
    · exact ⟨rfl, rfl, rfl⟩
  · exact ⟨rfl, rfl, rfl⟩

theorem chan_passDrain_other {c : Chan} (other : c ≠ .ch3) (s : State) : chan (passDrain s) c = chan s c := by
  unfold passDrain
  split
  · split
    · dsimp only
      split
      · rfl
      · rw [setDose, chan_setChan, if_neg other]
        rfl
    · rfl
  · rfl

/-- The path's timers (R85, R92, R97). -/
theorem advance_path (s : State) :
    (advance s).water.path = s.water.path ∧
      (∀ c : Chan, s.water.path = .granted c → (advance s).water.settleTimer = s.water.settleTimer ∧
        (advance s).water.noFlowTimer =
          if s.meas.mainsPresent then s.water.noFlowTimer + 1 else s.water.noFlowTimer) ∧
      (s.water.path = .settling → (advance s).water.settleTimer = s.water.settleTimer + 1 ∧
        (advance s).water.noFlowTimer = s.water.noFlowTimer) ∧
      (s.water.path = .free → (advance s).water.settleTimer = s.water.settleTimer ∧
        (advance s).water.noFlowTimer = s.water.noFlowTimer) := by
  obtain ⟨path, settle, noFlow⟩ := passDrain_path (clocked s)
  have passed : (clocked s).water = passPath s.meas.mainsPresent s.water := rfl
  rw [show (advance s).water = (passDrain (clocked s)).water from rfl, path, settle, noFlow, passed]
  refine ⟨passPath_path .., fun c granted => ?_, fun settling => ?_, fun free => ?_⟩
  · simp only [passPath, granted, and_self]
  · simp only [passPath, settling, and_self]
  · simp only [passPath, free, and_self]

/-- A drain that runs with mains counts its seconds (R98). -/
theorem passDrain_acts (s : State) :
    (¬((chan s .ch3).state = .running ∧ s.meas.mainsPresent = true) →
      (passDrain s).water.drainClock = s.water.drainClock ∧ chan (passDrain s) .ch3 = chan s .ch3) ∧
    ((chan s .ch3).state = .running ∧ s.meas.mainsPresent = true → s.water.drainClock < 999999 →
      (passDrain s).water.drainClock = s.water.drainClock + 1 ∧ chan (passDrain s) .ch3 = chan s .ch3) ∧
    ((chan s .ch3).state = .running ∧ s.meas.mainsPresent = true → 999999 ≤ s.water.drainClock →
      (passDrain s).water.drainClock = 0 ∧ (chan (passDrain s) .ch3).state = .running ∧
        ∀ d : Dose, (chan s .ch3).dose = some d →
          (0 < d.remaining → (chan (passDrain s) .ch3).dose =
            some { d with remaining := d.remaining - 1, delivered := d.delivered + 1 }) ∧
          (d.remaining = 0 → (chan (passDrain s) .ch3).dose = some d)) := by
  rw [← draining_iff]
  refine ⟨fun rests => ?_, fun runs early => ?_, fun runs late => ?_⟩
  · rw [passDrain_rests (Bool.eq_false_iff.mpr rests)]
    exact ⟨rfl, rfl⟩
  · rw [passDrain_counts runs early]
    exact ⟨rfl, rfl⟩
  · have running := ((draining_iff s).mp runs).1
    cases dose : (chan s .ch3).dose with
    | none =>
      rw [passDrain_empty runs late dose]
      exact ⟨rfl, running, fun _ has => absurd has (by simp)⟩
    | some d =>
      rw [passDrain_second runs late dose]
      refine ⟨rfl, running, fun _ has => ?_⟩
      obtain rfl := Option.some.inj has
      exact ⟨fun left => congrArg some (drainSecond_counts left), fun ended => congrArg some (drainSecond_ended ended)⟩

theorem advance_pending (s : State) : (advance s).pending = s.pending := by
  rw [advance_eq]
  rfl

theorem step_idle (idle : s.pending = []) : step s = .next { advance s with pending := due (advance s) } := by
  have ticks : tick s = { advance s with pending := due (advance s) } := by
    unfold tick
    dsimp only
    rw [advance_pending, idle, List.nil_append]
  rw [step, idle, ticks]

/-! ## Rows whose condition compares a timer with a limit -/

theorem rowDue_tachoTimeout : rowDue s .tachoTimeout = true ↔ 500000 ≤ s.meas.tachoAge ∧ s.meas.speed ≠ 0 := by
  simp [rowDue, tachoTimeoutDue, millisecond]

theorem rowDue_fanTick : rowDue s .fanTick = true ↔ 200000 ≤ s.out.fan.tickClock := by
  simp [rowDue, fanTickDue, millisecond]

theorem rowDue_fanStall : rowDue s .fanStall = true ↔
    s.out.fan.phase = .running ∧ 2000000 ≤ s.out.fan.stallTimer := by
  simp [rowDue, fanStallDue, second]

theorem rowDue_slowTimerExpiry : rowDue s .slowTimerExpiry = true ↔
    s.out.fan.phase = .braking ∧ 1000000 ≤ s.out.fan.slowTimer := by
  simp [rowDue, slowTimerDue, second]

theorem rowDue_ventStuck : rowDue s .ventStuck = true ↔
    (s.out.vent.state = .opening ∨ s.out.vent.state = .closing) ∧ 5000000 ≤ s.out.vent.travel := by
  simp [rowDue, ventStuckDue, second]

theorem rowDue_settleEnd : rowDue s .settleEnd = true ↔ s.water.path = .settling ∧ 500000 ≤ s.water.settleTimer := by
  simp [rowDue, settleEndDue, millisecond]

theorem rowDue_sequencerTick : rowDue s .sequencerTick = true ↔ 1000000 ≤ s.seq.tickClock := by
  simp [rowDue, sequencerTickDue, second]

theorem rowDue_frameGapTimeout (l : Link) : rowDue s (.frameGapTimeout l) = true ↔
    (port s l).state = .receiving ∧ 20000 < (port s l).quiet := by
  simp [rowDue, frameGapDue, Port.silent, millisecond]

theorem rowDue_discardMarkClear (l : Link) : rowDue s (.discardMarkClear l) = true ↔
    (port s l).discard = true ∧ 20000 < (port s l).quiet := by
  simp [rowDue, discardClearDue, Port.silent, millisecond]

theorem rowDue_replySent (l : Link) : rowDue s (.replySent l) = true ↔
    (port s l).state = .replying ∧ (port s l).reply.length * 10 * 1000000 ≤ (port s l).sending * 57600 := by
  simp [rowDue, replySentDue, second]

end Sys2Proof.Machine

open Sys2Proof Sys2Proof.Machine

/-- Settles O2: the fields of `advance`, and the timed rows whose condition holds then. -/
theorem idleStepPassesAMicrosecond : Obligations.IdleStepPassesAMicrosecond := by
  intro s idle
  have field {α : Type} (f : State → α) : f (advance s) = f { clocked s with water := (passDrain (clocked s)).water } :=
    congrArg f (advance_eq s)
  obtain ⟨path, granted, settling, free⟩ := advance_path s
  have drains := passDrain_acts (clocked s)
  rw [drainClock_clocked, chan_clocked] at drains
  obtain ⟨drainRests, drainCounts, drainSecond⟩ := drains
  refine ⟨{ advance s with pending := [] }, step_idle idle, rfl, field State.now, field State.meas,
    field (·.out.heaterRelay), field (·.out.fanRelay), field (·.out.fan), field (·.out.vent), field (·.out.lampShot),
    field (·.out.forces), field (·.out.pulse), field (·.out.halfCycle), field (·.out.heat),
    ⟨fun counts => (field State.climate).trans ?_, fun rests => (field State.climate).trans ?_⟩, path, granted,
    settling, free, ⟨drainRests, drainCounts, drainSecond⟩, fun c other => ?_, (field (·.ret.descale)).trans ?_,
    field (·.ret.run), field (·.ret.slots), field (·.ret.lastRun), field State.seq, fun i => ?_, field State.prot,
    field State.start, field State.windows, field State.draws, field State.share, field State.boiler,
    field State.scale, field State.work, field State.marker, field State.events, field State.settings,
    field State.store, due_nodup _, fun c => ?_, fun l => ⟨fun comes => ?_, fun waits => ?_⟩⟩
  · have counted : reversalCounts s = true := (reversalCounts_iff s).mpr counts
    simp [clocked, counted]
  · have rested : ¬reversalCounts s = true := rests ∘ (reversalCounts_iff s).mp
    simp [clocked, rested]
  · exact (chan_passDrain_other other _).trans (chan_clocked s c)
  · simp only [clocked, soakCounts_iff]
  · exact (field (·.inputs.get i)).trans (passInputs_get i)
  · rw [mem_due]
    cases c
    case relayChangeStart r =>
      rw [rowDue_relayChangeStart]
      cases r <;> simp [relayFree]
    case relayContactEnd r => exact rowDue_relayContactEnd r
    case relayRecoveryEnd r => exact rowDue_relayRecoveryEnd r
    case tachoTimeout => exact rowDue_tachoTimeout
    case fanTick => exact rowDue_fanTick
    case fanStall => exact rowDue_fanStall
    case slowTimerExpiry => exact rowDue_slowTimerExpiry
    case ventStuck => exact rowDue_ventStuck
    case lampOneShotExpiry => exact lampShotDue_iff
    case pulseEnd => exact pulseDue_iff _
    case settleEnd => exact rowDue_settleEnd
    case sequencerTick => exact rowDue_sequencerTick
    case frameGapTimeout l => exact rowDue_frameGapTimeout l
    case discardMarkClear l => exact rowDue_discardMarkClear l
    case replySent l => exact rowDue_replySent l
    case zeroCrossGroupTimeout | frequencyTimeout | mainsLost | allocationEnd | reversalTimerExpiry | forceExpiry |
        heatUpCountExpiry | noFlow | drainTerminalCount | boilerFill | topUp | boilerDrainStart | soakEnd |
        descaleDoseLoad | descaleDrainLoad | stageTimeEnd | doorTimeout | waterTimeout | inputChange |
        serviceSilenceTimeout | startingEnd => exact Iff.rfl
    all_goals exact iff_of_false Bool.false_ne_true id
  · rw [show port { advance s with pending := [] } l = (s.ports.map Port.pass).get l from field (port · l), port_pass]
    exact pass_hears comes.1 comes.2
  · rw [show port { advance s with pending := [] } l = (s.ports.map Port.pass).get l from field (port · l), port_pass]
    exact pass_silent waits

end

section
/-! SUPPORT. What a reset leaves (R19, R22, R61, R82, R108, R162, R163, R172, R192 to R195), and what its first
readings and its loaded record raise. -/

namespace Sys2Proof.Machine

variable {s t : State}

/-! ## The first conditions in the event block -/

/-- The entry that the first raise of a condition leaves in a queue. -/
def Condition.entry (c : Condition) : Entry :=
  { kind := c.kind, count := 1, time := 0, reported := false, argument := c.argument, standing := .holding }

/-- The event block holds exactly the listed conditions, each told once, and no link has been told anything else. -/
structure FirstTold (cs : List Condition) (s : State) : Prop where
  conditions : s.events.conditions = cs.reverse
  steering : s.events.steering = defaultSteering
  queues : ∀ l : Link, s.events.queues.get l =
    (cs.filter (fun c => (steeringOf defaultSteering c.kind).get l)).map Condition.entry
  kinds : (cs.map Condition.kind).Nodup

section
variable {cs : List Condition} {k : EventKind} {arg : Option Byte}

theorem FirstTold.nothing (s : State) : FirstTold [] { s with events := .initial } where
  conditions := rfl
  steering := rfl
  queues l := by cases l <;> rfl
  kinds := List.nodup_nil

theorem FirstTold.conditionHolds (h : FirstTold cs s) (k : EventKind) :
    conditionHolds k s = decide (k ∈ cs.map Condition.kind) := by
  rw [Machine.conditionHolds, h.conditions, List.any_reverse]
  simp [List.any_eq]

theorem FirstTold.raised (h : FirstTold cs s) (start : s.now = 0) (level : k.isLevel = true)
    (fresh : k ∉ cs.map Condition.kind) : FirstTold (cs ++ [⟨k, arg⟩]) (raiseEvent k arg s) where
  conditions := by
    have others : cs.reverse.filter (fun c => decide (c.kind ≠ k)) = cs.reverse := by
      rw [List.filter_eq_self]
      intro c member
      exact decide_eq_true fun same => fresh (same ▸ List.mem_map_of_mem (List.mem_reverse.mp member))
    show holdCondition k arg s.events.conditions = _
    rw [h.conditions, holdCondition, if_pos level, others, List.reverse_append]
    rfl
  steering := h.steering
  queues l := by
    have absent : k ∉ (s.events.queues.get l).map Entry.kind := by
      rw [h.queues l, List.map_map]
      exact fun member => fresh ((List.filter_sublist.map _).subset member)
    rw [raiseEvent_queue, h.steering, List.filter_append]
    cases joins : (steeringOf defaultSteering k).get l with
    | true =>
      rw [if_pos rfl, placeEntry_absent _ _ absent, h.queues l, level, seconds, start, List.filter_cons, joins,
        List.map_append]
      rfl
    | false =>
      rw [if_neg Bool.false_ne_true, h.queues l, List.filter_cons, joins]
      simp
  kinds := by
    rw [List.map_append, List.nodup_append]
    refine ⟨h.kinds, List.nodup_singleton _, fun a here b there same => fresh ?_⟩
    obtain rfl := List.mem_singleton.mp there
    exact same ▸ here

/-- A condition, where it holds. -/
def Condition.whenHolds (holds : Bool) (c : Condition) : List Condition := if holds then [c] else []

theorem mem_whenHolds {b : Bool} {c x : Condition} : x ∈ Condition.whenHolds b c ↔ b = true ∧ x = c := by
  cases b <;> simp [Condition.whenHolds]

theorem FirstTold.followed (h : FirstTold cs s) (start : s.now = 0) (level : k.isLevel = true)
    (fresh : k ∉ cs.map Condition.kind) (holds : Bool) :
    FirstTold (cs ++ Condition.whenHolds holds ⟨k, arg⟩) (followCondition k arg holds s) := by
  have silent : Machine.conditionHolds k s = false := by
    rw [h.conditionHolds]
    exact decide_eq_false fresh
  unfold followCondition
  rw [silent]
  cases holds with
  | true => exact h.raised start level fresh
  | false =>
    rw [Condition.whenHolds, if_neg Bool.false_ne_true, List.append_nil]
    exact h

end

/-! ## What the end of a reset raises -/

/-- The conditions that a reset finds holding, in the order in which it raises them. -/
def firstConditions (s : State) : List Condition :=
  Condition.whenHolds (cutoutOpen s) ⟨.faultActive, some 1⟩
    ++ Condition.whenHolds s.inputs.trayFull.reading ⟨.trayFull, none⟩
    ++ Condition.whenHolds (decide (s.scale.level = .due)) ⟨.scaleDue, numberArg s.scale.level.number⟩
    ++ Condition.whenHolds (decide (s.scale.level = .blocked)) ⟨.scaleBlocked, numberArg s.scale.level.number⟩
    ++ Condition.whenHolds (anySuspended s) ⟨.waterEmpty, none⟩
    ++ Condition.whenHolds (tankInUse s && !tankPresent s) ⟨.tankMissing, none⟩
    ++ Condition.whenHolds (promptHolds s.ret.descale) ⟨.descalePrompt, numberArg s.ret.descale.phase.number⟩

/-- The flap after a reset: CLOSED where its end switch reads reached. -/
def firstVent (s : State) : VentFlap :=
  if endReached .closed s then { s.out.vent with state := .closed } else s.out.vent

/-- A state that differs from another one in its event block alone, which tells the listed conditions for the first
time and holds the listed members of the fault set. -/
structure Tells (r : State) (cs : List Condition) (fs : List FaultKind) (s : State) : Prop where
  only : s = { r with events := s.events }
  told : FirstTold cs s
  faults : s.events.faults = fs

section
variable {r : State} {cs : List Condition} {fs : List FaultKind} {k : EventKind} {arg : Option Byte}

theorem Tells.followed (h : Tells r cs fs s) (start : r.now = 0) (holds : Bool) (level : k.isLevel = true)
    (fresh : k ∉ cs.map Condition.kind) :
    Tells r (cs ++ Condition.whenHolds holds ⟨k, arg⟩) fs (followCondition k arg holds s) := by
  have sameNow : s.now = r.now := by rw [h.only]
  refine ⟨?_, h.told.followed (sameNow.trans start) level fresh holds, ?_⟩
  · calc followCondition k arg holds s
        = { s with events := (followCondition k arg holds s).events } := followCondition_only ..
      _ = { r with events := (followCondition k arg holds s).events } := by rw [h.only]
  · rw [← h.faults]
    exact followCondition_faults ..

theorem tells_cutout (start : r.now = 0) (fresh : r.events = .initial) :
    Tells r (Condition.whenHolds (cutoutOpen r) ⟨.faultActive, some 1⟩) (if cutoutOpen r then [.thermalCutout] else [])
      (if cutoutOpen r then enterFault .thermalCutout r else r) := by
  have silent : FirstTold [] r := by
    have same : { r with events := .initial } = r := by rw [← fresh]
    exact same ▸ FirstTold.nothing r
  cases cutoutOpen r with
  | false => exact ⟨rfl, silent, by rw [if_neg Bool.false_ne_true, fresh]; rfl⟩
  | true =>
    have entered := enterFault_absent (f := .thermalCutout) (s := r) (by rw [fresh]; exact List.not_mem_nil)
    rw [if_pos rfl, if_pos rfl, entered]
    refine ⟨rfl, ?_, by rw [fresh]; rfl⟩
    exact FirstTold.raised (s := { r with events := { r.events with faults := r.events.faults ++ [.thermalCutout] } })
      ⟨silent.conditions, silent.steering, silent.queues, silent.kinds⟩ start rfl (by simp)

theorem fresh_nil (b : Bool) {c : Condition} (other : k ≠ c.kind) :
    k ∉ (Condition.whenHolds b c).map Condition.kind := by
  cases b <;> simp [Condition.whenHolds, other]

theorem fresh_append (fresh : k ∉ cs.map Condition.kind) (b : Bool) {c : Condition} (other : k ≠ c.kind) :
    k ∉ (cs ++ Condition.whenHolds b c).map Condition.kind := by
  rw [List.map_append, List.mem_append, not_or]
  exact ⟨fresh, fresh_nil b other⟩

/-- What the first readings and the loaded record raise, before the flap takes its end switch's reading. -/
def firstRaised (r : State) : State :=
  followPrompt (followWaterConditions (followLevel (followTray
    (if cutoutOpen r then enterFault .thermalCutout r else r))))

theorem Tells.tray (h : Tells r cs fs s) (start : r.now = 0) (fresh : EventKind.trayFull ∉ cs.map Condition.kind) :
    Tells r (cs ++ Condition.whenHolds r.inputs.trayFull.reading ⟨.trayFull, none⟩) fs (followTray s) := by
  have same : s.inputs = r.inputs := by rw [h.only]
  rw [← same]
  exact h.followed start _ rfl fresh

theorem Tells.level (h : Tells r cs fs s) (start : r.now = 0) (due : EventKind.scaleDue ∉ cs.map Condition.kind)
    (blocked : EventKind.scaleBlocked ∉ cs.map Condition.kind) :
    Tells r
      (cs ++ Condition.whenHolds (decide (r.scale.level = .due)) ⟨.scaleDue, numberArg r.scale.level.number⟩
        ++ Condition.whenHolds (decide (r.scale.level = .blocked)) ⟨.scaleBlocked, numberArg r.scale.level.number⟩)
      fs (followLevel s) := by
  have same : s.scale = r.scale := by rw [h.only]
  rw [← same]
  exact (h.followed start _ rfl due).followed start _ rfl (fresh_append blocked _ (by simp))

theorem Tells.water (h : Tells r cs fs s) (start : r.now = 0) (empty : EventKind.waterEmpty ∉ cs.map Condition.kind)
    (missing : EventKind.tankMissing ∉ cs.map Condition.kind) :
    Tells r
      (cs ++ Condition.whenHolds (anySuspended r) ⟨.waterEmpty, none⟩
        ++ Condition.whenHolds (tankInUse r && !tankPresent r) ⟨.tankMissing, none⟩)
      fs (followWaterConditions s) := by
  have suspended : anySuspended s = anySuspended r := by rw [h.only]; rfl
  have told := h.followed start (anySuspended s) (k := .waterEmpty) (arg := none) rfl empty
  have inUse : tankInUse s = tankInUse r := by rw [h.only]; rfl
  have present : tankPresent s = tankPresent r := by rw [h.only]; rfl
  unfold followWaterConditions
  rw [inUse, present, ← suspended]
  have fresh := fresh_append missing (anySuspended s) (c := ⟨.waterEmpty, none⟩) (by simp)
  exact told.followed start (tankInUse r && !tankPresent r) (k := .tankMissing) (arg := none) rfl fresh

theorem Tells.prompt (h : Tells r cs fs s) (start : r.now = 0)
    (fresh : EventKind.descalePrompt ∉ cs.map Condition.kind) :
    Tells r
      (cs ++ Condition.whenHolds (promptHolds r.ret.descale) ⟨.descalePrompt, numberArg r.ret.descale.phase.number⟩)
      fs (followPrompt s) := by
  have same : s.ret.descale = r.ret.descale := by rw [h.only]
  rw [← same]
  exact h.followed start _ rfl fresh

theorem firstRaised_tells (start : r.now = 0) (fresh : r.events = .initial) :
    Tells r (firstConditions r) (if cutoutOpen r then [.thermalCutout] else []) (firstRaised r) := by
  have tray := (tells_cutout start fresh).tray start (fresh_nil _ (by simp))
  have level := tray.level start (fresh_append (fresh_nil _ (by simp)) _ (by simp))
    (fresh_append (fresh_nil _ (by simp)) _ (by simp))
  have water := level.water start
    (fresh_append (fresh_append (fresh_append (fresh_nil _ (by simp)) _ (by simp)) _ (by simp)) _ (by simp))
    (fresh_append (fresh_append (fresh_append (fresh_nil _ (by simp)) _ (by simp)) _ (by simp)) _ (by simp))
  exact water.prompt start
    (fresh_append (fresh_append (fresh_append (fresh_append (fresh_append (fresh_nil _ (by simp)) _ (by simp)) _
      (by simp)) _ (by simp)) _ (by simp)) _ (by simp))

theorem raiseAtReset_eq (r : State) :
    raiseAtReset r = if endReached .closed (firstRaised r) then arriveVent .closed (firstRaised r) else firstRaised r :=
  rfl

/-- A reset raises the conditions it finds, and the flap takes its end switch's reading; nothing else moves. -/
theorem raiseAtReset_tells (start : r.now = 0) (fresh : r.events = .initial) :
    Tells { r with out := { r.out with vent := firstVent r } } (firstConditions r)
      (if cutoutOpen r then [.thermalCutout] else []) (raiseAtReset r) := by
  have told := firstRaised_tells start fresh
  have reached : endReached .closed (firstRaised r) = endReached .closed r := by rw [told.only]; rfl
  have steady : hasFault .ventStuck (firstRaised r) = false := by
    rw [hasFault, told.faults]
    cases cutoutOpen r <;> rfl
  have arrived : arriveVent .closed (firstRaised r) =
      setVent { (firstRaised r).out.vent with state := .closed } (firstRaised r) :=
    if_neg (Bool.eq_false_iff.mp steady)
  rw [raiseAtReset_eq, reached, firstVent]
  cases endReached .closed r with
  | true =>
    rw [if_pos rfl, if_pos rfl, arrived]
    refine ⟨?_, ⟨told.told.conditions, told.told.steering, told.told.queues, told.told.kinds⟩, told.faults⟩
    rw [told.only]
    rfl
  | false =>
    rw [if_neg Bool.false_ne_true, if_neg Bool.false_ne_true]
    exact told

end

/-! ## The state that a reset sets -/

theorem resetKind_eq (cause : ResetCause) (s : State) :
    resetKind cause s =
      if s.start.latch = true ∧ cause.holdUpExhausted = false then (if cause.supplyFell then .dip else .line)
      else .cold := by
  simp [resetKind, latchKept]

theorem retentionHolds_iff (cause : ResetCause) (s : State) :
    retentionHolds cause s = true ↔
      (s.start.latch = true ∧ cause.holdUpExhausted = false) ∧ cause.checkAgrees = true := by
  simp [retentionHolds, latchKept]

theorem promptHolds_iff (d : Descale) :
    promptHolds d = true ↔ d.phase = .awaitAgent ∨ d.phase = .awaitRinse ∨ d.stall ≠ .none := by
  simp [promptHolds, or_assoc]

theorem mem_firstConditions {r : State} {c : Condition} : c ∈ firstConditions r ↔
    (cutoutOpen r = true ∧ c = ⟨.faultActive, some 1⟩) ∨
    (r.inputs.trayFull.reading = true ∧ c = ⟨.trayFull, none⟩) ∨
    (r.scale.level = .due ∧ c = ⟨.scaleDue, some 1⟩) ∨
    (r.scale.level = .blocked ∧ c = ⟨.scaleBlocked, some 2⟩) ∨
    (anySuspended r = true ∧ c = ⟨.waterEmpty, none⟩) ∨
    ((tankInUse r = true ∧ tankPresent r = false) ∧ c = ⟨.tankMissing, none⟩) ∨
    (promptHolds r.ret.descale = true ∧ c = ⟨.descalePrompt, numberArg r.ret.descale.phase.number⟩) := by
  unfold firstConditions
  simp only [List.mem_append, mem_whenHolds, Bool.and_eq_true, Bool.not_eq_true', decide_eq_true_iff, or_assoc]
  have due : (r.scale.level = .due ∧ c = ⟨.scaleDue, numberArg r.scale.level.number⟩) ↔
      (r.scale.level = .due ∧ c = ⟨.scaleDue, some 1⟩) := and_congr_right fun level => by rw [level]; rfl
  have blocked : (r.scale.level = .blocked ∧ c = ⟨.scaleBlocked, numberArg r.scale.level.number⟩) ↔
      (r.scale.level = .blocked ∧ c = ⟨.scaleBlocked, some 2⟩) := and_congr_right fun level => by rw [level]; rfl
  rw [due, blocked]

/-- The first readings (R162). -/
theorem firstReadings_get {straps : Straps} {p : Inputs} {i : Input} (other : i ≠ .inletPressure) :
    (firstReadings straps p).get i = ⟨(p.get i).raw, (p.get i).raw, 0⟩ := by
  unfold firstReadings
  dsimp only
  split
  · cases i
    case inletPressure => exact absurd rfl other
    all_goals rfl
  · cases i <;> rfl

theorem firstReadings_inlet_plumbed {straps : Straps} (plumbed : straps.supply = .plumbed) (p : Inputs) :
    (firstReadings straps p).inletPressure = ⟨p.inletPressure.raw, p.inletPressure.raw, 0⟩ := by
  simp [firstReadings, plumbed, Inputs.map, InputLine.first]

theorem firstReadings_inlet_tank {straps : Straps} (tank : straps.supply = .tank) (p : Inputs) :
    (firstReadings straps p).inletPressure = ⟨p.inletPressure.raw, false, 0⟩ := by
  simp [firstReadings, tank, Inputs.map, InputLine.first]

theorem firstVent_eq (cause : ResetCause) (s : State) : firstVent (resetState cause s) =
    { state := if s.inputs.ventClosedEnd.raw then .closed else .closing, target := .closed, travel := 0 } := by
  have reached : endReached .closed (resetState cause s) = s.inputs.ventClosedEnd.raw :=
    congrArg InputLine.reading (firstReadings_get (i := .ventClosedEnd) (by simp))
  rw [firstVent, reached]
  cases s.inputs.ventClosedEnd.raw <;> rfl

theorem steeringOf_default (k : EventKind) : steeringOf defaultSteering k =
    ⟨true, true, decide (k = .faultActive ∨ k = .settingsChanged)⟩ := by
  cases k <;> decide

theorem FirstTold.mem_queue {cs : List Condition} (h : FirstTold cs s) (l : Link) (e : Entry) :
    e ∈ s.events.queues.get l ↔
      (l = .service → e.kind = .faultActive ∨ e.kind = .settingsChanged) ∧ ⟨e.kind, e.argument⟩ ∈ cs ∧
        e.count = 1 ∧ e.time = 0 ∧ e.reported = false ∧ e.standing = .holding := by
  have steered : (steeringOf defaultSteering e.kind).get l = true ↔
      (l = .service → e.kind = .faultActive ∨ e.kind = .settingsChanged) := by
    rw [steeringOf_default]
    cases l <;> simp [PerLink.get]
  rw [h.queues l, List.mem_map, ← steered]
  constructor
  · rintro ⟨c, member, rfl⟩
    obtain ⟨member, steered⟩ := List.mem_filter.mp member
    exact ⟨steered, member, rfl, rfl, rfl, rfl⟩
  · rintro ⟨steered, member, count, time, unread, stands⟩
    refine ⟨_, List.mem_filter.mpr ⟨member, steered⟩, ?_⟩
    rw [Condition.entry, ← count, ← time, ← unread, ← stands]

end Sys2Proof.Machine

open Sys2Proof Sys2Proof.Machine

/-- Settles O59: the reset's state unit by unit, and the conditions that its end raises. -/
theorem resetSetsThePart : Obligations.ResetSetsThePart := by
  intro cause s latched kind record strap settings budget limits level sensor relay heat slot cold phase stall raised
  have told : Tells _ _ _ (raiseAtReset (resetState cause s)) := raiseAtReset_tells rfl rfl
  have kindIs : resetKind cause s = kind := resetKind_eq cause s
  have strapIs : budgetWatts cause.straps.budget = strap := by
    simp only [strap]
    cases cause.straps.budget <;> rfl
  have settingsIs : limitOverride cause.straps (loadedRecord s).settings = settings := by
    rw [limitOverride, strapIs]
    rfl
  have limitsIs : limitsOf cause.straps settings = limits := by
    rw [limitsOf, strapIs]
  have retIs : (resetState cause s).ret = if latched ∧ cause.checkAgrees = true then s.ret else cold := by
    show (if retentionHolds cause s then s.ret else _) = _
    simp only [retentionHolds_iff]
    rfl
  have first {i : Input} (other : i ≠ .inletPressure) : ((resetState cause s).inputs.get i).reading = _ :=
    congrArg InputLine.reading (firstReadings_get other)
  have faultsIs := told.faults
  rw [show cutoutOpen (resetState cause s) = s.inputs.thermalCutout.raw from first (i := .thermalCutout) (by simp)]
    at faultsIs
  have raisedIs : ∀ (k : EventKind) (a : Option Byte), ⟨k, a⟩ ∈ firstConditions (resetState cause s) ↔ raised k a := by
    intro k a
    have cutout : cutoutOpen (resetState cause s) = s.inputs.thermalCutout.raw := first (i := .thermalCutout) (by simp)
    have tray : (resetState cause s).inputs.trayFull.reading = s.inputs.trayFull.raw :=
      first (i := .trayFull) (by simp)
    have present : tankPresent (resetState cause s) = s.inputs.tankPresent.raw :=
      first (i := .tankPresent) (by simp)
    have levelIs : (resetState cause s).scale.level = level := rfl
    have suspended : anySuspended (resetState cause s) = false := rfl
    have straps : (resetState cause s).start.straps = cause.straps := rfl
    have phaseIs : (resetState cause s).ret.descale.phase = phase := by
      rw [retIs]
      exact apply_ite (fun r : Retained => r.descale.phase) ..
    have stallIs : (resetState cause s).ret.descale.stall = stall := by
      rw [retIs]
      exact apply_ite (fun r : Retained => r.descale.stall) ..
    rw [mem_firstConditions, promptHolds_iff, tankInUse_iff, cutout, tray, present, levelIs, suspended, straps, phaseIs,
      stallIs]
    clear_value level phase stall
    cases k <;> simp [raised, and_assoc]
  refine ⟨raiseAtReset (resetState cause s), rfl, ?_⟩
  generalize raiseAtReset (resetState cause s) = t at told faultsIs ⊢
  have field {α : Type} (f : State → α) : f t = _ := congrArg f told.only
  refine ⟨(field (·.start.kind)).trans kindIs, (field (·.start.outage)).trans ?_, field (·.start.ready),
    field (·.start.resumed), field (·.start.straps), field (·.start.latch), field (·.start.outageTimer),
    field (·.start.summary), (field State.ret).trans retIs, (field State.settings).trans settingsIs,
    field (·.scale.deposit), field (·.scale.carry), (field (·.scale.level)).trans ?_, field State.marker,
    field State.store, field State.now, field State.meas, field State.climate, (field State.share).trans ?_,
    field State.water, field State.boiler, (field State.out).trans ?_,
    (field (·.out.vent)).trans (firstVent_eq cause s), field State.prot, ?_, fun k => ?_, ?_, field State.seq,
    field State.pending, fun c => ?_, ?_, fun l => ⟨?_, fun e => ?_⟩,
    field State.work, fun l => (field (port · l)).trans ?_, faultsIs, fun i other => (field (·.inputs.get i)).trans ?_,
    fun plumbed => (field (·.inputs.inletPressure)).trans ?_, fun tank => (field (·.inputs.inletPressure)).trans ?_,
    fun n g rest => ⟨rfl, fun later => ?_, fun ended => ?_⟩⟩
  · show resetOutage cause s = _
    rw [← kindIs]
    rfl
  · show levelOf (loadedRecord s).deposit (limitOverride cause.straps (loadedRecord s).settings).scaleLimit = level
    rfl
  · show PowerShare.initial (limitsOf cause.straps (limitOverride cause.straps (loadedRecord s).settings)) = _
    rw [settingsIs, limitsIs]
    rfl
  · rw [show t.out.vent = firstVent (resetState cause s) from field (·.out.vent)]
    rfl
  · rw [told.told.steering]
    rfl
  · rw [told.told.steering]
    exact steeringOf_default k
  · rw [show t.start.retentionValid = retentionHolds cause s from field (·.start.retentionValid)]
    exact retentionHolds_iff cause s
  · rw [told.told.conditions, List.mem_reverse]
    exact raisedIs c.kind c.argument
  · rw [told.told.conditions, List.map_reverse]
    exact List.nodup_reverse.mpr told.told.kinds
  · rw [told.told.queues l, List.map_map]
    exact told.told.kinds.sublist (List.filter_sublist.map Condition.kind)
  · rw [told.told.mem_queue, raisedIs]
  · cases l <;> rfl
  · exact firstReadings_get other
  · exact firstReadings_inlet_plumbed plumbed _
  · exact firstReadings_inlet_tank tank _
  · exact if_neg (Nat.not_le.mpr later)
  · exact if_pos ended

end

section
/-! SUPPORT. The end of a step once the WATER cause has been considered: what PREPARE, service forcing, the two water
conditions and the arbiter leave of the run, the regulator, the channels and the events. -/

namespace Sys2Proof.Machine

section
variable {s t u : State}

/-! ## The units -/

/-- Once PREPARE has been considered, a step moves the outputs, the share, the water unit, the events and the store
alone. -/
theorem settle_units (s : State) :
    ∃ sh x e w k,
      settle s = { beforeForces s with share := sh, out := x, events := e, water := w, store := k } := by
  obtain ⟨x, w, e, k, settled⟩ := settle_afterForces s
  obtain ⟨sh, x', e', yields⟩ := yieldForces_only (beforeForces s)
  rw [settled, yields]
  exact ⟨_, _, _, _, _, rfl⟩

theorem settle_ret (s : State) : (settle s).ret = (beforeForces s).ret := by
  obtain ⟨_, _, _, _, _, units⟩ := settle_units s
  rw [units]

theorem settle_climate (s : State) : (settle s).climate = (beforeForces s).climate := by
  obtain ⟨_, _, _, _, _, units⟩ := settle_units s
  rw [units]

theorem settle_seq (s : State) : (settle s).seq = (beforeForces s).seq := by
  obtain ⟨_, _, _, _, _, units⟩ := settle_units s
  rw [units]

theorem settle_work (s : State) : (settle s).work = (beforeForces s).work := by
  obtain ⟨_, _, _, _, _, units⟩ := settle_units s
  rw [units]

theorem settle_scale (s : State) : (settle s).scale = (beforeForces s).scale := by
  obtain ⟨_, _, _, _, _, units⟩ := settle_units s
  rw [units]

theorem beforeForces_eq (s : State) : beforeForces s = followPrepare (followNeed (beforeNeed s)) := rfl

theorem beforeConditions_water (s : State) : (beforeConditions s).water = (beforeForces s).water := by
  obtain ⟨_, _, _, yields⟩ := yieldForces_only (beforeForces s)
  show (yieldForces (beforeForces s)).water = _
  rw [yields]

/-- The arbiter decides over the channels and the path that PREPARE leaves. -/
theorem settle_arbitrated (s : State) :
    ∃ v, (settle s).water = (arbitrate v).water ∧ v.water = (beforeForces s).water ∧
      serviceHold v = serviceHold (settle s) := by
  refine ⟨followWaterConditions (beforeConditions s), ?_, ?_, ?_⟩
  · rw [settle_eq, flushCommit_only]
  · rw [followWaterConditions_only]
    exact beforeConditions_water s
  · rw [settle_eq, flushCommit_only, arbitrate_only]
    rfl

/-! ## The channels -/

/-- The arbiter grants the path, or starts a drain, only where it is asked for. -/
theorem chan_arbitrate_quiet {c : Chan} (asks : (chan s c).state ≠ .requesting) :
    chan (arbitrate s) c = chan s c := by
  have drain : chan (drainStarted s) c = chan s c := by
    by_cases supply : c = .ch3
    · rw [supply] at asks ⊢
      rw [chan_drainStarted_drain, if_neg asks]
    · exact chan_drainStarted supply s
  have granted (c' : Chan) (waits : (chan (drainStarted s) c').state = .requesting) :
      chan (grantPath c' (drainStarted s)) c = chan s c := by
    have other : c ≠ c' := by
      rintro rfl
      exact asks (by rwa [drain] at waits)
    rw [chan_grantPath_other other, drain]
  rw [arbitrate_eq]
  split
  · rfl
  · split
    · unfold pathTaken
      split
      · next waits => exact granted .ch2 waits
      · split
        · next waits => exact granted .ch0 waits
        · split
          · next waits => exact granted .ch1 waits
          · exact drain
    · exact drain

theorem chan_settle_quiet {c : Chan} (asks : (chan (beforeForces s) c).state ≠ .requesting) :
    chan (settle s) c = chan (beforeForces s) c := by
  obtain ⟨v, water, same, -⟩ := settle_arbitrated s
  have before : chan v c = chan (beforeForces s) c := congrArg (fun w : Water => w.chans.get c) same
  rw [← before] at asks ⊢
  exact (congrArg (fun w : Water => w.chans.get c) water).trans (chan_arbitrate_quiet asks)

theorem arbitrate_settling (settles : s.water.path = .settling) : (arbitrate s).water.path = .settling := by
  rw [arbitrate_eq]
  split
  · exact settles
  · rw [if_neg (by rw [drainStarted_path, settles]; exact nofun), drainStarted_path, settles]

theorem settle_settling (settles : (beforeForces s).water.path = .settling) : (settle s).water.path = .settling := by
  obtain ⟨v, water, same, -⟩ := settle_arbitrated s
  rw [water]
  exact arbitrate_settling (by rw [same, settles])

/-! ## The run and the regulator -/

theorem followNeed_reacts {s₀ : State} (h : BoilerReacts s₀ s) : BoilerReacts s₀ (followNeed s) :=
  setBoiler_reacts h rfl rfl

theorem followPrepare_reacts {s₀ : State} (h : BoilerReacts s₀ s) : BoilerReacts s₀ (followPrepare s) := by
  unfold followPrepare
  split
  · split
    · exact enterPhase_reacts _ _ (setWork_reacts _ h)
    · split
      · exact h
      · exact wantDrain_reacts h
    · split
      · exact h
      · exact wantDrain_reacts h
    · exact h
  · exact h

/-- Need and PREPARE move of the run the count of steam alone, and nothing of the regulator. -/
theorem beforeForces_reacts (s : State) : BoilerReacts (beforeNeed s) (beforeForces s) :=
  followPrepare_reacts (followNeed_reacts (.refl _))

/-! ## The events -/

variable {k : EventKind}

theorem postBoiler_kindRests (s : State) : KindRests k s (postBoiler s) := by
  rw [postBoiler_eq]
  exact .same rfl

theorem cancelTopUp_kindRests (due : k ≠ .scaleDue) (blocked : k ≠ .scaleBlocked) (s : State) :
    KindRests k s (cancelTopUp s) := by
  unfold cancelTopUp
  split
  · exact cancelDose_kindRests due blocked .ch0 s
  · exact .same rfl

theorem followTopUp_kindRests (due : k ≠ .scaleDue) (blocked : k ≠ .scaleBlocked) (s : State) :
    KindRests k s (followTopUp s) := by
  unfold followTopUp
  split
  · exact cancelTopUp_kindRests due blocked s
  · exact .same rfl

theorem enterBoiler_kindRests (due : k ≠ .scaleDue) (blocked : k ≠ .scaleBlocked) (st : BoilerState) (s : State) :
    KindRests k s (enterBoiler st s) := by
  have set : ∀ b : Boiler, KindRests k s (setBoiler b s) := fun _ => .same rfl
  unfold enterBoiler
  split
  · exact .same rfl
  · dsimp only
    split
    · exact (set _).trans (postBoiler_kindRests _)
    · exact ((set _).trans (cancelTopUp_kindRests due blocked _)).trans (postBoiler_kindRests _)

theorem loadDrain_kindRests (due : k ≠ .scaleDue) (blocked : k ≠ .scaleBlocked) (r : Requester) (s : State) :
    KindRests k s (loadDrain r s) := by
  have taken : KindRests k s (drainTaken r s) := by
    have loaded : ∀ w : Water, KindRests k s { s with water := w } := fun _ => .same rfl
    exact (loaded _).trans (markDrain_kindRests due blocked false _)
  cases held : holdsDose s .ch3 with
  | true => rw [show loadDrain r s = s from if_pos held]; exact .same rfl
  | false =>
    rw [loadDrain_eq r held]
    split
    · exact taken
    · exact taken.trans (enterBoiler_kindRests due blocked _ _)

theorem wantDrain_kindRests (due : k ≠ .scaleDue) (blocked : k ≠ .scaleBlocked) (s : State) :
    KindRests k s (wantDrain s) := by
  have worked : ∀ w : DescaleWork, KindRests k s (setWork w s) := fun _ => .same rfl
  rw [wantDrain_eq]
  split
  · exact (worked _).trans (loadDrain_kindRests due blocked _ _)
  · exact worked _

theorem enterPhase_kindRests (due : k ≠ .scaleDue) (blocked : k ≠ .scaleBlocked) (prompt : k ≠ .descalePrompt)
    (p : DescalePhase) (step : Option RinseStep) (s : State) : KindRests k s (enterPhase p step s) := by
  have changed : KindRests k s (setDescale { s.ret.descale with phase := p, step := step } s) := .same rfl
  exact ((changed.trans (followCondition_kindRests prompt _ _ _)).trans (followTopUp_kindRests due blocked _)).trans
    (postBoiler_kindRests _)

theorem followPrepare_kindRests (due : k ≠ .scaleDue) (blocked : k ≠ .scaleBlocked) (prompt : k ≠ .descalePrompt)
    (s : State) : KindRests k s (followPrepare s) := by
  have worked : ∀ w : DescaleWork, KindRests k s (setWork w s) := fun _ => .same rfl
  unfold followPrepare
  split
  · split
    · exact (worked _).trans (enterPhase_kindRests due blocked prompt _ _ _)
    · split
      · exact .same rfl
      · exact wantDrain_kindRests due blocked s
    · split
      · exact .same rfl
      · exact wantDrain_kindRests due blocked s
    · exact .same rfl
  · exact .same rfl

theorem returnedEvents_kindRests (other : k ≠ .faultActive) (same : t.events = returnedEvents s) : KindRests k s t := by
  cases reached : endReached s.out.vent.target s with
  | true =>
    rw [returnedEvents_reached reached] at same
    exact (leaveFault_kindRests other .ventStuck s).trans (.same same)
  | false =>
    rw [returnedEvents_away reached] at same
    exact .same same

theorem removeForce_kindRests (other : k ≠ .faultActive) (o : Output) (s : State) :
    KindRests k s (removeForce o s) := by
  by_cases entered : (forceEntry o s).isSome = true
  · rw [removeForce_eq entered]
    cases drive : isVentDrive o with
    | true => exact returnedEvents_kindRests other rfl
    | false => exact .same rfl
  · rw [removeForce_none (Bool.eq_false_of_not_eq_true entered)]
    exact .same rfl

theorem yieldForces_kindRests (other : k ≠ .faultActive) (s : State) : KindRests k s (yieldForces s) := by
  have each : ∀ (os : List Output) (t : State), KindRests k t (os.foldl (fun s o => removeForce o s) t) := by
    intro os
    induction os with
    | nil => exact fun _ => .same rfl
    | cons o os ih => exact fun t => (removeForce_kindRests other o t).trans (ih _)
  have pulse : ∀ t : State, KindRests k t (endPulse t) := by
    intro t
    cases pulsed : t.out.pulse with
    | none =>
      rw [endPulse_none pulsed]
      exact .same rfl
    | some p =>
      rw [endPulse_eq pulsed]
      cases drives : p.outputs.any isVentDrive with
      | true => exact returnedEvents_kindRests other rfl
      | false => exact .same rfl
  unfold yieldForces endForces
  split
  · exact .same rfl
  · rw [removeForces_all]
    exact (each _ _).trans (pulse _)

/-- Once PREPARE has been considered, only FAULT_ACTIVE and the two water conditions may be told. -/
theorem settle_kindRests (fault : k ≠ .faultActive) (empty : k ≠ .waterEmpty) (missing : k ≠ .tankMissing) (s : State) :
    KindRests k (beforeForces s) (settle s) := by
  have yields := yieldForces_kindRests fault (beforeForces s)
  have told : KindRests k (beforeConditions s) (followWaterConditions (beforeConditions s)) :=
    (followCondition_kindRests empty _ _ _).trans (followCondition_kindRests missing _ _ _)
  have renewed : KindRests k (yieldForces (beforeForces s)) (beforeConditions s) := .same rfl
  exact ((yields.trans renewed).trans told).trans (.same (settle_events s))

end

end Sys2Proof.Machine
end

section
/-! SUPPORT. The run faults at the end of a step (R149 to R151, R157, R158). -/

namespace Sys2Proof.Machine

section
variable {s t : State}

/-! ## The fatal fault (R151) -/

theorem fatalFault_eq (s : State) :
    fatalFault s =
      if FaultKind.thermalCutout ∈ s.events.faults then some .thermalCutout
      else if FaultKind.heatRunaway ∈ s.events.faults then some .heatRunaway
      else if FaultKind.sensorCavity ∈ s.events.faults then some .sensorCavity
      else if FaultKind.fanStall ∈ s.events.faults ∧
          (currentStage s).mode ∈ [Mode.convection, .bottomCrisp, .grillFan, .steam, .combi, .proof] then some .fanStall
      else none := by
  have fans (m : Mode) : m.isFan = true ↔ m ∈ [Mode.convection, .bottomCrisp, .grillFan, .steam, .combi, .proof] := by
    rw [isFan_iff]
    cases m <;> decide
  unfold fatalFault hasFault
  simp only [Bool.and_eq_true, decide_eq_true_iff, fans]

/-! ## A run that has ended (R157) -/

/-- The fault checks find nothing more of a run that they have ended, nor does WATER. -/
theorem beforeNeed_closed (idle : (checkRunFaults s).ret.run.state = .idle)
    (condition : (checkRunFaults s).seq.waterCondition = false) : beforeNeed s = followTopUp (checkRunFaults s) :=
  followWater_idle (followTopUp_rests.state.trans idle) (followTopUp_rests.condition.trans condition)

theorem settle_closed (idle : (checkRunFaults s).ret.run.state = .idle)
    (condition : (checkRunFaults s).seq.waterCondition = false) :
    (settle s).ret.run.state = .idle ∧ (settle s).ret.lastRun = (checkRunFaults s).ret.lastRun ∧
      (settle s).ret.run.causes = (checkRunFaults s).ret.run.causes := by
  have needs := beforeNeed_closed idle condition
  have rests : RunRests (checkRunFaults s) (beforeForces s) := by
    rw [beforeForces_eq, needs]
    exact (followTopUp_rests.trans followNeed_rests).trans followPrepare_rests
  have reacts : BoilerReacts (checkRunFaults s) (beforeForces s) := by
    rw [beforeForces_eq, needs]
    exact followPrepare_reacts (followNeed_reacts (followTopUp_reacts (.refl _)))
  obtain ⟨n, m, run⟩ := reacts.run
  rw [settle_ret]
  exact ⟨rests.state.trans idle, rests.lastRun, by rw [run]⟩

/-! ## The stages that end (R142) -/

theorem closeStage_running (runs : s.ret.run.state ≠ .idle) : (closeStage s).ret.run.state ≠ .idle := by
  obtain ⟨n, m, run⟩ := burstEnded_run s
  obtain ⟨st, moved, active⟩ := removeCause_moves .probe (burstEnded s)
  rw [closeStage_eq, moved]
  rw [run] at active
  exact active runs

/-- A stage that is entered goes on with its run. -/
theorem stageEntered_running (k : Nat) (runs : s.ret.run.state ≠ .idle) :
    (stageEntered k false s).ret.run.state ≠ .idle := by
  obtain ⟨-, -, -, st, w, x, d, n, m, run, active⟩ := lossTaken_facts k s
  have stays : StageStays .stageStarted (stageAnnounced k s) (stageEntered k false s) :=
    stageEntered_stays rfl (by decide)
  refine stays.active ?_
  rw [(stageAnnounced_units k s).1, run]
  exact active runs

/-- The entry that follows a stage's end goes on with the run, or ends it, and WATER with it. -/
theorem entryAfter_runs (runs : s.ret.run.state ≠ .idle) :
    ((entryAfter s).2 = true ∧ (entryAfter s).1.ret.run.state ≠ .idle) ∨
      ((entryAfter s).2 = false ∧ (entryAfter s).1.seq.waterCondition = false) := by
  unfold entryAfter
  rcases enterStage_outcome (s.ret.run.stageIndex + 1) false (closeStage s) with entered | ⟨f, v, abandoned⟩
  · rw [entered]
    exact .inl ⟨rfl, stageEntered_running _ (closeStage_running runs)⟩
  · rw [abandoned]
    exact .inr ⟨rfl, (endRun_ended ..).condition⟩

theorem endStages_runs (n : Nat) (runs : s.ret.run.state ≠ .idle) :
    (endStages n s).ret.run.state ≠ .idle ∨ (endStages n s).seq.waterCondition = false := by
  induction n generalizing s with
  | zero => exact .inl runs
  | succ n ih =>
    by_cases following : hasFollowing s
    · rw [endStages_following n following]
      rcases entryAfter_runs runs with ⟨entered, active⟩ | ⟨abandoned, condition⟩
      · split
        · exact ih active
        · exact .inl active
      · rw [if_neg fun both => Bool.false_ne_true (abandoned.symm.trans both.1)]
        exact .inr condition
    · rw [endStages_last n following]
      exact .inr (endRun_ended ..).condition

theorem checkStageEnd_runs (runs : s.ret.run.state ≠ .idle) :
    (checkStageEnd s).ret.run.state ≠ .idle ∨ (checkStageEnd s).seq.waterCondition = false := by
  unfold checkStageEnd
  split
  · exact endStages_runs 12 runs
  · exact .inl runs

/-! ## Steam lost (R149, R150) -/

/-- WATER does not hold for a degraded stage without a burst. -/
theorem waterConditionHolds_degraded (degraded : s.ret.run.degraded = true) (free : holdsDose s .ch1 = false) :
    waterConditionHolds s = false := by
  simp [waterConditionHolds, stageNeedsWater, degraded, free]

/-- Where WATER is not among the causes and does not hold, it is only noted so. -/
theorem followWater_notes (ends : waterConditionHolds s = false) (absent : s.ret.run.causes.water = false) :
    ∃ q, followWater s = { s with seq := q } := by
  cases was : s.seq.waterCondition with
  | true => exact ⟨_, followWater_ignores ends was absent⟩
  | false => exact ⟨s.seq, followWater_same (ends.trans was.symm)⟩

/-- What follows the fault checks in a step moves of the run its pauses and the count of steam alone. -/
theorem settle_run (s : State) :
    ∃ st w x n m, (settle s).ret.run =
      { (checkRunFaults s).ret.run with
        state := st, causes := (checkRunFaults s).ret.run.causes.put .water w, waterTimer := x, steamUsed := n
        steamRemainder := m } := by
  obtain ⟨n, m, topUp⟩ := (followTopUp_reacts (.refl (checkRunFaults s))).run
  obtain ⟨st, w, x, water⟩ := followWater_run (followTopUp (checkRunFaults s))
  obtain ⟨n', m', settled⟩ := (beforeForces_reacts s).run
  rw [settle_ret, settled, show beforeNeed s = followWater (followTopUp (checkRunFaults s)) from rfl, water, topUp]
  exact ⟨st, w, x, n', m', rfl⟩

theorem holdsDose_followTopUp (s : State) : holdsDose (followTopUp s) .ch1 = holdsDose s .ch1 := by
  refine holdsDose_congr ?_
  unfold followTopUp cancelTopUp
  split
  · split
    · exact chan_cancelDose_other (by decide) s
    · rfl
  · rfl

/-- A run that has lost steam in this step, and stays in its stage, goes on degraded, without its burst. -/
theorem settle_degraded {d : State} (faults : checkRunFaults s = d) (degraded : d.ret.run.degraded = true)
    (water : d.ret.run.causes.water = false) (free : holdsDose d .ch1 = false)
    (withheld : d.climate.steamWithheld = true) :
    (settle s).ret.run.causes.water = false ∧ (settle s).climate.steamWithheld = true := by
  have topUp := followTopUp_reacts (.refl d)
  obtain ⟨n, m, run⟩ := topUp.run
  obtain ⟨q, notes⟩ : ∃ q, beforeNeed s = { followTopUp d with seq := q } := by
    rw [← faults] at run topUp ⊢
    refine followWater_notes (waterConditionHolds_degraded ?_ ?_) ?_
    · rw [run, faults]
      exact degraded
    · rw [holdsDose_followTopUp, faults]
      exact free
    · rw [run, faults]
      exact water
  have reacts := beforeForces_reacts s
  obtain ⟨n', m', settled⟩ := reacts.run
  rw [settle_ret, settle_climate, reacts.climate, settled, notes]
  refine ⟨?_, ?_⟩
  · rw [run]
    exact water
  · rw [topUp.climate]
    exact withheld

/-- CH1 and CH2 take no part in what PREPARE does. -/
theorem followPrepare_acts {c : Chan} (supply : c ≠ .ch3) : WaterActs c s (followPrepare s) := by
  unfold followPrepare
  split
  · split
    · exact (setWork_acts _).trans (enterPhase_acts _ _)
    · split
      · exact (BoilerActs.refl c s).toWaterActs
      · exact wantDrain_acts supply
    · split
      · exact (BoilerActs.refl c s).toWaterActs
      · exact wantDrain_acts supply
    · exact (BoilerActs.refl c s).toWaterActs
  · exact (BoilerActs.refl c s).toWaterActs

theorem beforeForces_burst (s : State) : holdsDose (beforeForces s) .ch1 = holdsDose (checkRunFaults s) .ch1 := by
  have prepare : chan (beforeForces s) .ch1 = chan (beforeNeed s) .ch1 :=
    (followPrepare_acts (s := followNeed (beforeNeed s)) (by decide)).chan (.inl (by decide))
  have water : (beforeNeed s).water = (followTopUp (checkRunFaults s)).water :=
    (followWater_goesOn (k := .steamDegraded) (other := rfl)).water
  have burst : chan (beforeNeed s) .ch1 = chan (followTopUp (checkRunFaults s)) .ch1 :=
    congrArg (fun w : Water => w.chans.get .ch1) water
  rw [holdsDose_congr prepare, holdsDose_congr burst, holdsDose_followTopUp]

theorem settle_burst (free : holdsDose (checkRunFaults s) .ch1 = false) : holdsDose (settle s) .ch1 = false := by
  rw [← beforeForces_burst] at free
  have asks : (chan (beforeForces s) .ch1).state ≠ .requesting := by
    rcases (holdsDose_false_iff _ _).mp free with rests | rests | rests <;> rw [rests] <;> exact nofun
  rw [holdsDose_congr (chan_settle_quiet asks)]
  exact free

/-- What the fault checks have told of a degraded stage stays told. -/
theorem settle_degradedTold {a : Option Byte} {s₀ : State} (told : RaisedTo .steamDegraded a s₀ (checkRunFaults s)) :
    RaisedTo .steamDegraded a s₀ (settle s) := by
  have topUp := (followTopUp_kindRests (by decide) (by decide) _).raised told
  have water := (followWater_goesOn (k := .steamDegraded) (other := rfl)).events.raised topUp
  have need : KindRests .steamDegraded (beforeNeed s) (followNeed (beforeNeed s)) := .same rfl
  have prepare : KindRests .steamDegraded (followNeed (beforeNeed s)) (beforeForces s) :=
    followPrepare_kindRests (by decide) (by decide) (by decide) _
  exact (settle_kindRests (by decide) (by decide) (by decide) s).raised (prepare.raised (need.raised water))

/-- The run has lost steam, and its stage is degraded for it (R150). -/
def steamGone (s : State) : State := degradeStage (setRun { s.ret.run with steamLost := true } s)

theorem checkRunFaults_loses (active : runActive s = true) (calm : fatalFault s = none) (faulty : steamFault s = true)
    (had : s.ret.run.steamLost = false) : checkRunFaults s = checkStageEnd (steamGone s) := by
  unfold checkRunFaults
  rw [if_pos active, calm]
  dsimp only
  rw [faulty, had]
  rfl

theorem checkRunFaults_lost (active : runActive s = true) (calm : fatalFault s = none)
    (lost : s.ret.run.steamLost = true) : checkRunFaults s = s := by
  unfold checkRunFaults
  rw [if_pos active, calm]
  dsimp only
  rw [lost, Bool.not_true, Bool.and_false]
  rfl

theorem degradeStage_goesOn (s : State) :
    (degradeStage s).ret.run.steamLost = s.ret.run.steamLost ∧
      (degradeStage s).ret.run.stageIndex = s.ret.run.stageIndex ∧
      ((currentStage s).usesSteam = true → (degradeStage s).ret.run.degraded = true) ∧
      (s.ret.run.state ≠ .idle → (degradeStage s).ret.run.state ≠ .idle) := by
  by_cases degrades : (currentStage s).usesSteam = true ∧ s.ret.run.degraded = false
  · obtain ⟨-, -, -, st, n, m, run, active⟩ := degradeStage_degrades degrades.1 degrades.2
    rw [run]
    exact ⟨rfl, rfl, fun _ => rfl, active⟩
  · rw [degradeStage_same degrades]
    exact ⟨rfl, rfl, fun uses => Bool.eq_true_of_not_eq_false fun fresh => degrades ⟨uses, fresh⟩, id⟩

theorem steamGone_goesOn (s : State) :
    (steamGone s).ret.run.steamLost = true ∧ (steamGone s).ret.run.stageIndex = s.ret.run.stageIndex ∧
      ((currentStage s).usesSteam = true → (steamGone s).ret.run.degraded = true) ∧
      (s.ret.run.state ≠ .idle → (steamGone s).ret.run.state ≠ .idle) := degradeStage_goesOn _

/-- The stage that is degraded for it, told and without its burst. -/
theorem steamGone_degrades (uses : (currentStage s).usesSteam = true) (fresh : s.ret.run.degraded = false) :
    (steamGone s).ret.run.degradedAny = true ∧ (steamGone s).ret.run.causes.water = false ∧
      (steamGone s).ret.run.deferredBurst = none ∧ (steamGone s).climate.steamWithheld = true ∧
      holdsDose (steamGone s) .ch1 = false ∧ RaisedTo .steamDegraded (stageArg s) s (steamGone s) := by
  have taken : (currentStage (setRun { s.ret.run with steamLost := true } s)).usesSteam = true := uses
  obtain ⟨-, -, -, st, n, m, run, -⟩ := degradeStage_degrades taken fresh
  obtain ⟨withheld, told, free⟩ := degradeStage_tells taken fresh
  unfold steamGone
  rw [run]
  exact ⟨rfl, rfl, rfl, withheld, free, told⟩

end

end Sys2Proof.Machine

open Sys2Proof Sys2Proof.Machine

/-- Settles O17: a fatal fault leaves an ended run, which the rest of the step finds ended; steam lost degrades the
stage before its end is considered, and a later stage has a later index. -/
theorem runFaultsActAtTheEndOfAStep : Obligations.RunFaultsActAtTheEndOfAStep := by
  refine ⟨fatalFault_eq, fun s f active fatal => ?_, fun s active calm faulty => ?_⟩
  · have ends : checkRunFaults s = endRun .fault (some f) s := by
      unfold checkRunFaults
      rw [if_pos active, fatal]
    have ended := endRun_ended .fault (some f) s
    obtain ⟨state, last, causes⟩ := settle_closed (s := s) (by rw [ends]; exact ended.idle)
      (by rw [ends]; exact ended.condition)
    rw [ends] at last causes
    exact ⟨state, causes.trans (by rw [endRun_run]; rfl), _, last.trans endRun_lastRun, rfl, rfl, rfl, rfl, rfl, rfl,
      rfl, cancelBurst_used_le s⟩
  · obtain ⟨st, w, x, n, m, run⟩ := settle_run s
    cases had : s.ret.run.steamLost with
    | true =>
      refine .inr ⟨?_, nofun⟩
      rw [run, checkRunFaults_lost active calm had]
      exact had
    | false =>
      have loses := checkRunFaults_loses active calm faulty had
      obtain ⟨lost, index, degraded, running⟩ := steamGone_goesOn s
      have taken := running ((runActive_iff s).mp active).2
      by_cases idle : (checkRunFaults s).ret.run.state = .idle
      · have condition : (checkRunFaults s).seq.waterCondition = false := by
          rw [loses] at idle ⊢
          exact (checkStageEnd_runs taken).resolve_left (not_not_intro idle)
        exact .inl (settle_closed idle condition).1
      · refine .inr ?_
        rcases checkStageEnd_advances (steamGone s) with stays | ended | ⟨advances, later⟩
        · have same : checkRunFaults s = steamGone s := loses.trans stays
          rw [same] at run
          refine ⟨by rw [run]; exact lost, fun _ uses _ => ⟨by rw [run]; exact degraded uses, fun fresh => ?_⟩⟩
          obtain ⟨any, water, deferred, withheld, free, told⟩ := steamGone_degrades uses fresh
          obtain ⟨dry, held⟩ := settle_degraded same (degraded uses) water free withheld
          exact ⟨by rw [run]; exact any, held, dry, by rw [run]; exact deferred,
            settle_burst (by rw [same]; exact free), settle_degradedTold (by rw [same]; exact told)⟩
        · exact absurd (by rw [loses]; exact ended) idle
        · rw [← loses] at advances later
          rw [run]
          refine ⟨advances.lost.trans lost, fun _ _ same => ?_⟩
          rw [index] at later
          exact absurd same later.ne'

end

section
/-! SUPPORT. What the fault checks at the end of a step can do to the supply path and its channels: a run that ends, or
a stage, cancels its burst on CH1, and a drain that it leaves pending cancels a top-up on CH0 (R102, R106, R142). -/

namespace Sys2Proof.Machine

section
variable {s t u : State}

/-- Of the supply path, CH0 is left as it is or freed, the path may only begin to settle, as it does where CH0 is freed
while it runs, and CH3 stands. -/
structure SupplyYields (s t : State) : Prop where
  settling : s.water.path = .settling → t.water.path = .settling
  drain : chan t .ch3 = chan s .ch3
  fill : (chan t .ch0 = chan s .ch0 ∧ (t.water.path = s.water.path ∨ t.water.path = .settling)) ∨
    (chan t .ch0 = ⟨.idle, none⟩ ∧
      ((chan s .ch0).state = .running → s.water.path = .granted .ch0 → t.water.path = .settling))

theorem SupplyYields.same (water : t.water = s.water) : SupplyYields s t := by
  have chans : ∀ c : Chan, chan t c = chan s c := fun c => congrArg (fun w : Water => w.chans.get c) water
  have path := congrArg Water.path water
  exact ⟨fun settles => path.trans settles, chans .ch3, .inl ⟨chans .ch0, .inl path⟩⟩

theorem SupplyYields.trans (h : SupplyYields s t) (k : SupplyYields t u) : SupplyYields s u where
  settling := k.settling ∘ h.settling
  drain := k.drain.trans h.drain
  fill := by
    rcases h.fill with ⟨same, path⟩ | ⟨freed, path⟩
    · rcases k.fill with ⟨same', path'⟩ | ⟨freed, path'⟩
      · refine .inl ⟨same'.trans same, ?_⟩
        rcases path' with path' | path'
        · rw [path']
          exact path
        · exact .inr path'
      · refine .inr ⟨freed, fun runs granted => ?_⟩
        rw [same] at path'
        rcases path with path | path
        · exact path' runs (path.trans granted)
        · exact k.settling path
    · refine .inr ⟨?_, fun runs granted => k.settling (path runs granted)⟩
      rcases k.fill with ⟨same, -⟩ | ⟨freed', -⟩
      · exact same.trans freed
      · exact freed'

theorem releasePath_path (c : Chan) (s : State) :
    (releasePath c s).water.path = s.water.path ∨ (releasePath c s).water.path = .settling := by
  unfold releasePath
  split
  · exact .inr rfl
  · exact .inl rfl

theorem cancelDose_path (c : Chan) (s : State) :
    (cancelDose c s).water.path = s.water.path ∨ (cancelDose c s).water.path = .settling := by
  unfold cancelDose
  dsimp only
  split
  · exact .inl rfl
  · split
    · rcases releasePath_path c (passPulses c s) with path | path
      · exact .inl (path.trans (passPulses_path c s))
      · exact .inr path
    · exact .inl rfl

theorem cancelDose_supplyYields {c : Chan} (supply : c ≠ .ch3) (s : State) : SupplyYields s (cancelDose c s) where
  settling settles := by
    rcases cancelDose_path c s with path | path
    · rw [path, settles]
    · exact path
  drain := chan_cancelDose_other supply.symm s
  fill := by
    by_cases fills : c = .ch0
    · subst fills
      exact .inr ⟨chan_cancelDose supply s, fun runs granted => (cancelDose_releases supply runs granted).1⟩
    · exact .inl ⟨chan_cancelDose_other (Ne.symm fills) s, cancelDose_path c s⟩

theorem cancelTopUp_supplyYields (s : State) : SupplyYields s (cancelTopUp s) := by
  unfold cancelTopUp
  split
  · exact cancelDose_supplyYields (by decide) s
  · exact .same rfl

theorem followTopUp_supplyYields (s : State) : SupplyYields s (followTopUp s) := by
  unfold followTopUp
  split
  · exact cancelTopUp_supplyYields s
  · exact .same rfl

theorem cancelBurst_supplyYields (s : State) : SupplyYields s (cancelBurst s) := by
  unfold cancelBurst
  split
  · exact cancelDose_supplyYields (by decide) s
  · exact .same rfl

theorem markDrain_supplyYields (b : Bool) (s : State) : SupplyYields s (markDrain b s) := by
  have set : SupplyYields s (setBoiler { s.boiler with drainPending := b } s) := .same rfl
  unfold markDrain
  dsimp only
  split
  · exact (set.trans (cancelTopUp_supplyYields _)).trans (.same (postBoiler_water _))
  · exact set.trans (.same (postBoiler_water _))

theorem requestBurst_supplyYields (ml : Nat) (s : State) : SupplyYields s (requestBurst ml s) := by
  have other {c : Chan} (supply : c ≠ .ch1) (x : Channel) : chan (setChan .ch1 x s) c = chan s c := by
    rw [chan_setChan, if_neg supply]
  have loaded : ∀ x : Channel, SupplyYields s (setChan .ch1 x s) := fun x =>
    ⟨id, other (by decide) x, .inl ⟨other (by decide) x, .inl rfl⟩⟩
  unfold requestBurst
  split
  · exact .same rfl
  · unfold loadDose
    split
    · exact .same rfl
    · exact loaded _

theorem removeCause_supplyYields (p : PauseCause) (s : State) : SupplyYields s (removeCause p s) :=
  .same (by rw [(removeCause_runOnly p s).only])

theorem followWater_water (s : State) : (followWater s).water = s.water :=
  (followWater_goesOn (k := .steamDegraded) (other := rfl)).water

theorem degradeStage_supplyYields (s : State) : SupplyYields s (degradeStage s) := by
  by_cases degrades : (currentStage s).usesSteam = true ∧ s.ret.run.degraded = false
  · have marked : SupplyYields s (stageMarked s) := .same (withholdSteam_acts true _).units.2.2.1
    have dropped : SupplyYields (cancelBurst (stageMarked s)) (burstDropped s) := .same rfl
    have timed : ∀ r t, SupplyYields t (setRun r t) := fun _ _ => .same rfl
    rw [degradeStage_eq degrades.1 degrades.2]
    exact (((marked.trans (cancelBurst_supplyYields _)).trans dropped).trans (removeCause_supplyYields _ _)).trans
      (timed _ _)
  · rw [degradeStage_same degrades]
    exact .same rfl

theorem closeStage_supplyYields (s : State) : SupplyYields s (closeStage s) := by
  have ended : SupplyYields (cancelBurst s) (burstEnded s) := .same rfl
  rw [closeStage_eq]
  exact ((cancelBurst_supplyYields s).trans ended).trans (removeCause_supplyYields _ _)

theorem endRun_supplyYields (result : RunResult) (fault : Option FaultKind) (s : State) :
    SupplyYields s (endRun result fault s) := by
  have closed : SupplyYields s (climateClosed result fault s) :=
    (cancelBurst_supplyYields s).trans (.same climateClosed_units.1)
  rw [endRun_eq]
  split
  · exact (closed.trans (markDrain_supplyYields true _)).trans (.same rfl)
  · exact closed.trans (.same rfl)

theorem lossTaken_supplyYields (k : Nat) (s : State) : SupplyYields s (lossTaken k s) := by
  have taken : SupplyYields s (stageTaken k s) := .same rfl
  unfold lossTaken
  split
  · exact taken.trans (degradeStage_supplyYields _)
  · exact taken

theorem stageEntered_supplyYields (k : Nat) (s : State) : SupplyYields s (stageEntered k false s) := by
  have announced : SupplyYields s (stageAnnounced k s) :=
    (lossTaken_supplyYields k s).trans (.same (stageAnnounced_units k s).2.1)
  have caused : SupplyYields s (causesEntered k false s) :=
    announced.trans (.same (causesEntered_goesOn (e := .stageStarted) rfl).water)
  refine caused.trans ?_
  refine enterBurst_cases (P := fun t => SupplyYields (causesEntered k false s) t) _ (.same rfl) (fun _ => .same rfl)
    fun ml => (requestBurst_supplyYields ml _).trans (.same (followWater_water _))

theorem entryAfter_supplyYields (s : State) : SupplyYields s (entryAfter s).1 := by
  have closed := closeStage_supplyYields s
  unfold entryAfter
  by_cases fails : fatalFault (stageTaken (s.ret.run.stageIndex + 1) (closeStage s)) ≠ none ∨
      (closeStage s).climate.state = .fault
  · obtain ⟨f, u, entry, taken⟩ := enterStage_abandoned (atStart := false) fails
    rw [entry]
    have given : SupplyYields (closeStage s) u := by
      obtain rfl | rfl := taken
      · exact .same rfl
      · exact lossTaken_supplyYields _ _
    exact (closed.trans given).trans (endRun_supplyYields _ _ _)
  · obtain ⟨calm, works⟩ := not_or.mp fails
    rw [enterStage_entered false (not_not.mp calm) works]
    exact closed.trans (stageEntered_supplyYields _ _)

theorem endStages_supplyYields (n : Nat) (s : State) : SupplyYields s (endStages n s) := by
  induction n generalizing s with
  | zero => exact .same rfl
  | succ n ih =>
    by_cases following : hasFollowing s
    · rw [endStages_following n following]
      split
      · exact (entryAfter_supplyYields s).trans (ih _)
      · exact entryAfter_supplyYields s
    · rw [endStages_last n following]
      exact (closeStage_supplyYields s).trans (endRun_supplyYields _ _ _)

theorem checkRunFaults_supplyYields (s : State) : SupplyYields s (checkRunFaults s) := by
  have stage : ∀ t : State, SupplyYields t (checkStageEnd t) := fun t => by
    unfold checkStageEnd endStage
    split
    · exact endStages_supplyYields 12 t
    · exact .same rfl
  have lost : SupplyYields s (setRun { s.ret.run with steamLost := true } s) := .same rfl
  unfold checkRunFaults
  split
  · split
    · exact endRun_supplyYields _ _ s
    · split
      · exact (lost.trans (degradeStage_supplyYields _)).trans (stage _)
      · exact .same rfl
  · exact .same rfl

end

end Sys2Proof.Machine
end

section
/-! SUPPORT. The end of a step unit by unit: the top-up that is cancelled (R102), PREPARE (R117) and the WATER cause
(R146). -/

namespace Sys2Proof.Machine

section
variable {s t : State}

/-! ## What PREPARE finds -/

/-- What the step has left alone when PREPARE is considered. -/
structure PrepareFinds (s v : State) : Prop where
  start : v.start = s.start
  inputs : v.inputs = s.inputs
  work : v.work = s.work
  descale : v.ret.descale = s.ret.descale
  boiler : v.boiler.state = s.boiler.state
  supply : SupplyYields s v

theorem prepareFinds (s : State) : PrepareFinds s (followNeed (beforeNeed s)) := by
  have kept : Kept s (followNeed (beforeNeed s)) :=
    followNeed_kept (followWater_kept (followTopUp_kept (checkRunFaults_kept (.refl s))))
  have aside : (followNeed (beforeNeed s)).aside = s.aside :=
    (((checkRunFaults_sequencer s).trans (followTopUp_sequencer _)).trans (followWater_sequencer _)).trans
      (followNeed_sequencer _) |>.aside
  have course : (followNeed (beforeNeed s)).boiler.state = s.boiler.state := by
    have before : (beforeNeed s).boiler.course = s.boiler.course := by
      unfold beforeNeed
      rw [followWater_course, followTopUp_boiler, checkRunFaults_course]
    show Boiler.state (beforeNeed s).boiler.course = Boiler.state s.boiler.course
    rw [before]
  have water : SupplyYields (followTopUp (checkRunFaults s)) (followNeed (beforeNeed s)) := .same (followWater_water _)
  exact ⟨kept.start, kept.inputs, congrArg Aside.work aside, congrArg Aside.descale aside, course,
    ((checkRunFaults_supplyYields s).trans (followTopUp_supplyYields _)).trans water⟩

/-- PREPARE acts (R117). -/
def PrepareActs (s : State) : Prop :=
  s.start.ready = true ∧ s.ret.descale.phase = .prepare ∧ s.ret.descale.stall = .none

theorem PrepareActs.found {v : State} (h : PrepareActs s) (finds : PrepareFinds s v) : PrepareActs v := by
  unfold PrepareActs
  rw [finds.start, finds.descale]
  exact h

theorem followPrepare_awaits (h : PrepareActs s) (empty : s.boiler.state = .empty) :
    followPrepare s = enterPhase .awaitAgent none (setWork { s.work with drain := false } s) := by
  obtain ⟨ready, phase, stall⟩ := h
  unfold followPrepare
  rw [ready, phase, stall, empty]
  rfl

theorem followPrepare_drains (h : PrepareActs s) (boils : s.boiler.state = .heating ∨ s.boiler.state = .ready)
    (free : holdsDose s .ch3 = false) : followPrepare s = wantDrain s := by
  obtain ⟨ready, phase, stall⟩ := h
  unfold followPrepare
  rw [ready, phase, stall, free]
  rcases boils with boils | boils <;> rw [boils] <;> rfl

theorem followPrepare_waits
    (h : ¬PrepareActs s ∨
      (s.boiler.state ≠ .empty ∧
        (¬(s.boiler.state = .heating ∨ s.boiler.state = .ready) ∨ holdsDose s .ch3 = true))) :
    followPrepare s = s := by
  unfold followPrepare
  split
  · next acts =>
    have prepares : PrepareActs s := by
      simp only [Bool.and_eq_true, decide_eq_true_eq] at acts
      exact ⟨acts.1.1, acts.1.2, acts.2⟩
    obtain ⟨filled, waits⟩ := h.resolve_left (not_not_intro prepares)
    split
    · next empty => exact absurd empty filled
    · next boils =>
      exact if_pos (waits.resolve_left (not_not_intro (.inl boils)))
    · next boils =>
      exact if_pos (waits.resolve_left (not_not_intro (.inr boils)))
    · rfl
  · rfl

/-! ## The top-up that is cancelled (R102) -/

/-- The boiler controller's top-up is on CH0. -/
def TopUpHeld (s : State) : Prop := holdsFor s .ch0 .boilerControl = true ∧ modeIs .single (chan s .ch0) = true

/-- What cancels a top-up at the end of a step. -/
def EndsTopUp (s : State) : Prop := highCovered s = true ∨ s.ret.descale.phase ≠ .idle

theorem followTopUp_eq (s : State) : followTopUp s = if highCovered s || decide (s.ret.descale.phase ≠ .idle) then
    cancelTopUp s else s := rfl

theorem followTopUp_cancels (held : TopUpHeld s) (ends : EndsTopUp s) : followTopUp s = cancelDose .ch0 s := by
  have acts : (highCovered s || decide (s.ret.descale.phase ≠ .idle)) = true := by
    rw [Bool.or_eq_true, decide_eq_true_eq]
    exact ends
  rw [followTopUp_eq, if_pos acts, cancelTopUp, held.1, held.2]
  rfl

theorem followTopUp_stays (stays : ¬(TopUpHeld s ∧ EndsTopUp s)) : followTopUp s = s := by
  rw [followTopUp_eq]
  split
  · next acts =>
    rw [Bool.or_eq_true, decide_eq_true_eq] at acts
    unfold cancelTopUp
    refine if_neg fun held => stays ⟨?_, acts⟩
    rw [Bool.and_eq_true] at held
    exact held
  · rfl

theorem checkRunFaults_descale (s : State) : (checkRunFaults s).ret.descale = s.ret.descale :=
  congrArg Aside.descale (checkRunFaults_sequencer s).aside

theorem beforeNeed_cancels (held : TopUpHeld s) (ends : EndsTopUp s) : chan (beforeNeed s) .ch0 = ⟨.idle, none⟩ := by
  have water : chan (beforeNeed s) .ch0 = chan (followTopUp (checkRunFaults s)) .ch0 :=
    congrArg (fun w : Water => w.chans.get .ch0) (followWater_water _)
  rw [water]
  rcases (checkRunFaults_supplyYields s).fill with ⟨same, -⟩ | ⟨freed, -⟩
  · have held' : TopUpHeld (checkRunFaults s) := by
      unfold TopUpHeld holdsFor holdsDose
      rw [same]
      exact held
    have ends' : EndsTopUp (checkRunFaults s) := by
      unfold EndsTopUp highCovered
      rw [(checkRunFaults_kept (.refl s)).inputs, checkRunFaults_descale]
      exact ends
    rw [followTopUp_cancels held' ends']
    exact chan_cancelDose (by decide) _
  · rcases (followTopUp_supplyYields (checkRunFaults s)).fill with ⟨same, -⟩ | ⟨freed', -⟩
    · exact same.trans freed
    · exact freed'

/-- With CH0 free, the rest of the step leaves it so, and a path that settles. -/
theorem settle_freed (idle : chan (beforeNeed s) .ch0 = ⟨.idle, none⟩) :
    chan (settle s) .ch0 = ⟨.idle, none⟩ ∧
      ((beforeNeed s).water.path = .settling → (settle s).water.path = .settling) := by
  have acts : WaterActs .ch0 (followNeed (beforeNeed s)) (beforeForces s) := followPrepare_acts (by decide)
  have free : holdsDose (followNeed (beforeNeed s)) .ch0 = false := by
    rw [holdsDose, show chan (followNeed (beforeNeed s)) .ch0 = ⟨.idle, none⟩ from idle]
    rfl
  have same : chan (beforeForces s) .ch0 = ⟨.idle, none⟩ := (acts.chan (.inr free)).trans idle
  refine ⟨?_, fun settles => settle_settling (acts.path settles)⟩
  rw [chan_settle_quiet (by rw [same]; exact nofun), same]

theorem settle_cancels (held : TopUpHeld s) (ends : EndsTopUp s) :
    chan (settle s) .ch0 = ⟨.idle, none⟩ ∧
      ((chan s .ch0).state = .running → s.water.path = .granted .ch0 → (settle s).water.path = .settling) := by
  have idle := beforeNeed_cancels held ends
  obtain ⟨freed, settles⟩ := settle_freed idle
  refine ⟨freed, fun runs granted => settles ?_⟩
  rcases (prepareFinds s).supply.fill with ⟨same, -⟩ | ⟨-, released⟩
  · have still : (chan (beforeNeed s) .ch0).state = .running := (congrArg Channel.state same).trans runs
    rw [idle] at still
    cases still
  · exact released runs granted

/-! ## What it charges (R96) -/

theorem loadDrain_uncharged (r : Requester) (s : State) : Uncharged s (loadDrain r s) := by
  have taken : Uncharged s (drainTaken r s) := by
    have loaded : Uncharged s (setChan .ch3 (drainLoad r s) s) := fun rests => by
      refine ⟨?_, rfl, rfl, rfl⟩
      rw [chan_setChan, if_neg (by decide)]
      exact rests
    have clocked : ∀ t : State, Uncharged t { t with water := { t.water with drainClock := 0 } } :=
      fun _ rests => ⟨rests, rfl, rfl, rfl⟩
    exact (loaded.trans (clocked _)).trans (markDrain_uncharged false _)
  cases held : holdsDose s .ch3 with
  | true =>
    rw [show loadDrain r s = s from if_pos held]
    exact .refl s
  | false =>
    rw [loadDrain_eq r held]
    exact .ite taken (taken.trans (enterBoiler_uncharged _))

theorem followPrepare_uncharged (s : State) : Uncharged s (followPrepare s) := by
  have worked : ∀ w : DescaleWork, Uncharged s (setWork w s) := fun _ => .same rfl rfl rfl
  have drains : Uncharged s (wantDrain s) := by
    rw [wantDrain_eq]
    exact .ite ((worked _).trans (loadDrain_uncharged _ _)) (worked _)
  unfold followPrepare
  refine .ite ?_ (.refl s)
  split
  · exact (worked _).trans (enterPhase_uncharged _ _)
  · exact .ite (.refl s) drains
  · exact .ite (.refl s) drains
  · exact .refl s

theorem followWater_chargesNothing (s : State) : ChargesNothing s (followWater s) := by
  obtain ⟨st, w, n, run⟩ := followWater_run s
  refine ⟨(followWater_goesOn (k := .steamDegraded) (other := rfl)).scale, ?_, ?_⟩ <;> rw [run]

/-- Once the top-up has been considered, a step charges nothing while CH0 does not run. -/
theorem settle_chargesNothing {v : State} (needs : beforeNeed s = followWater v)
    (rests : (chan v .ch0).state ≠ .running) : ChargesNothing v (settle s) := by
  have water : chan (followWater v) .ch0 = chan v .ch0 :=
    congrArg (fun w : Water => w.chans.get .ch0) (followWater_water v)
  have prepared := (followPrepare_uncharged (followNeed (beforeNeed s)) (by rw [needs]; exact water ▸ rests)).2
  have settled : ChargesNothing (beforeForces s) (settle s) := by
    refine ⟨settle_scale s, ?_, ?_⟩ <;> rw [settle_ret]
  have needed : ChargesNothing (followWater v) (followNeed (beforeNeed s)) := by
    rw [needs]
    exact ⟨rfl, rfl, rfl⟩
  exact (((followWater_chargesNothing v).trans needed).trans prepared).trans settled

theorem settle_cancelCharges {x : Dose} (calm : checkRunFaults s = s) (held : TopUpHeld s) (ends : EndsTopUp s)
    (dose : (chan s .ch0).dose = some x) :
    ((chan s .ch0).state = .running → HandsOn (x.delivered - x.charged) x s (settle s)) ∧
      ((chan s .ch0).state ≠ .running → ChargesNothing s (settle s)) := by
  have needs : beforeNeed s = followWater (cancelDose .ch0 s) := by
    unfold beforeNeed
    rw [calm, followTopUp_cancels held ends]
  have rest : ChargesNothing (cancelDose .ch0 s) (settle s) :=
    settle_chargesNothing needs (by rw [chan_cancelDose (by decide)]; exact nofun)
  exact ⟨fun runs => (cancelDose_handsOn (by decide) runs dose).after rest,
    fun still => (cancelDose_uncharged still).2.trans rest⟩

/-! ## What PREPARE does (R117) -/

theorem enterPhase_work (p : DescalePhase) (step : Option RinseStep) (s : State) :
    (enterPhase p step s).work = s.work := (enterPhase_reaches (c := .ch0) p step).work

/-- DESCALE_PROMPT holds in a phase that waits for the user (R118). -/
theorem enterPhase_prompts {p : DescalePhase} (step : Option RinseStep) (waits : p = .awaitAgent ∨ p = .awaitRinse)
    (s : State) : conditionHolds .descalePrompt (enterPhase p step s) = true := by
  have prompts : promptHolds { s.ret.descale with phase := p, step := step } = true := by
    rcases waits with rfl | rfl <;> rfl
  have rests (t : State) : KindRests .descalePrompt t (postBoiler (followTopUp t)) :=
    (followTopUp_kindRests (by decide) (by decide) t).trans (postBoiler_kindRests _)
  refine (rests _).condition.trans ?_
  exact (conditionHolds_followCondition rfl _ _ _).trans prompts

/-- With the boiler EMPTY the controller asks for the agent, and says so. -/
theorem settle_awaits (acts : PrepareActs s) (empty : s.boiler.state = .empty) :
    (settle s).ret.descale.phase = .awaitAgent ∧ (settle s).work.drain = false ∧
      conditionHolds .descalePrompt (settle s) = true := by
  have finds := prepareFinds s
  have awaits := followPrepare_awaits (acts.found finds) (finds.boiler.trans empty)
  rw [← beforeForces_eq] at awaits
  have told := (settle_kindRests (k := .descalePrompt) (by decide) (by decide) (by decide) s).condition
  rw [settle_ret, settle_work, told, awaits, enterPhase_record, enterPhase_work]
  exact ⟨rfl, rfl, enterPhase_prompts none (.inl rfl) _⟩

/-- No output is held for service while the descale phase is not IDLE. -/
theorem settle_unheld (descales : (settle s).ret.descale.phase ≠ .idle) : serviceHold (settle s) = false := by
  have free : ¬((settle s).out.forces ≠ [] ∨ (settle s).out.pulse ≠ none) := fun held =>
    descales (settle_allowed held).2.1
  obtain ⟨forces, pulse⟩ := not_or.mp free
  have none (o : Output) : override o (settle s) = none := by
    unfold override forceEntry inPulse
    rw [not_not.mp forces, not_not.mp pulse]
    rfl
  unfold serviceHold
  simp [none]

theorem not_requesting_of_free {c : Chan} (free : holdsDose s c = false) : (chan s c).state ≠ .requesting := by
  rcases (holdsDose_false_iff _ _).mp free with rests | rests | rests <;> rw [rests] <;> exact nofun

/-- A drain that is on CH3 when the step ends runs, unless a service hold applies. -/
theorem drainRuns {x : State} (unheld : serviceHold (settle s) = false)
    (loaded : chan (beforeForces s) .ch3 = drainLoad .descale x) :
    chan (settle s) .ch3 = { drainLoad .descale x with state := .running } := by
  obtain ⟨v, water, same, hold⟩ := settle_arbitrated s
  have before : chan v .ch3 = drainLoad .descale x :=
    (congrArg (fun w : Water => w.chans.get .ch3) same).trans loaded
  have decided : chan (settle s) .ch3 = chan (arbitrate v) .ch3 := congrArg (fun w : Water => w.chans.get .ch3) water
  rw [decided, chan_arbitrate_drain (hold.trans unheld), before]
  unfold drainLoad
  cases serviceHold x <;> rfl

/-- With the boiler HEATING or READY a drain is wanted, which CH3 runs as soon as it is loaded. -/
theorem settle_drains (acts : PrepareActs s) (boils : s.boiler.state = .heating ∨ s.boiler.state = .ready)
    (free : holdsDose s .ch3 = false) :
    (settle s).ret.descale.phase = .prepare ∧
      (drainFits s → (settle s).work.drain = false ∧ (settle s).boiler.state = .draining ∧
        (settle s).boiler.drainPending = false ∧
        chan (settle s) .ch3 = { drainLoad .descale s with state := .running }) ∧
      (¬drainFits s → (settle s).work.drain = true ∧ (settle s).boiler.state = s.boiler.state ∧
        chan (settle s) .ch3 = chan s .ch3) := by
  have finds := prepareFinds s
  have free' : holdsDose (followNeed (beforeNeed s)) .ch3 = false := (holdsDose_congr finds.supply.drain).trans free
  have wants := followPrepare_drains (acts.found finds) (by rw [finds.boiler]; exact boils) free'
  rw [← beforeForces_eq] at wants
  have phase : (settle s).ret.descale.phase = .prepare := by
    rw [settle_ret, wants, (wantDrain_record _).1, finds.descale]
    exact acts.2.1
  have fits : drainFits (followNeed (beforeNeed s)) ↔ drainFits s := by
    unfold drainFits tankPresent
    rw [free', free, finds.start, finds.inputs]
  have boiler : (settle s).boiler = (beforeForces s).boiler := settle_boiler s
  refine ⟨phase, fun loads => ?_, fun waits => ?_⟩
  · rw [wantDrain_fits (fits.mpr loads)] at wants
    have wet : (followNeed (beforeNeed s)).boiler.state ≠ .dryFault := by
      rw [finds.boiler]
      rcases boils with boils | boils <;> rw [boils] <;> exact nofun
    generalize followNeed (beforeNeed s) = v at wants free' wet
    have idle : holdsDose (setWork { v.work with drain := false } v) .ch3 = false := free'
    obtain ⟨pending, record⟩ := loadDrain_taken .descale idle
    obtain ⟨-, state⟩ := loadDrain_loaded .descale idle
    have work := (loadDrain_acts (c := .ch0) (by decide) .descale (s := setWork { v.work with drain := false } v)).work
    rw [← wants] at pending record state work
    refine ⟨?_, ?_, by rw [boiler, pending], ?_⟩
    · rw [settle_work, work]
      rfl
    · rw [boiler, state]
      exact if_neg wet
    · exact (drainRuns (settle_unheld (by rw [phase]; exact nofun)) record).trans rfl
  · rw [wantDrain_waits (mt fits.mp waits)] at wants
    have same : chan (beforeForces s) .ch3 = chan s .ch3 := by
      rw [wants]
      exact finds.supply.drain
    refine ⟨by rw [settle_work, wants]; rfl, by rw [boiler, wants]; exact finds.boiler, ?_⟩
    rw [chan_settle_quiet (by rw [same]; exact not_requesting_of_free free), same]

/-- Where PREPARE does not act, or waits, the descale controller and the boiler stand. -/
theorem settle_waits
    (h : ¬PrepareActs s ∨
      (s.boiler.state ≠ .empty ∧
        (¬(s.boiler.state = .heating ∨ s.boiler.state = .ready) ∨ holdsDose s .ch3 = true))) :
    (settle s).ret.descale = s.ret.descale ∧ (settle s).work = s.work ∧
      (settle s).boiler.state = s.boiler.state := by
  have finds := prepareFinds s
  have waits : followPrepare (followNeed (beforeNeed s)) = followNeed (beforeNeed s) := by
    refine followPrepare_waits ?_
    unfold PrepareActs
    rw [finds.start, finds.descale, finds.boiler, holdsDose_congr finds.supply.drain]
    exact h
  rw [← beforeForces_eq] at waits
  rw [settle_ret, settle_work, settle_boiler, ← beforeForces_eq, waits]
  exact ⟨finds.descale, finds.work, finds.boiler⟩

/-! ## WATER (R146) -/

theorem loadDrain_ret (h : NoTopUp s) (r : Requester) : (loadDrain r s).ret = s.ret := by
  cases held : holdsDose s .ch3 with
  | true => rw [show loadDrain r s = s from if_pos held]
  | false =>
    have taken : (drainTaken r s).ret = s.ret := by
      unfold drainTaken markDrain
      rw [postBoiler_eq]
      rfl
    have same : chan (drainTaken r s) .ch0 = chan s .ch0 := (chan_drainTaken r s .ch0).trans (if_neg (by decide))
    have still : NoTopUp (drainTaken r s) := by
      unfold NoTopUp holdsFor holdsDose
      rw [same]
      exact h
    rw [loadDrain_eq r held]
    split
    · exact taken
    · obtain ⟨b, sh, entered⟩ := enterBoiler_only .draining still
      rw [entered]
      exact taken

theorem followTopUp_idle (h : NoTopUp s) : followTopUp s = s := by
  unfold followTopUp
  rw [cancelTopUp_idle h, ite_self]

theorem followPrompt_units (s : State) : (followPrompt s).water = s.water ∧ (followPrompt s).ret = s.ret :=
  ⟨followCondition_water .., followCondition_ret ..⟩

theorem enterPhase_run (h : NoTopUp s) (p : DescalePhase) (step : Option RinseStep) :
    (enterPhase p step s).ret.run = s.ret.run := by
  have changed : NoTopUp (setDescale { s.ret.descale with phase := p, step := step } s) := h.congr rfl
  have run : (setDescale { s.ret.descale with phase := p, step := step } s).ret.run = s.ret.run := rfl
  unfold enterPhase
  generalize setDescale { s.ret.descale with phase := p, step := step } s = u at changed run
  obtain ⟨water, ret⟩ := followPrompt_units u
  rw [followTopUp_idle (changed.congr water), postBoiler_eq]
  show (followPrompt u).ret.run = s.ret.run
  rw [ret, run]

theorem wantDrain_run (h : NoTopUp s) : (wantDrain s).ret.run = s.ret.run := by
  have worked (w : DescaleWork) : (loadDrain .descale (setWork w s)).ret = (setWork w s).ret :=
    loadDrain_ret (s := setWork w s) (h.congr rfl) .descale
  rw [wantDrain_eq]
  split
  · exact congrArg Retained.run (worked _)
  · rfl

/-- With no top-up on CH0, PREPARE leaves the run alone. -/
theorem followPrepare_run (h : ¬PrepareActs s ∨ NoTopUp s) : (followPrepare s).ret.run = s.ret.run := by
  by_cases acts : PrepareActs s
  · have free := h.resolve_left (not_not_intro acts)
    have awaits : (enterPhase .awaitAgent none (setWork { s.work with drain := false } s)).ret.run = s.ret.run :=
      enterPhase_run (s := setWork { s.work with drain := false } s) (free.congr rfl) _ _
    unfold followPrepare
    split
    · split
      · exact awaits
      · split
        · rfl
        · exact wantDrain_run free
      · split
        · rfl
        · exact wantDrain_run free
      · rfl
    · rfl
  · rw [followPrepare_waits (.inl acts)]

/-- Where neither the fault checks nor a top-up that is cancelled have moved the run, WATER alone does. -/
theorem settle_followsWater (calm : checkRunFaults s = s) (keeps : ¬(TopUpHeld s ∧ EndsTopUp s)) :
    (settle s).ret.run = (followWater s).ret.run ∧ (settle s).climate = (followWater s).climate ∧
      (settle s).seq.waterCondition = (followWater s).seq.waterCondition := by
  have needs : beforeNeed s = followWater s := by
    unfold beforeNeed
    rw [calm, followTopUp_stays keeps]
  have run : (beforeForces s).ret.run = (followNeed (followWater s)).ret.run := by
    rw [beforeForces_eq, needs]
    refine followPrepare_run ?_
    by_cases acts : PrepareActs (followNeed (followWater s))
    · have finds := prepareFinds s
      rw [needs] at finds
      have descales : EndsTopUp s := by
        refine .inr ?_
        rw [← finds.descale, acts.2.1]
        exact nofun
      have free : NoTopUp s := by
        by_contra held
        obtain ⟨own, single⟩ := not_or.mp held
        exact keeps ⟨⟨Bool.eq_true_of_not_eq_false own, Bool.eq_true_of_not_eq_false single⟩, descales⟩
      exact .inr (free.congr (followWater_water s))
    · exact .inl acts
  rw [settle_ret, settle_climate, settle_seq, (beforeForces_reacts s).climate, run, needs]
  exact ⟨rfl, rfl, (followPrepare_rests (s := followNeed (beforeNeed s))).condition.trans (by rw [needs]; rfl)⟩

theorem waterConditionHolds_dry (s : State) :
    waterConditionHolds s = true ↔ runActive s = true ∧
      (((currentStage s).mode.isSteam = true ∧ s.ret.run.degraded = false) ∨ holdsDose s .ch1 = true) ∧
      (sourceLow (if s.start.straps.supply = .tank then .tank else .inlet) s = true ∨
        ∃ c : Chan, c ≠ .ch3 ∧ (chan s c).state = .suspended ∧
          (requesterIs .boilerControl (chan s c) = true ∨ requesterIs .program (chan s c) = true)) := by
  rw [isSteam_iff]
  cases active : runActive s with
  | true =>
    rw [waterConditionHolds_iff active]
    simp only [true_and]
    rfl
  | false => simp [waterConditionHolds, active]

theorem followWater_condition (s : State) : (followWater s).seq.waterCondition = waterConditionHolds s := by
  by_cases same : waterConditionHolds s = s.seq.waterCondition
  · rw [followWater_same same, same]
  · cases holds : waterConditionHolds s with
    | true =>
      have was : s.seq.waterCondition = false := by
        rw [holds] at same
        exact Bool.eq_false_of_not_eq_true (Ne.symm same)
      rw [followWater_adds holds was]
      exact (waterAdded_facts s).1
    | false =>
      have was : s.seq.waterCondition = true := by
        rw [holds] at same
        exact Bool.eq_true_of_not_eq_false (Ne.symm same)
      cases water : s.ret.run.causes.water with
      | true =>
        rw [followWater_removes holds was water]
        exact (waterRemoved_facts s).1
      | false => rw [followWater_ignores holds was water]

/-- WATER is added with its timer at 0, and the run is PAUSED (R144, R146). -/
theorem waterAdded_run (s : State) :
    (waterAdded s).ret.run.waterTimer = 0 ∧ (RunSound s → (waterAdded s).ret.run.state = .paused) := by
  have run : (waterAdded s).ret.run =
      (addCause .water
        (setRun { s.ret.run with waterTimer := 0 }
          { s with seq := { s.seq with waterCondition := true } })).ret.run := by
    unfold waterAdded
    rw [(withholdSteam_units ..).1]
  rw [run, addCause_context]
  split
  · next has =>
    refine ⟨rfl, fun sound => sound.mpr ?_⟩
    have water : s.ret.run.causes.water = true := has
    simp [Causes.isEmpty, water]
  · refine ⟨rfl, fun sound => ?_⟩
    show (if s.ret.run.causes.isEmpty then RunState.paused else s.ret.run.state) = .paused
    split
    · rfl
    · next some => exact sound.mpr (Bool.eq_false_of_not_eq_true some)

/-- WATER is removed with its timer; a run without another cause goes on (R144, R146). -/
theorem waterRemoved_run (water : s.ret.run.causes.water = true) :
    (waterRemoved s).ret.run.waterTimer = 0 ∧
      (waterRemoved s).ret.run.state =
        if s.ret.run.causes.door = true ∨ s.ret.run.causes.probe = true ∨ s.ret.run.causes.mains = true then
          s.ret.run.state
        else .running := by
  have run : (waterRemoved s).ret.run =
      { (removeCause .water { s with seq := { s.seq with waterCondition := false } }).ret.run with
        waterTimer := 0 } := by
    unfold waterRemoved
    dsimp only
    rw [(withholdSteam_units ..).1, setRun_ret]
  rw [run, removeCause_context, if_pos (show s.ret.run.causes.has .water = true from water)]
  refine ⟨rfl, ?_⟩
  show (if (s.ret.run.causes.put .water false).isEmpty then RunState.running else s.ret.run.state) = _
  unfold Causes.isEmpty Causes.put
  cases s.ret.run.causes.door <;> cases s.ret.run.causes.probe <;> cases s.ret.run.causes.mains <;> rfl

/-! ## A quiet step -/

theorem checkRunFaults_calm
    (calm : ¬(runActive s = true ∧
      (fatalFault s ≠ none ∨ (steamFault s = true ∧ s.ret.run.steamLost = false)))) : checkRunFaults s = s := by
  unfold checkRunFaults
  split
  · next active =>
    have calm' := fun acts => calm ⟨active, acts⟩
    split
    · next f fatal =>
      exact absurd (.inl (by rw [fatal]; exact nofun)) calm'
    · refine if_neg fun loses => calm' (.inr ?_)
      rwa [Bool.and_eq_true, Bool.not_eq_true'] at loses
  · rfl

theorem followNeed_same (same : boilerNeeded s = s.boiler.wasNeeded) : followNeed s = s := by
  have again : (boilerNeeded s && !s.boiler.wasNeeded) = false := by
    rw [same]
    exact Bool.and_not_self _
  unfold followNeed
  dsimp only
  rw [again, same, Bool.not_false, Bool.and_true, Bool.and_true]
  rfl

theorem yieldForces_same
    (rests : (forcesAdmitted s && s.prot.serviceUnlock) = true ∨ (s.out.forces = [] ∧ s.out.pulse = none)) :
    yieldForces s = s := by
  unfold yieldForces
  split
  · rfl
  · next yields =>
    obtain ⟨free, still⟩ := rests.resolve_left yields
    exact endForces_same free still

theorem renewHeaterRequest_same (same : s.out.heaterRelay.askClosed = (s.climate.relayAsk || forcedCavity s)) :
    renewHeaterRequest s = s := by
  unfold renewHeaterRequest
  rw [← same]

theorem followWaterConditions_same (empty : conditionHolds .waterEmpty s = anySuspended s)
    (missing : conditionHolds .tankMissing s = (tankInUse s && !tankPresent s)) : followWaterConditions s = s := by
  have first : followCondition .waterEmpty none (anySuspended s) s = s := if_pos empty.symm
  unfold followWaterConditions
  rw [first]
  exact if_pos missing.symm

theorem arbitrate_same
    (rests : serviceHold s = true ∨ ((chan s .ch3).state ≠ .requesting ∧
      (s.water.path ≠ .free ∨ ∀ c ∈ [Chan.ch0, .ch1, .ch2], (chan s c).state ≠ .requesting))) :
    arbitrate s = s := by
  rcases rests with held | ⟨drain, path⟩
  · exact arbitrate_held held
  · have started : drainStarted s = s := if_neg drain
    rw [arbitrate_eq, started]
    split
    · rfl
    · split
      · next free =>
        have quiet := path.resolve_left (not_not_intro free)
        unfold pathTaken
        rw [if_neg (quiet .ch2 (by decide)), if_neg (quiet .ch0 (by decide)), if_neg (quiet .ch1 (by decide))]
      · rfl

theorem quiet_settles (quiet : quiet s = true) : settle s = flushCommit s := by
  simp only [Machine.quiet, Bool.and_eq_true] at quiet
  obtain ⟨⟨⟨⟨⟨⟨⟨⟨⟨faults, topUp⟩, water⟩, need⟩, prepare⟩, forces⟩, heater⟩, empty⟩, missing⟩, path⟩ := quiet
  have calm : checkRunFaults s = s := by
    refine checkRunFaults_calm fun ⟨active, acts⟩ => ?_
    simp only [active, Bool.not_true, Bool.false_or, Bool.and_eq_true, Option.isNone_iff_eq_none, Bool.or_eq_true,
      Bool.not_eq_true'] at faults
    obtain ⟨none, steam⟩ := faults
    rcases acts with fatal | ⟨faulty, had⟩
    · exact fatal none
    · rw [faulty, had] at steam
      exact steam.elim Bool.noConfusion Bool.noConfusion
  have keeps : followTopUp s = s := by
    refine followTopUp_stays fun ⟨⟨own, single⟩, ends⟩ => ?_
    rw [own, single] at topUp
    simp only [Bool.and_self, Bool.not_true, Bool.or_false, Bool.not_eq_true', Bool.or_eq_false_iff,
      decide_eq_false_iff_not, not_not] at topUp
    rcases ends with high | descales
    · rw [topUp.1] at high
      cases high
    · exact descales topUp.2
  have waits : followPrepare s = s := by
    refine followPrepare_waits ?_
    simp only [Bool.or_eq_true, Bool.and_eq_true, decide_eq_true_eq] at prepare
    rcases prepare with (phase | stall) | ⟨filled, held⟩
    · exact .inl fun acts => phase acts.2.1
    · exact .inl fun acts => stall acts.2.2
    · exact .inr ⟨filled, .inr held⟩
  have unforced : yieldForces s = s := by
    refine yieldForces_same ?_
    rwa [Bool.or_eq_true, Bool.and_eq_true (List.isEmpty _), List.isEmpty_iff, Option.isNone_iff_eq_none] at forces
  have granted : arbitrate s = s := by
    refine arbitrate_same ?_
    simpa only [Bool.or_eq_true, Bool.and_eq_true, decide_eq_true_eq, List.all_eq_true] using path
  have settled : settle s = flushCommit (arbitrate (followWaterConditions (renewHeaterRequest (yieldForces
      (followPrepare (followNeed (followWater (followTopUp (checkRunFaults s))))))))) := rfl
  rw [settled, calm, keeps, followWater_same (of_decide_eq_true water), followNeed_same (of_decide_eq_true need), waits,
    unforced, renewHeaterRequest_same (of_decide_eq_true heater),
    followWaterConditions_same (of_decide_eq_true empty) (of_decide_eq_true missing), granted]

end

end Sys2Proof.Machine

open Sys2Proof Sys2Proof.Machine

/-- Settles O16: the end of a step unit by unit; what comes after a unit leaves what it has done. -/
theorem quietStepsOnlyCommit : Obligations.QuietStepsOnlyCommit := by
  intro s t d topUp cancels prepares boils drains checked source dry r
  have calm : ¬checked → checkRunFaults s = s := checkRunFaults_calm
  have condition : waterConditionHolds s = true ↔ dry := waterConditionHolds_dry s
  refine ⟨quiet_settles, fun ⟨held, ends⟩ => ?_, fun acts empty => settle_awaits acts empty, fun acts boils free => ?_,
    settle_waits, fun free keeps => ?_⟩
  · obtain ⟨freed, path⟩ := settle_cancels held ends
    exact ⟨freed, path, fun free x dose => settle_cancelCharges (calm free) held ends dose⟩
  · have fits : drains → drainFits s := fun present =>
      ⟨free, fun tank => Bool.eq_true_of_not_eq_false fun missing => present ⟨tank, missing⟩⟩
    have absent : ¬drains → ¬drainFits s := fun missing fits => missing fun ⟨tank, gone⟩ =>
      Bool.false_ne_true (gone.symm.trans (fits.2 tank))
    obtain ⟨phase, loads, delays⟩ := settle_drains acts boils free
    exact ⟨phase, fun present => loads (fits present), fun missing => delays (absent missing)⟩
  · obtain ⟨run, climate, seq⟩ := settle_followsWater (calm free) keeps
    have holds (wants : dry) : waterConditionHolds s = true := condition.mpr wants
    have ends (wet : ¬dry) : waterConditionHolds s = false := Bool.eq_false_of_not_eq_true (wet ∘ condition.mp)
    have causes := congrArg RunContext.causes run
    refine ⟨by rw [seq, followWater_condition]; exact condition, fun wants was => ?_, fun wet was water => ?_,
      fun stands => ?_⟩
    · obtain ⟨-, added, withheld⟩ := waterAdded_facts s
      obtain ⟨timer, paused⟩ := waterAdded_run s
      rw [run, climate, followWater_adds (holds wants) was]
      exact ⟨added, timer, withheld, paused⟩
    · obtain ⟨-, removed, withheld⟩ := waterRemoved_facts s
      obtain ⟨timer, state⟩ := waterRemoved_run water
      rw [run, climate, followWater_removes (ends wet) was water]
      exact ⟨removed, timer, withheld, state⟩
    · rw [run, climate]
      rcases stands with same | ⟨wet, absent⟩
      · rw [followWater_same (Bool.eq_iff_iff.mpr (condition.trans same))]
        exact ⟨rfl, rfl⟩
      · obtain ⟨q, noted⟩ := followWater_notes (ends wet) absent
        rw [noted]
        exact ⟨rfl, rfl⟩

end
